-- ==== Sys2Proof/Word.lean ====
section
/-! DEFINITION. The register word, and the plainest arithmetic on it. -/

namespace Sys2Proof

/-- A 32-bit register word: software reads and writes it as bits (R7). -/
abbrev Word := BitVec 32

/-- A 64-bit quantity that software reads as two words (R9). -/
abbrev DWord := BitVec 64

end Sys2Proof
end

