-- ==== Sys2Proof/Syntax.lean ====
section
/-! DEFINITION. The commands of spec/opcode_table.json, one constructor per row in the table's order, with the operands each
rule takes from outside the part. The table gives no operands; an operand is a value the row's rule uses and the state does not hold. -/

namespace Sys2Proof

/-- Who sends a register access (R9): PF0, PF1 (its BAR2 pages), the UART console, JTAG, a management core MC0–MC3. -/
inductive Requester where
  | pf0 | pf1 | uart | jtag
  | mc (n : Fin 4)
  deriving DecidableEq, Repr

/-- An instruction loaded on the JTAG port (R388): `debug` takes a management core under core debug, or lets it run. -/
inductive JtagInstr where
  | bypass | idcode | sample | extest
  | debug (mc : Fin 4) (halt : Bool)
  deriving DecidableEq, Repr

/-- A network port NP0–NP63. -/
abbrev Port := Fin 64

/-- A member number 0–127. -/
abbrev Member := Fin 128

/-- What a PCIe configuration request reads or writes, where it matters to the part (R49, R391–R404): the D-state, MSI-X control, the Completion Timeout
Value, the tag enables, LTR Mechanism Enable, the codes of Max Payload Size (up to 512) and Max Read Request Size (up to 4,096), ASPM control, the expansion ROM
enable, Bus Master Enable, and AER status bits to clear. -/
inductive CfgReq where
  | read
  | d3hot (on : Bool)
  | msix (en mask : Bool)
  | cto (v : Fin 16)
  | tags (ext ten : Bool)
  | ltr (en : Bool)
  | sizes (mps : Fin 3) (mrrs : Fin 6)
  | aspm (v : Fin 4)
  | rom (en : Bool)
  | busMaster (on : Bool)
  | aerClear (unc cor : Word)
  deriving DecidableEq, Repr

/-- An end of a mailbox channel: PF0 at BAR0 (or another requester that tries), the management cores, a cluster's microcode (R408). -/
inductive MbxEnd where
  | bar0 (req : Requester)
  | mgmt
  | cluster
  deriving DecidableEq, Repr

/-- A slot of the match memory whose read found an error: table, way, index, and whether it is uncorrectable (R96). -/
structure SlotErr where
  table : Fin 4
  way   : Fin 4
  index : Fin 65536
  ue    : Bool
  deriving DecidableEq, Repr


/-- A RoCEv2 packet as it reaches the RDMA block: the fields of its BTH and extended headers, its payload as a number (octet 0 the least
significant), its ICRC verdict, the ECN it arrived with, its ingress port and the R100 stamp count. `opcode` is the BTH opcode; `va`,
`rkey`, `dmaLen` the RETH; `imm` the immediate; `syndrome`, `msn` the AETH. -/
structure RoPkt where
  qpn      : Nat
  psn      : Nat
  opcode   : Nat
  ackReq   : Bool := false
  pKey     : Nat := 0
  icrcOk   : Bool := true
  ecn      : Nat := 0
  va       : Nat := 0
  rkey     : Nat := 0
  dmaLen   : Nat := 0
  imm      : Nat := 0
  syndrome : Nat := 0
  msn      : Nat := 0
  len      : Nat := 0
  payload  : Nat := 0
  port     : Nat := 0
  stamp    : Nat := 0
  deriving DecidableEq, Repr

namespace Machine

/-- An access-list entry (R376). -/
structure AclEntry where
  vol    : Nat
  digest : Nat
  rd     : Bool
  wr     : Bool
  ports  : Nat
  pf1    : Bool
  deriving DecidableEq, Repr

/-- A sealed copy of the protection setup (R377): generation, class of each port code, access list, steward list, load records, volume bindings, boot policy. -/
structure Setup where
  gen      : Nat := 0
  classes  : List (Nat × Nat) := []
  acl      : List (Nat × AclEntry) := []
  stewards : List Nat := []
  records  : List (Nat × Nat) := []
  binds    : List (Nat × (Nat × Bool)) := []
  minSvn   : Nat := 0
  deriving DecidableEq, Repr

/-- A journal record (R260): its blocks in order, each with its stored sector (empty for ZEROES and DEALLOC), and the blocks not yet destaged or
superseded. -/
structure JRec where
  seq    : Nat
  /-- 1 WRITE, 2 ZEROES, 3 DEALLOC. -/
  typ    : Nat
  stamp  : Nat
  vol    : Nat
  key    : Nat
  slba   : Nat
  nlb    : Nat
  tag    : Nat
  data   : List Nat := []
  /-- Block ranges (first, count) not yet destaged or superseded. -/
  dirty  : List (Nat × Nat)
  /-- Block ranges that the images of snapshots still need from it (R216): TARGET, first block, count. -/
  img    : List (Nat × Nat × Nat) := []
  /-- Time of the append in ns (R263). -/
  born   : Nat := 0
  deriving DecidableEq, Repr

/-- A slab of a volume (R254, R255, R257): its layers, newest first. A layer is the first stripe of a run, and the stripes of the slab it holds, as
offsets, with whether each was written (false: returned to UNINIT). A stripe lies in the first layer that lists it, and is UNINIT where none does. The
newest layer takes the writes; older layers are slabs shared with the TARGETs of snapshots. -/
structure Slab where
  layers  : List (Nat × List (Nat × Bool))
  /-- The volume that allocated it (R314, R316). -/
  owner   : Nat := 0
  /-- It is marked lost under a full bad-range table (R274). -/
  lost    : Bool := false
  deriving DecidableEq, Repr

/-- A volume (R254). -/
structure Vol where
  set      : Nat
  maxSlabs : Nat
  /-- Allocated slabs by number. -/
  slabs    : List (Nat × Slab) := []
  /-- Source volume whose image as of a snapshot it holds (R216); it is read-only. -/
  imageOf  : Option Nat := none
  /-- Stamp count B of that snapshot. -/
  imageB  : Nat := 0
  /-- The snapshot that makes it is not done yet: reads wait. -/
  imageWait : Bool := false
  deriving DecidableEq, Repr

/-- An open intent (R264, R265). -/
structure Intent where
  stripe   : Nat
  seq      : Nat
  mask     : Nat
  jseq     : Nat
  /-- Slots that hold its record. -/
  replicas : List Nat
  /-- Taken over from the partner or replayed, and waiting for resync (R266). -/
  resync   : Bool := false
  deriving DecidableEq, Repr

/-- A protection set (R248–R252). -/
structure PSet where
  layout : Nat
  k      : Nat
  m      : Nat
  n      : Nat
  spare  : Nat
  xts    : Bool
  seed   : Nat
  setId  : Nat
  gen    : Nat
  bands  : Nat
  /-- Member of each slot; a vacant slot is unlisted. -/
  slots  : List (Nat × Nat) := []
  /-- Relocated strips: (band·32 + lost slot) to the slot whose spare strip holds it (R271). -/
  reloc  : List (Nat × Nat) := []
  /-- Stale maps: (band·32 + slot), in order (R271, R276). -/
  stale  : List Nat := []
  /-- Slots being rebuilt into spare: lost, past the hold (R271). -/
  lostSlots : List Nat := []
  /-- Slots being filled (R276, R277), with the next band, and whether every band is reconstructed. -/
  filling : List (Nat × Nat × Bool) := []
  /-- Bands that could find no free spare (R271). -/
  noSpare : List Nat := []
  /-- Next stripe of patrol (R279). -/
  patrol : Nat := 0
  /-- Start of the patrol cycle in ns, and stripes read in it (R279). -/
  patrolAt : Nat := 0
  /-- Stripes patrol has read in this cycle. -/
  patrolled : Nat := 0
  intents : List Intent := []
  iseq   : Nat := 0
  deriving DecidableEq, Repr

/-- A bad-range entry (R274). -/
structure Lost where
  set    : Nat
  stripe : Nat
  mask   : Nat
  first  : Nat
  rows   : Nat
  vol    : Nat
  deriving DecidableEq, Repr

/-- An item of a META or CFG message (R356). A MAP item carries the map entity it replaces. -/
inductive NzlItem where
  | intent (set : Nat) (isOpen : Bool) (stripe seq mask jseq gen : Nat)
  | mapVol (v : Nat) (x : Option Vol)
  | mapSet (v : Nat) (x : Option PSet)
  | mapLost (i : Nat) (x : Option Lost)
  | lockPlace (vol : Nat) (isWrite : Bool) (mask stripe stamp tag : Nat)
  | lockRelease (tag : Nat)
  | keySlot (slot st hwm record : Nat)
  | keyBind (vol slot : Nat) (en : Bool)
  | handshake (img minPartner base jrn map kcv gen : Nat)
  | handshakeResult (r : Nat)
  | reg (off : Nat) (val : Word)
  | setup (x : Setup)
  | commitEnd (gen : Nat)
  | reserved (kind : Nat)
  deriving DecidableEq, Repr

/-- The body of a Narzan message (R350, R356). -/
inductive NzlBody where
  /-- A journal record, or a part of one from a byte offset. -/
  | mirror (r : JRec) (off len : Nat)
  | metaItems (items : List NzlItem)
  | cfg (items : List NzlItem)
  | heartbeat (mode : Nat) (stale inStep resync lossHold : Bool) (img base gen : Nat) (nak : Bool)
  | fence (loss : Nat)
  | report (sent win round : Nat)
  | handback
  | mbox (chan kind : Nat) (words : List Word) (code : Nat)
  | snapArm (epoch b : Nat) (pairs : List (Nat × Nat))
  | swapEnd (epoch jseq : Nat)
  | armed (epoch b : Nat)
  deriving DecidableEq, Repr

/-- A Narzan message with its header fields (R350). -/
structure NzlMsg where
  seq   : Nat := 0
  ack   : Nat := 0
  credit : Nat := 0
  id    : Nat := 0
  frames : Nat := 1
  body  : NzlBody
  /-- Time in ns of its last sending. -/
  sent  : Nat := 0
  /-- Resends of it without progress. -/
  tries : Nat := 0
  deriving DecidableEq, Repr

/-- What a drive's access names in the part's address space (R227, R228): a sector of the buffer of command `cid`, read or written, or a window. -/
inductive DmaAccess where
  | readBuf (cid sector : Nat)
  | writeBuf (cid sector : Nat) (data : Nat)
  | cqRead
  | sqWrite
  | prpWrite
  | outside
  deriving DecidableEq, Repr

/-- Where a drive is attached (R224, R247): a half-port 2·n + half (half A for an unsplit port), or a slot of an expansion port. -/
inductive DrvPlace where
  | half (h : Fin 64)
  | xp (p : Fin 4) (slot : Fin 32)
  deriving DecidableEq, Repr

/-- A member label (R251). -/
structure Label where
  set      : Nat
  slot     : Nat
  setId    : Nat
  gen      : Nat
  member   : Nat
  cfg      : Nat
  slotMask : Nat
  bands    : Nat
  deriving DecidableEq, Repr

/-- What firmware finds when it qualifies a drive (R232–R234): each check, the format (1 for 4,096 + 64, 0 for 4,096 + 0), whether Format NVM succeeds, the
label, the bands its namespace holds, the I/O queues granted and their depth, dual-path, and whether it trained below its port's capability. -/
structure DrvFacts where
  ready    : Bool
  identify : Bool
  format   : Option Bool
  resv     : Bool
  nested   : Bool
  reformat : Bool
  label    : Option Label
  bands    : Nat
  ioq      : Nat
  depth    : Nat
  dual     : Bool
  degraded : Bool
  deriving DecidableEq, Repr

/-- Who sends a cipher request (R311, R312): a command, or a management core with a key slot, direction, mode and length. -/
inductive CipWho where
  | cmd (handle : Nat)
  | core (n : Fin 4) (slot : Fin 4096) (enc xts : Bool) (bytes : Nat)
  deriving DecidableEq, Repr

/-- Where an uncorrectable DRAM error lies (R301, R302): a frame in the switch overflow by output queue and place in it, a journal record, the maps, or a
cached line. -/
inductive DramUe where
  | overflow (queue index : Nat)
  | journal (seq : Nat)
  | maps
  | cache (vol stripe : Nat)
  deriving DecidableEq, Repr

/-- What a staging slot with an uncorrectable error holds (R305): a command's write payload, a sector a command has read, or a retransmission hold found at
the resend of a PSN. -/
inductive StgSlot where
  | write (handle : Nat)
  | read (handle block : Nat)
  | hold (qpn : Fin 16384) (psn : Nat)
  deriving DecidableEq, Repr

/-- A sector that a background job has read from a strip position of the stripe it works on: position, row, and the stored sector, or none where the
drive reports it unreadable. -/
abbrev StripRead := Nat × Nat × Option Nat

/-- Where a register access lands (R24, R394, R395, R398): an offset of BAR0 from a requester, an offset of a function's BAR2, or an offset of PF0's
expansion ROM. -/
inductive RegPlace where
  | bar0 (req : Requester) (off : Nat)
  | bar2 (pf1 : Bool) (off : Nat)
  | rom (off : Nat)
  deriving DecidableEq, Repr

/-- What a register write meets outside the register file: the FCLK count of the write (R58, R215, R216), the errors of the match-memory slots it reads
(R96), the sectors a LOST_CLEAR reads (R274), and whether the nudge FIFO's head is not handled yet (R182). -/
structure WriteAux where
  stamp : Nat := 0
  errs  : List SlotErr := []
  rd    : List StripRead := []
  held  : Bool := false
  deriving DecidableEq, Repr

end Machine

/-- A command: one row of spec/opcode_table.json. -/
inductive Instr where
  /-- A write to a register with no row of its own acts as its access code allows (RW, W1C, W1S, WO) or is discarded (R10). -/
  | registerWrite (place : Machine.RegPlace) (val : Word) (aux : Machine.WriteAux)
  /-- A BAR0 access that is not an aligned 32-bit word, or that falls on an unoccupied offset, is discarded or reads zero and is counted as malformed (R7). -/
  | malformedAccess (place : Machine.RegPlace) (write narrow : Bool)
  /-- A read of the low word of a 64-bit quantity returns it and latches the high word for that requester (R9). -/
  | read64bitLowWord (place : Machine.RegPlace)
  /-- A read of an RC register or FIFO head returns the value and clears it or pops the entry (R12). -/
  | rcRead (place : Machine.RegPlace)
  /-- A direct write to a register holding an RWC field is discarded, counted in RWC_VIOL and latched in PROT_RWC_LAST (R385). -/
  | rwcWriteAttempt (req : Requester) (off : Nat)
  /-- PWRON_N going low, through its glitch filter, starts a PORn reset of the whole part (R462). -/
  | pwronNAssert
  /-- PWRON_N seen high for 32 slow ticks ends the PORn and starts DAWN (R462). -/
  | pwronNRelease (pf1 : Bool) (base : Fin 16)
  /-- VDD_AON, VDD_CORE or VDD_SRAM below its threshold for 5 µs asserts PORn (R466). -/
  | aonSupplyLow
  /-- 32 slow ticks after all monitored supplies are good and PWRON_N is high, the supply monitor releases PORn (R466). -/
  | aonSupplyGood (pf1 : Bool) (base : Fin 16)
  /-- WARM_N sampled low on 2 consecutive slow ticks starts a CHIP reset (R462). -/
  | warmNAssert
  /-- WARM_N sampled high ends the CHIP reset and starts DAWN (R462). -/
  | warmNRelease
  /-- A write to SYS_RST with KEY 0xA5 and CHIP set starts a CHIP reset; without the key it is discarded as malformed (R65). -/
  | sysRstWrite (req : Requester) (val : Word)
  /-- A write to SYS_BLKRST resets the named block to its CHIP state, ending its held work without any completion (R475). -/
  | blockReset (req : Requester) (val : Word)
  /-- The block reset ends within 10 µs, its bit clears, and the post-reset work of that block runs (R475). -/
  | blockResetEnd (block : Fin 14)
  /-- Each slow tick the PDI exchanges a full status frame of commands, thresholds and channel status between the dies (R17). -/
  | pdiStatusFrame (chans : List (Fin 65536 × Fin 65536)) (feeds : List (Fin 65536 × Fin 65536 × Fin 65536))
  /-- With no valid PDI frame for 4 slow ticks the power die holds its outputs, keeps protection and claims 0 (R18). -/
  | pdiLoss
  /-- After 32 slow ticks of valid PDI frames the power die leaves its hold state (R18). -/
  | pdiRecovery
  /-- An engine cluster idle for 50 µs enters clock gating (R19). -/
  | clusterClockGate (cluster : Fin 16)
  /-- An engine cluster idle for 5 ms, and not exempt under MIN_AWAKE, enters power gating with retention (R19). -/
  | clusterPowerGate (cluster : Fin 16)
  /-- A cluster's gating entry completes, and the cluster wakes at once if work was queued during the entry (R20). -/
  | gatingEntryComplete (cluster : Fin 16)
  /-- A cipher pipeline with an empty request queue for 1 µs is clock-gated (R19). -/
  | pipelineClockGate (pipe : Fin 32)
  /-- A register access to a gated domain wakes it and completes after the wake latency, restarting its idle timer (R21). -/
  | gatedDomainAccess (domain : Fin 16 ⊕ Fin 32)
  /-- WAKE_N sampled low on 4 slow ticks, when enabled and recognised, records its source and leaves NIGHT for DAWN (R44). -/
  | wakePin
  /-- A rising edge of PERST_N wakes from NIGHT when enabled, or otherwise restarts only the endpoint link (R44). -/
  | perstRelease (lanes : Fin 17) (rate : Fin 6)
  /-- No non-zero claim from any part for 10 claim rounds is recognised as a wake source (R44). -/
  | claimLossWake
  /-- A write of SYS_MODE_REQ.NIGHT is accepted or refused and, if accepted, starts the NIGHT drain (R45). -/
  | nightRequest (req : Requester)
  /-- A write of NIGHT_CANCEL abandons a pending NIGHT entry, restoring ANA states (R46). -/
  | nightCancel (req : Requester)
  /-- Once the drain steps have finished, the part leaves the pair if in TWILIGHT, CUR becomes 0 and the power gates close (R45). -/
  | nightDrainComplete
  /-- DRAIN_MAX passing abandons the NIGHT entry (R46). -/
  | nightDrainTimeout
  /-- The power gates finish closing, and DAWN starts at once if a wake arrived during closing (R46). -/
  | powerGatesClosed
  /-- The AON alarm countdown ends and the day-profile alarm acts as a wake source (R345). -/
  | alarmCountdownEnd
  /-- The main-die power gates open as the first step of DAWN (R48). -/
  | mainPowerGatesOpen
  /-- The PLLs lock and fuses are loaded, starting discovery of the boot device and the AVS setpoint write (R48). -/
  | pllLock (lanes : Fin 17) (rate : Fin 6) (kek : Option Nat) (prov ikh : Bool)
  /-- The part reads VOUT_MODE and writes the fused VDD_CORE setpoint to the regulator over AVS (R464). -/
  | avsSetpoint (acked : Bool)
  /-- 10 ms after an unacknowledged AVS write the write is repeated, up to twice (R464). -/
  | avsRetry (acked : Bool)
  /-- A boot copy passes every check of R387, control passes to it and the watchdog is armed (R50). -/
  | imageVerified (nor : Nat) (header : List (BitVec 8)) (body : Nat)
  /-- A boot copy fails a check; the other copy is tried, or MIDNIGHT is entered with BOOT_BOTH (R50). -/
  | imageFailed (nor : Nat) (header : List (BitVec 8)) (body : Nat) (readError : Bool)
  /-- SRAM BIST and repair complete, or an unrepairable critical SRAM failure enters MIDNIGHT (R48). -/
  | sramBistComplete (bad : Option (Fin 9))
  /-- All SRAM and the match memory are initialised with good ECC and parity (R48). -/
  | sramInitComplete (katBad : Word)
  /-- DRAM training ends on every populated channel and DMC_INFO and USABLE_GIB are set (R48). -/
  | dramTrainingComplete (densities : List (Fin 64))
  /-- With the image running, BIST passed and SRAM and DRAM ready, MORNING begins (R48). -/
  | dawnComplete
  /-- Firmware reinstates the sealed protection setup, port classes and key slots within 10 ms of MORNING (R378). -/
  | setupReinstate
  /-- A write of SYS_CFG.COMMIT in MORNING starts every block's check of its staged configuration (R52). -/
  | configCommit (req : Requester)
  /-- When every block has finished its check, STATUS reads 3 and claiming begins, or 2 with FAIL_BLK naming the refusing block (R52). -/
  | commitCheckComplete
  /-- An uncorrectable error in a critical SRAM enters MIDNIGHT and records the unit (R53). -/
  | criticalSramUe (unit : Fin 9)
  /-- A write of 0x0000_4B1C to SYS_WDOG_KICK from a management core reloads REMAIN; other writes are malformed (R55). -/
  | wdogKick (req : Requester) (val : Word)
  /-- Stage 1 expiry sets STAGE1 and enters MIDNIGHT from NOON–TWILIGHT or causes a CHIP reset from DAWN or MORNING (R55). -/
  | wdogStage1Expiry
  /-- Stage 2 expiry in MIDNIGHT causes a CHIP reset if STAGE2_EN is 1 (R55). -/
  | wdogStage2Expiry
  /-- A write of SYS_MODE_REQ.SWAP is accepted and starts a planned swap, or is refused with RESULT 2 or 3 (R57). -/
  | swapRequest (req : Requester)
  /-- A write of SYS_UCODE.ACTIVATE opens a new epoch for a microcode bank switch, or is refused with STATUS 3 (R58). -/
  | ucodeActivate (req : Requester) (stamp : Nat)
  /-- An engine whose old-epoch commands have drained switches microcode banks, and STATUS reads 2 when all have switched (R217). -/
  | engineBankSwitch (engine : Fin 256)
  /-- Firmware loads and verifies microcode into an engine's inactive bank and sets INACT_VALID (R217). -/
  | ucodeBankLoad (req : Requester) (version : Fin 65536) (valid : Bool)
  /-- A write to NET_PORT_CFG is stored in MORNING or checked at once in service, restarting the link if accepted (R70). -/
  | portCfgWrite (req : Requester) (port : Port) (val : Word)
  /-- Setting EN starts the port's lane check (R76). -/
  | portEnable (req : Requester) (port : Port)
  /-- Clearing EN declares the link down if it was up and stops the port (R76). -/
  | portDisable (req : Requester) (port : Port)
  /-- RESTART acts as EN cleared then EN set, starting a lane check (R76). -/
  | portRestart (req : Requester) (port : Port)
  /-- The lane health check completes and starts autonegotiation or training, or sets LANE_FAULT (R74). -/
  | laneCheckComplete (port : Port) (codes : List (Fin 6))
  /-- Autonegotiation resolves a common ability, records HCD_SPEED and HCD_FEC, and starts training (R73). -/
  | anResolved (port : Port) (partner : Nat) (rs528 : Bool)
  /-- With no common ability, autonegotiation restarts every 500 ms while AUTO_RETRY is 1 (R73). -/
  | anRetryTimer (port : Port)
  /-- Block lock and FEC alignment on all lanes end training and start UP_HOLD (R76). -/
  | trainingComplete (port : Port)
  /-- The training max_wait_timer passes, and the port retries or stops (R76). -/
  | trainingFail (port : Port)
  /-- A link stable for UP_HOLD sets UP and LINK_CHG and enables the switch port (R76). -/
  | upHoldExpiry (port : Port)
  /-- A link loss in up-hold counts a glitch and returns to lane check, or in up starts DOWN_HOLD (R76). -/
  | linkLost (port : Port)
  /-- A link restored before DOWN_HOLD ends counts LINK_GLITCH and returns to up (R76). -/
  | linkRestored (port : Port)
  /-- DOWN_HOLD ending declares the link down (R76). -/
  | downHoldExpiry (port : Port)
  /-- 1 s in fault hold with AUTO_RETRY 1 starts a new lane check (R76). -/
  | faultHoldExpiry (port : Port)
  /-- A frame received whole on a port in up or down-hold is checked for length, FCS and tags and passed to the parser (R79). -/
  | rxFrame (port : Port) (dt : Nat) (id : Nat) (data : List (BitVec 8)) (fcsOk : Bool) (errs : List SlotErr)
  /-- A received pause or PFC frame is consumed and counted, and stops the affected queues if of the selected kind (R78). -/
  | pauseFrameRx (port : Port) (pfc : Bool) (stop : Fin 256) (go : Fin 256)
  /-- A recirculated frame returns through P86 and is parsed and looked up again with PASS one higher (R98). -/
  | recircPass (dt : Nat) (errs : List SlotErr)
  /-- While usage stays above XON, XOFF is repeated every half of its pause time (R108). -/
  | pfcXoffRepeat (port : Port) (cls : Fin 8)
  /-- Every 1 µs while a queue is empty its average depth is updated (R110). -/
  | wredIdleUpdate (port : Fin 88) (cls : Fin 9)
  /-- Every 6 FCLK cycles the scheduler matches inputs to outputs in two iterations and moves one cell per pair (R113). -/
  | matchSlot
  /-- INSERT places a key by cuckoo displacement, updates an existing entry, or reports the table full (R95). -/
  | tblInsert (req : Requester) (table : Fin 4) (errs : List SlotErr)
  /-- DELETE removes a key from a match table (R95). -/
  | tblDelete (req : Requester) (table : Fin 4) (errs : List SlotErr)
  /-- SEARCH finds a key and returns its entry without changing anything (R95). -/
  | tblSearch (req : Requester) (table : Fin 4) (errs : List SlotErr)
  /-- READ_SLOT returns the raw contents of one position of a table (R95). -/
  | tblReadSlot (req : Requester) (table : Fin 4) (way : Fin 4) (index : Fin 65536) (errs : List SlotErr)
  /-- CLEAR starts removing every entry of a table, which misses all lookups from the start (R95). -/
  | tblClear (req : Requester) (table : Fin 4)
  /-- The table clear completes within 200 µs and BUSY clears (R95). -/
  | tblClearDone
  /-- REBAL, a write to SWC_LAG_CFG with EN 1, or setting EN copies the configured buckets to the live table and reapplies failures (R105). -/
  | lagRebal (lag : Fin 32)
  /-- At each MAC frame boundary the port picks a pause frame, the control queue or the chosen eligible TC queue and starts its frame (R119). -/
  | egressSelect (port : Port) (dt : Nat)
  /-- Every 64 ns the timing wheel advances and releases the limiter entries of the slot (R122). -/
  | wheelSlotAdvance
  /-- A gate-list entry or cycle boundary is reached on the device time and the queue gates change (R128). -/
  | gateEntryChange (port : Port) (dt : Nat)
  /-- A write of CHANGE arms a switch to the other gate bank, or is malformed while PEND is 1 (R128). -/
  | gateBankChange (port : Port) (dt : Nat)
  /-- At the new bank's first cycle start the operating bank switches and GATE_SWITCH counts (R128). -/
  | gateBankSwitch (port : Port) (dt : Nat)
  /-- Every SMP_PERIOD µs each network queue's depth and head sojourn are binned into histograms (R132). -/
  | depthSample (dt : Nat)
  /-- A CLEAR bit of a block's counter-control register clears that block's counters (R85). -/
  | counterClear (req : Requester) (off : Nat) (val : Word)
  /-- A read of the low word of NET_TS pops the timestamp FIFO and latches its high word (R85). -/
  | tsFifoPop (req : Requester) (port : Port)
  /-- A read of NET_TIME_NS latches the seconds registers for that requester (R81). -/
  | timeRead (req : Requester) (dt : Nat)
  /-- A write of NET_TIME_STEP applies a signed offset to the device time, clamped at 0 (R81). -/
  | timeStep (req : Requester) (step : Word) (dt : Nat)
  /-- A write of NET_TIME_ADJ sets a clamped frequency offset of the device time (R81). -/
  | timeAdjust (req : Requester) (freq : Word) (dt : Nat)
  /-- At each whole second of valid device time PPS_OUT rises for OUT_WIDTH ms (R81). -/
  | ppsOutPulse (dt : Nat)
  /-- A PPS_IN edge of the selected polarity captures the device time into NET_PPS_CAP (R81). -/
  | ppsInEdge (falling : Bool) (dt : Nat)
  /-- A RoCEv2 request packet reaches the RDMA transport, is checked and classified by PSN, and is placed, executed, duplicated or discarded (R142). -/
  | rdmaRequestRx (pkt : RoPkt) (dt : Nat)
  /-- The reorder timer expires and sends one PSN Sequence Error NAK (R144). -/
  | reorderTimerExpiry (qp : Fin 16384)
  /-- DELAY_US after the first unacknowledged packet, an ACK is sent (R147). -/
  | ackDelayExpiry (qp : Fin 16384)
  /-- The local ACK timer expires and the part resends from UNA_PSN or moves the QP to ERROR (R150). -/
  | ackTimeout (qp : Fin 16384)
  /-- A received ACK advances UNA_PSN and resets the retry state, or is ignored or discarded (R151). -/
  | ackRx (pkt : RoPkt) (dt : Nat)
  /-- A received NAK causes a resend, an RNR wait or a move to ERROR by its syndrome (R151). -/
  | nakRx (pkt : RoPkt) (dt : Nat)
  /-- The RNR wait ends and the part resends from the NAKed PSN (R151). -/
  | rnrWaitExpiry (qp : Fin 16384)
  /-- A READ response received by the part is placed into staging, completing the READ when all PSNs are present (R154). -/
  | readResponseRx (pkt : RoPkt) (dt : Nat)
  /-- A READ response gap outliving REORDER_US causes a resend of the READ from the first missing PSN (R154). -/
  | readGapTimeout (qp : Fin 16384)
  /-- A received CNP cuts the QP's rate outside the guard time (R157). -/
  | cnpRx (pkt : RoPkt) (dt : Nat)
  /-- Every RECOVER_US with no cut the QP's rate rises by STEP toward its ceiling (R157). -/
  | ccRecoverStep (qp : Fin 16384)
  /-- The head message of a QP starts once nothing holds it back, in queue order (R476). -/
  | requesterMessageStart (qp : Fin 16384) (dt : Nat)
  /-- A MODIFY command moves a QP context between states, loading only the listed fields (R140). -/
  | qpcModify (req : Requester) (target : Fin 8) (index : Fin 16384)
  /-- A READ command returns a QP context into the data registers (R168). -/
  | qpcRead (req : Requester) (index : Fin 16384)
  /-- The ERROR flush of a QP ends within 20 µs, allowing MODIFY to RESET (R141). -/
  | qpFlushComplete (qp : Fin 16384)
  /-- A MAP command loads a window descriptor and makes it ACTIVE (R168). -/
  | winMap (req : Requester) (index : Fin 4096)
  /-- A REVOKE command moves an ACTIVE window to REVOKING (R165). -/
  | winRevoke (req : Requester) (index : Fin 4096)
  /-- A MODIFY command changes POLICY and STALL_LIMIT of an ACTIVE window (R168). -/
  | winModify (req : Requester) (index : Fin 4096)
  /-- A READ command returns a window descriptor into the data registers (R168). -/
  | winRead (req : Requester) (index : Fin 4096)
  /-- When IN_FLIGHT of a REVOKING window reaches 0 it becomes FREE and a notice is posted to MB0 (R165). -/
  | winFree (w : Fin 4096)
  /-- A faulted window READ's stall limit passes and it is dropped or NAKed by policy (R161). -/
  | winStallLimit (handle : Nat)
  /-- A Fabrics Connect creates an association or queue, or is refused with its status (R170). -/
  | connect (qp : Fin 16384)
  /-- A Fabrics Disconnect of the admin queue resets the association (R172). -/
  | disconnect (queue : Fin 17408)
  /-- A Fabrics Property Get returns a controller property (R174). -/
  | propertyGet (queue : Fin 17408)
  /-- A Fabrics Property Set writes a controller property (R174). -/
  | propertySet (queue : Fin 17408)
  /-- A Fabrics Authentication Send completes with Invalid Field in Command (R174). -/
  | authenticationSend (queue : Fin 17408)
  /-- A Fabrics Authentication Receive completes with Invalid Field in Command (R174). -/
  | authenticationReceive (queue : Fin 17408)
  /-- Get Log Page returns an error, health, ANA, discovery, durability or counter log page (R174). -/
  | getLogPage (queue : Fin 17408)
  /-- Identify returns the requested controller or namespace data (R174). -/
  | identify (queue : Fin 17408)
  /-- Abort marks an abortable target for Command Abort Requested or reports it not found (R192). -/
  | abort (queue : Fin 17408)
  /-- Set Features changes async event configuration or queue priority, or reports a feature not changeable (R174). -/
  | setFeatures (queue : Fin 17408)
  /-- Get Features returns the arbitration, power, durability, async event or queue priority setting (R174). -/
  | getFeatures (queue : Fin 17408)
  /-- An Asynchronous Event Request is held until an ANA, doorbell or durability event completes it (R174). -/
  | asyncEventRequest (queue : Fin 17408)
  /-- Keep Alive restarts the association's keep-alive timer (R171). -/
  | keepAlive (queue : Fin 17408)
  /-- The Window Map admin command maps a FREE window and returns its rkey (R174). -/
  | windowMapCmd (queue : Fin 17408) (data : Nat)
  /-- The Window Revoke admin command revokes an ACTIVE window and completes when it is FREE (R174). -/
  | windowRevokeCmd (queue : Fin 17408)
  /-- Ring Attach with OP 0 creates a pull ring from its descriptor (R179). -/
  | ringAttach (queue : Fin 17408) (data : Nat)
  /-- Ring Attach with OP 1 stops fetching, waits for outstanding commands and frees the queue (R179). -/
  | ringDetach (queue : Fin 17408)
  /-- Ring Attach with OP 2 stops fetching, waits, and resets the ring with a new EPOCH (R179). -/
  | ringReepoch (queue : Fin 17408) (data : Nat)
  /-- Commit Stage checks a change record and, if accepted, stages it with its digest and 120 s window (R381). -/
  | commitStage (queue : Fin 17408) (data : Nat)
  /-- Commit Confirm checks the quote from a second steward port and applies the pending change (R382). -/
  | commitConfirm (queue : Fin 17408)
  /-- An unsupported opcode completes with Invalid Command Opcode (R173). -/
  | unsupportedCommand (queue : Fin 17408)
  /-- Flush completes once every earlier write-kind command to its volumes is durable or failed (R188). -/
  | ioFlush (queue : Fin 17408)
  /-- Write is checked, admitted, pulls its data under staging credit, is encrypted, journaled and mirrored (R32). -/
  | ioWrite (queue : Fin 17408) (sgl : List (Nat × Nat))
  /-- Read is checked and admitted, served from journal, cache or members, decrypted and sent (R27). -/
  | ioRead (queue : Fin 17408) (sgl : List (Nat × Nat))
  /-- Compare reads the blocks and compares plaintext, completing with Compare Failure on mismatch (R173). -/
  | ioCompare (queue : Fin 17408) (sgl : List (Nat × Nat))
  /-- Write Zeroes is journaled as a ZEROES record that acts at destage (R256). -/
  | ioWriteZeroes (queue : Fin 17408)
  /-- Dataset Management deallocate is journaled as DEALLOC records that act at destage (R256). -/
  | ioDatasetManagement (queue : Fin 17408) (ranges : List (Nat × Nat))
  /-- The keep-alive timeout passes without a restart and the association is reset (R171). -/
  | keepAliveExpiry (assoc : Fin 1024) (dt : Nat)
  /-- A ring's active or idle interval ends and its doorbell word is read, subject to the aggregate cap (R181). -/
  | doorbellReadDue (queue : Fin 17408) (late : Bool)
  /-- A doorbell word returns and is judged by EPOCH and TAIL, and new entries are fetched (R180). -/
  | doorbellReadReturn (queue : Fin 17408)
  /-- Fetched ring entries arrive, are stamped in order and wait for admission (R186). -/
  | ringEntryReturn (queue : Fin 17408)
  /-- A 4-byte write to the PF1 nudge page pushes a nudge into the FIFO, or is lost on overflow (R182). -/
  | localNudge (word : Word) (held : Bool)
  /-- A cluster arbiter admits the next waiting command by class, weight and turn when a tag and lock room are free (R184). -/
  | arbiterAdmit (cluster : Fin 16)
  /-- A lock entry is granted once earlier overlapping entries are released and horizons allow (R209). -/
  | lockGrant (handle : Nat)
  /-- An item reaching the governor is admitted and charged, or deferred, by class and bucket level (R338). -/
  | govAdmit (handle : Nat)
  /-- A command retires: its range lock is released, the CQE is posted and its tag freed (R183). -/
  | commandRetire (handle : Nat)
  /-- The MAC reports a read's last data frame transmitted, allowing the engine to retire the command (R28). -/
  | lastFrameTransmitted (handle : Nat)
  /-- An engine with a free context takes the head entry of its own deque (R203). -/
  | engineTake (engine : Fin 256)
  /-- A parked context resumes when its wait ends (R200). -/
  | contextResume (handle : Nat)
  /-- An idle engine probes a sibling and takes one tail entry or counts a failed probe (R204). -/
  | stealProbe (engine : Fin 256)
  /-- After LOCAL_NS of failed local probes an idle engine turns to other clusters (R205). -/
  | localProbeTimeout (engine : Fin 256)
  /-- An idle engine probes an engine of another running cluster and may steal one entry (R205). -/
  | remoteStealProbe (engine : Fin 256)
  /-- An engine that has found nothing for SLEEP × 10 ns stops probing (R205). -/
  | probeSleepTimeout (engine : Fin 256)
  /-- A cluster whose deques exceed HELP entries raises help, and every waiting engine resumes probing (R205). -/
  | helpSignal (cluster : Fin 16)
  /-- An uncorrectable error in engine memory restarts the owning command on a sibling and retires the engine (R201). -/
  | engineUeRestart (engine : Fin 256) (handle : Option Nat)
  /-- The next segment of a long command is placed when the segment before it releases its entries (R212). -/
  | segmentPlace (handle : Nat)
  /-- BROADCAST delivers ENG_GLOBAL_ARG to every engine's microcode (R214). -/
  | globalBroadcast (req : Requester)
  /-- BARRIER increments ENG_EPOCH and latches stamp B (R215). -/
  | globalBarrier (req : Requester) (stamp : Nat)
  /-- SNAPSHOT checks the snapshot map and runs a barrier to freeze sources as of B (R216). -/
  | globalSnapshot (req : Requester) (stamp : Nat)
  /-- RESET of ENG clears contexts, deques, locks and retired marks in MORNING or MIDNIGHT (R219). -/
  | globalReset (req : Requester)
  /-- Every engine has acknowledged the barrier and the drain begins (R215). -/
  | barrierArrived
  /-- ENG_DRAIN reaches 0 and the barrier, or snapshot once horizons pass B, is done (R215). -/
  | barrierDrainDone
  /-- Copy-on-write is marked in every source map and an EPOCH SNAPSHOT_ARM is sent to the partner (R216). -/
  | snapshotLocalArm
  /-- An engine writes a drive submission entry and rings the SQ tail doorbell, starting the command timer (R230). -/
  | driveCommandIssue (index : Nat)
  /-- A drive read of an SQ slot returns the posted entry or zeros (R228). -/
  | driveSqRead (member : Member) (queue : Fin 17) (slot : Nat)
  /-- A drive staging or DRAM access is allowed within an outstanding command's buffer or refused as DMA_FAULT (R228). -/
  | driveDmaAccess (member : Member) (access : Machine.DmaAccess)
  /-- A drive CQE written to the CQ window is matched, frees its pool entry and wakes its context, or is discarded late (R231). -/
  | driveCqeWrite (member : Member) (queue : Fin 17) (slot : Nat) (phase : Bool) (cid : Nat) (status : Nat)
  /-- After each 100 ns batch of completions the part writes the drive's CQ head doorbell (R231). -/
  | cqHeadDoorbell (member : Member) (queue : Fin 17)
  /-- 100 ms after power-good the slot reset output is released (R235). -/
  | slotResetRelease (half : Fin 64)
  /-- A drive link trains up, or fails within 1 s with QUAL_ERR 1 (R235). -/
  | driveLinkUp (place : Machine.DrvPlace) (width : Fin 5) (rate : Fin 4)
  /-- CSTS.RDY is reached and firmware qualifies the drive and creates its queues (R235). -/
  | driveReady (place : Machine.DrvPlace)
  /-- Firmware checks a drive, assigns its member number and sets its member state (R232). -/
  | driveQualify (place : Machine.DrvPlace) (facts : Machine.DrvFacts)
  /-- A presence loss or link down of a member triggers containment, ends its commands and makes it MISSING (R236). -/
  | driveRemoval (half : Fin 64) (presence : Bool)
  /-- 100 ms after a link down with presence held, containment is released and the link retrained (R236). -/
  | dpcLinkRetrain (half : Fin 64)
  /-- A hot-plug event of a downstream switch inserts or removes a drive behind an expansion port (R237). -/
  | xpHotplugEvent (xp : Fin 4) (slot : Fin 32) (insert : Bool) (dpc : Bool)
  /-- A link down on an expansion port makes every member behind it MISSING (R237). -/
  | xpLinkDown (xp : Fin 4)
  /-- A Preempt and Abort acquire completes on a dual-path member and its I/O starts (R238). -/
  | reservationAcquireDone (member : Member)
  /-- An acquire not complete 1 ms after takeover starts puts its member in SUSPECT (R238). -/
  | acquireTimeout (member : Member)
  /-- A drive command outstanding for CMD_TO makes the member SUSPECT and sends an Abort (R239). -/
  | driveCmdTimeout (cid : Nat)
  /-- With neither command nor Abort complete within ABORT_WAIT, a controller reset starts (R239). -/
  | abortWaitExpiry (member : Member)
  /-- CSTS.RDY reaches 0 during a controller reset and CC.EN is set again (R239). -/
  | ctrlDisabled (member : Member)
  /-- The drive becomes ready again, queues are recreated and held commands reissued in order (R239). -/
  | ctrlReady (member : Member)
  /-- Ready not reached within min(CAP.TO, RESET_MAX) makes the member FAILED (R239). -/
  | ctrlReadyTimeout (member : Member)
  /-- Every reissued command has completed and the member returns to its previous state (R239). -/
  | ctrlResetComplete (member : Member)
  /-- 10 ms after a Namespace Not Ready or Command Interrupted status the command is reissued once (R241). -/
  | driveReissueTimer (cid : Nat)
  /-- DPT_MEM_CMD FAIL makes a member FAILED, ending its commands (R243). -/
  | memberFailCmd (req : Requester) (member : Member)
  /-- DPT_MEM_CMD RELEASE frees the number of an empty MISSING or FAILED member (R243). -/
  | memberReleaseCmd (req : Requester) (member : Member)
  /-- DPT_MEM_CMD REQUALIFY repeats qualification for an UNQUALIFIED number (R243). -/
  | memberRequalifyCmd (req : Requester) (member : Member)
  /-- With staging credit and journal room reserved, the part issues the RDMA READ for a write's data (R32). -/
  | writeDataReadIssue (handle : Nat)
  /-- Encrypted write data is appended to the journal as a record and updates cached copies (R260). -/
  | journalAppend (handle : Nat)
  /-- Destage of a stripe begins by fill, age or cap, appending an OPEN intent and writing members by the cheaper method (R263). -/
  | destageStart (set : Fin 8) (stripe : Nat) (rd : List Machine.StripRead)
  /-- The last member write of a destage completes and a CLOSE intent is appended (R264). -/
  | destageComplete (set : Fin 8) (stripe : Nat)
  /-- Every 5 µs gathered intent records are written as one block per member (R264). -/
  | intentBlockWrite
  /-- In MORNING without a serving partner the part reads all intent regions and resyncs open stripes (R266). -/
  | intentReplay (found : List (Nat × Nat × Nat × Nat × Nat))
  /-- An open intent's stripe is rewritten, its parity recomputed and a CLOSE appended (R266). -/
  | intentResync (set : Fin 8) (stripe : Nat) (rd : List Machine.StripRead)
  /-- Both feed inputs below PF_TH for PF_DLY raise the warning, ALERT_N, and the serving part's full destage (R431). -/
  | powerFailWarning (va vb : Int)
  /-- A feed at or above PF_TH + 0.3 V for 1 ms clears the warning and normal operation resumes (R431). -/
  | powerFailClear (va vb : Int)
  /-- MISSING_HOLD after a member goes MISSING, rebuild starts and auto-replacement may run (R271). -/
  | missingHoldExpiry (member : Member)
  /-- One stripe is rebuilt, critical first, into its band's spare strip and the relocation recorded (R271). -/
  | rebuildChunk (set : Fin 8) (stripe : Nat) (rd : List Machine.StripRead)
  /-- A member returning to its slot enters REBUILDING and its bands are copied back or reconstructed (R276). -/
  | memberReturn (member : Member) (rd : List Machine.StripRead)
  /-- CREATE makes a protection set from the named members and layout, writing labels (R284). -/
  | setCreate (req : Requester) (set : Fin 8)
  /-- DELETE removes a set with no volume and clears its members' labels (R284). -/
  | setDelete (req : Requester) (set : Fin 8)
  /-- REPLACE puts a spare member into a FAILED, MISSING or vacant slot and fills it (R277). -/
  | setReplace (req : Requester) (set : Fin 8) (slot : Fin 32) (member : Member)
  /-- PATROL_NOW restarts a set's patrol cycle from stripe 0 (R279). -/
  | patrolNow (req : Requester) (set : Fin 8)
  /-- Patrol reads one written stripe and repairs, rewrites or records losses by its findings (R280). -/
  | patrolChunk (set : Fin 8) (stripe : Nat) (rd : List Machine.StripRead)
  /-- A volume CREATE command makes a volume of MAX_SLABS slabs on a set (R254). -/
  | volCreate (req : Requester) (vol : Fin 4096) (set : Fin 8)
  /-- A volume RESIZE command changes its MAX_SLABS (R284). -/
  | volResize (req : Requester) (vol : Fin 4096)
  /-- A volume DELETE command frees the volume and its unshared slabs (R284). -/
  | volDelete (req : Requester) (vol : Fin 4096)
  /-- RED_LOST_CMD READ loads one bad-range entry into the data registers (R284). -/
  | lostRead (req : Requester) (index : Fin 8192)
  /-- RED_LOST_CMD CLEAR writes encrypted zeros into the lost rows, recomputes parity and removes the entry (R274). -/
  | lostClear (req : Requester) (index : Fin 8192) (rd : List Machine.StripRead)
  /-- A read of RED_EVLOG0 pops an event-log entry and latches its other words (R281). -/
  | eventLogPop (req : Requester)
  /-- A write to RED_HOLDUP recomputes the journal dirty cap in RED_JRN_CAP (R261). -/
  | holdupWrite (req : Requester) (val : Word)
  /-- A demand fill's sectors are installed into a chosen way once its drive reads complete (R292). -/
  | fillInstall (vol : Fin 4096) (stripe : Nat)
  /-- A prefetch fetch completes and its line is installed in the side buffer, or dropped if stale (R295). -/
  | prefetchFillComplete (vol : Fin 4096) (stripe : Nat)
  /-- INVALIDATE removes each line of the range from every cache store, breaking or respecting locks (R299). -/
  | mntInvalidate (req : Requester) (respect : Bool) (id : Fin 256)
  /-- CLEAN destages every undestaged journal record of the range and completes when members hold them (R299). -/
  | mntClean (req : Requester) (respect : Bool) (id : Fin 256)
  /-- PREFETCH fetches absent sectors of the range into the main cache (R299). -/
  | mntPrefetch (req : Requester) (respect : Bool) (id : Fin 256)
  /-- LOCK prefetches lines of the range and locks their ways within LOCK_WAYS (R299). -/
  | mntLock (req : Requester) (respect : Bool) (id : Fin 256)
  /-- UNLOCK clears LOCK on each line of the range (R299). -/
  | mntUnlock (req : Requester) (respect : Bool) (id : Fin 256)
  /-- A read of CCH_MNT_DONE0 pops a maintenance completion and latches its counts (R308). -/
  | mntDonePop (req : Requester)
  /-- Writing CCH_CTL.EN 0 empties the cache, eviction buffer and side buffer (R308). -/
  | cacheDisable (req : Requester)
  /-- The scrubber reads a DRAM line, correcting or handling errors, at the pace of DMC_SCRUB.HOURS (R303). -/
  | dramScrubLine (chan : Fin 12) (ce : Fin 1025) (ue : Option Machine.DramUe)
  /-- An uncorrectable DRAM error is recorded and handled by its partition (R302). -/
  | dramUe (chan : Fin 12) (ue : Machine.DramUe)
  /-- An uncorrectable staging error is handled by what the slot holds (R305). -/
  | stagingUe (slot : Machine.StgSlot)
  /-- A cipher request is checked, reserves counters if GCM, and queued to the least-loaded live pipeline (R311). -/
  | cipherRequest (who : Machine.CipWho)
  /-- A decrypted sector's tag verifies and it is released from the pipeline output buffer (R320). -/
  | sectorVerified (pipe : Fin 32)
  /-- A sector failing verification is discarded and handled by its source (R321). -/
  | authFailure (pipe : Fin 32) (partner : Option Nat)
  /-- Writing CIP_CTL.KAT starts the known-answer test on each pipeline in turn (R313). -/
  | katRun (req : Requester)
  /-- A pipeline's known-answer test completes, retiring the pipeline if it fails (R313). -/
  | katComplete (pipe : Fin 32) (pass : Bool)
  /-- A management write to CIP_HWM_ACK raises the slot's HWM by one block and clears REQ (R317). -/
  | hwmAck (req : Requester) (slot : Fin 4096)
  /-- When the last queued request naming the slot ends, the slot is overwritten and becomes EMPTY (R325). -/
  | zeroizeComplete (slot : Fin 4096)
  /-- GO in CIP_KS_RDCMD loads a slot's counter, high-water mark and salt in one step (R329). -/
  | keySlotRead (req : Requester) (slot : Fin 4096)
  /-- Each slow tick the governor refills the buckets, samples sensors, recomputes the day profile and runs the admission pass (R330). -/
  | govSlowTick (dt : Nat) (ts : List Int) (feed : Option Nat)
  /-- At each budget interval end the governor recomputes TMAX, LIMIT and emergency, applies feed trim, judges clamp and counts watchdog and timeouts (R330). -/
  | govIntervalEnd
  /-- A host command deferred for GOV_DEFER_MAX intervals ends with 0xC4 (R339). -/
  | deferExpiry (handle : Nat)
  /-- A member idle for DRV_IDLE is ordered into its low power state (R342). -/
  | driveIdleLow (member : Member)
  /-- A Narzan group's four lanes finish training and the group comes up with full credit (R349). -/
  | nzlGroupTrained (group : Fin 4) (codes : List (Fin 6))
  /-- 1 s after a failed attempt or group down, a new training attempt starts (R349). -/
  | nzlGroupRetry (group : Fin 4) (codes : List (Fin 6))
  /-- A bad or out-of-sequence Narzan message is discarded and a NAK heartbeat sent (R352). -/
  | nzlBadFrame (group : Fin 4) (frames : Nat)
  /-- A MIRROR message is applied to the partner's DRAM journal and acknowledged (R353). -/
  | mirrorRx (group : Fin 4) (m : Machine.NzlMsg)
  /-- A META message's intent, map, lock and key items are applied in order (R356). -/
  | metaRx (group : Fin 4) (m : Machine.NzlMsg)
  /-- A CFG message's handshake, register and setup items are applied in order (R356). -/
  | cfgRx (group : Fin 4) (m : Machine.NzlMsg)
  /-- A HEARTBEAT updates acknowledgements, credit and peer state, and a NAK flag causes a resend (R355). -/
  | heartbeatRx (group : Fin 4) (m : Machine.NzlMsg)
  /-- A CLAIM_INFO FENCE makes a standby STALE or forces a serving part into TWILIGHT (R358). -/
  | fenceRx (group : Fin 4) (m : Machine.NzlMsg)
  /-- A CLAIM_INFO REPORT is compared with local sampling, setting CLAIM_FAULT on disagreement (R363). -/
  | claimReportRx (group : Fin 4) (m : Machine.NzlMsg)
  /-- A CLAIM_INFO HANDBACK request is carried out as a swap or refused (R369). -/
  | handbackRx (group : Fin 4) (m : Machine.NzlMsg)
  /-- An MBOX message delivers, frees or acknowledges a message of MB4–MB7 (R356). -/
  | mboxRx (group : Fin 4) (m : Machine.NzlMsg)
  /-- An EPOCH SNAPSHOT_ARM arms the partner's mirrored maps and is answered with ARMED (R356). -/
  | snapshotArmRx (group : Fin 4) (m : Machine.NzlMsg)
  /-- An EPOCH SWAP_END names the last journal SEQ the standby must apply before it takes over (R368). -/
  | swapEndRx (group : Fin 4) (m : Machine.NzlMsg)
  /-- An EPOCH ARMED reply sets ARMED and releases held writes to snapshot sources (R216). -/
  | snapshotArmedRx (group : Fin 4) (m : Machine.NzlMsg)
  /-- An unacknowledged message REPLAY µs old is resent, and eight stalled resends take the group down (R352). -/
  | nzlReplayTimeout (group : Fin 4)
  /-- Each live group sends a HEARTBEAT at least every 10 µs (R355). -/
  | heartbeatSend (group : Fin 4)
  /-- No valid frame for 80 µs declares the partner lost with LOSS 1, sends a fence and starts a round (R357). -/
  | partnerSilenceTimeout
  /-- A mirrored message unacknowledged for ACK_STALL declares the partner lost with LOSS 2 (R357). -/
  | ackStallTimeout
  /-- Writing NZL_CTL.FENCE declares the partner lost with LOSS 5 and fences it (R357). -/
  | fenceWrite (req : Requester)
  /-- A standby that declared loss and won no round within 200 µs becomes STALE (R359). -/
  | staleTimeout
  /-- After 300 µs of winning every round a serving part clears PARTNER and completes waiting writes (R360). -/
  | lossHoldExpiry
  /-- A claim round starts every 100 µs or on a claim change or loss declaration (R362). -/
  | claimRoundStart
  /-- A claim round ends, the winning value is latched, shared stages change state and a report is sent (R362). -/
  | claimRoundEnd (win : Fin 65536) (slots : Word) (feeds : Fin 4)
  /-- Once acquires finish, mirrored locks are released and ANA Optimized admission opens (R365). -/
  | takeoverAdmissionOpen
  /-- The CFG handshake compares sizes, KEK, bases and images and records NZL_STAT.HS (R366). -/
  | partnerHandshake
  /-- No partner answering within HS_WAIT ends the handshake with no partner (R366). -/
  | handshakeTimeout
  /-- The resynchronisation stream ends, the standby clears STALE and the server sets PARTNER (R367). -/
  | resyncComplete
  /-- 1 ms after a swap starts, remaining commands end with Asymmetric Access Transition and SWAP_END is sent (R368). -/
  | swapDrainTimeout
  /-- The preferred part, in step for HOLDOFF seconds, sends a hand-back request (R369). -/
  | handbackHoldoff
  /-- After SWAP_DAYS at hour SWAP_HOUR the serving part requests a swap, retrying hourly (R370). -/
  | scheduledSwap
  /-- PROT_CMT_CMD STAGE checks the record in PROT_CMT_BUF and stages it (R381). -/
  | cmtStage (req : Requester)
  /-- PROT_CMT_CMD CONFIRM checks the quote and applies the pending change (R382). -/
  | cmtConfirm (req : Requester)
  /-- PROT_CMT_CMD CANCEL from the stager's port discards the pending change (R382). -/
  | cmtCancel (req : Requester)
  /-- The 120 s window ends without a confirm and the change lapses (R384). -/
  | commitWindowLapse
  /-- GO in PROT_ACL_RD loads one access-list entry into PROT_ACL_DATA0–5 (R390). -/
  | aclRead (req : Requester) (index : Fin 16384)
  /-- The JTAG open hours pass and JTAG returns to class NONE (R388). -/
  | jtagClose
  /-- An FLR of PF1 resets the local association, detaches rings and clears its endpoint state (R405). -/
  | flrPf1
  /-- An FLR of PF0 empties MB0–MB3, clears HEP_DIAG.EN and PF0's MSI-X state (R405). -/
  | flrPf0
  /-- Clearing PF1 Bus Master Enable stops requests and records affected commands on a report list (R404). -/
  | bmeClear
  /-- Setting Bus Master Enable posts Command Abort Requested CQEs for listed commands and resumes fetching (R404). -/
  | bmeSet
  /-- PERST_N asserted past DAWN takes the endpoint link down and handles each function as under FLR (R406). -/
  | perstAssert
  /-- The transmitter enters L0s after L0S_IDLE with nothing to send (R399). -/
  | l0sEntry
  /-- The link enters L1 after L1_IDLE with no traffic and no outstanding request (R399). -/
  | l1Entry
  /-- A completion for a PF1 read is used, or fails the read, or is discarded as late (R402). -/
  | pcieCompletionRx (tag : Fin 1024) (status : Fin 4) (bytes data stamp : Nat)
  /-- A PF1 read's completion timeout passes, the request fails by kind and its tag is quarantined (R402). -/
  | completionTimeout (tag : Fin 1024) (dt : Nat)
  /-- A quarantined tag returns to the pool after twice the timeout (R403). -/
  | tagQuarantineEnd (tag : Fin 1024) (dt : Nat)
  /-- Setting ADM_CTL.EN creates the local association and attaches QID 0, or sets ERR (R397). -/
  | localAdminEnable (val : Word)
  /-- Clearing ADM_CTL.EN resets the local association (R397). -/
  | localAdminDisable (val : Word)
  /-- A read of the diagnostic DRAM aperture returns stored bytes, or poisons on an uncorrectable error (R396). -/
  | diagApertureRead (off : Fin 134217728) (data : Word) (ue : Bool)
  /-- A write to MBX_TX pushes one word of a mailbox message, or is discarded with OVR or FAR_DOWN (R409). -/
  | mbxTx (who : MbxEnd) (chan : Fin 24) (word : Word)
  /-- A write to MBX_TX_EOM pushes the last word and closes the message for delivery (R409). -/
  | mbxTxEom (who : MbxEnd) (chan : Fin 24) (word : Word)
  /-- A read of MBX_RX pops a word of the closed inbound message, freeing it in EMPTY_IRQ mode (R409). -/
  | mbxRx (who : MbxEnd) (chan : Fin 24)
  /-- A write to MBX_ACK frees the inbound message in ACK_REG mode and returns its code (R410). -/
  | mbxAck (who : MbxEnd) (chan : Fin 24) (code : Fin 65536)
  /-- A mailbox's far end going down discards or keeps waiting messages by COMPAT (R411). -/
  | mbxFarEndDown (dir : Fin 48)
  /-- A far end coming up delivers messages held in compatible mode (R411). -/
  | mbxFarEndUp (dir : Fin 48)
  /-- A slot presence change stable for 50 ms is recognised as an insertion or removal (R427). -/
  | presenceDebounced (pos : Fin 64) (present : Bool)
  /-- A slot channel whose power condition holds checks its sense pins and ramps its gate (R420). -/
  | slotRampStart (ch : Fin 32) (openPin : Bool)
  /-- Output and VGS above threshold set PG, and the slot moves to ON (R422). -/
  | slotPowerGood (ch : Fin 32) (vout vgs : Nat)
  /-- Two samples below PG_LO clear PG, counted with the gate left on (R422). -/
  | slotPgLoss (ch : Fin 32) (v1 v2 : Nat)
  /-- VGS below VGS_ON at TR + 2 ms while not limiting makes the channel DAMAGED (R420). -/
  | gateNoRise (ch : Fin 32) (vgs : Nat)
  /-- Sense voltage reaching ILIM regulates the gate and starts the fault timer (R421). -/
  | currentLimit (ch : Fin 32) (uv : Nat)
  /-- The fault timer expires, the gate turns off with CAUSE 1 and the channel retries or latches (R421). -/
  | faultTimerExpiry (ch : Fin 32)
  /-- Sense voltage reaching FT_MULT × ILIM discharges the gate within 1 µs, judged as CAUSE 2 (R421). -/
  | fastTrip (ch : Fin 32) (uv : Nat)
  /-- Reverse current turns the gate off and is treated as a bus sag or a fault (R423). -/
  | slotReverseCurrent (ch : Fin 32) (since : Nat)
  /-- 1 ms after a sag reverse event the channel re-enters RAMP without using an attempt (R423). -/
  | sagReramp (ch : Fin 32) (openPin : Bool)
  /-- 1 s in RETRY_WAIT ends and an attempt starts if the power condition holds (R424). -/
  | retryWaitExpiry (ch : Fin 32) (openPin : Bool)
  /-- PG held for 1 s clears the channel's ATTEMPTS (R424). -/
  | attemptsClear (ch : Fin 32)
  /-- CLEAR returns a LATCHED or DAMAGED channel to OFF (R425). -/
  | slotClear (req : Requester) (ch : Fin 32)
  /-- A write of MODE starts or ends the channel's power condition (R419). -/
  | slotModeWrite (req : Requester) (ch : Fin 32) (mode : Fin 4)
  /-- V_IN below −0.5 V turns both feed gates off and holds them in REVERSED (R429). -/
  | feedReversed (feed : Fin 2) (vin : Int)
  /-- V_IN at or above 0 V for 32 slow ticks returns the feed to OFF (R429). -/
  | feedPolarityRestored (feed : Fin 2)
  /-- An enabled in-range feed in DRIVE turns its pre-charge gate on (R429). -/
  | feedPrechargeStart (feed : Fin 2) (vin : Int)
  /-- The bus reaching V_IN − 0.5 V closes the main gate and the feed is ON (R429). -/
  | feedPrechargeDone (feed : Fin 2) (vin vbus : Int)
  /-- PCG_TO passing in PRECHARGE enters FAULT_WAIT (R429). -/
  | feedPrechargeTimeout (feed : Fin 2)
  /-- Bus above input by the reverse threshold turns the feed gate off into BLOCKING (R429). -/
  | feedReverse (feed : Fin 2) (vin vbus : Int)
  /-- Input above bus by 50 mV for 2 slow ticks turns the feed gate on again (R429). -/
  | feedUnblock (feed : Fin 2) (vin vbus : Int)
  /-- V_IN above OV_TH turns the feed off into FAULT_WAIT (R429). -/
  | feedOvervoltage (feed : Fin 2) (vin : Int)
  /-- V_IN below UV_TH turns the feed off (R429). -/
  | feedUndervoltage (feed : Fin 2) (vin : Int)
  /-- 1 s in FAULT_WAIT returns the feed to OFF (R429). -/
  | feedFaultWaitExpiry (feed : Fin 2)
  /-- Writing feed EN 0 turns its gates off (R429). -/
  | feedDisable (req : Requester) (feed : Fin 2)
  /-- A floating sense wire is found, its OPEN bit set and the feed handled by wire (R430). -/
  | senseWireOpen (feed : Fin 2) (wire : Fin 4)
  /-- VHV_PD below the lockout pulls every gate off and releases SGPIO, fans and claim lines (R466). -/
  | vhvUvlo
  /-- Each SGPIO frame sends activity, locate and fail bits and samples presence inputs (R433). -/
  | sgpioFrame (inputs : Nat)
  /-- A line held low over 35 ms ends the transaction with recovery, disabling the master after three (R434). -/
  | smbusStuck (bus : Fin 4) (fresh : Bool)
  /-- SNAP copies one group's counters into its shadow in one cycle (R443). -/
  | groupSnap (req : Requester) (group : Fin 129) (val : Word)
  /-- SNAP_ALL copies every group's counters into their shadows in one cycle (R443). -/
  | snapAll (req : Requester) (val : Word)
  /-- CLEAR of a group clears its CYC and PC0–PC7 (R452). -/
  | groupClear (req : Requester) (group : Fin 129) (val : Word)
  /-- A write of MON_PC_SEL sets a counter's event code and clears it (R443). -/
  | pcSelect (req : Requester) (group : Fin 129) (k : Fin 8) (val : Word)
  /-- At each WIN_US window end all port byte counts are latched and MON_BW_SEQ increments (R444). -/
  | bwWindowEnd (dt : Nat)
  /-- A write to MON_BW_CFG restarts the bandwidth window (R444). -/
  | bwCfgWrite (req : Requester) (val : Word)
  /-- At each MON_HEALTH_WIN window end the health slots' counts return to 0 (R448). -/
  | healthWindowEnd
  /-- After 1,024 stable crystal cycles the AON island moves from the RC oscillator to the crystal (R467). -/
  | xtalSwitch
  /-- A crystal missing 4 RC periods returns the AON island to the RC oscillator at once (R467). -/
  | xtalFail
  /-- A PCIe configuration request to the endpoint is answered with Configuration Request Retry Status before MORNING, or applied after MORNING, changing D-state, Completion Timeout Value, tag enables or LTR enable (R49). -/
  | configurationRequest (pf1 : Bool) (what : CfgReq)
  /-- The pause time carried by a received pause or PFC frame runs out and the stopped queues become eligible again (R78). -/
  | pauseTimeExpiry (port : Port) (classes : Fin 256)
  /-- IDLE_MS ms pass without a new entry or nudge, the ring becomes idle and is read every IDLE_US, and the LTR message may change to IDLE (R181). -/
  | ringIdleTimeout (queue : Fin 17408)
  /-- A live Narzan group loses block lock or FEC alignment on a lane, goes down, and starts its 1 s retry (R349). -/
  | nzlGroupLinkLoss (group : Fin 4)
  /-- A Narzan group's training attempt fails within the 100GBASE-KR1 limits, and its retry is scheduled 1 s later (R349). -/
  | nzlTrainingFail (group : Fin 4)
  /-- A member reports CSTS.CFS = 1 and the part enters step 2 of the ladder, a controller reset, at once (R239). -/
  | controllerFatalStatus (member : Member)
  /-- VHV_PD rises above the 9.0 V lockout threshold and the power die resumes driving its stages (R466). -/
  | vhvUvloRecovery
  /-- An instruction loaded on the JTAG port is answered as BYPASS, IDCODE, SAMPLE/PRELOAD, EXTEST only in MIDNIGHT, or with core debug while STEWARD (R388). -/
  | jtagInstruction (instr : JtagInstr)
  deriving DecidableEq, Repr

end Sys2Proof
end

