-- ==== Sys2Proof/WellFormed.lean ====
section
/-! DEFINITION. Which commands are well-formed: the bounds on operands that their types do not say. A meaning is total on ill-formed ones too; nothing on the
part's pins sends one. -/

namespace Sys2Proof

/-- A number fits in `n` bits. -/
def fits (n v : Nat) : Bool := decide (v < 2 ^ n)

/-- An aligned word offset of BAR0's 64 MiB (R7, R24). -/
def wordAt (off : Nat) : Bool := off % 4 == 0 && decide (off < 0x4000000)

/-- An aligned word of BAR0, of BAR2's 256 MiB, or of the expansion ROM's 1 MiB (R394, R395). -/
def Machine.RegPlace.wf : Machine.RegPlace → Bool
  | .bar0 _ off => wordAt off
  | .bar2 _ off => off % 4 == 0 && decide (off < 0x10000000)
  | .rom off => off % 4 == 0 && decide (off < 0x100000)

/-- Lane codes of one port or group: at most four lanes (R67, R74). -/
def codesOk (codes : List (Fin 6)) : Bool := decide (codes.length ≤ 4)

/-- A frame has at least one octet. -/
def dataOk (data : List (BitVec 8)) : Bool := !data.isEmpty

/-- The fields of a RoCEv2 packet are within their widths. -/
def RoPkt.wf (p : RoPkt) : Bool :=
  fits 24 p.qpn && fits 24 p.psn && fits 8 p.opcode && fits 16 p.pKey && fits 2 p.ecn && fits 64 p.va && fits 32 p.rkey && fits 32 p.dmaLen && fits 32 p.imm
    && fits 8 p.syndrome && fits 24 p.msn && fits (8 * p.len) p.payload && decide (p.port ≤ 87)

/-- Sectors read from a stripe: positions 0–31, rows 0–15 (R249, R256). -/
def readsOk (rd : List Machine.StripRead) : Bool := rd.all (fun e => decide (e.1 < 32) && decide (e.2.1 < 16))

/-- A voltage in mV that the measurement registers can hold. -/
def milliOk (v : Int) : Bool := decide (-65536 < v) && decide (v < 65536)

/-- A command's operands are within their bounds. -/
def Instr.wf : Instr → Bool
  | .registerWrite place _ _ => place.wf
  | .malformedAccess _ _ _ => true
  | .read64bitLowWord place => place.wf
  | .rcRead place => place.wf
  | .rwcWriteAttempt _ off => wordAt off
  | .pwronNAssert => true
  | .pwronNRelease _ _ => true
  | .aonSupplyLow => true
  | .aonSupplyGood _ _ => true
  | .warmNAssert => true
  | .warmNRelease => true
  | .sysRstWrite _ _ => true
  | .blockReset _ _ => true
  | .blockResetEnd _ => true
  | .pdiStatusFrame chans feeds => chans.length == 32 && feeds.length == 2
  | .pdiLoss => true
  | .pdiRecovery => true
  | .clusterClockGate _ => true
  | .clusterPowerGate _ => true
  | .gatingEntryComplete _ => true
  | .pipelineClockGate _ => true
  | .gatedDomainAccess _ => true
  | .wakePin => true
  | .perstRelease _ _ => true
  | .claimLossWake => true
  | .nightRequest _ => true
  | .nightCancel _ => true
  | .nightDrainComplete => true
  | .nightDrainTimeout => true
  | .powerGatesClosed => true
  | .alarmCountdownEnd => true
  | .mainPowerGatesOpen => true
  | .pllLock _ _ kek _ _ => (match kek with | some k => fits 16 k | none => true)
  | .avsSetpoint _ => true
  | .avsRetry _ => true
  | .imageVerified _ header body => decide (header.length ≤ 1024) && fits 384 body
  | .imageFailed _ header body _ => decide (header.length ≤ 1024) && fits 384 body
  | .sramBistComplete _ => true
  | .sramInitComplete _ => true
  | .dramTrainingComplete densities => densities.length == 12
  | .dawnComplete => true
  | .setupReinstate => true
  | .configCommit _ => true
  | .commitCheckComplete => true
  | .criticalSramUe _ => true
  | .wdogKick _ _ => true
  | .wdogStage1Expiry => true
  | .wdogStage2Expiry => true
  | .swapRequest _ => true
  | .ucodeActivate _ stamp => fits 40 stamp
  | .engineBankSwitch _ => true
  | .ucodeBankLoad _ _ _ => true
  | .portCfgWrite _ _ _ => true
  | .portEnable _ _ => true
  | .portDisable _ _ => true
  | .portRestart _ _ => true
  | .laneCheckComplete _ codes => codesOk codes
  | .anResolved _ partner _ => fits 5 partner
  | .anRetryTimer _ => true
  | .trainingComplete _ => true
  | .trainingFail _ => true
  | .upHoldExpiry _ => true
  | .linkLost _ => true
  | .linkRestored _ => true
  | .downHoldExpiry _ => true
  | .faultHoldExpiry _ => true
  | .rxFrame _ _ _ data _ _ => dataOk data
  | .pauseFrameRx _ _ _ _ => true
  | .recircPass _ _ => true
  | .pfcXoffRepeat _ _ => true
  | .wredIdleUpdate _ _ => true
  | .matchSlot => true
  | .tblInsert _ _ _ => true
  | .tblDelete _ _ _ => true
  | .tblSearch _ _ _ => true
  | .tblReadSlot _ _ _ _ _ => true
  | .tblClear _ _ => true
  | .tblClearDone => true
  | .lagRebal _ => true
  | .egressSelect _ _ => true
  | .wheelSlotAdvance => true
  | .gateEntryChange _ _ => true
  | .gateBankChange _ _ => true
  | .gateBankSwitch _ _ => true
  | .depthSample _ => true
  | .counterClear _ off _ => wordAt off
  | .tsFifoPop _ _ => true
  | .timeRead _ _ => true
  | .timeStep _ _ _ => true
  | .timeAdjust _ _ _ => true
  | .ppsOutPulse _ => true
  | .ppsInEdge _ _ => true
  | .rdmaRequestRx pkt _ => pkt.wf
  | .reorderTimerExpiry _ => true
  | .ackDelayExpiry _ => true
  | .ackTimeout _ => true
  | .ackRx pkt _ => pkt.wf
  | .nakRx pkt _ => pkt.wf
  | .rnrWaitExpiry _ => true
  | .readResponseRx pkt _ => pkt.wf
  | .readGapTimeout _ => true
  | .cnpRx pkt _ => pkt.wf
  | .ccRecoverStep _ => true
  | .requesterMessageStart _ _ => true
  | .qpcModify _ _ _ => true
  | .qpcRead _ _ => true
  | .qpFlushComplete _ => true
  | .winMap _ _ => true
  | .winRevoke _ _ => true
  | .winModify _ _ => true
  | .winRead _ _ => true
  | .winFree _ => true
  | .winStallLimit _ => true
  | .connect _ => true
  | .disconnect _ => true
  | .propertyGet _ => true
  | .propertySet _ => true
  | .authenticationSend _ => true
  | .authenticationReceive _ => true
  | .getLogPage _ => true
  | .identify _ => true
  | .abort _ => true
  | .setFeatures _ => true
  | .getFeatures _ => true
  | .asyncEventRequest _ => true
  | .keepAlive _ => true
  | .windowMapCmd _ data => fits 512 data
  | .windowRevokeCmd _ => true
  | .ringAttach _ data => fits 512 data
  | .ringDetach _ => true
  | .ringReepoch _ data => fits 512 data
  | .commitStage _ data => fits 32256 data
  | .commitConfirm _ => true
  | .unsupportedCommand _ => true
  | .ioFlush _ => true
  | .ioWrite _ sgl => sgl.all (fun e => fits 64 e.1 && fits 32 e.2)
  | .ioRead _ sgl => sgl.all (fun e => fits 64 e.1 && fits 32 e.2)
  | .ioCompare _ sgl => sgl.all (fun e => fits 64 e.1 && fits 32 e.2)
  | .ioWriteZeroes _ => true
  | .ioDatasetManagement _ ranges => decide (ranges.length ≤ 256) && ranges.all (fun e => fits 64 e.1 && fits 32 e.2)
  | .keepAliveExpiry _ _ => true
  | .doorbellReadDue _ _ => true
  | .doorbellReadReturn _ => true
  | .ringEntryReturn _ => true
  | .localNudge _ _ => true
  | .arbiterAdmit _ => true
  | .lockGrant _ => true
  | .govAdmit _ => true
  | .commandRetire _ => true
  | .lastFrameTransmitted _ => true
  | .engineTake _ => true
  | .contextResume _ => true
  | .stealProbe _ => true
  | .localProbeTimeout _ => true
  | .remoteStealProbe _ => true
  | .probeSleepTimeout _ => true
  | .helpSignal _ => true
  | .engineUeRestart _ _ => true
  | .segmentPlace _ => true
  | .globalBroadcast _ => true
  | .globalBarrier _ stamp => fits 40 stamp
  | .globalSnapshot _ stamp => fits 40 stamp
  | .globalReset _ => true
  | .barrierArrived => true
  | .barrierDrainDone => true
  | .snapshotLocalArm => true
  | .driveCommandIssue _ => true
  | .driveSqRead _ _ _ => true
  | .driveDmaAccess _ _ => true
  | .driveCqeWrite _ _ _ _ cid status => fits 16 cid && fits 15 status
  | .cqHeadDoorbell _ _ => true
  | .slotResetRelease _ => true
  | .driveLinkUp _ _ _ => true
  | .driveReady _ => true
  | .driveQualify _ _ => true
  | .driveRemoval _ _ => true
  | .dpcLinkRetrain _ => true
  | .xpHotplugEvent _ _ _ _ => true
  | .xpLinkDown _ => true
  | .reservationAcquireDone _ => true
  | .acquireTimeout _ => true
  | .driveCmdTimeout _ => true
  | .abortWaitExpiry _ => true
  | .ctrlDisabled _ => true
  | .ctrlReady _ => true
  | .ctrlReadyTimeout _ => true
  | .ctrlResetComplete _ => true
  | .driveReissueTimer _ => true
  | .memberFailCmd _ _ => true
  | .memberReleaseCmd _ _ => true
  | .memberRequalifyCmd _ _ => true
  | .writeDataReadIssue _ => true
  | .journalAppend _ => true
  | .destageStart _ _ rd => readsOk rd
  | .destageComplete _ _ => true
  | .intentBlockWrite => true
  | .intentReplay _ => true
  | .intentResync _ _ rd => readsOk rd
  | .powerFailWarning va vb => milliOk va && milliOk vb
  | .powerFailClear va vb => milliOk va && milliOk vb
  | .missingHoldExpiry _ => true
  | .rebuildChunk _ _ rd => readsOk rd
  | .memberReturn _ rd => readsOk rd
  | .setCreate _ _ => true
  | .setDelete _ _ => true
  | .setReplace _ _ _ _ => true
  | .patrolNow _ _ => true
  | .patrolChunk _ _ rd => readsOk rd
  | .volCreate _ _ _ => true
  | .volResize _ _ => true
  | .volDelete _ _ => true
  | .lostRead _ _ => true
  | .lostClear _ _ rd => readsOk rd
  | .eventLogPop _ => true
  | .holdupWrite _ _ => true
  | .fillInstall _ _ => true
  | .prefetchFillComplete _ _ => true
  | .mntInvalidate _ _ _ => true
  | .mntClean _ _ _ => true
  | .mntPrefetch _ _ _ => true
  | .mntLock _ _ _ => true
  | .mntUnlock _ _ _ => true
  | .mntDonePop _ => true
  | .cacheDisable _ => true
  | .dramScrubLine _ _ _ => true
  | .dramUe _ _ => true
  | .stagingUe _ => true
  | .cipherRequest _ => true
  | .sectorVerified _ => true
  | .authFailure _ _ => true
  | .katRun _ => true
  | .katComplete _ _ => true
  | .hwmAck _ _ => true
  | .zeroizeComplete _ => true
  | .keySlotRead _ _ => true
  | .govSlowTick _ ts _ => ts.length == 25
  | .govIntervalEnd => true
  | .deferExpiry _ => true
  | .driveIdleLow _ => true
  | .nzlGroupTrained _ codes => codesOk codes
  | .nzlGroupRetry _ codes => codesOk codes
  | .nzlBadFrame _ _ => true
  | .mirrorRx _ _ => true
  | .metaRx _ _ => true
  | .cfgRx _ _ => true
  | .heartbeatRx _ _ => true
  | .fenceRx _ _ => true
  | .claimReportRx _ _ => true
  | .handbackRx _ _ => true
  | .mboxRx _ _ => true
  | .snapshotArmRx _ _ => true
  | .swapEndRx _ _ => true
  | .snapshotArmedRx _ _ => true
  | .nzlReplayTimeout _ => true
  | .heartbeatSend _ => true
  | .partnerSilenceTimeout => true
  | .ackStallTimeout => true
  | .fenceWrite _ => true
  | .staleTimeout => true
  | .lossHoldExpiry => true
  | .claimRoundStart => true
  | .claimRoundEnd _ _ _ => true
  | .takeoverAdmissionOpen => true
  | .partnerHandshake => true
  | .handshakeTimeout => true
  | .resyncComplete => true
  | .swapDrainTimeout => true
  | .handbackHoldoff => true
  | .scheduledSwap => true
  | .cmtStage _ => true
  | .cmtConfirm _ => true
  | .cmtCancel _ => true
  | .commitWindowLapse => true
  | .aclRead _ _ => true
  | .jtagClose => true
  | .flrPf1 => true
  | .flrPf0 => true
  | .bmeClear => true
  | .bmeSet => true
  | .perstAssert => true
  | .l0sEntry => true
  | .l1Entry => true
  | .pcieCompletionRx _ _ bytes data _ => decide (bytes ≤ 4096) && fits (8 * bytes) data
  | .completionTimeout _ _ => true
  | .tagQuarantineEnd _ _ => true
  | .localAdminEnable _ => true
  | .localAdminDisable _ => true
  | .diagApertureRead off _ _ => off.val % 4 == 0
  | .mbxTx _ _ _ => true
  | .mbxTxEom _ _ _ => true
  | .mbxRx _ _ => true
  | .mbxAck _ _ _ => true
  | .mbxFarEndDown _ => true
  | .mbxFarEndUp _ => true
  | .presenceDebounced _ _ => true
  | .slotRampStart _ _ => true
  | .slotPowerGood _ vout vgs => fits 16 vout && fits 16 vgs
  | .slotPgLoss _ v1 v2 => fits 16 v1 && fits 16 v2
  | .gateNoRise _ vgs => fits 16 vgs
  | .currentLimit _ _ => true
  | .faultTimerExpiry _ => true
  | .fastTrip _ _ => true
  | .slotReverseCurrent _ _ => true
  | .sagReramp _ _ => true
  | .retryWaitExpiry _ _ => true
  | .attemptsClear _ => true
  | .slotClear _ _ => true
  | .slotModeWrite _ _ _ => true
  | .feedReversed _ vin => milliOk vin
  | .feedPolarityRestored _ => true
  | .feedPrechargeStart _ vin => milliOk vin
  | .feedPrechargeDone _ vin vbus => milliOk vin && milliOk vbus
  | .feedPrechargeTimeout _ => true
  | .feedReverse _ vin vbus => milliOk vin && milliOk vbus
  | .feedUnblock _ vin vbus => milliOk vin && milliOk vbus
  | .feedOvervoltage _ vin => milliOk vin
  | .feedUndervoltage _ vin => milliOk vin
  | .feedFaultWaitExpiry _ => true
  | .feedDisable _ _ => true
  | .senseWireOpen _ _ => true
  | .vhvUvlo => true
  | .sgpioFrame inputs => fits 64 inputs
  | .smbusStuck _ _ => true
  | .groupSnap _ _ _ => true
  | .snapAll _ _ => true
  | .groupClear _ _ _ => true
  | .pcSelect _ _ _ _ => true
  | .bwWindowEnd _ => true
  | .bwCfgWrite _ _ => true
  | .healthWindowEnd => true
  | .xtalSwitch => true
  | .xtalFail => true
  | .configurationRequest _ _ => true
  | .pauseTimeExpiry _ _ => true
  | .ringIdleTimeout _ => true
  | .nzlGroupLinkLoss _ => true
  | .nzlTrainingFail _ => true
  | .controllerFatalStatus _ => true
  | .vhvUvloRecovery => true
  | .jtagInstruction _ => true

end Sys2Proof
end

