-- ==== Sys2Proof/Config.lean ====
section
/-! DEFINITION. The free values: constants without a body, for what the spec leaves open or takes from a standard it
names without spelling out. Nothing can be proved of a value of theirs. -/

namespace Sys2Proof.Config

/-- A free number for each use of the counter State.free: every outcome the spec leaves open. -/
opaque freeNat : Nat → Nat

/-- A free yes or no for each use of the counter State.free. -/
opaque freeBool : Nat → Bool

/-- SHA-384 (FIPS 180-4) of the octets of a number of the given length: the spec names the standard and does not spell it out. -/
opaque sha384 : Nat → Nat → Nat

/-- ECDSA P-384 verification (FIPS 186-5): public key, message digest, signature. -/
opaque ecdsaOk : Nat → Nat → Nat → Bool

/-- AES-256-GCM keystream (NIST SP 800-38D): key, 96-bit nonce, length in octets. -/
opaque gcmStream : Nat → Nat → Nat → Nat

/-- AES-256-GCM tag: key, nonce, associated data, ciphertext. -/
opaque gcmTag : Nat → Nat → Nat → Nat → Nat

/-- XTS-AES-256 encryption (IEEE 1619): key, data unit number, data. -/
opaque xtsEnc : Nat → Nat → Nat → Nat

/-- XTS-AES-256 decryption. -/
opaque xtsDec : Nat → Nat → Nat → Nat

/-- AES-256 of one block (FIPS 197): key, block. -/
opaque aes256 : Nat → Nat → Nat

/-- AES key unwrap (RFC 3394): KEK, length of the wrapped key in octets, wrapped key; none where the integrity check fails. -/
opaque keyUnwrap : Nat → Nat → Nat → Option Nat

/-- The fused SHA-384 of the vendor public key (R387). -/
opaque vendorHash : Nat

/-- The fused SHA-384 of the integrator public key, where one is fused (R387). -/
opaque integHash : Nat

/-- The fused VDD_CORE setpoint, in steps of 5 mV above 0.65 V (R464). -/
opaque avsSteps : Nat

/-- The frequency of ECLK in Hz: the spec says at most 2.0 GHz and no more (R19). -/
opaque eclkHz : Nat

end Sys2Proof.Config
end

