-- ==== Sys2Proof/Machine/RegTable.lean ====
section
/-! DEFINITION. The register file's layout, from the offset tables and field tables of spec/: one descriptor per
register (or array of registers) and one per group of counters, block by block (R59, R83, R115, R117, R133, R166, R195,
R221, R244, R282, R307, R309, R328, R346, R371, R389, R397, R413, R415, R437, R451). -/

namespace Sys2Proof.Machine

/-- One register, or an array of registers at fixed strides. The masks say which bits have each access code of R11;
`impl` is every bit of a named field (the rest are reserved and read 0, R11), `held` the bits a CHIP reset holds, `por` the value after
PORn, `kind` a PORn value that depends on the index (`RegDesc.porAt`), `guard` which indices of an array exist (`RegDesc.exists`). -/
structure RegDesc where
  base  : Nat
  dims  : List (Nat × Nat) := []
  por   : Nat := 0
  kind  : Nat := 0
  guard : Nat := 0
  impl  : Nat := 0
  rw    : Nat := 0
  w1c   : Nat := 0
  w1s   : Nat := 0
  wo    : Nat := 0
  rc    : Nat := 0
  rwc   : Nat := 0
  held  : Nat := 0
  deriving DecidableEq, Repr

/-- Registers of the SYS block, part 0. -/
def regsSys0 : List RegDesc := [
  { base := 0x0, por := 0x48E96310, impl := 0xFFFFFFFF },
  { base := 0x4, por := 1, impl := 0xF77F },
  { base := 0x8, impl := 0x707, w1s := 7 },
  { base := 0xC, impl := 0xFF1F, w1c := 0x1F, held := 0xFF1F },
  { base := 0x10, por := 0xB, impl := 0xF, rw := 0xF, held := 0xF },
  { base := 0x14, por := 1, impl := 0x1F, w1c := 0x1F, held := 0x1F },
  { base := 0x18, por := 0x2800, impl := 0xFFFF, rw := 0xFFFF, held := 0xFFFF },
  { base := 0x1C, impl := 0xFF31, w1s := 1 },
  { base := 0x20, impl := 0x7F, rw := 1, held := 0x79 },
  { base := 0x24, impl := 0xFFFF000F, w1s := 1 },
  { base := 0x28, impl := 0xFF01, w1s := 1, wo := 0xFF00 },
  { base := 0x2C, impl := 0x1F, w1c := 0x1F, held := 0x1F } ]

/-- Registers of the SYS block, part 1. -/
def regsSys1 : List RegDesc := [
  { base := 0x30, impl := 0x3FFF, w1s := 0x3FFF },
  { base := 0x34, por := 0x10080, impl := 0x103FF, rw := 0x103FF, held := 0x103FF },
  { base := 0x38, impl := 0xFFFFFFFF, wo := 0xFFFFFFFF },
  { base := 0x3C, impl := 0x3FF0001, w1c := 1, held := 1 } ]

/-- Every register of the SYS block. -/
def regsSys : List RegDesc := regsSys0 ++ regsSys1

/-- Registers of the GOV block, part 0. -/
def regsGov0 : List RegDesc := [
  { base := 0x10000, por := 0x321E0194, impl := 0xFFFF07FF, rw := 0xFFFF07FF },
  { base := 0x10004, por := 0x43C4678, impl := 0xFFFFFFF, rw := 0xFFFFFFF },
  { base := 0x10008, por := 0x27669, impl := 0xFFFFF, rw := 0xFFFFF },
  { base := 0x1000C, impl := 0xFFFFFFFF, rw := 0xFFFFFFFF },
  { base := 0x10010, por := 0x200064, impl := 0xFF03FF, rw := 0xFF03FF },
  { base := 0x10014, impl := 0x7FFFF },
  { base := 0x10018, por := 0x1E0, impl := 0x7FF03FF },
  { base := 0x1001C, impl := 0xFFFFFFFF },
  { base := 0x10020, impl := 0xFFFFFFFF },
  { base := 0x10024, impl := 0xFFFF },
  { base := 0x10028, por := 0x64649E, impl := 0x7F7FFF, rw := 0x7FFF },
  { base := 0x1002C, por := 0x80000, impl := 0x1FFFFFF, rw := 0x1FFFFFF, held := 0x1FFFFFF } ]

/-- Registers of the GOV block, part 1. -/
def regsGov1 : List RegDesc := [
  { base := 0x10030, impl := 0x7F },
  { base := 0x10034, impl := 1, w1s := 1 },
  { base := 0x10040, dims := [(4, 12)], impl := 0xFFFFFFFF, rw := 0xFFFFFFFF, held := 0xFFFFFFFF },
  { base := 0x10080, dims := [(4, 12)], kind := 3, impl := 0xFFFFFFFF, rw := 0xFFFFFFFF },
  { base := 0x10100, dims := [(4, 25)], kind := 4, impl := 0x1FFF, rw := 0x1000 },
  { base := 0x10200, dims := [(4, 128)], impl := 0x3FFFFFFF, rw := 0x1FFFFFFF },
  { base := 0x10400, dims := [(4, 26)], impl := 0xFFFFFFFF } ]

/-- Every register of the GOV block. -/
def regsGov : List RegDesc := regsGov0 ++ regsGov1

/-- Registers of the MBX block, part 0. -/
def regsMbx0 : List RegDesc := [
  { base := 0x20000, impl := 0xFFFFFF, rw := 0xFFFFFF },
  { base := 0x20004, impl := 0xFFFFFF, rw := 0xFFFFFF },
  { base := 0x20008, impl := 0x1FFF },
  { base := 0x2000C, impl := 1, w1s := 1 },
  { base := 0x20100, dims := [(32, 4)], impl := 0xFFFFFFFF, wo := 0xFFFFFFFF },
  { base := 0x20104, dims := [(32, 4)], impl := 0xFFFFFFFF, wo := 0xFFFFFFFF },
  { base := 0x20108, dims := [(32, 4)], impl := 0xFFFFFFFF, rc := 0xFFFFFFFF },
  { base := 0x2010C, dims := [(32, 4)], impl := 0xFFFF, wo := 0xFFFF },
  { base := 0x20110, dims := [(32, 24)], por := 0x400, impl := 0xFFFF1FFF, w1c := 0x1800 },
  { base := 0x20114, dims := [(32, 24)], por := 0x70000, impl := 0x70007, rw := 0x70000, w1c := 7 },
  { base := 0x20400, dims := [(4, 10)], impl := 0xFFFFFFFF } ]

/-- Every register of the MBX block. -/
def regsMbx : List RegDesc := regsMbx0

/-- Registers of the PROT block, part 0. -/
def regsProt0 : List RegDesc := [
  { base := 0x30000, impl := 0xFF07, held := 3 },
  { base := 0x30004, impl := 0xFFFFFFFF },
  { base := 0x30008, kind := 5, impl := 0xFFFF, rwc := 0xFFFF },
  { base := 0x3000C, impl := 0xFFFF, rwc := 0xFFFF },
  { base := 0x30010, impl := 0xFFFF00FF },
  { base := 0x30014, impl := 0x80000003, rw := 3, w1s := 0x80000000 },
  { base := 0x30018, impl := 0x1FFFFFF },
  { base := 0x3001C, impl := 0xFFFFFFFF },
  { base := 0x30020, impl := 0xFFFFFFFF, wo := 0xFFFFFFFF },
  { base := 0x30024, impl := 0xFFFFFFFF, rc := 0xFFFFFFFF },
  { base := 0x30028, impl := 0x80003FFF, rw := 0x3FFF, w1s := 0x80000000 },
  { base := 0x3002C, impl := 0xFFFF } ]

/-- Registers of the PROT block, part 1. -/
def regsProt1 : List RegDesc := [
  { base := 0x30030, dims := [(4, 2)], impl := 0xFFFFFFFF },
  { base := 0x30038, dims := [(4, 2)], impl := 0xFFFFFFFF },
  { base := 0x30040 },
  { base := 0x30044, impl := 1, w1s := 1 },
  { base := 0x31000, dims := [(4, 1024)], impl := 0xFFFFFFFF, rw := 0xFFFFFFFF },
  { base := 0x30100, dims := [(4, 16)], impl := 0xFFFFFFFF } ]

/-- Every register of the PROT block. -/
def regsProt : List RegDesc := regsProt0 ++ regsProt1

/-- Registers of the HEP block, part 0. -/
def regsHep0 : List RegDesc := [
  { base := 0x40000, por := 0xC4010, impl := 0xFFFFF, rw := 0xFFFFF },
  { base := 0x40004, por := 0xC64081E, impl := 0x1FFF1FFF, rw := 0x1FFF1FFF },
  { base := 0x40008, impl := 0xFFFFF, held := 0x40000 },
  { base := 0x4000C, por := 0x20, impl := 0x3FFFFFF },
  { base := 0x40010, impl := 0x1FFF, rw := 0x1FFF },
  { base := 0x40014, impl := 1, w1s := 1 },
  { base := 0x40100, dims := [(4, 20)], impl := 0xFFFFFFFF } ]

/-- Every register of the HEP block. -/
def regsHep : List RegDesc := regsHep0

/-- Registers of the NET block, part 0. -/
def regsNet0 : List RegDesc := [
  { base := 0x100000, dims := [(4096, 64)], por := 0x24000084, impl := 0x3FFF0FFF, rw := 0x3FFF07FF, w1s := 0x800 },
  { base := 0x100004, dims := [(4096, 64)], impl := 0x7FFF, w1c := 0x4000 },
  { base := 0x100008, dims := [(4096, 64)], por := 0x6666, impl := 0xFFFF },
  { base := 0x10000C, dims := [(4096, 64)], por := 0x3F, impl := 0x3003F, rw := 0x3003F },
  { base := 0x100010, dims := [(4096, 64)], por := 0x10A01, impl := 0x1FFFF, rw := 0x1FFFF },
  { base := 0x100014, dims := [(4096, 64)], impl := 0xFF03, rw := 0xFF03 },
  { base := 0x100018, dims := [(4096, 64)], por := 1, impl := 0x3FFFF, rw := 0x3FFFF },
  { base := 0x10001C, dims := [(4096, 64)], por := 0xFAC688, impl := 0xFFFFFF, rw := 0xFFFFFF },
  { base := 0x100020, dims := [(4096, 64)], impl := 3, rwc := 3 },
  { base := 0x100024, dims := [(4096, 64)], por := 0x1C, impl := 0x1F, rw := 0x1F },
  { base := 0x100028, dims := [(4096, 64)], impl := 0xFFFFFFFF },
  { base := 0x10002C, dims := [(4096, 64)], impl := 0xFFFFFFFF } ]

/-- Registers of the NET block, part 1. -/
def regsNet1 : List RegDesc := [
  { base := 0x100030, dims := [(4096, 64)], impl := 1, w1s := 1 },
  { base := 0x100800, impl := 0x3FFFFFFF },
  { base := 0x100804, impl := 0xFFFFFFFF },
  { base := 0x100808, impl := 0xFFFF },
  { base := 0x10080C, impl := 0xFFFFFFFF, rw := 0xFFFFFFFF },
  { base := 0x100810, impl := 0xFFFFFFFF, wo := 0xFFFFFFFF },
  { base := 0x100814, por := 0x6400, impl := 0xFF0F, rw := 0xFF0F },
  { base := 0x100818, impl := 0xBFFFFFFF, rc := 0x80000000 },
  { base := 0x100100, dims := [(4096, 64), (4, 32)], impl := 0xFFFFFFFF } ]

/-- Every register of the NET block. -/
def regsNet : List RegDesc := regsNet0 ++ regsNet1

/-- Registers of the CLS block, part 0. -/
def regsCls0 : List RegDesc := [
  { base := 0x200000, por := 0xB, impl := 0xF, rw := 0xF },
  { base := 0x200004, impl := 0xFFFFFFF, rw := 0xFFFFFFF },
  { base := 0x200008, por := 4, impl := 0x3F, rw := 0x3F },
  { base := 0x200040, dims := [(16, 4)], impl := 3, rw := 3 },
  { base := 0x200044, dims := [(16, 4)], impl := 0xFFFFFFFF, rw := 0xFFFFFFFF },
  { base := 0x200048, dims := [(16, 4)], impl := 0xFFFFFFFF, rw := 0xFFFFFFFF },
  { base := 0x20004C, dims := [(16, 4)], impl := 0x7F007F, rw := 0x7F007F },
  { base := 0x200100, impl := 0x80FFFF7F, rw := 0xFFFF7F, w1s := 0x80000000 },
  { base := 0x200104, impl := 0x3FFFFFFF },
  { base := 0x200110, dims := [(4, 12)], impl := 0xFFFFFFFF, rw := 0xFFFFFFFF },
  { base := 0x200200, por := 0x3E8, impl := 0xFFFF, rw := 0xFFFF },
  { base := 0x200204, por := 0x1000, impl := 0xFFFF, rw := 0xFFFF } ]

/-- Registers of the CLS block, part 1. -/
def regsCls1 : List RegDesc := [
  { base := 0x200208, por := 0x1000, impl := 0xFFFF },
  { base := 0x200210, impl := 3, w1s := 3 },
  { base := 0x210000, dims := [(16, 4096), (4, 4)], impl := 0xFFFFFFFF },
  { base := 0x240000, dims := [(4, 16384)], impl := 0xFFFFFF, rw := 0xFFFFFF },
  { base := 0x200300, dims := [(4, 34)], impl := 0xFFFFFFFF } ]

/-- Every register of the CLS block. -/
def regsCls : List RegDesc := regsCls0 ++ regsCls1

/-- Registers of the SWC block, part 0. -/
def regsSwc0 : List RegDesc := [
  { base := 0x300000, por := 0x30000, impl := 0x3FFFF },
  { base := 0x300004, impl := 0x3FFFF },
  { base := 0x300008, impl := 0xFFFFFFFF, rw := 0xFFFFFFFF },
  { base := 0x300010, impl := 1, w1s := 1 },
  { base := 0x310000, dims := [(32, 1408)], por := 0x2500010, guard := 1, impl := 0xFFFFFFFF, rw := 0xFFFFFFFF },
  { base := 0x310004, dims := [(32, 1408)], por := 0x8000, guard := 1, impl := 0x3FFFFFFF, rw := 0x3FFFFFFF },
  { base := 0x310008, dims := [(32, 1408)], por := 0xFFFFFF, guard := 1, impl := 0xFFFFFFFF, rw := 0xFFFFFFFF },
  { base := 0x31000C, dims := [(32, 1408)], por := 0xFFFFFF, guard := 1, impl := 0xFFFFFFFF, rw := 0xFFFFFFFF },
  { base := 0x310010, dims := [(32, 1408)], por := 0xFFFFFF, guard := 1, impl := 0xFFFFFFFF, rw := 0xFFFFFFFF },
  { base := 0x310014, dims := [(32, 1408)], guard := 1, impl := 0x3FFFFFF },
  { base := 0x310018, dims := [(32, 1408)], guard := 1, impl := 0x3FFFF },
  { base := 0x31001C, dims := [(32, 1408)], guard := 1, impl := 0x3FFFFFF } ]

/-- Registers of the SWC block, part 1. -/
def regsSwc1 : List RegDesc := [
  { base := 0x320000, dims := [(32, 64), (4, 8)], por := 0x18002000, impl := 0xFFFFFFFF, rw := 0xFFFFFFFF },
  { base := 0x330000, dims := [(1024, 32)], impl := 0xFF03, rw := 1, w1s := 2 },
  { base := 0x330100, dims := [(1024, 32), (4, 64)], impl := 0xFFFFFFFF, rw := 0xFFFFFFFF },
  { base := 0x330200, dims := [(1024, 32), (4, 64)], impl := 0xFFFFFFFF },
  { base := 0x338000, dims := [(4, 64)], kind := 1, impl := 0xFFFFFFFF, rw := 0xFFFFFFFF },
  { base := 0x338100, dims := [(4, 64)], kind := 1, impl := 0xFFFFFFFF, rw := 0xFFFFFFFF },
  { base := 0x300100, dims := [(4, 6)], impl := 0xFFFFFFFF },
  { base := 0x340000, dims := [(64, 1408), (4, 12)], guard := 1, impl := 0xFFFFFFFF } ]

/-- Every register of the SWC block. -/
def regsSwc : List RegDesc := regsSwc0 ++ regsSwc1

/-- Registers of the EGS block, part 0. -/
def regsEgs0 : List RegDesc := [
  { base := 0x400000, por := 0x14, impl := 0x7FFFF, rw := 0x7FFFF },
  { base := 0x400004, por := 0x2000, impl := 0x3FFFFFF },
  { base := 0x400008, impl := 3, w1s := 3 },
  { base := 0x410000, dims := [(16, 1024)], por := 0x100, kind := 2, guard := 3, impl := 0xFF07, rw := 0xFF07 },
  { base := 0x410004, dims := [(16, 1024)], guard := 3, impl := 0xFFFFF, rw := 0xFFFFF },
  { base := 0x410008, dims := [(16, 1024)], por := 0x100, guard := 3, impl := 0xFFFF, rw := 0xFFFF },
  { base := 0x41000C, dims := [(16, 1024)], guard := 2, impl := 0xFFFFFF0F },
  { base := 0x420000, dims := [(64, 64)], impl := 0xFFFF0F, rw := 0xFFFF01, w1s := 2 },
  { base := 0x420004, dims := [(64, 64)], por := 0x1E848, impl := 0x7FFFFFF, rw := 0x7FFFFFF },
  { base := 0x420008, dims := [(64, 64)], por := 0x1E848, impl := 0x7FFFFFF, rw := 0x7FFFFFF },
  { base := 0x42000C, dims := [(64, 64)], impl := 0x3FFFFFFF, rw := 0x3FFFFFFF },
  { base := 0x420010, dims := [(64, 64)], impl := 0xFFFFFFFF, rw := 0xFFFFFFFF } ]

/-- Registers of the EGS block, part 1. -/
def regsEgs1 : List RegDesc := [
  { base := 0x420014, dims := [(64, 64)], por := 0x1FF00, impl := 0x3FFFF },
  { base := 0x430000, dims := [(4, 16384)], impl := 0xFFFFF, rw := 0xFFFFF },
  { base := 0x440000, dims := [(2048, 64), (4, 512)], impl := 0xFFFFFFFF, rw := 0xFFFFFFFF },
  { base := 0x460000, dims := [(128, 1024), (4, 32)], guard := 2, impl := 0xFFFFFFFF },
  { base := 0x400100, dims := [(4, 8)], impl := 0xFFFFFFFF } ]

/-- Every register of the EGS block. -/
def regsEgs : List RegDesc := regsEgs0 ++ regsEgs1

/-- Registers of the RDM block, part 0. -/
def regsRdm0 : List RegDesc := [
  { base := 0x500000, por := 0x320403, impl := 0x3FFFFFF, rw := 0x3FFFFFF },
  { base := 0x500004, por := 0x410, impl := 0xFF3F, rw := 0xFF3F },
  { base := 0x500008, por := 0x20, impl := 0x3FF, rw := 0x3FF },
  { base := 0x50000C, por := 0x800, impl := 0xFFF },
  { base := 0x500010, por := 0xDC3280, impl := 0xFFFFFFF, rw := 0xFFFFFFF },
  { base := 0x500014, por := 0x6403E8, impl := 0xFFFFFFFF, rw := 0xFFFFFFFF },
  { base := 0x500018, impl := 0xCFFFFFFF, rc := 0xCFFFFFFF },
  { base := 0x50001C, impl := 1, w1s := 1 },
  { base := 0x500100, impl := 0x803FFF1F, rw := 0x3FFF1F, w1s := 0x80000000 },
  { base := 0x500104, impl := 0xF },
  { base := 0x500110, dims := [(4, 16)], impl := 0xFFFFFFFF, rw := 0xFFFFFFFF },
  { base := 0x500200, impl := 0x800FFF07, rw := 0xFFF07, w1s := 0x80000000 } ]

/-- Registers of the RDM block, part 1. -/
def regsRdm1 : List RegDesc := [
  { base := 0x500204, impl := 7 },
  { base := 0x500210, dims := [(4, 16)], impl := 0xFFFFFFFF, rw := 0xFFFFFFFF },
  { base := 0x501000, dims := [(32, 64), (4, 4)], impl := 0xFFFFFFFF, rw := 0xFFFFFFFF },
  { base := 0x501010, dims := [(32, 64)], impl := 0xFFFFFFFF, rw := 0xFFFFFFFF },
  { base := 0x501014, dims := [(32, 64)], impl := 0x3FFFF, rw := 0x3FFFF },
  { base := 0x500300, dims := [(4, 52)], impl := 0xFFFFFFFF } ]

/-- Every register of the RDM block. -/
def regsRdm : List RegDesc := regsRdm0 ++ regsRdm1

/-- Registers of the CMDQ block, part 0. -/
def regsCmdq0 : List RegDesc := [
  { base := 0x600000, por := 3, impl := 3, rw := 3 },
  { base := 0x600004, por := 0x286401, impl := 0xFFFFFFF, rw := 0xFFFFFFF },
  { base := 0x600008, por := 0x40, impl := 0xFF, rw := 0xFF },
  { base := 0x60000C, por := 0x7030003, impl := 0xFFFFFF07, rw := 0xFFFFFF07 },
  { base := 0x600010, por := 0x800, impl := 0xF1FFF, held := 0x1000 },
  { base := 0x600014, por := 0x4000, impl := 0x7FFF },
  { base := 0x600018, por := 0x10000, impl := 0x1FFFF },
  { base := 0x60001C, impl := 0x3FF, w1c := 0x200 },
  { base := 0x600020, impl := 1, w1s := 1 },
  { base := 0x600100, impl := 0x80007FFF, rw := 0x7FFF, w1s := 0x80000000 },
  { base := 0x600104, impl := 3 },
  { base := 0x600110, impl := 0xFFFFFF } ]

/-- Registers of the CMDQ block, part 1. -/
def regsCmdq1 : List RegDesc := [
  { base := 0x600114, impl := 0x3FFFFFFF },
  { base := 0x600118, impl := 0xFFFF07FF },
  { base := 0x60011C, impl := 0xFFFFFF },
  { base := 0x600120, impl := 0xFFF07FF },
  { base := 0x600124, impl := 0xFFFFFFFF },
  { base := 0x600128, dims := [(4, 2)], impl := 0xFFFFFFFF },
  { base := 0x600130, dims := [(4, 2)], impl := 0xFFFFFFFF },
  { base := 0x600138, dims := [(4, 2)], impl := 0xFFFFFFFF },
  { base := 0x600140, dims := [(4, 4)] },
  { base := 0x610000, dims := [(4, 1024)], impl := 0xFFFF07F7 },
  { base := 0x600300, dims := [(4, 38)], impl := 0xFFFFFFFF } ]

/-- Every register of the CMDQ block. -/
def regsCmdq : List RegDesc := regsCmdq0 ++ regsCmdq1

/-- Registers of the ENG block, part 0. -/
def regsEng0 : List RegDesc := [
  { base := 0x700000, por := 0x80C8403, impl := 0xFFFFFFF, rw := 0xFFFFFFF },
  { base := 0x700004, por := 0x1000100, impl := 0x3FF01FF, rw := 0x3FF01FF },
  { base := 0x700008, impl := 0x80000007, rw := 7, w1s := 0x80000000 },
  { base := 0x70000C, impl := 0xFFFFFFFF, rw := 0xFFFFFFFF },
  { base := 0x700010, impl := 0x7F },
  { base := 0x700014, impl := 0xFFFFFFFF },
  { base := 0x700018, dims := [(4, 2)], impl := 0xFFFFFFFF },
  { base := 0x700020, impl := 0x1FFFF },
  { base := 0x700024, impl := 0xFFFF0003 },
  { base := 0x700028, impl := 1, w1s := 1 },
  { base := 0x700100, dims := [(4, 16)], impl := 0x7FF07 },
  { base := 0x700140, dims := [(4, 16)], por := 0x1000, impl := 0x1FFF } ]

/-- Registers of the ENG block, part 1. -/
def regsEng1 : List RegDesc := [
  { base := 0x700180, dims := [(4, 16)], impl := 0xFFFF },
  { base := 0x700200, dims := [(4, 64)], kind := 1, impl := 0xFFFFFFFF, rw := 0xFFFFFFFF },
  { base := 0x710000, dims := [(4, 4096)], impl := 0x1FFF, rw := 0x1FFF },
  { base := 0x700300, dims := [(4, 24)], impl := 0xFFFFFFFF } ]

/-- Every register of the ENG block. -/
def regsEng : List RegDesc := regsEng0 ++ regsEng1

/-- Registers of the DPT block, part 0. -/
def regsDpt0 : List RegDesc := [
  { base := 0x800000, por := 0x16, impl := 0x1F, rw := 0x1F },
  { base := 0x800004, por := 0x1E0A50, impl := 0xFFFFFF, rw := 0xFFFFFF },
  { base := 0x800008, por := 0x40008000, impl := 0xFFFFFFFF },
  { base := 0x80000C, impl := 0x80007F03, rw := 0x7F03, w1s := 0x80000000 },
  { base := 0x800010, impl := 7 },
  { base := 0x800014, impl := 1, w1s := 1 },
  { base := 0x800100, dims := [(8, 32)], impl := 0x1F, rw := 0x1F },
  { base := 0x800104, dims := [(8, 32)], impl := 0x7F7F, w1c := 0x4040 },
  { base := 0x800200, dims := [(8, 4)], impl := 0xF, rw := 0xF },
  { base := 0x800204, dims := [(8, 4)], impl := 0x3FFF, w1c := 0x2000 },
  { base := 0x810000, dims := [(8, 128)], impl := 0x3FFF },
  { base := 0x810004, dims := [(8, 128)], impl := 0x1FFFF } ]

/-- Registers of the DPT block, part 1. -/
def regsDpt1 : List RegDesc := [
  { base := 0x800300, dims := [(4, 26)], impl := 0xFFFFFFFF } ]

/-- Every register of the DPT block. -/
def regsDpt : List RegDesc := regsDpt0 ++ regsDpt1

/-- Registers of the RED block, part 0. -/
def regsRed0 : List RegDesc := [
  { base := 0x900000, por := 0x1907A, impl := 0xFFFFF, rw := 0xFFFFF },
  { base := 0x900004, impl := 0xFF03FF, rw := 0xFF03FF, held := 0xFF03FF },
  { base := 0x900008, por := 0xFA0000A, impl := 0xFFFF003F, rw := 0xFFFF003F },
  { base := 0x90000C, por := 0xE, impl := 0xFFFF01FF, rw := 0x1FF },
  { base := 0x900010, impl := 0x7FFFF },
  { base := 0x900014, impl := 0x3FFFFF },
  { base := 0x900018, impl := 0xC7FFFFFF, rc := 0xC7FFFFFF },
  { base := 0x90001C, impl := 0xFFFFFFFF },
  { base := 0x900020, impl := 0xFFF },
  { base := 0x900024, impl := 0xFFFFFFFF },
  { base := 0x900028, impl := 1, w1s := 1 },
  { base := 0x900040, impl := 0x8003FFFF, rw := 0x3FFFF, w1s := 0x80000000 } ]

/-- Registers of the RED block, part 1. -/
def regsRed1 : List RegDesc := [
  { base := 0x900044, impl := 0xF },
  { base := 0x900050, dims := [(4, 8)], impl := 0xFFFFFFFF, rw := 0xFFFFFFFF },
  { base := 0x900070, impl := 0xFFFFFFFF, rw := 0xFFFFFFFF },
  { base := 0x900080, impl := 0x8001FFFF, rw := 0x1FFFF, w1s := 0x80000000 },
  { base := 0x900084, impl := 0xFFFF, rw := 0xFFFF },
  { base := 0x900088, impl := 0xF },
  { base := 0x900090, impl := 0x80007FFF, rw := 0x7FFF, w1s := 0x80000000 },
  { base := 0x900094, impl := 0x1FFFF },
  { base := 0x900098, impl := 0xFFFFFF },
  { base := 0x90009C, impl := 0xFFFFFFFF },
  { base := 0x9000A0, impl := 0xFFFFFFFF },
  { base := 0x9000A4, impl := 0xFF } ]

/-- Registers of the RED block, part 2. -/
def regsRed2 : List RegDesc := [
  { base := 0x900100, dims := [(32, 8)], impl := 0xFFFFFFFF },
  { base := 0x900104, dims := [(32, 8)], impl := 0xFFFF001F },
  { base := 0x900108, dims := [(32, 8)], impl := 0xFFFFFF },
  { base := 0x90010C, dims := [(32, 8)], impl := 0xFFFFFF },
  { base := 0x900110, dims := [(32, 8), (4, 2)], impl := 0xFFFFFFFF },
  { base := 0x900118, dims := [(32, 8), (4, 2)], impl := 0xFFFFFFFF },
  { base := 0x900200, dims := [(4, 128)], impl := 0x7FF },
  { base := 0x910000, dims := [(8, 4096)], impl := 0xFFFF001F },
  { base := 0x910004, dims := [(8, 4096)], impl := 0x1FFFF },
  { base := 0x900400, dims := [(4, 46)], impl := 0xFFFFFFFF } ]

/-- Every register of the RED block. -/
def regsRed : List RegDesc := regsRed0 ++ regsRed1 ++ regsRed2

/-- Registers of the CCH block, part 0. -/
def regsCch0 : List RegDesc := [
  { base := 0xA00000, por := 0x849, impl := 0xFFF, rw := 0xFFF },
  { base := 0xA00004, impl := 0x7FFFF },
  { base := 0xA00008, impl := 0x7FFFFF },
  { base := 0xA0000C, por := 0x8000800, impl := 0x1FFF1FFF, rw := 0x1FFF1FFF },
  { base := 0xA00010, por := 0x1B90, impl := 0x1FFF1FFF },
  { base := 0xA00014, impl := 1, w1s := 1 },
  { base := 0xA00020, impl := 0x8000FF0F, rw := 0xFF0F, w1s := 0x80000000 },
  { base := 0xA00024, impl := 0x1FFF, rw := 0x1FFF },
  { base := 0xA00028, impl := 0x3FFFFFFF, rw := 0x3FFFFFFF },
  { base := 0xA0002C, impl := 0x3FFFFFFF, rw := 0x3FFFFFFF },
  { base := 0xA00030, impl := 0x7F },
  { base := 0xA00034, impl := 0x800007FF, rc := 0x800007FF } ]

/-- Registers of the CCH block, part 1. -/
def regsCch1 : List RegDesc := [
  { base := 0xA00038, impl := 0x3FFFFFFF },
  { base := 0xA0003C, impl := 0xFFFFFFFF },
  { base := 0xA00100, dims := [(16, 64)], por := 8, impl := 0xFFFF, rw := 0xFFFF },
  { base := 0xA00104, dims := [(16, 64)], impl := 0x3FFFFFFF, rw := 0x3FFFFFFF },
  { base := 0xA00108, dims := [(16, 64)], impl := 0x3FFFFFFF, rw := 0x3FFFFFFF },
  { base := 0xA00800, dims := [(4, 40)], impl := 0xFFFFFFFF } ]

/-- Every register of the CCH block. -/
def regsCch : List RegDesc := regsCch0 ++ regsCch1

/-- Registers of the CIP block, part 0. -/
def regsCip0 : List RegDesc := [
  { base := 0xB00000, por := 0x2420, impl := 0x13F3F, rw := 0x3F3F, w1s := 0x10000 },
  { base := 0xB00004, por := 0x40, impl := 0x7F },
  { base := 0xB00008, dims := [(4, 2)], impl := 0xFFFFFFFF, rw := 0xFFFFFFFF, held := 0xFFFFFFFF },
  { base := 0xB00010, impl := 0x1FFFF, held := 0x1FFFF },
  { base := 0xB00014, impl := 0x80000FFF, rc := 0x80000FFF },
  { base := 0xB00018, impl := 0xFFF, wo := 0xFFF },
  { base := 0xB0001C, impl := 1, w1s := 1 },
  { base := 0xB00020, impl := 0x80000FFF, rw := 0xFFF, w1s := 0x80000000 },
  { base := 0xB00024, impl := 0x7FFF },
  { base := 0xB00028, dims := [(4, 2)], impl := 0xFFFFFFFF },
  { base := 0xB00030, dims := [(4, 2)], impl := 0xFFFFFFFF },
  { base := 0xB00038, impl := 0xFFFFFFFF } ]

/-- Registers of the CIP block, part 1. -/
def regsCip1 : List RegDesc := [
  { base := 0xB00100, dims := [(4, 32)], impl := 0x1FF },
  { base := 0xB10000, dims := [(4, 4096)], impl := 0xFFFF001F },
  { base := 0xB20000, dims := [(4, 4096)], impl := 0x1FFF, rwc := 0x1FFF },
  { base := 0xB00200, dims := [(4, 24)], impl := 0xFFFFFFFF } ]

/-- Every register of the CIP block. -/
def regsCip : List RegDesc := regsCip0 ++ regsCip1

/-- Registers of the NZL block, part 0. -/
def regsNzl0 : List RegDesc := [
  { base := 0xC00000, por := 0x4070A07, impl := 0x1FFFFF0F, rw := 0x1FFFFF07, w1s := 8 },
  { base := 0xC00004, por := 0x7D00864, impl := 0xFFFFFFF, rw := 0xFFFFFFF },
  { base := 0xC00008, impl := 0xFFFFF },
  { base := 0xC0000C, por := 0x3FF, impl := 0xF0FFF, rw := 0x3FF, held := 0xF0000 },
  { base := 0xC00010, impl := 0xFFFFFFFF },
  { base := 0xC00014, impl := 0xFFFFF },
  { base := 0xC00018, impl := 0x7F },
  { base := 0xC0001C, por := 0xA8, impl := 0xFFFF },
  { base := 0xC00020, impl := 1, w1s := 1 },
  { base := 0xC00040, dims := [(4, 4)], por := 0x6666, impl := 0xFFFFFFF },
  { base := 0xC00100, dims := [(4, 26)], impl := 0xFFFFFFFF } ]

/-- Every register of the NZL block. -/
def regsNzl : List RegDesc := regsNzl0

/-- Registers of the SLP block, part 0. -/
def regsSlp0 : List RegDesc := [
  { base := 0xD00000, por := 0xC9, impl := 0x1FF, rw := 0x1FF, held := 0x1FF },
  { base := 0xD00004, por := 0x6401F4, impl := 0xFFF0FFF, rw := 0xFFF0FFF, held := 0xFFF0FFF },
  { base := 0xD00008, por := 0x1326C, impl := 0x1FFFF, rw := 0x1FFFF, held := 0x1FFFF },
  { base := 0xD0000C, por := 8, impl := 0xF, held := 0xF },
  { base := 0xD00010, por := 0xF, impl := 0xFFF, rw := 0xFF, w1c := 0xF00, held := 0xFFF },
  { base := 0xD00014, impl := 0xFFFFFFFF, rw := 0xFFFFFFFF, held := 0xFFFFFFFF },
  { base := 0xD00018, impl := 0xFFFFFFFF, rw := 0xFFFFFFFF, held := 0xFFFFFFFF },
  { base := 0xD0001C, impl := 0xFFFFFFFF, held := 0xFFFFFFFF },
  { base := 0xD00020, impl := 0xFFFFFFFF, held := 0xFFFFFFFF },
  { base := 0xD00024, impl := 1, w1s := 1 },
  { base := 0xD00100, dims := [(16, 32)], por := 0x62A3C29, impl := 0xFFFFFFFF, rw := 0x7FFFFFFF, w1s := 0x80000000, held := 0x7FFFFFFF },
  { base := 0xD00104, dims := [(16, 32)], por := 0x46666C, impl := 0xFFFFFF, rw := 0xFFFFFF, held := 0xFFFFFF } ]

/-- Registers of the SLP block, part 1. -/
def regsSlp1 : List RegDesc := [
  { base := 0xD00108, dims := [(16, 32)], impl := 0x1FFF, held := 0x1FFF },
  { base := 0xD0010C, dims := [(16, 32)], impl := 0xFFFFFFFF, held := 0xFFFFFFFF },
  { base := 0xD00400, dims := [(16, 2)], por := 0x2918C9, impl := 0x1FFFFFF, rw := 0x1FFFFFF, held := 0x1FFFFFF },
  { base := 0xD00404, dims := [(16, 2)], impl := 0xF7, held := 0xF7 },
  { base := 0xD00408, dims := [(16, 2)], impl := 0xFFFFFFFF, held := 0xFFFFFFFF },
  { base := 0xD0040C, dims := [(16, 2)], impl := 0xFFFF, held := 0xFFFF },
  { base := 0xD00500, dims := [(4, 30)], impl := 0xFFFFFFFF, held := 0xFFFFFFFF } ]

/-- Every register of the SLP block. -/
def regsSlp : List RegDesc := regsSlp0 ++ regsSlp1

/-- Registers of the MON block, part 0. -/
def regsMon0 : List RegDesc := [
  { base := 0xE00000, por := 4, impl := 0xF, rw := 7, w1s := 8 },
  { base := 0xE00004, por := 0x4003E8, impl := 0x7FFFFF, rw := 0x7FFFFF },
  { base := 0xE00008, impl := 0xFFFFFFFF },
  { base := 0xE0000C, impl := 0x800001FF, rc := 0x800001FF },
  { base := 0xE00010, por := 0x3FFE, impl := 0x3FFF, rw := 0x3FFF },
  { base := 0xE00014, impl := 0xFFFF3FFF, w1c := 0xFFFF3FFF },
  { base := 0xE00018, por := 0x400, impl := 0xFFFF, rw := 0xFFFF },
  { base := 0xE00100, dims := [(8, 14), (4, 2)], impl := 0xFFFFFFFF },
  { base := 0xE00200, dims := [(8, 16)], impl := 0x7FFFF, rw := 0x7FFFF },
  { base := 0xE00204, dims := [(8, 16)], por := 0xFFFF, impl := 0xFFFFFFFF, rw := 0xFFFF },
  { base := 0xE01000, dims := [(16, 64), (4, 2)], impl := 0xFFFFFFFF },
  { base := 0xE01008, dims := [(16, 64), (4, 2)], impl := 0xFFFFFFFF } ]

/-- Registers of the MON block, part 1. -/
def regsMon1 : List RegDesc := [
  { base := 0xE10000, dims := [(128, 129)], por := 1, impl := 0xFF0F, rw := 0xFF05, w1s := 0xA },
  { base := 0xE10004, dims := [(128, 129)], impl := 0xFF, w1c := 0xFF },
  { base := 0xE10008, dims := [(128, 129), (4, 2)], impl := 0xFFFFFFFF },
  { base := 0xE10010, dims := [(128, 129), (4, 8)], impl := 0x7FF, rw := 0x3FF },
  { base := 0xE10040, dims := [(128, 129), (4, 16)], impl := 0xFFFFFFFF } ]

/-- Every register of the MON block. -/
def regsMon : List RegDesc := regsMon0 ++ regsMon1

/-- Registers of the DMC block, part 0. -/
def regsDmc0 : List RegDesc := [
  { base := 0xF00000, por := 0x40400, impl := 0x1F3F0F, rw := 0x1F3F0F },
  { base := 0xF00004, impl := 0x7FFFFFF },
  { base := 0xF00008, impl := 0x3FFFFF },
  { base := 0xF0000C, por := 0x18, impl := 0xFF, rw := 0xFF },
  { base := 0xF00010, impl := 0x800000F3, rc := 0x800000F3 },
  { base := 0xF00014, impl := 1, w1s := 1 },
  { base := 0xF00100, dims := [(16, 12), (4, 2)], impl := 0xFFFFFFFF },
  { base := 0xF00108, dims := [(16, 12), (4, 2)], impl := 0xFFFFFFFF } ]

/-- Every register of the DMC block. -/
def regsDmc : List RegDesc := regsDmc0

/-- Registers of the ADM block, part 0. -/
def regsAdm0 : List RegDesc := [
  { base := 0x10001000, por := 0x3E, impl := 0xFFFFFFFF, rw := 0xFFFFFFFF },
  { base := 0x10001004, impl := 0x1FFF },
  { base := 0x10001008, dims := [(4, 2)], impl := 0xFFFFFFFF, rw := 0xFFFFFFFF },
  { base := 0x10001010, dims := [(4, 2)], impl := 0xFFFFFFFF, rw := 0xFFFFFFFF },
  { base := 0x10001018, dims := [(4, 2)], impl := 0xFFFFFFFF, rw := 0xFFFFFFFF } ]

/-- Every register of the ADM block. -/
def regsAdm : List RegDesc := regsAdm0

/-- The descriptors of the block that holds a word offset: 64 KiB blocks below 0x10_0000 and 1 MiB blocks above (R8, R59). The model places the
PF1 local administration page (R397) at pseudo-offset 0x1000_1000, outside BAR0. -/
def regBlock (off : Nat) : List RegDesc :=
  if 0x10000000 ≤ off then regsAdm else
  match off / 0x100000 with
  | 0 => match off / 0x10000 with
    | 0 => regsSys
    | 1 => regsGov
    | 2 => regsMbx
    | 3 => regsProt
    | 4 => regsHep
    | _ => []
  | 1 => regsNet
  | 2 => regsCls
  | 3 => regsSwc
  | 4 => regsEgs
  | 5 => regsRdm
  | 6 => regsCmdq
  | 7 => regsEng
  | 8 => regsDpt
  | 9 => regsRed
  | 10 => regsCch
  | 11 => regsCip
  | 12 => regsNzl
  | 13 => regsSlp
  | 14 => regsMon
  | 15 => regsDmc
  | _ => []

end Sys2Proof.Machine
end

