-- ==== Sys2Proof/Machine/Regs.lean ====
section
/-! DEFINITION. The names of spec/ for register offsets, fields and counters: every offset of the offset tables, every
field of the field tables. A definition's docstring gives the access code, the bits and the rule. -/

namespace Sys2Proof.Machine

/-- A field of a 32-bit register: word offset, lowest bit, width. -/
structure Fld where
  off : Nat
  lo  : Nat
  wd  : Nat
  deriving DecidableEq, Repr

/-- SYS_IDREV, rule R59. -/
def SYS_IDREV : Nat := 0x0
/-- SYS_MODE, rule R59. -/
def SYS_MODE : Nat := 0x4
/-- SYS_MODE_REQ, rule R59. -/
def SYS_MODE_REQ : Nat := 0x8
/-- SYS_MIDNIGHT_CAUSE, rule R59. -/
def SYS_MIDNIGHT_CAUSE : Nat := 0xC
/-- SYS_WAKE_EN, rule R59. -/
def SYS_WAKE_EN : Nat := 0x10
/-- SYS_WAKE_SRC, rule R59. -/
def SYS_WAKE_SRC : Nat := 0x14
/-- SYS_NIGHT_CTL, rule R59. -/
def SYS_NIGHT_CTL : Nat := 0x18
/-- SYS_CFG, rule R59. -/
def SYS_CFG : Nat := 0x1C
/-- SYS_BOOT, rule R59. -/
def SYS_BOOT : Nat := 0x20
/-- SYS_UCODE, rule R59. -/
def SYS_UCODE : Nat := 0x24
/-- SYS_RST, rule R59. -/
def SYS_RST : Nat := 0x28
/-- SYS_RST_CAUSE, rule R59. -/
def SYS_RST_CAUSE : Nat := 0x2C
/-- SYS_BLKRST, rule R59. -/
def SYS_BLKRST : Nat := 0x30
/-- SYS_WDOG_CTL, rule R59. -/
def SYS_WDOG_CTL : Nat := 0x34
/-- SYS_WDOG_KICK, rule R59. -/
def SYS_WDOG_KICK : Nat := 0x38
/-- SYS_WDOG_STAT, rule R59. -/
def SYS_WDOG_STAT : Nat := 0x3C
/-- GOV_CTL, rule R346. -/
def GOV_CTL : Nat := 0x10000
/-- GOV_PMAX, rule R346. -/
def GOV_PMAX : Nat := 0x10004
/-- GOV_THERM, rule R346. -/
def GOV_THERM : Nat := 0x10008
/-- GOV_SHELF, rule R346. -/
def GOV_SHELF : Nat := 0x1000C
/-- GOV_DEFER_MAX, rule R346. -/
def GOV_DEFER_MAX : Nat := 0x10010
/-- GOV_STAT, rule R346. -/
def GOV_STAT : Nat := 0x10014
/-- GOV_LIMIT, rule R346. -/
def GOV_LIMIT : Nat := 0x10018
/-- GOV_CHIP_LVL, rule R346. -/
def GOV_CHIP_LVL : Nat := 0x1001C
/-- GOV_DRV_LVL, rule R346. -/
def GOV_DRV_LVL : Nat := 0x10020
/-- GOV_FEED, rule R346. -/
def GOV_FEED : Nat := 0x10024
/-- GOV_FAN, rule R346. -/
def GOV_FAN : Nat := 0x10028
/-- GOV_DP_CTL, rule R346. -/
def GOV_DP_CTL : Nat := 0x1002C
/-- GOV_DP_CUR, rule R346. -/
def GOV_DP_CUR : Nat := 0x10030
/-- GOV_CNT_CTL, rule R346. -/
def GOV_CNT_CTL : Nat := 0x10034
/-- GOV_DP, rule R346. -/
def GOV_DP (i : Nat) : Nat := 0x10040 + 4 * i
/-- GOV_COST, rule R346. -/
def GOV_COST (i : Nat) : Nat := 0x10080 + 4 * i
/-- GOV_TS, rule R346. -/
def GOV_TS (i : Nat) : Nat := 0x10100 + 4 * i
/-- GOV_DRV, rule R346. -/
def GOV_DRV (i : Nat) : Nat := 0x10200 + 4 * i
/-- MBX_CTL, rule R415. -/
def MBX_CTL : Nat := 0x20000
/-- MBX_ACKSEL, rule R415. -/
def MBX_ACKSEL : Nat := 0x20004
/-- MBX_NOTICE, rule R415. -/
def MBX_NOTICE : Nat := 0x20008
/-- MBX_CNT_CTL, rule R415. -/
def MBX_CNT_CTL : Nat := 0x2000C
/-- MBX_TX, rule R415. -/
def MBX_TX (i : Nat) : Nat := 0x20100 + 0x20 * i
/-- MBX_TX_EOM, rule R415. -/
def MBX_TX_EOM (i : Nat) : Nat := 0x20104 + 0x20 * i
/-- MBX_RX, rule R415. -/
def MBX_RX (i : Nat) : Nat := 0x20108 + 0x20 * i
/-- MBX_ACK, rule R415. -/
def MBX_ACK (i : Nat) : Nat := 0x2010C + 0x20 * i
/-- MBX_STAT, rule R415. -/
def MBX_STAT (i : Nat) : Nat := 0x20110 + 0x20 * i
/-- MBX_IRQ, rule R415. -/
def MBX_IRQ (i : Nat) : Nat := 0x20114 + 0x20 * i
/-- PROT_STAT, rule R389. -/
def PROT_STAT : Nat := 0x30000
/-- PROT_GEN_L, rule R389. -/
def PROT_GEN_L : Nat := 0x30004
/-- PROT_PRIV_LOCAL, rule R389. -/
def PROT_PRIV_LOCAL : Nat := 0x30008
/-- PROT_BOOT_POLICY, rule R389. -/
def PROT_BOOT_POLICY : Nat := 0x3000C
/-- PROT_BOOT_STAT, rule R389. -/
def PROT_BOOT_STAT : Nat := 0x30010
/-- PROT_CMT_CMD, rule R389. -/
def PROT_CMT_CMD : Nat := 0x30014
/-- PROT_CMT_STAT, rule R389. -/
def PROT_CMT_STAT : Nat := 0x30018
/-- PROT_CMT_DIGEST, rule R389. -/
def PROT_CMT_DIGEST : Nat := 0x3001C
/-- PROT_CMT_QUOTE, rule R389. -/
def PROT_CMT_QUOTE : Nat := 0x30020
/-- PROT_RWC_LAST, rule R389. -/
def PROT_RWC_LAST : Nat := 0x30024
/-- PROT_ACL_RD, rule R389. -/
def PROT_ACL_RD : Nat := 0x30028
/-- PROT_ACL_DATA0, rule R389. -/
def PROT_ACL_DATA0 : Nat := 0x3002C
/-- PROT_ACL_DATA1-2 (64-bit pair), rule R389. -/
def PROT_ACL_DATA1 : Nat := 0x30030
/-- PROT_ACL_DATA3-4 (64-bit pair), rule R389. -/
def PROT_ACL_DATA3 : Nat := 0x30038
/-- PROT_ACL_DATA5, rule R389. -/
def PROT_ACL_DATA5 : Nat := 0x30040
/-- PROT_CNT_CTL, rule R389. -/
def PROT_CNT_CTL : Nat := 0x30044
/-- PROT_CMT_BUF, rule R389. -/
def PROT_CMT_BUF (i : Nat) : Nat := 0x31000 + 4 * i
/-- HEP_LINK_PM, rule R413. -/
def HEP_LINK_PM : Nat := 0x40000
/-- HEP_LTR, rule R413. -/
def HEP_LTR : Nat := 0x40004
/-- HEP_STAT, rule R413. -/
def HEP_STAT : Nat := 0x40008
/-- HEP_TAG_STAT, rule R413. -/
def HEP_TAG_STAT : Nat := 0x4000C
/-- HEP_DIAG, rule R413. -/
def HEP_DIAG : Nat := 0x40010
/-- HEP_CNT_CTL, rule R413. -/
def HEP_CNT_CTL : Nat := 0x40014
/-- NET_PORT_CFG, rule R83. -/
def NET_PORT_CFG (i : Nat) : Nat := 0x100000 + 0x1000 * i
/-- NET_PORT_STAT, rule R83. -/
def NET_PORT_STAT (i : Nat) : Nat := 0x100004 + 0x1000 * i
/-- NET_LANE_HEALTH, rule R83. -/
def NET_LANE_HEALTH (i : Nat) : Nat := 0x100008 + 0x1000 * i
/-- NET_AN_ADV, rule R83. -/
def NET_AN_ADV (i : Nat) : Nat := 0x10000C + 0x1000 * i
/-- NET_LINK_CFG, rule R83. -/
def NET_LINK_CFG (i : Nat) : Nat := 0x100010 + 0x1000 * i
/-- NET_FC_CFG, rule R83. -/
def NET_FC_CFG (i : Nat) : Nat := 0x100014 + 0x1000 * i
/-- NET_VLAN_CFG, rule R83. -/
def NET_VLAN_CFG (i : Nat) : Nat := 0x100018 + 0x1000 * i
/-- NET_PCP_MAP, rule R83. -/
def NET_PCP_MAP (i : Nat) : Nat := 0x10001C + 0x1000 * i
/-- NET_PRIV, rule R83. -/
def NET_PRIV (i : Nat) : Nat := 0x100020 + 0x1000 * i
/-- NET_PTP_CFG, rule R83. -/
def NET_PTP_CFG (i : Nat) : Nat := 0x100024 + 0x1000 * i
/-- NET_TS_LOW, rule R83. -/
def NET_TS_LOW (i : Nat) : Nat := 0x100028 + 0x1000 * i
/-- NET_TS_HIGH, rule R83. -/
def NET_TS_HIGH (i : Nat) : Nat := 0x10002C + 0x1000 * i
/-- NET_CNT_CTL, rule R83. -/
def NET_CNT_CTL (i : Nat) : Nat := 0x100030 + 0x1000 * i
/-- NET_TIME_NS, rule R83. -/
def NET_TIME_NS : Nat := 0x100800
/-- NET_TIME_SEC_L, rule R83. -/
def NET_TIME_SEC_L : Nat := 0x100804
/-- NET_TIME_SEC_H, rule R83. -/
def NET_TIME_SEC_H : Nat := 0x100808
/-- NET_TIME_ADJ, rule R83. -/
def NET_TIME_ADJ : Nat := 0x10080C
/-- NET_TIME_STEP, rule R83. -/
def NET_TIME_STEP : Nat := 0x100810
/-- NET_TIME_CTL, rule R83. -/
def NET_TIME_CTL : Nat := 0x100814
/-- NET_PPS_CAP, rule R83. -/
def NET_PPS_CAP : Nat := 0x100818
/-- CLS_PARSE_CFG, rule R115. -/
def CLS_PARSE_CFG : Nat := 0x200000
/-- CLS_CLASS_MAP, rule R115. -/
def CLS_CLASS_MAP : Nat := 0x200004
/-- CLS_STEER_CFG, rule R115. -/
def CLS_STEER_CFG : Nat := 0x200008
/-- CLS_PROFt_CTL, rule R115. -/
def CLS_PROF_CTL (i : Nat) : Nat := 0x200040 + 0x10 * i
/-- CLS_PROFt_SELA, rule R115. -/
def CLS_PROF_SELA (i : Nat) : Nat := 0x200044 + 0x10 * i
/-- CLS_PROFt_SELB, rule R115. -/
def CLS_PROF_SELB (i : Nat) : Nat := 0x200048 + 0x10 * i
/-- CLS_PROFt_PAY, rule R115. -/
def CLS_PROF_PAY (i : Nat) : Nat := 0x20004C + 0x10 * i
/-- CLS_TBL_CMD, rule R115. -/
def CLS_TBL_CMD : Nat := 0x200100
/-- CLS_TBL_STAT, rule R115. -/
def CLS_TBL_STAT : Nat := 0x200104
/-- CLS_TBL_DATAk, rule R115. -/
def CLS_TBL_DATA (i : Nat) : Nat := 0x200110 + 4 * i
/-- CLS_SLOW_RATE, rule R115. -/
def CLS_SLOW_RATE : Nat := 0x200200
/-- CLS_SLOW_BURST, rule R115. -/
def CLS_SLOW_BURST : Nat := 0x200204
/-- CLS_SLOW_TOKENS, rule R115. -/
def CLS_SLOW_TOKENS : Nat := 0x200208
/-- CLS_CNT_CTL, rule R115. -/
def CLS_CNT_CTL : Nat := 0x200210
/-- CLS_HIT (64-bit pair), rule R115. -/
def CLS_HIT (i j : Nat) : Nat := 0x210000 + 0x10 * i + 8 * j
/-- CLS_QPT, rule R115. -/
def CLS_QPT (i : Nat) : Nat := 0x240000 + 4 * i
/-- SWC_BUF_STAT, rule R117. -/
def SWC_BUF_STAT : Nat := 0x300000
/-- SWC_SHARED_STAT, rule R117. -/
def SWC_SHARED_STAT : Nat := 0x300004
/-- SWC_HASH_SEED, rule R117. -/
def SWC_HASH_SEED : Nat := 0x300008
/-- SWC_CNT_CTL, rule R117. -/
def SWC_CNT_CTL : Nat := 0x300010
/-- SWC_Q_CFG, rule R117. -/
def SWC_Q_CFG (i : Nat) : Nat := 0x310000 + 0x20 * i
/-- SWC_Q_OVF, rule R117. -/
def SWC_Q_OVF (i : Nat) : Nat := 0x310004 + 0x20 * i
/-- SWC_Q_WRED_G, rule R117. -/
def SWC_Q_WRED_G (i : Nat) : Nat := 0x310008 + 0x20 * i
/-- SWC_Q_WRED_Y, rule R117. -/
def SWC_Q_WRED_Y (i : Nat) : Nat := 0x31000C + 0x20 * i
/-- SWC_Q_WRED_R, rule R117. -/
def SWC_Q_WRED_R (i : Nat) : Nat := 0x310010 + 0x20 * i
/-- SWC_Q_AVG, rule R117. -/
def SWC_Q_AVG (i : Nat) : Nat := 0x310014 + 0x20 * i
/-- SWC_Q_DEPTH, rule R117. -/
def SWC_Q_DEPTH (i : Nat) : Nat := 0x310018 + 0x20 * i
/-- SWC_Q_DDEPTH, rule R117. -/
def SWC_Q_DDEPTH (i : Nat) : Nat := 0x31001C + 0x20 * i
/-- SWC_PFC_TH, rule R117. -/
def SWC_PFC_TH (i j : Nat) : Nat := 0x320000 + 0x20 * i + 4 * j
/-- SWC_LAG_CTL, rule R117. -/
def SWC_LAG_CTL (i : Nat) : Nat := 0x330000 + 0x400 * i
/-- SWC_LAG_CFG, rule R117. -/
def SWC_LAG_CFG (i j : Nat) : Nat := 0x330100 + 0x400 * i + 4 * j
/-- SWC_LAG_LIVE, rule R117. -/
def SWC_LAG_LIVE (i j : Nat) : Nat := 0x330200 + 0x400 * i + 4 * j
/-- SWC_CL_BKT, rule R117. -/
def SWC_CL_BKT (i : Nat) : Nat := 0x338000 + 4 * i
/-- SWC_ST_BKT, rule R117. -/
def SWC_ST_BKT (i : Nat) : Nat := 0x338100 + 4 * i
/-- EGS_CTL, rule R133. -/
def EGS_CTL : Nat := 0x400000
/-- EGS_WHEEL_STAT, rule R133. -/
def EGS_WHEEL_STAT : Nat := 0x400004
/-- EGS_CNT_CTL, rule R133. -/
def EGS_CNT_CTL : Nat := 0x400008
/-- EGS_Q_SCHED, rule R133. -/
def EGS_Q_SCHED (i : Nat) : Nat := 0x410000 + 0x10 * i
/-- EGS_Q_RATE, rule R133. -/
def EGS_Q_RATE (i : Nat) : Nat := 0x410004 + 0x10 * i
/-- EGS_Q_CS, rule R133. -/
def EGS_Q_CS (i : Nat) : Nat := 0x410008 + 0x10 * i
/-- EGS_Q_STAT, rule R133. -/
def EGS_Q_STAT (i : Nat) : Nat := 0x41000C + 0x10 * i
/-- EGS_GATE_CTL, rule R133. -/
def EGS_GATE_CTL (i : Nat) : Nat := 0x420000 + 0x40 * i
/-- EGS_GATE_CYCLE0, rule R133. -/
def EGS_GATE_CYCLE0 (i : Nat) : Nat := 0x420004 + 0x40 * i
/-- EGS_GATE_CYCLE1, rule R133. -/
def EGS_GATE_CYCLE1 (i : Nat) : Nat := 0x420008 + 0x40 * i
/-- EGS_GATE_BASE_NS, rule R133. -/
def EGS_GATE_BASE_NS (i : Nat) : Nat := 0x42000C + 0x40 * i
/-- EGS_GATE_BASE_SEC, rule R133. -/
def EGS_GATE_BASE_SEC (i : Nat) : Nat := 0x420010 + 0x40 * i
/-- EGS_GATE_STAT, rule R133. -/
def EGS_GATE_STAT (i : Nat) : Nat := 0x420014 + 0x40 * i
/-- EGS_QP_RATE, rule R133. -/
def EGS_QP_RATE (i : Nat) : Nat := 0x430000 + 4 * i
/-- EGS_GATE_ENT, rule R133. -/
def EGS_GATE_ENT (i j : Nat) : Nat := 0x440000 + 0x800 * i + 4 * j
/-- EGS_HIST, rule R133. -/
def EGS_HIST (i j : Nat) : Nat := 0x460000 + 0x80 * i + 4 * j
/-- RDM_CTL, rule R166. -/
def RDM_CTL : Nat := 0x500000
/-- RDM_ACK_CFG, rule R166. -/
def RDM_ACK_CFG : Nat := 0x500004
/-- RDM_OOO_CFG, rule R166. -/
def RDM_OOO_CFG : Nat := 0x500008
/-- RDM_OOO_STAT, rule R166. -/
def RDM_OOO_STAT : Nat := 0x50000C
/-- RDM_CC_CFG0, rule R166. -/
def RDM_CC_CFG0 : Nat := 0x500010
/-- RDM_CC_CFG1, rule R166. -/
def RDM_CC_CFG1 : Nat := 0x500014
/-- RDM_ERRQP, rule R166. -/
def RDM_ERRQP : Nat := 0x500018
/-- RDM_CNT_CTL, rule R166. -/
def RDM_CNT_CTL : Nat := 0x50001C
/-- RDM_QPC_CMD, rule R166. -/
def RDM_QPC_CMD : Nat := 0x500100
/-- RDM_QPC_STAT, rule R166. -/
def RDM_QPC_STAT : Nat := 0x500104
/-- RDM_QPC_DATAk, rule R166. -/
def RDM_QPC_DATA (i : Nat) : Nat := 0x500110 + 4 * i
/-- RDM_WIN_CMD, rule R166. -/
def RDM_WIN_CMD : Nat := 0x500200
/-- RDM_WIN_STAT, rule R166. -/
def RDM_WIN_STAT : Nat := 0x500204
/-- RDM_WIN_DATAk, rule R166. -/
def RDM_WIN_DATA (i : Nat) : Nat := 0x500210 + 4 * i
/-- RDM_SRCADDR_IP, rule R166. -/
def RDM_SRCADDR_IP (i j : Nat) : Nat := 0x501000 + 0x20 * i + 4 * j
/-- RDM_SRCADDR_MAC_L, rule R166. -/
def RDM_SRCADDR_MAC_L (i : Nat) : Nat := 0x501010 + 0x20 * i
/-- RDM_SRCADDR_MAC_H, rule R166. -/
def RDM_SRCADDR_MAC_H (i : Nat) : Nat := 0x501014 + 0x20 * i
/-- CMDQ_CTL, rule R195. -/
def CMDQ_CTL : Nat := 0x600000
/-- CMDQ_POLL, rule R195. -/
def CMDQ_POLL : Nat := 0x600004
/-- CMDQ_POLL_CAP, rule R195. -/
def CMDQ_POLL_CAP : Nat := 0x600008
/-- CMDQ_ARB, rule R195. -/
def CMDQ_ARB : Nat := 0x60000C
/-- CMDQ_STAT, rule R195. -/
def CMDQ_STAT : Nat := 0x600010
/-- CMDQ_QUEUES, rule R195. -/
def CMDQ_QUEUES : Nat := 0x600014
/-- CMDQ_TAGS, rule R195. -/
def CMDQ_TAGS : Nat := 0x600018
/-- CMDQ_NUDGE_STAT, rule R195. -/
def CMDQ_NUDGE_STAT : Nat := 0x60001C
/-- CMDQ_CNT_CTL, rule R195. -/
def CMDQ_CNT_CTL : Nat := 0x600020
/-- CMDQ_QCTX_CMD, rule R195. -/
def CMDQ_QCTX_CMD : Nat := 0x600100
/-- CMDQ_QCTX_STAT, rule R195. -/
def CMDQ_QCTX_STAT : Nat := 0x600104
/-- CMDQ_QCTX_DATA0, rule R195. -/
def CMDQ_QCTX_DATA0 : Nat := 0x600110
/-- CMDQ_QCTX_DATA1, rule R195. -/
def CMDQ_QCTX_DATA1 : Nat := 0x600114
/-- CMDQ_QCTX_DATA2, rule R195. -/
def CMDQ_QCTX_DATA2 : Nat := 0x600118
/-- CMDQ_QCTX_DATA3, rule R195. -/
def CMDQ_QCTX_DATA3 : Nat := 0x60011C
/-- CMDQ_QCTX_DATA4, rule R195. -/
def CMDQ_QCTX_DATA4 : Nat := 0x600120
/-- CMDQ_QCTX_DATA5, rule R195. -/
def CMDQ_QCTX_DATA5 : Nat := 0x600124
/-- CMDQ_QCTX_DATA6-7 (64-bit pair), rule R195. -/
def CMDQ_QCTX_DATA6 : Nat := 0x600128
/-- CMDQ_QCTX_DATA8-9 (64-bit pair), rule R195. -/
def CMDQ_QCTX_DATA8 : Nat := 0x600130
/-- CMDQ_QCTX_DATA10-11 (64-bit pair), rule R195. -/
def CMDQ_QCTX_DATA10 : Nat := 0x600138
/-- CMDQ_QCTX_DATA12-15, rule R195. -/
def CMDQ_QCTX_DATA12 (i : Nat) : Nat := 0x600140 + 4 * i
/-- CMDQ_ASSOC, rule R195. -/
def CMDQ_ASSOC (i : Nat) : Nat := 0x610000 + 4 * i
/-- ENG_CTL, rule R221. -/
def ENG_CTL : Nat := 0x700000
/-- ENG_LOCK_CFG, rule R221. -/
def ENG_LOCK_CFG : Nat := 0x700004
/-- ENG_GLOBAL_CMD, rule R221. -/
def ENG_GLOBAL_CMD : Nat := 0x700008
/-- ENG_GLOBAL_ARG, rule R221. -/
def ENG_GLOBAL_ARG : Nat := 0x70000C
/-- ENG_GLOBAL_STAT, rule R221. -/
def ENG_GLOBAL_STAT : Nat := 0x700010
/-- ENG_EPOCH, rule R221. -/
def ENG_EPOCH : Nat := 0x700014
/-- ENG_EPOCH_B (64-bit pair), rule R221. -/
def ENG_EPOCH_B : Nat := 0x700018
/-- ENG_DRAIN, rule R221. -/
def ENG_DRAIN : Nat := 0x700020
/-- ENG_UC_STAT, rule R221. -/
def ENG_UC_STAT : Nat := 0x700024
/-- ENG_CNT_CTL, rule R221. -/
def ENG_CNT_CTL : Nat := 0x700028
/-- ENG_CL_STAT, rule R221. -/
def ENG_CL_STAT (i : Nat) : Nat := 0x700100 + 4 * i
/-- ENG_SHARD_STAT, rule R221. -/
def ENG_SHARD_STAT (i : Nat) : Nat := 0x700140 + 4 * i
/-- ENG_CL_RETIRED, rule R221. -/
def ENG_CL_RETIRED (i : Nat) : Nat := 0x700180 + 4 * i
/-- ENG_LOCK_BKT, rule R221. -/
def ENG_LOCK_BKT (i : Nat) : Nat := 0x700200 + 4 * i
/-- ENG_SNAP_MAP, rule R221. -/
def ENG_SNAP_MAP (i : Nat) : Nat := 0x710000 + 4 * i
/-- DPT_CTL, rule R244. -/
def DPT_CTL : Nat := 0x800000
/-- DPT_TIMEOUT, rule R244. -/
def DPT_TIMEOUT : Nat := 0x800004
/-- DPT_POOL_STAT, rule R244. -/
def DPT_POOL_STAT : Nat := 0x800008
/-- DPT_MEM_CMD, rule R244. -/
def DPT_MEM_CMD : Nat := 0x80000C
/-- DPT_MEM_CMD_STAT, rule R244. -/
def DPT_MEM_CMD_STAT : Nat := 0x800010
/-- DPT_CNT_CTL, rule R244. -/
def DPT_CNT_CTL : Nat := 0x800014
/-- DPT_PORT_CFG, rule R244. -/
def DPT_PORT_CFG (i : Nat) : Nat := 0x800100 + 8 * i
/-- DPT_PORT_STAT, rule R244. -/
def DPT_PORT_STAT (i : Nat) : Nat := 0x800104 + 8 * i
/-- DPT_XP_CFG, rule R244. -/
def DPT_XP_CFG (i : Nat) : Nat := 0x800200 + 8 * i
/-- DPT_XP_STAT, rule R244. -/
def DPT_XP_STAT (i : Nat) : Nat := 0x800204 + 8 * i
/-- DPT_MEM_LOC, rule R244. -/
def DPT_MEM_LOC (i : Nat) : Nat := 0x810000 + 8 * i
/-- DPT_MEM_STAT, rule R244. -/
def DPT_MEM_STAT (i : Nat) : Nat := 0x810004 + 8 * i
/-- RED_CTL, rule R282. -/
def RED_CTL : Nat := 0x900000
/-- RED_HOLDUP, rule R282. -/
def RED_HOLDUP : Nat := 0x900004
/-- RED_FLOOR, rule R282. -/
def RED_FLOOR : Nat := 0x900008
/-- RED_PATROL, rule R282. -/
def RED_PATROL : Nat := 0x90000C
/-- RED_JRN_STAT, rule R282. -/
def RED_JRN_STAT : Nat := 0x900010
/-- RED_JRN_CAP, rule R282. -/
def RED_JRN_CAP : Nat := 0x900014
/-- RED_EVLOG0, rule R282. -/
def RED_EVLOG0 : Nat := 0x900018
/-- RED_EVLOG1, rule R282. -/
def RED_EVLOG1 : Nat := 0x90001C
/-- RED_EVLOG2, rule R282. -/
def RED_EVLOG2 : Nat := 0x900020
/-- RED_EVLOG3, rule R282. -/
def RED_EVLOG3 : Nat := 0x900024
/-- RED_CNT_CTL, rule R282. -/
def RED_CNT_CTL : Nat := 0x900028
/-- RED_SET_CMD, rule R282. -/
def RED_SET_CMD : Nat := 0x900040
/-- RED_SET_CMD_STAT, rule R282. -/
def RED_SET_CMD_STAT : Nat := 0x900044
/-- RED_SET_DATA0-7, rule R282. -/
def RED_SET_DATA (i : Nat) : Nat := 0x900050 + 4 * i
/-- RED_SET_DATA8, rule R282. -/
def RED_SET_DATA8 : Nat := 0x900070
/-- RED_VOL_CMD, rule R282. -/
def RED_VOL_CMD : Nat := 0x900080
/-- RED_VOL_ARG, rule R282. -/
def RED_VOL_ARG : Nat := 0x900084
/-- RED_VOL_STAT, rule R282. -/
def RED_VOL_STAT : Nat := 0x900088
/-- RED_LOST_CMD, rule R282. -/
def RED_LOST_CMD : Nat := 0x900090
/-- RED_LOST_STAT, rule R282. -/
def RED_LOST_STAT : Nat := 0x900094
/-- RED_LOST_DATA0, rule R282. -/
def RED_LOST_DATA0 : Nat := 0x900098
/-- RED_LOST_DATA1, rule R282. -/
def RED_LOST_DATA1 : Nat := 0x90009C
/-- RED_LOST_DATA2, rule R282. -/
def RED_LOST_DATA2 : Nat := 0x9000A0
/-- RED_LOST_DATA3, rule R282. -/
def RED_LOST_DATA3 : Nat := 0x9000A4
/-- RED_SET_CFG, rule R282. -/
def RED_SET_CFG (i : Nat) : Nat := 0x900100 + 0x20 * i
/-- RED_SET_STAT, rule R282. -/
def RED_SET_STAT (i : Nat) : Nat := 0x900104 + 0x20 * i
/-- RED_SET_SLABS, rule R282. -/
def RED_SET_SLABS (i : Nat) : Nat := 0x900108 + 0x20 * i
/-- RED_SET_FREE, rule R282. -/
def RED_SET_FREE (i : Nat) : Nat := 0x90010C + 0x20 * i
/-- RED_SET_REB (64-bit pair), rule R282. -/
def RED_SET_REB (i : Nat) : Nat := 0x900110 + 0x20 * i
/-- RED_SET_PAT (64-bit pair), rule R282. -/
def RED_SET_PAT (i : Nat) : Nat := 0x900118 + 0x20 * i
/-- RED_MEM, rule R282. -/
def RED_MEM (i : Nat) : Nat := 0x900200 + 4 * i
/-- RED_VOL_word0, rule R282. -/
def RED_VOL0 (i : Nat) : Nat := 0x910000 + 8 * i
/-- RED_VOL_word1, rule R282. -/
def RED_VOL1 (i : Nat) : Nat := 0x910004 + 8 * i
/-- CCH_CTL, rule R307. -/
def CCH_CTL : Nat := 0xA00000
/-- CCH_GEOM, rule R307. -/
def CCH_GEOM : Nat := 0xA00004
/-- CCH_LOCK_STAT, rule R307. -/
def CCH_LOCK_STAT : Nat := 0xA00008
/-- CCH_STG_CFG, rule R307. -/
def CCH_STG_CFG : Nat := 0xA0000C
/-- CCH_STG_STAT, rule R307. -/
def CCH_STG_STAT : Nat := 0xA00010
/-- CCH_CNT_CTL, rule R307. -/
def CCH_CNT_CTL : Nat := 0xA00014
/-- CCH_MNT_CMD, rule R307. -/
def CCH_MNT_CMD : Nat := 0xA00020
/-- CCH_MNT_ARG0, rule R307. -/
def CCH_MNT_ARG0 : Nat := 0xA00024
/-- CCH_MNT_ARG1, rule R307. -/
def CCH_MNT_ARG1 : Nat := 0xA00028
/-- CCH_MNT_ARG2, rule R307. -/
def CCH_MNT_ARG2 : Nat := 0xA0002C
/-- CCH_MNT_STAT, rule R307. -/
def CCH_MNT_STAT : Nat := 0xA00030
/-- CCH_MNT_DONE0, rule R307. -/
def CCH_MNT_DONE0 : Nat := 0xA00034
/-- CCH_MNT_DONE1, rule R307. -/
def CCH_MNT_DONE1 : Nat := 0xA00038
/-- CCH_MNT_DONE2, rule R307. -/
def CCH_MNT_DONE2 : Nat := 0xA0003C
/-- CCH_REG_CFG, rule R307. -/
def CCH_REG_CFG (i : Nat) : Nat := 0xA00100 + 0x10 * i
/-- CCH_REG_START, rule R307. -/
def CCH_REG_START (i : Nat) : Nat := 0xA00104 + 0x10 * i
/-- CCH_REG_END, rule R307. -/
def CCH_REG_END (i : Nat) : Nat := 0xA00108 + 0x10 * i
/-- CIP_CTL, rule R328. -/
def CIP_CTL : Nat := 0xB00000
/-- CIP_STAT, rule R328. -/
def CIP_STAT : Nat := 0xB00004
/-- CIP_LIMIT (64-bit pair), rule R328. -/
def CIP_LIMIT : Nat := 0xB00008
/-- CIP_KEK, rule R328. -/
def CIP_KEK : Nat := 0xB00010
/-- CIP_HWM_REQ, rule R328. -/
def CIP_HWM_REQ : Nat := 0xB00014
/-- CIP_HWM_ACK, rule R328. -/
def CIP_HWM_ACK : Nat := 0xB00018
/-- CIP_CNT_CTL, rule R328. -/
def CIP_CNT_CTL : Nat := 0xB0001C
/-- CIP_KS_RDCMD, rule R328. -/
def CIP_KS_RDCMD : Nat := 0xB00020
/-- CIP_KS_RESULT, rule R328. -/
def CIP_KS_RESULT : Nat := 0xB00024
/-- CIP_KS_CTR (64-bit pair), rule R328. -/
def CIP_KS_CTR : Nat := 0xB00028
/-- CIP_KS_HWM (64-bit pair), rule R328. -/
def CIP_KS_HWM : Nat := 0xB00030
/-- CIP_KS_SALT, rule R328. -/
def CIP_KS_SALT : Nat := 0xB00038
/-- CIP_PIPE_STAT, rule R328. -/
def CIP_PIPE_STAT (i : Nat) : Nat := 0xB00100 + 4 * i
/-- CIP_KS_STAT, rule R328. -/
def CIP_KS_STAT (i : Nat) : Nat := 0xB10000 + 4 * i
/-- CIP_VOL_KEY, rule R328. -/
def CIP_VOL_KEY (i : Nat) : Nat := 0xB20000 + 4 * i
/-- NZL_CTL, rule R371. -/
def NZL_CTL : Nat := 0xC00000
/-- NZL_TIMING, rule R371. -/
def NZL_TIMING : Nat := 0xC00004
/-- NZL_STAT, rule R371. -/
def NZL_STAT : Nat := 0xC00008
/-- NZL_CLAIM, rule R371. -/
def NZL_CLAIM : Nat := 0xC0000C
/-- NZL_CLAIM_STAT, rule R371. -/
def NZL_CLAIM_STAT : Nat := 0xC00010
/-- NZL_PEER, rule R371. -/
def NZL_PEER : Nat := 0xC00014
/-- NZL_RESYNC, rule R371. -/
def NZL_RESYNC : Nat := 0xC00018
/-- NZL_SWAP_LEFT, rule R371. -/
def NZL_SWAP_LEFT : Nat := 0xC0001C
/-- NZL_CNT_CTL, rule R371. -/
def NZL_CNT_CTL : Nat := 0xC00020
/-- NZL_GRP_STAT, rule R371. -/
def NZL_GRP_STAT (i : Nat) : Nat := 0xC00040 + 4 * i
/-- SLP_CTL, rule R437. -/
def SLP_CTL : Nat := 0xD00000
/-- SLP_SENSE, rule R437. -/
def SLP_SENSE : Nat := 0xD00004
/-- SLP_PF_CFG, rule R437. -/
def SLP_PF_CFG : Nat := 0xD00008
/-- SLP_STAT, rule R437. -/
def SLP_STAT : Nat := 0xD0000C
/-- SLP_SMB_CFG, rule R437. -/
def SLP_SMB_CFG : Nat := 0xD00010
/-- SLP_LOCATE_L, rule R437. -/
def SLP_LOCATE_L : Nat := 0xD00014
/-- SLP_LOCATE_H, rule R437. -/
def SLP_LOCATE_H : Nat := 0xD00018
/-- SLP_PRES_L, rule R437. -/
def SLP_PRES_L : Nat := 0xD0001C
/-- SLP_PRES_H, rule R437. -/
def SLP_PRES_H : Nat := 0xD00020
/-- SLP_CNT_CTL, rule R437. -/
def SLP_CNT_CTL : Nat := 0xD00024
/-- SLP_CH_CFG, rule R437. -/
def SLP_CH_CFG (i : Nat) : Nat := 0xD00100 + 0x10 * i
/-- SLP_CH_PG, rule R437. -/
def SLP_CH_PG (i : Nat) : Nat := 0xD00104 + 0x10 * i
/-- SLP_CH_STAT, rule R437. -/
def SLP_CH_STAT (i : Nat) : Nat := 0xD00108 + 0x10 * i
/-- SLP_CH_MEAS, rule R437. -/
def SLP_CH_MEAS (i : Nat) : Nat := 0xD0010C + 0x10 * i
/-- SLP_FD_CFG, rule R437. -/
def SLP_FD_CFG (i : Nat) : Nat := 0xD00400 + 0x10 * i
/-- SLP_FD_STAT, rule R437. -/
def SLP_FD_STAT (i : Nat) : Nat := 0xD00404 + 0x10 * i
/-- SLP_FD_MEAS, rule R437. -/
def SLP_FD_MEAS (i : Nat) : Nat := 0xD00408 + 0x10 * i
/-- SLP_FD_VBUS, rule R437. -/
def SLP_FD_VBUS (i : Nat) : Nat := 0xD0040C + 0x10 * i
/-- MON_CTL, rule R451. -/
def MON_CTL : Nat := 0xE00000
/-- MON_BW_CFG, rule R451. -/
def MON_BW_CFG : Nat := 0xE00004
/-- MON_BW_SEQ, rule R451. -/
def MON_BW_SEQ : Nat := 0xE00008
/-- MON_SRAM_LAST, rule R451. -/
def MON_SRAM_LAST : Nat := 0xE0000C
/-- MON_HEALTH_EN, rule R451. -/
def MON_HEALTH_EN : Nat := 0xE00010
/-- MON_HEALTH_STAT, rule R451. -/
def MON_HEALTH_STAT : Nat := 0xE00014
/-- MON_HEALTH_WIN, rule R451. -/
def MON_HEALTH_WIN : Nat := 0xE00018
/-- MON_HEALTH_CNT (64-bit pair), rule R451. -/
def MON_HEALTH_CNT (i : Nat) : Nat := 0xE00100 + 8 * i
/-- MON_HSLOT_CFG, rule R451. -/
def MON_HSLOT_CFG (i : Nat) : Nat := 0xE00200 + 8 * i
/-- MON_HSLOT_CNT, rule R451. -/
def MON_HSLOT_CNT (i : Nat) : Nat := 0xE00204 + 8 * i
/-- MON_BW_RX (64-bit pair), rule R451. -/
def MON_BW_RX (i : Nat) : Nat := 0xE01000 + 0x10 * i
/-- MON_BW_TX (64-bit pair), rule R451. -/
def MON_BW_TX (i : Nat) : Nat := 0xE01008 + 0x10 * i
/-- MON_GRP_CTL, rule R451. -/
def MON_GRP_CTL (i : Nat) : Nat := 0xE10000 + 0x80 * i
/-- MON_GRP_STAT, rule R451. -/
def MON_GRP_STAT (i : Nat) : Nat := 0xE10004 + 0x80 * i
/-- MON_GRP_CYC (64-bit pair), rule R451. -/
def MON_GRP_CYC (i : Nat) : Nat := 0xE10008 + 0x80 * i
/-- MON_PC_SEL, rule R451. -/
def MON_PC_SEL (i j : Nat) : Nat := 0xE10010 + 0x80 * i + 4 * j
/-- MON_PC (64-bit pair), rule R451. -/
def MON_PC (i j : Nat) : Nat := 0xE10040 + 0x80 * i + 8 * j
/-- DMC_CFG, rule R309. -/
def DMC_CFG : Nat := 0xF00000
/-- DMC_INFO, rule R309. -/
def DMC_INFO : Nat := 0xF00004
/-- DMC_PART_STAT, rule R309. -/
def DMC_PART_STAT : Nat := 0xF00008
/-- DMC_SCRUB, rule R309. -/
def DMC_SCRUB : Nat := 0xF0000C
/-- DMC_UE_LAST, rule R309. -/
def DMC_UE_LAST : Nat := 0xF00010
/-- DMC_CNT_CTL, rule R309. -/
def DMC_CNT_CTL : Nat := 0xF00014
/-- DMC_CH_CE (64-bit pair), rule R309. -/
def DMC_CH_CE (i : Nat) : Nat := 0xF00100 + 0x10 * i
/-- DMC_CH_UE (64-bit pair), rule R309. -/
def DMC_CH_UE (i : Nat) : Nat := 0xF00108 + 0x10 * i
/-- ADM_CTL, rule R397. -/
def ADM_CTL : Nat := 0x10001000
/-- ADM_STAT, rule R397. -/
def ADM_STAT : Nat := 0x10001004
/-- ASQ_BASE (64-bit pair), rule R397. -/
def ASQ_BASE : Nat := 0x10001008
/-- ACQ_BASE (64-bit pair), rule R397. -/
def ACQ_BASE : Nat := 0x10001010
/-- ADB_ADDR (64-bit pair), rule R397. -/
def ADB_ADDR : Nat := 0x10001018
/-- 64-bit counter RX_FRAMES of NET, R85. -/
def CNT_NET_RX_FRAMES (i : Nat) : Nat := 0x100100 + 0x1000 * i
/-- 64-bit counter RX_BYTES of NET, R85. -/
def CNT_NET_RX_BYTES (i : Nat) : Nat := 0x100108 + 0x1000 * i
/-- 64-bit counter TX_FRAMES of NET, R85. -/
def CNT_NET_TX_FRAMES (i : Nat) : Nat := 0x100110 + 0x1000 * i
/-- 64-bit counter TX_BYTES of NET, R85. -/
def CNT_NET_TX_BYTES (i : Nat) : Nat := 0x100118 + 0x1000 * i
/-- 64-bit counter RX_FCS_ERR of NET, R85. -/
def CNT_NET_RX_FCS_ERR (i : Nat) : Nat := 0x100120 + 0x1000 * i
/-- 64-bit counter RX_LEN_ERR of NET, R85. -/
def CNT_NET_RX_LEN_ERR (i : Nat) : Nat := 0x100128 + 0x1000 * i
/-- 64-bit counter FEC_CORR of NET, R85. -/
def CNT_NET_FEC_CORR (i : Nat) : Nat := 0x100130 + 0x1000 * i
/-- 64-bit counter FEC_UNCORR of NET, R85. -/
def CNT_NET_FEC_UNCORR (i : Nat) : Nat := 0x100138 + 0x1000 * i
/-- 64-bit counter PAUSE_RX of NET, R85. -/
def CNT_NET_PAUSE_RX (i : Nat) : Nat := 0x100140 + 0x1000 * i
/-- 64-bit counter PAUSE_TX of NET, R85. -/
def CNT_NET_PAUSE_TX (i : Nat) : Nat := 0x100148 + 0x1000 * i
/-- 64-bit counter LINK_DOWN of NET, R85. -/
def CNT_NET_LINK_DOWN (i : Nat) : Nat := 0x100150 + 0x1000 * i
/-- 64-bit counter LINK_GLITCH of NET, R85. -/
def CNT_NET_LINK_GLITCH (i : Nat) : Nat := 0x100158 + 0x1000 * i
/-- 64-bit counter PRIV_DROP of NET, R85. -/
def CNT_NET_PRIV_DROP (i : Nat) : Nat := 0x100160 + 0x1000 * i
/-- 64-bit counter VLAN_DROP of NET, R85. -/
def CNT_NET_VLAN_DROP (i : Nat) : Nat := 0x100168 + 0x1000 * i
/-- 64-bit counter TX_FLUSH of NET, R85. -/
def CNT_NET_TX_FLUSH (i : Nat) : Nat := 0x100170 + 0x1000 * i
/-- 64-bit counter TS_LOST of NET, R85. -/
def CNT_NET_TS_LOST (i : Nat) : Nat := 0x100178 + 0x1000 * i
/-- 64-bit counter PARSED of CLS, R116. -/
def CNT_CLS_PARSED : Nat := 0x200300
/-- 64-bit counter SLOW_SENT of CLS, R116. -/
def CNT_CLS_SLOW_SENT : Nat := 0x200308
/-- 64-bit counter SLOW_DROP of CLS, R116. -/
def CNT_CLS_SLOW_DROP : Nat := 0x200310
/-- 64-bit counter MISS of CLS, R116. -/
def CNT_CLS_MISS : Nat := 0x200318
/-- 64-bit counter FRAGMENT of CLS, R116. -/
def CNT_CLS_FRAGMENT : Nat := 0x200320
/-- 64-bit counter ETHERTYPE of CLS, R116. -/
def CNT_CLS_ETHERTYPE : Nat := 0x200328
/-- 64-bit counter OPTIONS of CLS, R116. -/
def CNT_CLS_OPTIONS : Nat := 0x200330
/-- 64-bit counter PARSE_FAIL of CLS, R116. -/
def CNT_CLS_PARSE_FAIL : Nat := 0x200338
/-- 64-bit counter HDR_LONG of CLS, R116. -/
def CNT_CLS_HDR_LONG : Nat := 0x200340
/-- 64-bit counter THIRD_TAG of CLS, R116. -/
def CNT_CLS_THIRD_TAG : Nat := 0x200348
/-- 64-bit counter UNSUP_TRANSPORT of CLS, R116. -/
def CNT_CLS_UNSUP_TRANSPORT : Nat := 0x200350
/-- 64-bit counter IP_CSUM of CLS, R116. -/
def CNT_CLS_IP_CSUM : Nat := 0x200358
/-- 64-bit counter RECIRC_LIMIT of CLS, R116. -/
def CNT_CLS_RECIRC_LIMIT : Nat := 0x200360
/-- 64-bit counter BAD_ACTION of CLS, R116. -/
def CNT_CLS_BAD_ACTION : Nat := 0x200368
/-- 64-bit counter MATCH_CE of CLS, R116. -/
def CNT_CLS_MATCH_CE : Nat := 0x200370
/-- 64-bit counter MATCH_UE of CLS, R116. -/
def CNT_CLS_MATCH_UE : Nat := 0x200378
/-- 64-bit counter MATCH_ECC of CLS, R116. -/
def CNT_CLS_MATCH_ECC : Nat := 0x200380
/-- 64-bit counter INVALID_DEST of SWC, R117. -/
def CNT_SWC_INVALID_DEST : Nat := 0x300100
/-- 64-bit counter OVF_FULL of SWC, R117. -/
def CNT_SWC_OVF_FULL : Nat := 0x300108
/-- 64-bit counter DESC_CE of SWC, R117. -/
def CNT_SWC_DESC_CE : Nat := 0x300110
/-- 64-bit counter ENQ_PKTS of SWC_Q, R118. -/
def CNT_SWC_Q_ENQ_PKTS (i : Nat) : Nat := 0x340000 + 0x40 * i
/-- 64-bit counter ENQ_CELLS of SWC_Q, R118. -/
def CNT_SWC_Q_ENQ_CELLS (i : Nat) : Nat := 0x340008 + 0x40 * i
/-- 64-bit counter TAIL_DROP of SWC_Q, R118. -/
def CNT_SWC_Q_TAIL_DROP (i : Nat) : Nat := 0x340010 + 0x40 * i
/-- 64-bit counter WRED_DROP of SWC_Q, R118. -/
def CNT_SWC_Q_WRED_DROP (i : Nat) : Nat := 0x340018 + 0x40 * i
/-- 64-bit counter ECN_MARK of SWC_Q, R118. -/
def CNT_SWC_Q_ECN_MARK (i : Nat) : Nat := 0x340020 + 0x40 * i
/-- 64-bit counter OVF_PKTS of SWC_Q, R118. -/
def CNT_SWC_Q_OVF_PKTS (i : Nat) : Nat := 0x340028 + 0x40 * i
/-- 64-bit counter HORIZON_FB of EGS, R133. -/
def CNT_EGS_HORIZON_FB : Nat := 0x400100
/-- 64-bit counter WHEEL_FULL of EGS, R133. -/
def CNT_EGS_WHEEL_FULL : Nat := 0x400108
/-- 64-bit counter GATE_OVERSIZE of EGS, R133. -/
def CNT_EGS_GATE_OVERSIZE : Nat := 0x400110
/-- 64-bit counter GATE_SWITCH of EGS, R133. -/
def CNT_EGS_GATE_SWITCH : Nat := 0x400118
/-- 64-bit counter RX_PKTS of RDM, R168. -/
def CNT_RDM_RX_PKTS : Nat := 0x500300
/-- 64-bit counter ICRC_ERR of RDM, R168. -/
def CNT_RDM_ICRC_ERR : Nat := 0x500308
/-- 64-bit counter BAD_QP of RDM, R168. -/
def CNT_RDM_BAD_QP : Nat := 0x500310
/-- 64-bit counter OOO_PLACED of RDM, R168. -/
def CNT_RDM_OOO_PLACED : Nat := 0x500318
/-- 64-bit counter OOO_BEYOND of RDM, R168. -/
def CNT_RDM_OOO_BEYOND : Nat := 0x500320
/-- 64-bit counter OOO_NO_TRACKER of RDM, R168. -/
def CNT_RDM_OOO_NO_TRACKER : Nat := 0x500328
/-- 64-bit counter DUP_REQ of RDM, R168. -/
def CNT_RDM_DUP_REQ : Nat := 0x500330
/-- 64-bit counter DUP_READ_LOST of RDM, R168. -/
def CNT_RDM_DUP_READ_LOST : Nat := 0x500338
/-- 64-bit counter DUP_RESP of RDM, R168. -/
def CNT_RDM_DUP_RESP : Nat := 0x500340
/-- 64-bit counter BAD_ACK of RDM, R168. -/
def CNT_RDM_BAD_ACK : Nat := 0x500348
/-- 64-bit counter NAK_SEQ_TX of RDM, R168. -/
def CNT_RDM_NAK_SEQ_TX : Nat := 0x500350
/-- 64-bit counter NAK_RNR_TX of RDM, R168. -/
def CNT_RDM_NAK_RNR_TX : Nat := 0x500358
/-- 64-bit counter NAK_INV_TX of RDM, R168. -/
def CNT_RDM_NAK_INV_TX : Nat := 0x500360
/-- 64-bit counter NAK_ACC_TX of RDM, R168. -/
def CNT_RDM_NAK_ACC_TX : Nat := 0x500368
/-- 64-bit counter NAK_OP_TX of RDM, R168. -/
def CNT_RDM_NAK_OP_TX : Nat := 0x500370
/-- 64-bit counter NAK_RX of RDM, R168. -/
def CNT_RDM_NAK_RX : Nat := 0x500378
/-- 64-bit counter TIMEOUTS of RDM, R168. -/
def CNT_RDM_TIMEOUTS : Nat := 0x500380
/-- 64-bit counter RETRANSMITS of RDM, R168. -/
def CNT_RDM_RETRANSMITS : Nat := 0x500388
/-- 64-bit counter QP_ERR of RDM, R168. -/
def CNT_RDM_QP_ERR : Nat := 0x500390
/-- 64-bit counter CNP_RX of RDM, R168. -/
def CNT_RDM_CNP_RX : Nat := 0x500398
/-- 64-bit counter CNP_TX of RDM, R168. -/
def CNT_RDM_CNP_TX : Nat := 0x5003A0
/-- 64-bit counter WIN_STALL of RDM, R168. -/
def CNT_RDM_WIN_STALL : Nat := 0x5003A8
/-- 64-bit counter WIN_STALL_DROP of RDM, R168. -/
def CNT_RDM_WIN_STALL_DROP : Nat := 0x5003B0
/-- 64-bit counter WIN_DROP of RDM, R168. -/
def CNT_RDM_WIN_DROP : Nat := 0x5003B8
/-- 64-bit counter WIN_REVOKE_NAK of RDM, R168. -/
def CNT_RDM_WIN_REVOKE_NAK : Nat := 0x5003C0
/-- 64-bit counter NAK_DISCARD of RDM, R168. -/
def CNT_RDM_NAK_DISCARD : Nat := 0x5003C8
/-- 64-bit counter CAPSULES of CMDQ, R198. -/
def CNT_CMDQ_CAPSULES : Nat := 0x600300
/-- 64-bit counter RING_ENTRIES of CMDQ, R198. -/
def CNT_CMDQ_RING_ENTRIES : Nat := 0x600308
/-- 64-bit counter DB_READS of CMDQ, R198. -/
def CNT_CMDQ_DB_READS : Nat := 0x600310
/-- 64-bit counter DB_BAD of CMDQ, R198. -/
def CNT_CMDQ_DB_BAD : Nat := 0x600318
/-- 64-bit counter DB_EPOCH of CMDQ, R198. -/
def CNT_CMDQ_DB_EPOCH : Nat := 0x600320
/-- 64-bit counter POLL_LATE of CMDQ, R198. -/
def CNT_CMDQ_POLL_LATE : Nat := 0x600328
/-- 64-bit counter NUDGES of CMDQ, R198. -/
def CNT_CMDQ_NUDGES : Nat := 0x600330
/-- 64-bit counter NUDGE_BAD of CMDQ, R198. -/
def CNT_CMDQ_NUDGE_BAD : Nat := 0x600338
/-- 64-bit counter NUDGE_OVF of CMDQ, R198. -/
def CNT_CMDQ_NUDGE_OVF : Nat := 0x600340
/-- 64-bit counter CQE_POSTED of CMDQ, R198. -/
def CNT_CMDQ_CQE_POSTED : Nat := 0x600348
/-- 64-bit counter CID_CONFLICT of CMDQ, R198. -/
def CNT_CMDQ_CID_CONFLICT : Nat := 0x600350
/-- 64-bit counter ABORT_DONE of CMDQ, R198. -/
def CNT_CMDQ_ABORT_DONE : Nat := 0x600358
/-- 64-bit counter ABORT_MISSED of CMDQ, R198. -/
def CNT_CMDQ_ABORT_MISSED : Nat := 0x600360
/-- 64-bit counter LOCK_STALLS of CMDQ, R198. -/
def CNT_CMDQ_LOCK_STALLS : Nat := 0x600368
/-- 64-bit counter DEFER_TIMEOUT of CMDQ, R198. -/
def CNT_CMDQ_DEFER_TIMEOUT : Nat := 0x600370
/-- 64-bit counter ANA_REFUSED of CMDQ, R198. -/
def CNT_CMDQ_ANA_REFUSED : Nat := 0x600378
/-- 64-bit counter KA_EXPIRED of CMDQ, R198. -/
def CNT_CMDQ_KA_EXPIRED : Nat := 0x600380
/-- 64-bit counter ASSOC_RESET of CMDQ, R198. -/
def CNT_CMDQ_ASSOC_RESET : Nat := 0x600388
/-- 64-bit counter RESET_ENDED of CMDQ, R198. -/
def CNT_CMDQ_RESET_ENDED : Nat := 0x600390
/-- 64-bit counter STEAL_LOCAL of ENG, R223. -/
def CNT_ENG_STEAL_LOCAL : Nat := 0x700300
/-- 64-bit counter STEAL_REMOTE of ENG, R223. -/
def CNT_ENG_STEAL_REMOTE : Nat := 0x700308
/-- 64-bit counter PROBE_FAIL of ENG, R223. -/
def CNT_ENG_PROBE_FAIL : Nat := 0x700310
/-- 64-bit counter LOCK_WAIT of ENG, R223. -/
def CNT_ENG_LOCK_WAIT : Nat := 0x700318
/-- 64-bit counter LOCK_REMOTE_OPS of ENG, R223. -/
def CNT_ENG_LOCK_REMOTE_OPS : Nat := 0x700320
/-- 64-bit counter LOCK_FULL of ENG, R223. -/
def CNT_ENG_LOCK_FULL : Nat := 0x700328
/-- 64-bit counter HORIZON_HOLD of ENG, R223. -/
def CNT_ENG_HORIZON_HOLD : Nat := 0x700330
/-- 64-bit counter SEGMENTS of ENG, R223. -/
def CNT_ENG_SEGMENTS : Nat := 0x700338
/-- 64-bit counter BARRIERS of ENG, R223. -/
def CNT_ENG_BARRIERS : Nat := 0x700340
/-- 64-bit counter SNAPSHOTS of ENG, R223. -/
def CNT_ENG_SNAPSHOTS : Nat := 0x700348
/-- 64-bit counter ENG_RESTART of ENG, R223. -/
def CNT_ENG_ENG_RESTART : Nat := 0x700350
/-- 64-bit counter ENG_RETIRED of ENG, R223. -/
def CNT_ENG_ENG_RETIRED : Nat := 0x700358
/-- 64-bit counter TIMEOUTS of DPT, R247. -/
def CNT_DPT_TIMEOUTS : Nat := 0x800300
/-- 64-bit counter ABORTS_SENT of DPT, R247. -/
def CNT_DPT_ABORTS_SENT : Nat := 0x800308
/-- 64-bit counter ABORT_HITS of DPT, R247. -/
def CNT_DPT_ABORT_HITS : Nat := 0x800310
/-- 64-bit counter CTRL_RESETS of DPT, R247. -/
def CNT_DPT_CTRL_RESETS : Nat := 0x800318
/-- 64-bit counter MEMBERS_FAILED of DPT, R247. -/
def CNT_DPT_MEMBERS_FAILED : Nat := 0x800320
/-- 64-bit counter REMOVALS of DPT, R247. -/
def CNT_DPT_REMOVALS : Nat := 0x800328
/-- 64-bit counter DPC_EVENTS of DPT, R247. -/
def CNT_DPT_DPC_EVENTS : Nat := 0x800330
/-- 64-bit counter DMA_FAULT of DPT, R247. -/
def CNT_DPT_DMA_FAULT : Nat := 0x800338
/-- 64-bit counter LATE_CQE of DPT, R247. -/
def CNT_DPT_LATE_CQE : Nat := 0x800340
/-- 64-bit counter MEDIA_ERR of DPT, R247. -/
def CNT_DPT_MEDIA_ERR : Nat := 0x800348
/-- 64-bit counter QUAL_FAIL of DPT, R247. -/
def CNT_DPT_QUAL_FAIL : Nat := 0x800350
/-- 64-bit counter LINK_DEGRADE of DPT, R247. -/
def CNT_DPT_LINK_DEGRADE : Nat := 0x800358
/-- 64-bit counter POOL_WAIT of DPT, R247. -/
def CNT_DPT_POOL_WAIT : Nat := 0x800360
/-- 64-bit counter READ_RECON of RED, R285. -/
def CNT_RED_READ_RECON : Nat := 0x900400
/-- 64-bit counter READ_REPAIR of RED, R285. -/
def CNT_RED_READ_REPAIR : Nat := 0x900408
/-- 64-bit counter FULL_STRIPE of RED, R285. -/
def CNT_RED_FULL_STRIPE : Nat := 0x900410
/-- 64-bit counter RMW of RED, R285. -/
def CNT_RED_RMW : Nat := 0x900418
/-- 64-bit counter RCW of RED, R285. -/
def CNT_RED_RCW : Nat := 0x900420
/-- 64-bit counter JRN_WAIT of RED, R285. -/
def CNT_RED_JRN_WAIT : Nat := 0x900428
/-- 64-bit counter INTENT_SHORT of RED, R285. -/
def CNT_RED_INTENT_SHORT : Nat := 0x900430
/-- 64-bit counter INTENT_REREP of RED, R285. -/
def CNT_RED_INTENT_REREP : Nat := 0x900438
/-- 64-bit counter RESYNC of RED, R285. -/
def CNT_RED_RESYNC : Nat := 0x900440
/-- 64-bit counter REBUILD_STRIPES of RED, R285. -/
def CNT_RED_REBUILD_STRIPES : Nat := 0x900448
/-- 64-bit counter REBUILD_BYTES of RED, R285. -/
def CNT_RED_REBUILD_BYTES : Nat := 0x900450
/-- 64-bit counter FLOOR_SKIP of RED, R285. -/
def CNT_RED_FLOOR_SKIP : Nat := 0x900458
/-- 64-bit counter SPARE_EXHAUSTED of RED, R285. -/
def CNT_RED_SPARE_EXHAUSTED : Nat := 0x900460
/-- 64-bit counter RANGE_LOST of RED, R285. -/
def CNT_RED_RANGE_LOST : Nat := 0x900468
/-- 64-bit counter LOST_OVF of RED, R285. -/
def CNT_RED_LOST_OVF : Nat := 0x900470
/-- 64-bit counter PATROL_STRIPES of RED, R285. -/
def CNT_RED_PATROL_STRIPES : Nat := 0x900478
/-- 64-bit counter PATROL_REPAIR of RED, R285. -/
def CNT_RED_PATROL_REPAIR : Nat := 0x900480
/-- 64-bit counter PARITY_REWRITE of RED, R285. -/
def CNT_RED_PARITY_REWRITE : Nat := 0x900488
/-- 64-bit counter UNLOCATED of RED, R285. -/
def CNT_RED_UNLOCATED : Nat := 0x900490
/-- 64-bit counter MIRROR_DIVERGE of RED, R285. -/
def CNT_RED_MIRROR_DIVERGE : Nat := 0x900498
/-- 64-bit counter STALE_RETURN of RED, R285. -/
def CNT_RED_STALE_RETURN : Nat := 0x9004A0
/-- 64-bit counter CAP_FULL of RED, R285. -/
def CNT_RED_CAP_FULL : Nat := 0x9004A8
/-- 64-bit counter COW_STRIPES of RED, R285. -/
def CNT_RED_COW_STRIPES : Nat := 0x9004B0
/-- 64-bit counter HIT of CCH, R308. -/
def CNT_CCH_HIT : Nat := 0xA00800
/-- 64-bit counter PARTIAL of CCH, R308. -/
def CNT_CCH_PARTIAL : Nat := 0xA00808
/-- 64-bit counter MISS of CCH, R308. -/
def CNT_CCH_MISS : Nat := 0xA00810
/-- 64-bit counter FALSE_MATCH of CCH, R308. -/
def CNT_CCH_FALSE_MATCH : Nat := 0xA00818
/-- 64-bit counter EVB_HIT of CCH, R308. -/
def CNT_CCH_EVB_HIT : Nat := 0xA00820
/-- 64-bit counter SIDE_HIT of CCH, R308. -/
def CNT_CCH_SIDE_HIT : Nat := 0xA00828
/-- 64-bit counter PF_ISSUED of CCH, R308. -/
def CNT_CCH_PF_ISSUED : Nat := 0xA00830
/-- 64-bit counter PF_UNUSED of CCH, R308. -/
def CNT_CCH_PF_UNUSED : Nat := 0xA00838
/-- 64-bit counter FILL_INSTALLED of CCH, R308. -/
def CNT_CCH_FILL_INSTALLED : Nat := 0xA00840
/-- 64-bit counter FILL_CANCEL of CCH, R308. -/
def CNT_CCH_FILL_CANCEL : Nat := 0xA00848
/-- 64-bit counter FILL_STALE of CCH, R308. -/
def CNT_CCH_FILL_STALE : Nat := 0xA00850
/-- 64-bit counter INSTALL_SKIP of CCH, R308. -/
def CNT_CCH_INSTALL_SKIP : Nat := 0xA00858
/-- 64-bit counter EVICT_COPY of CCH, R308. -/
def CNT_CCH_EVICT_COPY : Nat := 0xA00860
/-- 64-bit counter TAG_PE of CCH, R308. -/
def CNT_CCH_TAG_PE : Nat := 0xA00868
/-- 64-bit counter CACHE_UE of CCH, R308. -/
def CNT_CCH_CACHE_UE : Nat := 0xA00870
/-- 64-bit counter HIT_AUTH_FAIL of CCH, R308. -/
def CNT_CCH_HIT_AUTH_FAIL : Nat := 0xA00878
/-- 64-bit counter LOCKS_BROKEN of CCH, R308. -/
def CNT_CCH_LOCKS_BROKEN : Nat := 0xA00880
/-- 64-bit counter STG_WAIT of CCH, R308. -/
def CNT_CCH_STG_WAIT : Nat := 0xA00888
/-- 64-bit counter STG_UE of CCH, R308. -/
def CNT_CCH_STG_UE : Nat := 0xA00890
/-- 64-bit counter MNT_OPS of CCH, R308. -/
def CNT_CCH_MNT_OPS : Nat := 0xA00898
/-- 64-bit counter ENC_SECTORS of CIP, R329. -/
def CNT_CIP_ENC_SECTORS : Nat := 0xB00200
/-- 64-bit counter DEC_SECTORS of CIP, R329. -/
def CNT_CIP_DEC_SECTORS : Nat := 0xB00208
/-- 64-bit counter AUTH_FAIL of CIP, R329. -/
def CNT_CIP_AUTH_FAIL : Nat := 0xB00210
/-- 64-bit counter KEY_ABSENT of CIP, R329. -/
def CNT_CIP_KEY_ABSENT : Nat := 0xB00218
/-- 64-bit counter LEN_REJECT of CIP, R329. -/
def CNT_CIP_LEN_REJECT : Nat := 0xB00220
/-- 64-bit counter EXH_REFUSE of CIP, R329. -/
def CNT_CIP_EXH_REFUSE : Nat := 0xB00228
/-- 64-bit counter NO_KEY of CIP, R329. -/
def CNT_CIP_NO_KEY : Nat := 0xB00230
/-- 64-bit counter CTR_WAIT of CIP, R329. -/
def CNT_CIP_CTR_WAIT : Nat := 0xB00238
/-- 64-bit counter ZERO_WAIT of CIP, R329. -/
def CNT_CIP_ZERO_WAIT : Nat := 0xB00240
/-- 64-bit counter HWM_REQUESTS of CIP, R329. -/
def CNT_CIP_HWM_REQUESTS : Nat := 0xB00248
/-- 64-bit counter KEY_SWITCH of CIP, R329. -/
def CNT_CIP_KEY_SWITCH : Nat := 0xB00250
/-- 64-bit counter KAT_FAIL of CIP, R329. -/
def CNT_CIP_KAT_FAIL : Nat := 0xB00258
/-- 64-bit counter INTERVALS of GOV, R348. -/
def CNT_GOV_INTERVALS : Nat := 0x10400
/-- 64-bit counter CLAMPED of GOV, R348. -/
def CNT_GOV_CLAMPED : Nat := 0x10408
/-- 64-bit counter THERM_LIMITED of GOV, R348. -/
def CNT_GOV_THERM_LIMITED : Nat := 0x10410
/-- 64-bit counter EMERG_INTERVALS of GOV, R348. -/
def CNT_GOV_EMERG_INTERVALS : Nat := 0x10418
/-- 64-bit counter DEFER_HOST of GOV, R348. -/
def CNT_GOV_DEFER_HOST : Nat := 0x10420
/-- 64-bit counter DEFER_BG of GOV, R348. -/
def CNT_GOV_DEFER_BG : Nat := 0x10428
/-- 64-bit counter DEFER_EXPIRED of GOV, R348. -/
def CNT_GOV_DEFER_EXPIRED : Nat := 0x10430
/-- 64-bit counter FEED_TRIM of GOV, R348. -/
def CNT_GOV_FEED_TRIM : Nat := 0x10438
/-- 64-bit counter WAKE_CG of GOV, R348. -/
def CNT_GOV_WAKE_CG : Nat := 0x10440
/-- 64-bit counter WAKE_PG of GOV, R348. -/
def CNT_GOV_WAKE_PG : Nat := 0x10448
/-- 64-bit counter PREWAKES of GOV, R348. -/
def CNT_GOV_PREWAKES : Nat := 0x10450
/-- 64-bit counter DRV_LOW of GOV, R348. -/
def CNT_GOV_DRV_LOW : Nat := 0x10458
/-- 64-bit counter SENSOR_FAULT of GOV, R348. -/
def CNT_GOV_SENSOR_FAULT : Nat := 0x10460
/-- 64-bit counter TX_FRAMES of NZL, R372. -/
def CNT_NZL_TX_FRAMES : Nat := 0xC00100
/-- 64-bit counter RX_FRAMES of NZL, R372. -/
def CNT_NZL_RX_FRAMES : Nat := 0xC00108
/-- 64-bit counter RX_BAD of NZL, R372. -/
def CNT_NZL_RX_BAD : Nat := 0xC00110
/-- 64-bit counter NAK_TX of NZL, R372. -/
def CNT_NZL_NAK_TX : Nat := 0xC00118
/-- 64-bit counter REPLAYS of NZL, R372. -/
def CNT_NZL_REPLAYS : Nat := 0xC00120
/-- 64-bit counter GROUP_DOWN of NZL, R372. -/
def CNT_NZL_GROUP_DOWN : Nat := 0xC00128
/-- 64-bit counter DUP_MSG of NZL, R372. -/
def CNT_NZL_DUP_MSG : Nat := 0xC00130
/-- 64-bit counter PARTNER_LOST of NZL, R372. -/
def CNT_NZL_PARTNER_LOST : Nat := 0xC00138
/-- 64-bit counter TAKEOVERS of NZL, R372. -/
def CNT_NZL_TAKEOVERS : Nat := 0xC00140
/-- 64-bit counter SWAPS of NZL, R372. -/
def CNT_NZL_SWAPS : Nat := 0xC00148
/-- 64-bit counter HANDBACKS of NZL, R372. -/
def CNT_NZL_HANDBACKS : Nat := 0xC00150
/-- 64-bit counter CLAIM_ROUNDS of NZL, R372. -/
def CNT_NZL_CLAIM_ROUNDS : Nat := 0xC00158
/-- 64-bit counter CLAIM_FAULTS of NZL, R372. -/
def CNT_NZL_CLAIM_FAULTS : Nat := 0xC00160
/-- 64-bit counter STAGED of PROT, R390. -/
def CNT_PROT_STAGED : Nat := 0x30100
/-- 64-bit counter CONFIRMED of PROT, R390. -/
def CNT_PROT_CONFIRMED : Nat := 0x30108
/-- 64-bit counter LAPSED of PROT, R390. -/
def CNT_PROT_LAPSED : Nat := 0x30110
/-- 64-bit counter CANCELLED of PROT, R390. -/
def CNT_PROT_CANCELLED : Nat := 0x30118
/-- 64-bit counter REFUSED of PROT, R390. -/
def CNT_PROT_REFUSED : Nat := 0x30120
/-- 64-bit counter DIGEST_FAIL of PROT, R390. -/
def CNT_PROT_DIGEST_FAIL : Nat := 0x30128
/-- 64-bit counter RWC_VIOL of PROT, R390. -/
def CNT_PROT_RWC_VIOL : Nat := 0x30130
/-- 64-bit counter PRIV_REFUSED of PROT, R390. -/
def CNT_PROT_PRIV_REFUSED : Nat := 0x30138
/-- 64-bit counter MALFORMED of HEP, R414. -/
def CNT_HEP_MALFORMED : Nat := 0x40100
/-- 64-bit counter CPL_TIMEOUT of HEP, R414. -/
def CNT_HEP_CPL_TIMEOUT : Nat := 0x40108
/-- 64-bit counter CPL_ERR of HEP, R414. -/
def CNT_HEP_CPL_ERR : Nat := 0x40110
/-- 64-bit counter LATE_CPL of HEP, R414. -/
def CNT_HEP_LATE_CPL : Nat := 0x40118
/-- 64-bit counter TAG_WAIT of HEP, R414. -/
def CNT_HEP_TAG_WAIT : Nat := 0x40120
/-- 64-bit counter BME_ABORTS of HEP, R414. -/
def CNT_HEP_BME_ABORTS : Nat := 0x40128
/-- 64-bit counter FLR_EVENTS of HEP, R414. -/
def CNT_HEP_FLR_EVENTS : Nat := 0x40130
/-- 64-bit counter L0S_ENTRIES of HEP, R414. -/
def CNT_HEP_L0S_ENTRIES : Nat := 0x40138
/-- 64-bit counter L1_ENTRIES of HEP, R414. -/
def CNT_HEP_L1_ENTRIES : Nat := 0x40140
/-- 64-bit counter DIAG_UE of HEP, R414. -/
def CNT_HEP_DIAG_UE : Nat := 0x40148
/-- 64-bit counter MSG_SENT of MBX, R416. -/
def CNT_MBX_MSG_SENT : Nat := 0x20400
/-- 64-bit counter MSG_RECV of MBX, R416. -/
def CNT_MBX_MSG_RECV : Nat := 0x20408
/-- 64-bit counter FAR_DOWN_ERR of MBX, R416. -/
def CNT_MBX_FAR_DOWN_ERR : Nat := 0x20410
/-- 64-bit counter COMPAT_HELD of MBX, R416. -/
def CNT_MBX_COMPAT_HELD : Nat := 0x20418
/-- 64-bit counter OVERRUN of MBX, R416. -/
def CNT_MBX_OVERRUN : Nat := 0x20420
/-- 64-bit counter FAST_TRIP of SLP, R439. -/
def CNT_SLP_FAST_TRIP : Nat := 0xD00500
/-- 64-bit counter TIMER_FAULT of SLP, R439. -/
def CNT_SLP_TIMER_FAULT : Nat := 0xD00508
/-- 64-bit counter GATE_NO_RISE of SLP, R439. -/
def CNT_SLP_GATE_NO_RISE : Nat := 0xD00510
/-- 64-bit counter REVERSE of SLP, R439. -/
def CNT_SLP_REVERSE : Nat := 0xD00518
/-- 64-bit counter SAG_REVERSE of SLP, R439. -/
def CNT_SLP_SAG_REVERSE : Nat := 0xD00520
/-- 64-bit counter RETRIES_RUN of SLP, R439. -/
def CNT_SLP_RETRIES_RUN : Nat := 0xD00528
/-- 64-bit counter LATCHES of SLP, R439. -/
def CNT_SLP_LATCHES : Nat := 0xD00530
/-- 64-bit counter PG_LOSS of SLP, R439. -/
def CNT_SLP_PG_LOSS : Nat := 0xD00538
/-- 64-bit counter REMOVALS_SEEN of SLP, R439. -/
def CNT_SLP_REMOVALS_SEEN : Nat := 0xD00540
/-- 64-bit counter FEED_REVERSE of SLP, R439. -/
def CNT_SLP_FEED_REVERSE : Nat := 0xD00548
/-- 64-bit counter FEED_PCG_FAIL of SLP, R439. -/
def CNT_SLP_FEED_PCG_FAIL : Nat := 0xD00550
/-- 64-bit counter FEED_OV of SLP, R439. -/
def CNT_SLP_FEED_OV : Nat := 0xD00558
/-- 64-bit counter SENSE_OPEN_EV of SLP, R439. -/
def CNT_SLP_SENSE_OPEN_EV : Nat := 0xD00560
/-- 64-bit counter PFAIL_EVENTS of SLP, R439. -/
def CNT_SLP_PFAIL_EVENTS : Nat := 0xD00568
/-- 64-bit counter SMB_STUCK of SLP, R439. -/
def CNT_SLP_SMB_STUCK : Nat := 0xD00570

/-- RO VENDOR[31:20], R3. -/
def SYS_IDREV_VENDOR : Fld := ⟨SYS_IDREV, 20, 12⟩
/-- RO PART[19:8], R3. -/
def SYS_IDREV_PART : Fld := ⟨SYS_IDREV, 8, 12⟩
/-- RO MAJOR[7:4], R3. -/
def SYS_IDREV_MAJOR : Fld := ⟨SYS_IDREV, 4, 4⟩
/-- RO MINOR[3:0], R3. -/
def SYS_IDREV_MINOR : Fld := ⟨SYS_IDREV, 0, 4⟩
/-- RO CUR[2:0], R60. -/
def SYS_MODE_CUR : Fld := ⟨SYS_MODE, 0, 3⟩
/-- RO NIGHT_PEND[3:3], R60. -/
def SYS_MODE_NIGHT_PEND : Fld := ⟨SYS_MODE, 3, 1⟩
/-- RO DEGRADED[4:4], R60. -/
def SYS_MODE_DEGRADED : Fld := ⟨SYS_MODE, 4, 1⟩
/-- RO CLAMP[5:5], R60. -/
def SYS_MODE_CLAMP : Fld := ⟨SYS_MODE, 5, 1⟩
/-- RO PARTNER[6:6], R60. -/
def SYS_MODE_PARTNER : Fld := ⟨SYS_MODE, 6, 1⟩
/-- RO PREV[10:8], R60. -/
def SYS_MODE_PREV : Fld := ⟨SYS_MODE, 8, 3⟩
/-- RO CAUSE[15:12], R60. -/
def SYS_MODE_CAUSE : Fld := ⟨SYS_MODE, 12, 4⟩
/-- W1S NIGHT[0:0], R61. -/
def SYS_MODE_REQ_NIGHT : Fld := ⟨SYS_MODE_REQ, 0, 1⟩
/-- W1S NIGHT_CANCEL[1:1], R61. -/
def SYS_MODE_REQ_NIGHT_CANCEL : Fld := ⟨SYS_MODE_REQ, 1, 1⟩
/-- W1S SWAP[2:2], R61. -/
def SYS_MODE_REQ_SWAP : Fld := ⟨SYS_MODE_REQ, 2, 1⟩
/-- RO RESULT[10:8], R61. -/
def SYS_MODE_REQ_RESULT : Fld := ⟨SYS_MODE_REQ, 8, 3⟩
/-- W1C BOOT_BOTH[0:0], R62. -/
def SYS_MIDNIGHT_CAUSE_BOOT_BOTH : Fld := ⟨SYS_MIDNIGHT_CAUSE, 0, 1⟩
/-- W1C BIST[1:1], R62. -/
def SYS_MIDNIGHT_CAUSE_BIST : Fld := ⟨SYS_MIDNIGHT_CAUSE, 1, 1⟩
/-- W1C SRAM_UE[2:2], R62. -/
def SYS_MIDNIGHT_CAUSE_SRAM_UE : Fld := ⟨SYS_MIDNIGHT_CAUSE, 2, 1⟩
/-- W1C WDOG[3:3], R62. -/
def SYS_MIDNIGHT_CAUSE_WDOG : Fld := ⟨SYS_MIDNIGHT_CAUSE, 3, 1⟩
/-- W1C BOOT_LOOP[4:4], R62. -/
def SYS_MIDNIGHT_CAUSE_BOOT_LOOP : Fld := ⟨SYS_MIDNIGHT_CAUSE, 4, 1⟩
/-- RO UNIT[15:8], R62. -/
def SYS_MIDNIGHT_CAUSE_UNIT : Fld := ⟨SYS_MIDNIGHT_CAUSE, 8, 8⟩
/-- RW WAKE_PIN[0:0], R63. -/
def SYS_WAKE_EN_WAKE_PIN : Fld := ⟨SYS_WAKE_EN, 0, 1⟩
/-- RW PERST[1:1], R63. -/
def SYS_WAKE_EN_PERST : Fld := ⟨SYS_WAKE_EN, 1, 1⟩
/-- RW ALARM[2:2], R63. -/
def SYS_WAKE_EN_ALARM : Fld := ⟨SYS_WAKE_EN, 2, 1⟩
/-- RW CLAIM_LOSS[3:3], R63. -/
def SYS_WAKE_EN_CLAIM_LOSS : Fld := ⟨SYS_WAKE_EN, 3, 1⟩
/-- W1C POWER_ON[0:0], R63. -/
def SYS_WAKE_SRC_POWER_ON : Fld := ⟨SYS_WAKE_SRC, 0, 1⟩
/-- W1C WAKE_PIN[1:1], R63. -/
def SYS_WAKE_SRC_WAKE_PIN : Fld := ⟨SYS_WAKE_SRC, 1, 1⟩
/-- W1C PERST[2:2], R63. -/
def SYS_WAKE_SRC_PERST : Fld := ⟨SYS_WAKE_SRC, 2, 1⟩
/-- W1C ALARM[3:3], R63. -/
def SYS_WAKE_SRC_ALARM : Fld := ⟨SYS_WAKE_SRC, 3, 1⟩
/-- W1C CLAIM_LOSS[4:4], R63. -/
def SYS_WAKE_SRC_CLAIM_LOSS : Fld := ⟨SYS_WAKE_SRC, 4, 1⟩
/-- RW DRAIN_MAX[15:0], R64. -/
def SYS_NIGHT_CTL_DRAIN_MAX : Fld := ⟨SYS_NIGHT_CTL, 0, 16⟩
/-- W1S COMMIT[0:0], R64. -/
def SYS_CFG_COMMIT : Fld := ⟨SYS_CFG, 0, 1⟩
/-- RO STATUS[5:4], R64. -/
def SYS_CFG_STATUS : Fld := ⟨SYS_CFG, 4, 2⟩
/-- RO FAIL_BLK[15:8], R64. -/
def SYS_CFG_FAIL_BLK : Fld := ⟨SYS_CFG, 8, 8⟩
/-- RW PREF[0:0], R64. -/
def SYS_BOOT_PREF : Fld := ⟨SYS_BOOT, 0, 1⟩
/-- RO RUN[1:1], R64. -/
def SYS_BOOT_RUN : Fld := ⟨SYS_BOOT, 1, 1⟩
/-- RO FALLBACK[2:2], R64. -/
def SYS_BOOT_FALLBACK : Fld := ⟨SYS_BOOT, 2, 1⟩
/-- RO LOOP_SW[3:3], R64. -/
def SYS_BOOT_LOOP_SW : Fld := ⟨SYS_BOOT, 3, 1⟩
/-- RO LOOP_CNT[6:4], R64. -/
def SYS_BOOT_LOOP_CNT : Fld := ⟨SYS_BOOT, 4, 3⟩
/-- W1S ACTIVATE[0:0], R64. -/
def SYS_UCODE_ACTIVATE : Fld := ⟨SYS_UCODE, 0, 1⟩
/-- RO BANK[1:1], R64. -/
def SYS_UCODE_BANK : Fld := ⟨SYS_UCODE, 1, 1⟩
/-- RO STATUS[3:2], R64. -/
def SYS_UCODE_STATUS : Fld := ⟨SYS_UCODE, 2, 2⟩
/-- RO EPOCH[31:16], R64. -/
def SYS_UCODE_EPOCH : Fld := ⟨SYS_UCODE, 16, 16⟩
/-- W1S CHIP[0:0], R65. -/
def SYS_RST_CHIP : Fld := ⟨SYS_RST, 0, 1⟩
/-- WO KEY[15:8], R65. -/
def SYS_RST_KEY : Fld := ⟨SYS_RST, 8, 8⟩
/-- W1C PWRON_PIN[0:0], R65. -/
def SYS_RST_CAUSE_PWRON_PIN : Fld := ⟨SYS_RST_CAUSE, 0, 1⟩
/-- W1C AON_SUPPLY[1:1], R65. -/
def SYS_RST_CAUSE_AON_SUPPLY : Fld := ⟨SYS_RST_CAUSE, 1, 1⟩
/-- W1C WARM_PIN[2:2], R65. -/
def SYS_RST_CAUSE_WARM_PIN : Fld := ⟨SYS_RST_CAUSE, 2, 1⟩
/-- W1C WDOG[3:3], R65. -/
def SYS_RST_CAUSE_WDOG : Fld := ⟨SYS_RST_CAUSE, 3, 1⟩
/-- W1C SOFT[4:4], R65. -/
def SYS_RST_CAUSE_SOFT : Fld := ⟨SYS_RST_CAUSE, 4, 1⟩
/-- W1S BLK[13:0], R65. -/
def SYS_BLKRST_BLK : Fld := ⟨SYS_BLKRST, 0, 14⟩
/-- RW PERIOD[9:0], R66. -/
def SYS_WDOG_CTL_PERIOD : Fld := ⟨SYS_WDOG_CTL, 0, 10⟩
/-- RW STAGE2_EN[16:16], R66. -/
def SYS_WDOG_CTL_STAGE2_EN : Fld := ⟨SYS_WDOG_CTL, 16, 1⟩
/-- WO KICK[31:0], R66. -/
def SYS_WDOG_KICK_KICK : Fld := ⟨SYS_WDOG_KICK, 0, 32⟩
/-- W1C STAGE1[0:0], R66. -/
def SYS_WDOG_STAT_STAGE1 : Fld := ⟨SYS_WDOG_STAT, 0, 1⟩
/-- RO REMAIN[25:16], R66. -/
def SYS_WDOG_STAT_REMAIN : Fld := ⟨SYS_WDOG_STAT, 16, 10⟩
/-- RW BURST[3:0], R347. -/
def GOV_CTL_BURST : Fld := ⟨GOV_CTL, 0, 4⟩
/-- RW LOW_MARK[10:4], R347. -/
def GOV_CTL_LOW_MARK : Fld := ⟨GOV_CTL, 4, 7⟩
/-- RW CL_IDLE[23:16], R347. -/
def GOV_CTL_CL_IDLE : Fld := ⟨GOV_CTL, 16, 8⟩
/-- RW DRV_IDLE[31:24], R347. -/
def GOV_CTL_DRV_IDLE : Fld := ⟨GOV_CTL, 24, 8⟩
/-- RW PMAX[7:0], R347. -/
def GOV_PMAX_PMAX : Fld := ⟨GOV_PMAX, 0, 8⟩
/-- RW PMIN[15:8], R347. -/
def GOV_PMAX_PMIN : Fld := ⟨GOV_PMAX, 8, 8⟩
/-- RW BASE[23:16], R347. -/
def GOV_PMAX_BASE : Fld := ⟨GOV_PMAX, 16, 8⟩
/-- RW SLOPE[27:24], R347. -/
def GOV_PMAX_SLOPE : Fld := ⟨GOV_PMAX, 24, 4⟩
/-- RW TJ_TARGET[7:0], R347. -/
def GOV_THERM_TJ_TARGET : Fld := ⟨GOV_THERM, 0, 8⟩
/-- RW EMERG[15:8], R347. -/
def GOV_THERM_EMERG : Fld := ⟨GOV_THERM, 8, 8⟩
/-- RW HYST[19:16], R347. -/
def GOV_THERM_HYST : Fld := ⟨GOV_THERM, 16, 4⟩
/-- RW SHELF_W[15:0], R347. -/
def GOV_SHELF_SHELF_W : Fld := ⟨GOV_SHELF, 0, 16⟩
/-- RW FEED_MAX[31:16], R347. -/
def GOV_SHELF_FEED_MAX : Fld := ⟨GOV_SHELF, 16, 16⟩
/-- RW MAX[9:0], R347. -/
def GOV_DEFER_MAX_MAX : Fld := ⟨GOV_DEFER_MAX, 0, 10⟩
/-- RW UNCLAMP[23:16], R347. -/
def GOV_DEFER_MAX_UNCLAMP : Fld := ⟨GOV_DEFER_MAX, 16, 8⟩
/-- RO CLAMP[0:0], R347. -/
def GOV_STAT_CLAMP : Fld := ⟨GOV_STAT, 0, 1⟩
/-- RO EMERG[1:1], R347. -/
def GOV_STAT_EMERG : Fld := ⟨GOV_STAT, 1, 1⟩
/-- RO THERM_LIMIT[2:2], R347. -/
def GOV_STAT_THERM_LIMIT : Fld := ⟨GOV_STAT, 2, 1⟩
/-- RO SENSOR_FAULT[3:3], R347. -/
def GOV_STAT_SENSOR_FAULT : Fld := ⟨GOV_STAT, 3, 1⟩
/-- RO RUN[7:4], R347. -/
def GOV_STAT_RUN : Fld := ⟨GOV_STAT, 4, 4⟩
/-- RO AWAKE[12:8], R347. -/
def GOV_STAT_AWAKE : Fld := ⟨GOV_STAT, 8, 5⟩
/-- RO MIN_AWAKE[17:13], R347. -/
def GOV_STAT_MIN_AWAKE : Fld := ⟨GOV_STAT, 13, 5⟩
/-- RO DRV_EN[18:18], R347. -/
def GOV_STAT_DRV_EN : Fld := ⟨GOV_STAT, 18, 1⟩
/-- RO LIMIT[9:0], R347. -/
def GOV_LIMIT_LIMIT : Fld := ⟨GOV_LIMIT, 0, 10⟩
/-- RO TMAX[26:16], R347. -/
def GOV_LIMIT_TMAX : Fld := ⟨GOV_LIMIT, 16, 11⟩
/-- RO LEVEL[31:0], R347. -/
def GOV_CHIP_LVL_LEVEL : Fld := ⟨GOV_CHIP_LVL, 0, 32⟩
/-- RO LEVEL[31:0], R347. -/
def GOV_DRV_LVL_LEVEL : Fld := ⟨GOV_DRV_LVL, 0, 32⟩
/-- RO FEED[15:0], R347. -/
def GOV_FEED_FEED : Fld := ⟨GOV_FEED, 0, 16⟩
/-- RW MIN_DUTY[6:0], R347. -/
def GOV_FAN_MIN_DUTY : Fld := ⟨GOV_FAN, 0, 7⟩
/-- RW AUTO[7:7], R347. -/
def GOV_FAN_AUTO : Fld := ⟨GOV_FAN, 7, 1⟩
/-- RW MANUAL[14:8], R347. -/
def GOV_FAN_MANUAL : Fld := ⟨GOV_FAN, 8, 7⟩
/-- RO DUTY[22:16], R347. -/
def GOV_FAN_DUTY : Fld := ⟨GOV_FAN, 16, 7⟩
/-- RW EN[0:0], R347. -/
def GOV_DP_CTL_EN : Fld := ⟨GOV_DP_CTL, 0, 1⟩
/-- RW OFFSET[17:1], R347. -/
def GOV_DP_CTL_OFFSET : Fld := ⟨GOV_DP_CTL, 1, 17⟩
/-- RW LEAD[24:18], R347. -/
def GOV_DP_CTL_LEAD : Fld := ⟨GOV_DP_CTL, 18, 7⟩
/-- RO SLOT[5:0], R347. -/
def GOV_DP_CUR_SLOT : Fld := ⟨GOV_DP_CUR, 0, 6⟩
/-- RO ACTIVE[6:6], R347. -/
def GOV_DP_CUR_ACTIVE : Fld := ⟨GOV_DP_CUR, 6, 1⟩
/-- W1S CLEAR[0:0], R347. -/
def GOV_CNT_CTL_CLEAR : Fld := ⟨GOV_CNT_CTL, 0, 1⟩
/-- RW MINj[31:0], R348. -/
def GOV_DP_MIN (i : Nat) : Fld := ⟨GOV_DP i, 0, 32⟩
/-- RW CHIP[15:0], R348. -/
def GOV_COST_CHIP (i : Nat) : Fld := ⟨GOV_COST i, 0, 16⟩
/-- RW DRIVE[31:16], R348. -/
def GOV_COST_DRIVE (i : Nat) : Fld := ⟨GOV_COST i, 16, 16⟩
/-- RO TEMP[10:0], R348. -/
def GOV_TS_TEMP (i : Nat) : Fld := ⟨GOV_TS i, 0, 11⟩
/-- RO FAULT[11:11], R348. -/
def GOV_TS_FAULT (i : Nat) : Fld := ⟨GOV_TS i, 11, 1⟩
/-- RW USE[12:12], R348. -/
def GOV_TS_USE (i : Nat) : Fld := ⟨GOV_TS i, 12, 1⟩
/-- RW IDLE_PS0[11:0], R348. -/
def GOV_DRV_IDLE_PS0 (i : Nat) : Fld := ⟨GOV_DRV i, 0, 12⟩
/-- RW IDLE_LOW[23:12], R348. -/
def GOV_DRV_IDLE_LOW (i : Nat) : Fld := ⟨GOV_DRV i, 12, 12⟩
/-- RW LOW_PS[28:24], R348. -/
def GOV_DRV_LOW_PS (i : Nat) : Fld := ⟨GOV_DRV i, 24, 5⟩
/-- RO IN_LOW[29:29], R348. -/
def GOV_DRV_IN_LOW (i : Nat) : Fld := ⟨GOV_DRV i, 29, 1⟩
/-- RW COMPAT[23:0], R416. -/
def MBX_CTL_COMPAT : Fld := ⟨MBX_CTL, 0, 24⟩
/-- RW ACK_REG[23:0], R416. -/
def MBX_ACKSEL_ACK_REG : Fld := ⟨MBX_ACKSEL, 0, 24⟩
/-- RO LEVEL[12:0], R416. -/
def MBX_NOTICE_LEVEL : Fld := ⟨MBX_NOTICE, 0, 13⟩
/-- W1S CLEAR[0:0], R416. -/
def MBX_CNT_CTL_CLEAR : Fld := ⟨MBX_CNT_CTL, 0, 1⟩
/-- WO WORD[31:0], R416. -/
def MBX_TX_WORD (i : Nat) : Fld := ⟨MBX_TX i, 0, 32⟩
/-- WO WORD[31:0], R416. -/
def MBX_TX_EOM_WORD (i : Nat) : Fld := ⟨MBX_TX_EOM i, 0, 32⟩
/-- RC WORD[31:0], R416. -/
def MBX_RX_WORD (i : Nat) : Fld := ⟨MBX_RX i, 0, 32⟩
/-- WO CODE[15:0], R416. -/
def MBX_ACK_CODE (i : Nat) : Fld := ⟨MBX_ACK i, 0, 16⟩
/-- RO TX_LEVEL[3:0], R416. -/
def MBX_STAT_TX_LEVEL (i : Nat) : Fld := ⟨MBX_STAT i, 0, 4⟩
/-- RO RX_LEVEL[7:4], R416. -/
def MBX_STAT_RX_LEVEL (i : Nat) : Fld := ⟨MBX_STAT i, 4, 4⟩
/-- RO RX_EOM[8:8], R416. -/
def MBX_STAT_RX_EOM (i : Nat) : Fld := ⟨MBX_STAT i, 8, 1⟩
/-- RO TX_BUSY[9:9], R416. -/
def MBX_STAT_TX_BUSY (i : Nat) : Fld := ⟨MBX_STAT i, 9, 1⟩
/-- RO MODE[10:10], R416. -/
def MBX_STAT_MODE (i : Nat) : Fld := ⟨MBX_STAT i, 10, 1⟩
/-- W1C FAR_DOWN[11:11], R416. -/
def MBX_STAT_FAR_DOWN (i : Nat) : Fld := ⟨MBX_STAT i, 11, 1⟩
/-- W1C OVR[12:12], R416. -/
def MBX_STAT_OVR (i : Nat) : Fld := ⟨MBX_STAT i, 12, 1⟩
/-- RO ACK_CODE[31:16], R416. -/
def MBX_STAT_ACK_CODE (i : Nat) : Fld := ⟨MBX_STAT i, 16, 16⟩
/-- W1C RX_MSG[0:0], R416. -/
def MBX_IRQ_RX_MSG (i : Nat) : Fld := ⟨MBX_IRQ i, 0, 1⟩
/-- W1C TX_FREE[1:1], R416. -/
def MBX_IRQ_TX_FREE (i : Nat) : Fld := ⟨MBX_IRQ i, 1, 1⟩
/-- W1C ERR[2:2], R416. -/
def MBX_IRQ_ERR (i : Nat) : Fld := ⟨MBX_IRQ i, 2, 1⟩
/-- RW RX_EN[16:16], R416. -/
def MBX_IRQ_RX_EN (i : Nat) : Fld := ⟨MBX_IRQ i, 16, 1⟩
/-- RW TX_EN[17:17], R416. -/
def MBX_IRQ_TX_EN (i : Nat) : Fld := ⟨MBX_IRQ i, 17, 1⟩
/-- RW ERR_EN[18:18], R416. -/
def MBX_IRQ_ERR_EN (i : Nat) : Fld := ⟨MBX_IRQ i, 18, 1⟩
/-- RO PROV[0:0], R390. -/
def PROT_STAT_PROV : Fld := ⟨PROT_STAT, 0, 1⟩
/-- RO IKH[1:1], R390. -/
def PROT_STAT_IKH : Fld := ⟨PROT_STAT, 1, 1⟩
/-- RO REINST[2:2], R390. -/
def PROT_STAT_REINST : Fld := ⟨PROT_STAT, 2, 1⟩
/-- RO JTAG_HOURS[15:8], R390. -/
def PROT_STAT_JTAG_HOURS : Fld := ⟨PROT_STAT, 8, 8⟩
/-- RO GEN[31:0], R390. -/
def PROT_GEN_L_GEN : Fld := ⟨PROT_GEN_L, 0, 32⟩
/-- RWC CLASSk[15:0], R390. -/
def PROT_PRIV_LOCAL_CLASS : Fld := ⟨PROT_PRIV_LOCAL, 0, 16⟩
/-- RWC MIN_SVN[15:0], R390. -/
def PROT_BOOT_POLICY_MIN_SVN : Fld := ⟨PROT_BOOT_POLICY, 0, 16⟩
/-- RO FAIL0[3:0], R390. -/
def PROT_BOOT_STAT_FAIL0 : Fld := ⟨PROT_BOOT_STAT, 0, 4⟩
/-- RO FAIL1[7:4], R390. -/
def PROT_BOOT_STAT_FAIL1 : Fld := ⟨PROT_BOOT_STAT, 4, 4⟩
/-- RO SVN[31:16], R390. -/
def PROT_BOOT_STAT_SVN : Fld := ⟨PROT_BOOT_STAT, 16, 16⟩
/-- RW OP[1:0], R390. -/
def PROT_CMT_CMD_OP : Fld := ⟨PROT_CMT_CMD, 0, 2⟩
/-- W1S GO[31:31], R390. -/
def PROT_CMT_CMD_GO : Fld := ⟨PROT_CMT_CMD, 31, 1⟩
/-- RO BUSY[0:0], R390. -/
def PROT_CMT_STAT_BUSY : Fld := ⟨PROT_CMT_STAT, 0, 1⟩
/-- RO RESULT[4:1], R390. -/
def PROT_CMT_STAT_RESULT : Fld := ⟨PROT_CMT_STAT, 1, 4⟩
/-- RO STAGER[11:5], R390. -/
def PROT_CMT_STAT_STAGER : Fld := ⟨PROT_CMT_STAT, 5, 7⟩
/-- RO PENDING[12:12], R390. -/
def PROT_CMT_STAT_PENDING : Fld := ⟨PROT_CMT_STAT, 12, 1⟩
/-- RO ITEM[17:13], R390. -/
def PROT_CMT_STAT_ITEM : Fld := ⟨PROT_CMT_STAT, 13, 5⟩
/-- RO LEFT[24:18], R390. -/
def PROT_CMT_STAT_LEFT : Fld := ⟨PROT_CMT_STAT, 18, 7⟩
/-- RO LO[15:0], R390. -/
def PROT_CMT_DIGEST_LO : Fld := ⟨PROT_CMT_DIGEST, 0, 16⟩
/-- RO HI[31:16], R390. -/
def PROT_CMT_DIGEST_HI : Fld := ⟨PROT_CMT_DIGEST, 16, 16⟩
/-- WO QUOTE[31:0], R390. -/
def PROT_CMT_QUOTE_QUOTE : Fld := ⟨PROT_CMT_QUOTE, 0, 32⟩
/-- RC OFFSET[23:0], R390. -/
def PROT_RWC_LAST_OFFSET : Fld := ⟨PROT_RWC_LAST, 0, 24⟩
/-- RC PORT[30:24], R390. -/
def PROT_RWC_LAST_PORT : Fld := ⟨PROT_RWC_LAST, 24, 7⟩
/-- RC VALID[31:31], R390. -/
def PROT_RWC_LAST_VALID : Fld := ⟨PROT_RWC_LAST, 31, 1⟩
/-- RW INDEX[13:0], R390. -/
def PROT_ACL_RD_INDEX : Fld := ⟨PROT_ACL_RD, 0, 14⟩
/-- W1S GO[31:31], R390. -/
def PROT_ACL_RD_GO : Fld := ⟨PROT_ACL_RD, 31, 1⟩
/-- RO VOLUME[11:0], R390. -/
def PROT_ACL_DATA0_VOLUME : Fld := ⟨PROT_ACL_DATA0, 0, 12⟩
/-- RO RD[12:12], R390. -/
def PROT_ACL_DATA0_RD : Fld := ⟨PROT_ACL_DATA0, 12, 1⟩
/-- RO WR[13:13], R390. -/
def PROT_ACL_DATA0_WR : Fld := ⟨PROT_ACL_DATA0, 13, 1⟩
/-- RO VALID[14:14], R390. -/
def PROT_ACL_DATA0_VALID : Fld := ⟨PROT_ACL_DATA0, 14, 1⟩
/-- RO PF1[15:15], R390. -/
def PROT_ACL_DATA0_PF1 : Fld := ⟨PROT_ACL_DATA0, 15, 1⟩
/-- W1S CLEAR[0:0], R390. -/
def PROT_CNT_CTL_CLEAR : Fld := ⟨PROT_CNT_CTL, 0, 1⟩
/-- RW DATA[31:0], R389. -/
def PROT_CMT_BUF_DATA (i : Nat) : Fld := ⟨PROT_CMT_BUF i, 0, 32⟩
/-- RW L0S_IDLE[7:0], R414. -/
def HEP_LINK_PM_L0S_IDLE : Fld := ⟨HEP_LINK_PM, 0, 8⟩
/-- RW L1_IDLE[17:8], R414. -/
def HEP_LINK_PM_L1_IDLE : Fld := ⟨HEP_LINK_PM, 8, 10⟩
/-- RW L0S_AUTO[18:18], R414. -/
def HEP_LINK_PM_L0S_AUTO : Fld := ⟨HEP_LINK_PM, 18, 1⟩
/-- RW L1_AUTO[19:19], R414. -/
def HEP_LINK_PM_L1_AUTO : Fld := ⟨HEP_LINK_PM, 19, 1⟩
/-- RW ACT_VAL[9:0], R414. -/
def HEP_LTR_ACT_VAL : Fld := ⟨HEP_LTR, 0, 10⟩
/-- RW ACT_SCALE[12:10], R414. -/
def HEP_LTR_ACT_SCALE : Fld := ⟨HEP_LTR, 10, 3⟩
/-- RW IDLE_VAL[25:16], R414. -/
def HEP_LTR_IDLE_VAL : Fld := ⟨HEP_LTR, 16, 10⟩
/-- RW IDLE_SCALE[28:26], R414. -/
def HEP_LTR_IDLE_SCALE : Fld := ⟨HEP_LTR, 26, 3⟩
/-- RO LPS[3:0], R414. -/
def HEP_STAT_LPS : Fld := ⟨HEP_STAT, 0, 4⟩
/-- RO WIDTH[8:4], R414. -/
def HEP_STAT_WIDTH : Fld := ⟨HEP_STAT, 4, 5⟩
/-- RO RATE[11:9], R414. -/
def HEP_STAT_RATE : Fld := ⟨HEP_STAT, 9, 3⟩
/-- RO PF0_D3[12:12], R414. -/
def HEP_STAT_PF0_D3 : Fld := ⟨HEP_STAT, 12, 1⟩
/-- RO PF1_D3[13:13], R414. -/
def HEP_STAT_PF1_D3 : Fld := ⟨HEP_STAT, 13, 1⟩
/-- RO PF0_BME[14:14], R414. -/
def HEP_STAT_PF0_BME : Fld := ⟨HEP_STAT, 14, 1⟩
/-- RO PF1_BME[15:15], R414. -/
def HEP_STAT_PF1_BME : Fld := ⟨HEP_STAT, 15, 1⟩
/-- RO PF0_FLR[16:16], R414. -/
def HEP_STAT_PF0_FLR : Fld := ⟨HEP_STAT, 16, 1⟩
/-- RO PF1_FLR[17:17], R414. -/
def HEP_STAT_PF1_FLR : Fld := ⟨HEP_STAT, 17, 1⟩
/-- RO PF1_PRESENT[18:18], R414. -/
def HEP_STAT_PF1_PRESENT : Fld := ⟨HEP_STAT, 18, 1⟩
/-- RO REPORT_PEND[19:19], R414. -/
def HEP_STAT_REPORT_PEND : Fld := ⟨HEP_STAT, 19, 1⟩
/-- RO FREE[10:0], R414. -/
def HEP_TAG_STAT_FREE : Fld := ⟨HEP_TAG_STAT, 0, 11⟩
/-- RO QUAR[21:11], R414. -/
def HEP_TAG_STAT_QUAR : Fld := ⟨HEP_TAG_STAT, 11, 11⟩
/-- RO CTV[25:22], R414. -/
def HEP_TAG_STAT_CTV : Fld := ⟨HEP_TAG_STAT, 22, 4⟩
/-- RW EN[0:0], R414. -/
def HEP_DIAG_EN : Fld := ⟨HEP_DIAG, 0, 1⟩
/-- RW BASE[12:1], R414. -/
def HEP_DIAG_BASE : Fld := ⟨HEP_DIAG, 1, 12⟩
/-- W1S CLEAR[0:0], R414. -/
def HEP_CNT_CTL_CLEAR : Fld := ⟨HEP_CNT_CTL, 0, 1⟩
/-- RW EN[0:0], R84. -/
def NET_PORT_CFG_EN (i : Nat) : Fld := ⟨NET_PORT_CFG i, 0, 1⟩
/-- RW SPEED[3:1], R84. -/
def NET_PORT_CFG_SPEED (i : Nat) : Fld := ⟨NET_PORT_CFG i, 1, 3⟩
/-- RW MEDIUM[4:4], R84. -/
def NET_PORT_CFG_MEDIUM (i : Nat) : Fld := ⟨NET_PORT_CFG i, 4, 1⟩
/-- RW FEC[6:5], R84. -/
def NET_PORT_CFG_FEC (i : Nat) : Fld := ⟨NET_PORT_CFG i, 5, 2⟩
/-- RW AN_EN[7:7], R84. -/
def NET_PORT_CFG_AN_EN (i : Nat) : Fld := ⟨NET_PORT_CFG i, 7, 1⟩
/-- RW GRP_MODE[10:8], R84. -/
def NET_PORT_CFG_GRP_MODE (i : Nat) : Fld := ⟨NET_PORT_CFG i, 8, 3⟩
/-- W1S RESTART[11:11], R84. -/
def NET_PORT_CFG_RESTART (i : Nat) : Fld := ⟨NET_PORT_CFG i, 11, 1⟩
/-- RW MAX_FRM[29:16], R84. -/
def NET_PORT_CFG_MAX_FRM (i : Nat) : Fld := ⟨NET_PORT_CFG i, 16, 14⟩
/-- RO LSTATE[2:0], R84. -/
def NET_PORT_STAT_LSTATE (i : Nat) : Fld := ⟨NET_PORT_STAT i, 0, 3⟩
/-- RO UP[3:3], R84. -/
def NET_PORT_STAT_UP (i : Nat) : Fld := ⟨NET_PORT_STAT i, 3, 1⟩
/-- RO HCD_SPEED[6:4], R84. -/
def NET_PORT_STAT_HCD_SPEED (i : Nat) : Fld := ⟨NET_PORT_STAT i, 4, 3⟩
/-- RO HCD_FEC[8:7], R84. -/
def NET_PORT_STAT_HCD_FEC (i : Nat) : Fld := ⟨NET_PORT_STAT i, 7, 2⟩
/-- RO CFG_ERR[12:9], R84. -/
def NET_PORT_STAT_CFG_ERR (i : Nat) : Fld := ⟨NET_PORT_STAT i, 9, 4⟩
/-- RO LANE_FAULT[13:13], R84. -/
def NET_PORT_STAT_LANE_FAULT (i : Nat) : Fld := ⟨NET_PORT_STAT i, 13, 1⟩
/-- W1C LINK_CHG[14:14], R84. -/
def NET_PORT_STAT_LINK_CHG (i : Nat) : Fld := ⟨NET_PORT_STAT i, 14, 1⟩
/-- RO LANEk[15:0], R84. -/
def NET_LANE_HEALTH_LANE (i : Nat) : Fld := ⟨NET_LANE_HEALTH i, 0, 16⟩
/-- RW A25[0:0], R84. -/
def NET_AN_ADV_A25 (i : Nat) : Fld := ⟨NET_AN_ADV i, 0, 1⟩
/-- RW A50[1:1], R84. -/
def NET_AN_ADV_A50 (i : Nat) : Fld := ⟨NET_AN_ADV i, 1, 1⟩
/-- RW A100[2:2], R84. -/
def NET_AN_ADV_A100 (i : Nat) : Fld := ⟨NET_AN_ADV i, 2, 1⟩
/-- RW A200[3:3], R84. -/
def NET_AN_ADV_A200 (i : Nat) : Fld := ⟨NET_AN_ADV i, 3, 1⟩
/-- RW A400[4:4], R84. -/
def NET_AN_ADV_A400 (i : Nat) : Fld := ⟨NET_AN_ADV i, 4, 1⟩
/-- RW RS528_REQ[5:5], R84. -/
def NET_AN_ADV_RS528_REQ (i : Nat) : Fld := ⟨NET_AN_ADV i, 5, 1⟩
/-- RW PAUSE[16:16], R84. -/
def NET_AN_ADV_PAUSE (i : Nat) : Fld := ⟨NET_AN_ADV i, 16, 1⟩
/-- RW ASM_DIR[17:17], R84. -/
def NET_AN_ADV_ASM_DIR (i : Nat) : Fld := ⟨NET_AN_ADV i, 17, 1⟩
/-- RW DOWN_HOLD[7:0], R84. -/
def NET_LINK_CFG_DOWN_HOLD (i : Nat) : Fld := ⟨NET_LINK_CFG i, 0, 8⟩
/-- RW UP_HOLD[15:8], R84. -/
def NET_LINK_CFG_UP_HOLD (i : Nat) : Fld := ⟨NET_LINK_CFG i, 8, 8⟩
/-- RW AUTO_RETRY[16:16], R84. -/
def NET_LINK_CFG_AUTO_RETRY (i : Nat) : Fld := ⟨NET_LINK_CFG i, 16, 1⟩
/-- RW MODE[1:0], R84. -/
def NET_FC_CFG_MODE (i : Nat) : Fld := ⟨NET_FC_CFG i, 0, 2⟩
/-- RW PFC_EN[15:8], R84. -/
def NET_FC_CFG_PFC_EN (i : Nat) : Fld := ⟨NET_FC_CFG i, 8, 8⟩
/-- RW PVID[11:0], R84. -/
def NET_VLAN_CFG_PVID (i : Nat) : Fld := ⟨NET_VLAN_CFG i, 0, 12⟩
/-- RW DEF_PCP[14:12], R84. -/
def NET_VLAN_CFG_DEF_PCP (i : Nat) : Fld := ⟨NET_VLAN_CFG i, 12, 3⟩
/-- RW OUTER_TPID[15:15], R84. -/
def NET_VLAN_CFG_OUTER_TPID (i : Nat) : Fld := ⟨NET_VLAN_CFG i, 15, 1⟩
/-- RW QINQ_EN[16:16], R84. -/
def NET_VLAN_CFG_QINQ_EN (i : Nat) : Fld := ⟨NET_VLAN_CFG i, 16, 1⟩
/-- RW DROP_UNTAGGED[17:17], R84. -/
def NET_VLAN_CFG_DROP_UNTAGGED (i : Nat) : Fld := ⟨NET_VLAN_CFG i, 17, 1⟩
/-- RW TCp[23:0], R84. -/
def NET_PCP_MAP_TC (i : Nat) : Fld := ⟨NET_PCP_MAP i, 0, 24⟩
/-- RWC CLASS[1:0], R84. -/
def NET_PRIV_CLASS (i : Nat) : Fld := ⟨NET_PRIV i, 0, 2⟩
/-- RW TS_EN[0:0], R85. -/
def NET_PTP_CFG_TS_EN (i : Nat) : Fld := ⟨NET_PTP_CFG i, 0, 1⟩
/-- RW ONE_STEP[1:1], R85. -/
def NET_PTP_CFG_ONE_STEP (i : Nat) : Fld := ⟨NET_PTP_CFG i, 1, 1⟩
/-- RW L2[2:2], R85. -/
def NET_PTP_CFG_L2 (i : Nat) : Fld := ⟨NET_PTP_CFG i, 2, 1⟩
/-- RW UDP4[3:3], R85. -/
def NET_PTP_CFG_UDP4 (i : Nat) : Fld := ⟨NET_PTP_CFG i, 3, 1⟩
/-- RW UDP6[4:4], R85. -/
def NET_PTP_CFG_UDP6 (i : Nat) : Fld := ⟨NET_PTP_CFG i, 4, 1⟩
/-- RO NS[29:0], R85. -/
def NET_TS_LOW_NS (i : Nat) : Fld := ⟨NET_TS_LOW i, 0, 30⟩
/-- RO OVF[30:30], R85. -/
def NET_TS_LOW_OVF (i : Nat) : Fld := ⟨NET_TS_LOW i, 30, 1⟩
/-- RO VALID[31:31], R85. -/
def NET_TS_LOW_VALID (i : Nat) : Fld := ⟨NET_TS_LOW i, 31, 1⟩
/-- RO SEQ_ID[15:0], R85. -/
def NET_TS_HIGH_SEQ_ID (i : Nat) : Fld := ⟨NET_TS_HIGH i, 0, 16⟩
/-- RO SEC_LO[31:16], R85. -/
def NET_TS_HIGH_SEC_LO (i : Nat) : Fld := ⟨NET_TS_HIGH i, 16, 16⟩
/-- W1S CLEAR[0:0], R85. -/
def NET_CNT_CTL_CLEAR (i : Nat) : Fld := ⟨NET_CNT_CTL i, 0, 1⟩
/-- RO NS[29:0], R85. -/
def NET_TIME_NS_NS : Fld := ⟨NET_TIME_NS, 0, 30⟩
/-- RO SEC[31:0], R85. -/
def NET_TIME_SEC_L_SEC : Fld := ⟨NET_TIME_SEC_L, 0, 32⟩
/-- RO SEC[15:0], R85. -/
def NET_TIME_SEC_H_SEC : Fld := ⟨NET_TIME_SEC_H, 0, 16⟩
/-- RW FREQ[31:0], R85. -/
def NET_TIME_ADJ_FREQ : Fld := ⟨NET_TIME_ADJ, 0, 32⟩
/-- WO STEP[31:0], R85. -/
def NET_TIME_STEP_STEP : Fld := ⟨NET_TIME_STEP, 0, 32⟩
/-- RW VALID[0:0], R85. -/
def NET_TIME_CTL_VALID : Fld := ⟨NET_TIME_CTL, 0, 1⟩
/-- RW IN_EN[1:1], R85. -/
def NET_TIME_CTL_IN_EN : Fld := ⟨NET_TIME_CTL, 1, 1⟩
/-- RW IN_EDGE[2:2], R85. -/
def NET_TIME_CTL_IN_EDGE : Fld := ⟨NET_TIME_CTL, 2, 1⟩
/-- RW OUT_EN[3:3], R85. -/
def NET_TIME_CTL_OUT_EN : Fld := ⟨NET_TIME_CTL, 3, 1⟩
/-- RW OUT_WIDTH[15:8], R85. -/
def NET_TIME_CTL_OUT_WIDTH : Fld := ⟨NET_TIME_CTL, 8, 8⟩
/-- RO NS[29:0], R85. -/
def NET_PPS_CAP_NS : Fld := ⟨NET_PPS_CAP, 0, 30⟩
/-- RC VALID[31:31], R85. -/
def NET_PPS_CAP_VALID : Fld := ⟨NET_PPS_CAP, 31, 1⟩
/-- RW ROCE_EN[0:0], R116. -/
def CLS_PARSE_CFG_ROCE_EN : Fld := ⟨CLS_PARSE_CFG, 0, 1⟩
/-- RW CAPSULE_EN[1:1], R116. -/
def CLS_PARSE_CFG_CAPSULE_EN : Fld := ⟨CLS_PARSE_CFG, 1, 1⟩
/-- RW MAX_V6_EXT[3:2], R116. -/
def CLS_PARSE_CFG_MAX_V6_EXT : Fld := ⟨CLS_PARSE_CFG, 2, 2⟩
/-- RW MASKc[27:0], R116. -/
def CLS_CLASS_MAP_MASK : Fld := ⟨CLS_CLASS_MAP, 0, 28⟩
/-- RW SHIFT[5:0], R116. -/
def CLS_STEER_CFG_SHIFT : Fld := ⟨CLS_STEER_CFG, 0, 6⟩
/-- RW EN[0:0], R116. -/
def CLS_PROF_CTL_EN (i : Nat) : Fld := ⟨CLS_PROF_CTL i, 0, 1⟩
/-- RW WIDE[1:1], R116. -/
def CLS_PROF_CTL_WIDE (i : Nat) : Fld := ⟨CLS_PROF_CTL i, 1, 1⟩
/-- RW SEL0–SEL3[31:0], R116. -/
def CLS_PROF_SELA_SEL (i : Nat) : Fld := ⟨CLS_PROF_SELA i, 0, 32⟩
/-- RW SEL4–SEL7[31:0], R116. -/
def CLS_PROF_SELB_SEL (i : Nat) : Fld := ⟨CLS_PROF_SELB i, 0, 32⟩
/-- RW OFF_A[6:0], R116. -/
def CLS_PROF_PAY_OFF_A (i : Nat) : Fld := ⟨CLS_PROF_PAY i, 0, 7⟩
/-- RW OFF_B[22:16], R116. -/
def CLS_PROF_PAY_OFF_B (i : Nat) : Fld := ⟨CLS_PROF_PAY i, 16, 7⟩
/-- RW OP[2:0], R116. -/
def CLS_TBL_CMD_OP : Fld := ⟨CLS_TBL_CMD, 0, 3⟩
/-- RW TABLE[4:3], R116. -/
def CLS_TBL_CMD_TABLE : Fld := ⟨CLS_TBL_CMD, 3, 2⟩
/-- RW WAY[6:5], R116. -/
def CLS_TBL_CMD_WAY : Fld := ⟨CLS_TBL_CMD, 5, 2⟩
/-- RW INDEX[23:8], R116. -/
def CLS_TBL_CMD_INDEX : Fld := ⟨CLS_TBL_CMD, 8, 16⟩
/-- W1S GO[31:31], R116. -/
def CLS_TBL_CMD_GO : Fld := ⟨CLS_TBL_CMD, 31, 1⟩
/-- RO BUSY[0:0], R116. -/
def CLS_TBL_STAT_BUSY : Fld := ⟨CLS_TBL_STAT, 0, 1⟩
/-- RO RESULT[3:1], R116. -/
def CLS_TBL_STAT_RESULT : Fld := ⟨CLS_TBL_STAT, 1, 3⟩
/-- RO WAY[5:4], R116. -/
def CLS_TBL_STAT_WAY : Fld := ⟨CLS_TBL_STAT, 4, 2⟩
/-- RO INDEX[21:6], R116. -/
def CLS_TBL_STAT_INDEX : Fld := ⟨CLS_TBL_STAT, 6, 16⟩
/-- RO MOVES[29:22], R116. -/
def CLS_TBL_STAT_MOVES : Fld := ⟨CLS_TBL_STAT, 22, 8⟩
/-- RW DATA[31:0], R116. -/
def CLS_TBL_DATA_DATA (i : Nat) : Fld := ⟨CLS_TBL_DATA i, 0, 32⟩
/-- RW RATE[15:0], R116. -/
def CLS_SLOW_RATE_RATE : Fld := ⟨CLS_SLOW_RATE, 0, 16⟩
/-- RW BURST[15:0], R116. -/
def CLS_SLOW_BURST_BURST : Fld := ⟨CLS_SLOW_BURST, 0, 16⟩
/-- RO TOKENS[15:0], R116. -/
def CLS_SLOW_TOKENS_TOKENS : Fld := ⟨CLS_SLOW_TOKENS, 0, 16⟩
/-- W1S CLEAR[0:0], R116. -/
def CLS_CNT_CTL_CLEAR : Fld := ⟨CLS_CNT_CTL, 0, 1⟩
/-- W1S CLEAR_HIT[1:1], R116. -/
def CLS_CNT_CTL_CLEAR_HIT : Fld := ⟨CLS_CNT_CTL, 1, 1⟩
/-- RW VALID[0:0], R116. -/
def CLS_QPT_VALID (i : Nat) : Fld := ⟨CLS_QPT i, 0, 1⟩
/-- RW KIND[3:1], R116. -/
def CLS_QPT_KIND (i : Nat) : Fld := ⟨CLS_QPT i, 1, 3⟩
/-- RW ASSOC[13:4], R116. -/
def CLS_QPT_ASSOC (i : Nat) : Fld := ⟨CLS_QPT i, 4, 10⟩
/-- RW GEN[23:14], R116. -/
def CLS_QPT_GEN (i : Nat) : Fld := ⟨CLS_QPT i, 14, 10⟩
/-- RO FREE[17:0], R118. -/
def SWC_BUF_STAT_FREE : Fld := ⟨SWC_BUF_STAT, 0, 18⟩
/-- RO SHARED_FREE[17:0], R118. -/
def SWC_SHARED_STAT_SHARED_FREE : Fld := ⟨SWC_SHARED_STAT, 0, 18⟩
/-- RW SEED[31:0], R118. -/
def SWC_HASH_SEED_SEED : Fld := ⟨SWC_HASH_SEED, 0, 32⟩
/-- W1S CLEAR[0:0], R118. -/
def SWC_CNT_CTL_CLEAR : Fld := ⟨SWC_CNT_CTL, 0, 1⟩
/-- RW GUAR[17:0], R118. -/
def SWC_Q_CFG_GUAR (i : Nat) : Fld := ⟨SWC_Q_CFG i, 0, 18⟩
/-- RW ALPHA[20:18], R118. -/
def SWC_Q_CFG_ALPHA (i : Nat) : Fld := ⟨SWC_Q_CFG i, 18, 3⟩
/-- RW OVF_EN[21:21], R118. -/
def SWC_Q_CFG_OVF_EN (i : Nat) : Fld := ⟨SWC_Q_CFG i, 21, 1⟩
/-- RW W[25:22], R118. -/
def SWC_Q_CFG_W (i : Nat) : Fld := ⟨SWC_Q_CFG i, 22, 4⟩
/-- RW G_DROP[26:26], R118. -/
def SWC_Q_CFG_G_DROP (i : Nat) : Fld := ⟨SWC_Q_CFG i, 26, 1⟩
/-- RW G_ECN[27:27], R118. -/
def SWC_Q_CFG_G_ECN (i : Nat) : Fld := ⟨SWC_Q_CFG i, 27, 1⟩
/-- RW Y_DROP[28:28], R118. -/
def SWC_Q_CFG_Y_DROP (i : Nat) : Fld := ⟨SWC_Q_CFG i, 28, 1⟩
/-- RW Y_ECN[29:29], R118. -/
def SWC_Q_CFG_Y_ECN (i : Nat) : Fld := ⟨SWC_Q_CFG i, 29, 1⟩
/-- RW R_DROP[30:30], R118. -/
def SWC_Q_CFG_R_DROP (i : Nat) : Fld := ⟨SWC_Q_CFG i, 30, 1⟩
/-- RW R_ECN[31:31], R118. -/
def SWC_Q_CFG_R_ECN (i : Nat) : Fld := ⟨SWC_Q_CFG i, 31, 1⟩
/-- RW OVF_TH[17:0], R118. -/
def SWC_Q_OVF_OVF_TH (i : Nat) : Fld := ⟨SWC_Q_OVF i, 0, 18⟩
/-- RW OVF_MAX[29:18], R118. -/
def SWC_Q_OVF_OVF_MAX (i : Nat) : Fld := ⟨SWC_Q_OVF i, 18, 12⟩
/-- RW MIN[11:0], R118. -/
def SWC_Q_WRED_G_MIN (i : Nat) : Fld := ⟨SWC_Q_WRED_G i, 0, 12⟩
/-- RW MAX[23:12], R118. -/
def SWC_Q_WRED_G_MAX (i : Nat) : Fld := ⟨SWC_Q_WRED_G i, 12, 12⟩
/-- RW PMAX[31:24], R118. -/
def SWC_Q_WRED_G_PMAX (i : Nat) : Fld := ⟨SWC_Q_WRED_G i, 24, 8⟩
/-- RW MIN[11:0], R118. -/
def SWC_Q_WRED_Y_MIN (i : Nat) : Fld := ⟨SWC_Q_WRED_Y i, 0, 12⟩
/-- RW MAX[23:12], R118. -/
def SWC_Q_WRED_Y_MAX (i : Nat) : Fld := ⟨SWC_Q_WRED_Y i, 12, 12⟩
/-- RW PMAX[31:24], R118. -/
def SWC_Q_WRED_Y_PMAX (i : Nat) : Fld := ⟨SWC_Q_WRED_Y i, 24, 8⟩
/-- RW MIN[11:0], R118. -/
def SWC_Q_WRED_R_MIN (i : Nat) : Fld := ⟨SWC_Q_WRED_R i, 0, 12⟩
/-- RW MAX[23:12], R118. -/
def SWC_Q_WRED_R_MAX (i : Nat) : Fld := ⟨SWC_Q_WRED_R i, 12, 12⟩
/-- RW PMAX[31:24], R118. -/
def SWC_Q_WRED_R_PMAX (i : Nat) : Fld := ⟨SWC_Q_WRED_R i, 24, 8⟩
/-- RO AVG[25:0], R118. -/
def SWC_Q_AVG_AVG (i : Nat) : Fld := ⟨SWC_Q_AVG i, 0, 26⟩
/-- RO ONCHIP[17:0], R118. -/
def SWC_Q_DEPTH_ONCHIP (i : Nat) : Fld := ⟨SWC_Q_DEPTH i, 0, 18⟩
/-- RO DRAM[25:0], R118. -/
def SWC_Q_DDEPTH_DRAM (i : Nat) : Fld := ⟨SWC_Q_DDEPTH i, 0, 26⟩
/-- RW XOFF[15:0], R118. -/
def SWC_PFC_TH_XOFF (i j : Nat) : Fld := ⟨SWC_PFC_TH i j, 0, 16⟩
/-- RW XON[31:16], R118. -/
def SWC_PFC_TH_XON (i j : Nat) : Fld := ⟨SWC_PFC_TH i j, 16, 16⟩
/-- RW EN[0:0], R118. -/
def SWC_LAG_CTL_EN (i : Nat) : Fld := ⟨SWC_LAG_CTL i, 0, 1⟩
/-- W1S REBAL[1:1], R118. -/
def SWC_LAG_CTL_REBAL (i : Nat) : Fld := ⟨SWC_LAG_CTL i, 1, 1⟩
/-- RO LIVE[15:8], R118. -/
def SWC_LAG_CTL_LIVE (i : Nat) : Fld := ⟨SWC_LAG_CTL i, 8, 8⟩
/-- RW BKT[31:0], R118. -/
def SWC_LAG_CFG_BKT (i j : Nat) : Fld := ⟨SWC_LAG_CFG i j, 0, 32⟩
/-- RO BKT[31:0], R118. -/
def SWC_LAG_LIVE_BKT (i j : Nat) : Fld := ⟨SWC_LAG_LIVE i j, 0, 32⟩
/-- RW BKT[31:0], R118. -/
def SWC_CL_BKT_BKT (i : Nat) : Fld := ⟨SWC_CL_BKT i, 0, 32⟩
/-- RW BKT[31:0], R118. -/
def SWC_ST_BKT_BKT (i : Nat) : Fld := ⟨SWC_ST_BKT i, 0, 32⟩
/-- RW SMP_EN[0:0], R134. -/
def EGS_CTL_SMP_EN : Fld := ⟨EGS_CTL, 0, 1⟩
/-- RW SMP_PERIOD[10:1], R134. -/
def EGS_CTL_SMP_PERIOD : Fld := ⟨EGS_CTL, 1, 10⟩
/-- RW DEPTH_SHIFT[14:11], R134. -/
def EGS_CTL_DEPTH_SHIFT : Fld := ⟨EGS_CTL, 11, 4⟩
/-- RW DELAY_SHIFT[18:15], R134. -/
def EGS_CTL_DELAY_SHIFT : Fld := ⟨EGS_CTL, 15, 4⟩
/-- RO FREE[13:0], R134. -/
def EGS_WHEEL_STAT_FREE : Fld := ⟨EGS_WHEEL_STAT, 0, 14⟩
/-- RO SLOT[25:14], R134. -/
def EGS_WHEEL_STAT_SLOT : Fld := ⟨EGS_WHEEL_STAT, 14, 12⟩
/-- W1S CLEAR[0:0], R134. -/
def EGS_CNT_CTL_CLEAR : Fld := ⟨EGS_CNT_CTL, 0, 1⟩
/-- W1S CLEAR_HIST[1:1], R134. -/
def EGS_CNT_CTL_CLEAR_HIST : Fld := ⟨EGS_CNT_CTL, 1, 1⟩
/-- RW PRIO[2:0], R134. -/
def EGS_Q_SCHED_PRIO (i : Nat) : Fld := ⟨EGS_Q_SCHED i, 0, 3⟩
/-- RW WEIGHT[15:8], R134. -/
def EGS_Q_SCHED_WEIGHT (i : Nat) : Fld := ⟨EGS_Q_SCHED i, 8, 8⟩
/-- RW RATE[19:0], R134. -/
def EGS_Q_RATE_RATE (i : Nat) : Fld := ⟨EGS_Q_RATE i, 0, 20⟩
/-- RW HI_CREDIT[15:0], R134. -/
def EGS_Q_CS_HI_CREDIT (i : Nat) : Fld := ⟨EGS_Q_CS i, 0, 16⟩
/-- RO SHAPER[0:0], R134. -/
def EGS_Q_STAT_SHAPER (i : Nat) : Fld := ⟨EGS_Q_STAT i, 0, 1⟩
/-- RO GATE_WAIT[1:1], R134. -/
def EGS_Q_STAT_GATE_WAIT (i : Nat) : Fld := ⟨EGS_Q_STAT i, 1, 1⟩
/-- RO PAUSED[2:2], R134. -/
def EGS_Q_STAT_PAUSED (i : Nat) : Fld := ⟨EGS_Q_STAT i, 2, 1⟩
/-- RO ELIGIBLE[3:3], R134. -/
def EGS_Q_STAT_ELIGIBLE (i : Nat) : Fld := ⟨EGS_Q_STAT i, 3, 1⟩
/-- RO CREDIT[31:8], R134. -/
def EGS_Q_STAT_CREDIT (i : Nat) : Fld := ⟨EGS_Q_STAT i, 8, 24⟩
/-- RW EN[0:0], R135. -/
def EGS_GATE_CTL_EN (i : Nat) : Fld := ⟨EGS_GATE_CTL i, 0, 1⟩
/-- W1S CHANGE[1:1], R135. -/
def EGS_GATE_CTL_CHANGE (i : Nat) : Fld := ⟨EGS_GATE_CTL i, 1, 1⟩
/-- RO BANK[2:2], R135. -/
def EGS_GATE_CTL_BANK (i : Nat) : Fld := ⟨EGS_GATE_CTL i, 2, 1⟩
/-- RO PEND[3:3], R135. -/
def EGS_GATE_CTL_PEND (i : Nat) : Fld := ⟨EGS_GATE_CTL i, 3, 1⟩
/-- RW LEN0[15:8], R135. -/
def EGS_GATE_CTL_LEN0 (i : Nat) : Fld := ⟨EGS_GATE_CTL i, 8, 8⟩
/-- RW LEN1[23:16], R135. -/
def EGS_GATE_CTL_LEN1 (i : Nat) : Fld := ⟨EGS_GATE_CTL i, 16, 8⟩
/-- RW CYCLE[26:0], R135. -/
def EGS_GATE_CYCLE0_CYCLE (i : Nat) : Fld := ⟨EGS_GATE_CYCLE0 i, 0, 27⟩
/-- RW CYCLE[26:0], R135. -/
def EGS_GATE_CYCLE1_CYCLE (i : Nat) : Fld := ⟨EGS_GATE_CYCLE1 i, 0, 27⟩
/-- RW NS[29:0], R135. -/
def EGS_GATE_BASE_NS_NS (i : Nat) : Fld := ⟨EGS_GATE_BASE_NS i, 0, 30⟩
/-- RW SEC[31:0], R135. -/
def EGS_GATE_BASE_SEC_SEC (i : Nat) : Fld := ⟨EGS_GATE_BASE_SEC i, 0, 32⟩
/-- RO ENTRY[7:0], R135. -/
def EGS_GATE_STAT_ENTRY (i : Nat) : Fld := ⟨EGS_GATE_STAT i, 0, 8⟩
/-- RO GATES[16:8], R135. -/
def EGS_GATE_STAT_GATES (i : Nat) : Fld := ⟨EGS_GATE_STAT i, 8, 9⟩
/-- RO RUN[17:17], R135. -/
def EGS_GATE_STAT_RUN (i : Nat) : Fld := ⟨EGS_GATE_STAT i, 17, 1⟩
/-- RW RATE[19:0], R135. -/
def EGS_QP_RATE_RATE (i : Nat) : Fld := ⟨EGS_QP_RATE i, 0, 20⟩
/-- RW GATES[8:0], R135. -/
def EGS_GATE_ENT_GATES (i j : Nat) : Fld := ⟨EGS_GATE_ENT i j, 0, 9⟩
/-- RW INTERVAL[31:9], R135. -/
def EGS_GATE_ENT_INTERVAL (i j : Nat) : Fld := ⟨EGS_GATE_ENT i j, 9, 23⟩
/-- RO COUNT[31:0], R135. -/
def EGS_HIST_COUNT (i j : Nat) : Fld := ⟨EGS_HIST i j, 0, 32⟩
/-- RW NP_EN[0:0], R167. -/
def RDM_CTL_NP_EN : Fld := ⟨RDM_CTL, 0, 1⟩
/-- RW RP_EN[1:1], R167. -/
def RDM_CTL_RP_EN : Fld := ⟨RDM_CTL, 1, 1⟩
/-- RW HOLD_MAX[15:2], R167. -/
def RDM_CTL_HOLD_MAX : Fld := ⟨RDM_CTL, 2, 14⟩
/-- RW CNP_INT[25:16], R167. -/
def RDM_CTL_CNP_INT : Fld := ⟨RDM_CTL, 16, 10⟩
/-- RW COAL[5:0], R167. -/
def RDM_ACK_CFG_COAL : Fld := ⟨RDM_ACK_CFG, 0, 6⟩
/-- RW DELAY_US[15:8], R167. -/
def RDM_ACK_CFG_DELAY_US : Fld := ⟨RDM_ACK_CFG, 8, 8⟩
/-- RW REORDER_US[9:0], R167. -/
def RDM_OOO_CFG_REORDER_US : Fld := ⟨RDM_OOO_CFG, 0, 10⟩
/-- RO FREE[11:0], R167. -/
def RDM_OOO_STAT_FREE : Fld := ⟨RDM_OOO_STAT, 0, 12⟩
/-- RW CUT[7:0], R167. -/
def RDM_CC_CFG0_CUT : Fld := ⟨RDM_CC_CFG0, 0, 8⟩
/-- RW GUARD_US[17:8], R167. -/
def RDM_CC_CFG0_GUARD_US : Fld := ⟨RDM_CC_CFG0, 8, 10⟩
/-- RW RECOVER_US[27:18], R167. -/
def RDM_CC_CFG0_RECOVER_US : Fld := ⟨RDM_CC_CFG0, 18, 10⟩
/-- RW STEP[15:0], R167. -/
def RDM_CC_CFG1_STEP : Fld := ⟨RDM_CC_CFG1, 0, 16⟩
/-- RW RATE_MIN[31:16], R167. -/
def RDM_CC_CFG1_RATE_MIN : Fld := ⟨RDM_CC_CFG1, 16, 16⟩
/-- RC QPN[23:0], R167. -/
def RDM_ERRQP_QPN : Fld := ⟨RDM_ERRQP, 0, 24⟩
/-- RC CAUSE[27:24], R167. -/
def RDM_ERRQP_CAUSE : Fld := ⟨RDM_ERRQP, 24, 4⟩
/-- RC OVF[30:30], R167. -/
def RDM_ERRQP_OVF : Fld := ⟨RDM_ERRQP, 30, 1⟩
/-- RC VALID[31:31], R167. -/
def RDM_ERRQP_VALID : Fld := ⟨RDM_ERRQP, 31, 1⟩
/-- W1S CLEAR[0:0], R167. -/
def RDM_CNT_CTL_CLEAR : Fld := ⟨RDM_CNT_CTL, 0, 1⟩
/-- RW OP[1:0], R168. -/
def RDM_QPC_CMD_OP : Fld := ⟨RDM_QPC_CMD, 0, 2⟩
/-- RW TO[4:2], R168. -/
def RDM_QPC_CMD_TO : Fld := ⟨RDM_QPC_CMD, 2, 3⟩
/-- RW INDEX[21:8], R168. -/
def RDM_QPC_CMD_INDEX : Fld := ⟨RDM_QPC_CMD, 8, 14⟩
/-- W1S GO[31:31], R168. -/
def RDM_QPC_CMD_GO : Fld := ⟨RDM_QPC_CMD, 31, 1⟩
/-- RO BUSY[0:0], R168. -/
def RDM_QPC_STAT_BUSY : Fld := ⟨RDM_QPC_STAT, 0, 1⟩
/-- RO RESULT[3:1], R168. -/
def RDM_QPC_STAT_RESULT : Fld := ⟨RDM_QPC_STAT, 1, 3⟩
/-- RW DATA[31:0], R168. -/
def RDM_QPC_DATA_DATA (i : Nat) : Fld := ⟨RDM_QPC_DATA i, 0, 32⟩
/-- RW OP[2:0], R168. -/
def RDM_WIN_CMD_OP : Fld := ⟨RDM_WIN_CMD, 0, 3⟩
/-- RW INDEX[19:8], R168. -/
def RDM_WIN_CMD_INDEX : Fld := ⟨RDM_WIN_CMD, 8, 12⟩
/-- W1S GO[31:31], R168. -/
def RDM_WIN_CMD_GO : Fld := ⟨RDM_WIN_CMD, 31, 1⟩
/-- RO BUSY[0:0], R168. -/
def RDM_WIN_STAT_BUSY : Fld := ⟨RDM_WIN_STAT, 0, 1⟩
/-- RO RESULT[2:1], R168. -/
def RDM_WIN_STAT_RESULT : Fld := ⟨RDM_WIN_STAT, 1, 2⟩
/-- RW DATA[31:0], R168. -/
def RDM_WIN_DATA_DATA (i : Nat) : Fld := ⟨RDM_WIN_DATA i, 0, 32⟩
/-- RW IP[31:0], R168. -/
def RDM_SRCADDR_IP_IP (i j : Nat) : Fld := ⟨RDM_SRCADDR_IP i j, 0, 32⟩
/-- RW MAC[31:0], R168. -/
def RDM_SRCADDR_MAC_L_MAC (i : Nat) : Fld := ⟨RDM_SRCADDR_MAC_L i, 0, 32⟩
/-- RW MAC[15:0], R168. -/
def RDM_SRCADDR_MAC_H_MAC (i : Nat) : Fld := ⟨RDM_SRCADDR_MAC_H i, 0, 16⟩
/-- RW IPV6[16:16], R168. -/
def RDM_SRCADDR_MAC_H_IPV6 (i : Nat) : Fld := ⟨RDM_SRCADDR_MAC_H i, 16, 1⟩
/-- RW VALID[17:17], R168. -/
def RDM_SRCADDR_MAC_H_VALID (i : Nat) : Fld := ⟨RDM_SRCADDR_MAC_H i, 17, 1⟩
/-- RW DISC_EN[0:0], R196. -/
def CMDQ_CTL_DISC_EN : Fld := ⟨CMDQ_CTL, 0, 1⟩
/-- RW TBKAS[1:1], R196. -/
def CMDQ_CTL_TBKAS : Fld := ⟨CMDQ_CTL, 1, 1⟩
/-- RW ACTIVE_US[7:0], R196. -/
def CMDQ_POLL_ACTIVE_US : Fld := ⟨CMDQ_POLL, 0, 8⟩
/-- RW IDLE_US[17:8], R196. -/
def CMDQ_POLL_IDLE_US : Fld := ⟨CMDQ_POLL, 8, 10⟩
/-- RW IDLE_MS[27:18], R196. -/
def CMDQ_POLL_IDLE_MS : Fld := ⟨CMDQ_POLL, 18, 10⟩
/-- RW MRPS[7:0], R196. -/
def CMDQ_POLL_CAP_MRPS : Fld := ⟨CMDQ_POLL_CAP, 0, 8⟩
/-- RW AB[2:0], R196. -/
def CMDQ_ARB_AB : Fld := ⟨CMDQ_ARB, 0, 3⟩
/-- RW LPW[15:8], R196. -/
def CMDQ_ARB_LPW : Fld := ⟨CMDQ_ARB, 8, 8⟩
/-- RW MPW[23:16], R196. -/
def CMDQ_ARB_MPW : Fld := ⟨CMDQ_ARB, 16, 8⟩
/-- RW HPW[31:24], R196. -/
def CMDQ_ARB_HPW : Fld := ⟨CMDQ_ARB, 24, 8⟩
/-- RO ASSOC[10:0], R196. -/
def CMDQ_STAT_ASSOC : Fld := ⟨CMDQ_STAT, 0, 11⟩
/-- RO WCE[11:11], R196. -/
def CMDQ_STAT_WCE : Fld := ⟨CMDQ_STAT, 11, 1⟩
/-- RO PF1[12:12], R196. -/
def CMDQ_STAT_PF1 : Fld := ⟨CMDQ_STAT, 12, 1⟩
/-- RO ANA[19:16], R196. -/
def CMDQ_STAT_ANA : Fld := ⟨CMDQ_STAT, 16, 4⟩
/-- RO IOQ_FREE[14:0], R196. -/
def CMDQ_QUEUES_IOQ_FREE : Fld := ⟨CMDQ_QUEUES, 0, 15⟩
/-- RO FREE[16:0], R196. -/
def CMDQ_TAGS_FREE : Fld := ⟨CMDQ_TAGS, 0, 17⟩
/-- RO LEVEL[8:0], R196. -/
def CMDQ_NUDGE_STAT_LEVEL : Fld := ⟨CMDQ_NUDGE_STAT, 0, 9⟩
/-- W1C OVF[9:9], R196. -/
def CMDQ_NUDGE_STAT_OVF : Fld := ⟨CMDQ_NUDGE_STAT, 9, 1⟩
/-- W1S CLEAR[0:0], R196. -/
def CMDQ_CNT_CTL_CLEAR : Fld := ⟨CMDQ_CNT_CTL, 0, 1⟩
/-- RW INDEX[14:0], R197. -/
def CMDQ_QCTX_CMD_INDEX : Fld := ⟨CMDQ_QCTX_CMD, 0, 15⟩
/-- W1S GO[31:31], R197. -/
def CMDQ_QCTX_CMD_GO : Fld := ⟨CMDQ_QCTX_CMD, 31, 1⟩
/-- RO BUSY[0:0], R197. -/
def CMDQ_QCTX_STAT_BUSY : Fld := ⟨CMDQ_QCTX_STAT, 0, 1⟩
/-- RO INVALID[1:1], R197. -/
def CMDQ_QCTX_STAT_INVALID : Fld := ⟨CMDQ_QCTX_STAT, 1, 1⟩
/-- RO VALID[0:0], R197. -/
def CMDQ_QCTX_DATA0_VALID : Fld := ⟨CMDQ_QCTX_DATA0, 0, 1⟩
/-- RO TYPE[2:1], R197. -/
def CMDQ_QCTX_DATA0_TYPE : Fld := ⟨CMDQ_QCTX_DATA0, 1, 2⟩
/-- RO CLASS[4:3], R197. -/
def CMDQ_QCTX_DATA0_CLASS : Fld := ⟨CMDQ_QCTX_DATA0, 3, 2⟩
/-- RO STALLED[5:5], R197. -/
def CMDQ_QCTX_DATA0_STALLED : Fld := ⟨CMDQ_QCTX_DATA0, 5, 1⟩
/-- RO PHASE[6:6], R197. -/
def CMDQ_QCTX_DATA0_PHASE : Fld := ⟨CMDQ_QCTX_DATA0, 6, 1⟩
/-- RO ASSOC[16:7], R197. -/
def CMDQ_QCTX_DATA0_ASSOC : Fld := ⟨CMDQ_QCTX_DATA0, 7, 10⟩
/-- RO QID[23:17], R197. -/
def CMDQ_QCTX_DATA0_QID : Fld := ⟨CMDQ_QCTX_DATA0, 17, 7⟩
/-- RO ENTRIES_M1[9:0], R197. -/
def CMDQ_QCTX_DATA1_ENTRIES_M1 : Fld := ⟨CMDQ_QCTX_DATA1, 0, 10⟩
/-- RO SQ_HEAD[19:10], R197. -/
def CMDQ_QCTX_DATA1_SQ_HEAD : Fld := ⟨CMDQ_QCTX_DATA1, 10, 10⟩
/-- RO SQ_TAIL[29:20], R197. -/
def CMDQ_QCTX_DATA1_SQ_TAIL : Fld := ⟨CMDQ_QCTX_DATA1, 20, 10⟩
/-- RO CQ_TAIL[9:0], R197. -/
def CMDQ_QCTX_DATA2_CQ_TAIL : Fld := ⟨CMDQ_QCTX_DATA2, 0, 10⟩
/-- RO ACTIVE[10:10], R197. -/
def CMDQ_QCTX_DATA2_ACTIVE : Fld := ⟨CMDQ_QCTX_DATA2, 10, 1⟩
/-- RO EPOCH[31:16], R197. -/
def CMDQ_QCTX_DATA2_EPOCH : Fld := ⟨CMDQ_QCTX_DATA2, 16, 16⟩
/-- RO QPN[23:0], R197. -/
def CMDQ_QCTX_DATA3_QPN : Fld := ⟨CMDQ_QCTX_DATA3, 0, 24⟩
/-- RO OUTSTANDING[10:0], R197. -/
def CMDQ_QCTX_DATA4_OUTSTANDING : Fld := ⟨CMDQ_QCTX_DATA4, 0, 11⟩
/-- RO VECTOR[26:16], R197. -/
def CMDQ_QCTX_DATA4_VECTOR : Fld := ⟨CMDQ_QCTX_DATA4, 16, 11⟩
/-- RO IEN[27:27], R197. -/
def CMDQ_QCTX_DATA4_IEN : Fld := ⟨CMDQ_QCTX_DATA4, 27, 1⟩
/-- RO RKEY[31:0], R197. -/
def CMDQ_QCTX_DATA5_RKEY : Fld := ⟨CMDQ_QCTX_DATA5, 0, 32⟩
/-- RO VALID[0:0], R198. -/
def CMDQ_ASSOC_VALID (i : Nat) : Fld := ⟨CMDQ_ASSOC i, 0, 1⟩
/-- RO DISC[1:1], R198. -/
def CMDQ_ASSOC_DISC (i : Nat) : Fld := ⟨CMDQ_ASSOC i, 1, 1⟩
/-- RO LOCAL[2:2], R198. -/
def CMDQ_ASSOC_LOCAL (i : Nat) : Fld := ⟨CMDQ_ASSOC i, 2, 1⟩
/-- RO IOQ[10:4], R198. -/
def CMDQ_ASSOC_IOQ (i : Nat) : Fld := ⟨CMDQ_ASSOC i, 4, 7⟩
/-- RO KATO[31:16], R198. -/
def CMDQ_ASSOC_KATO (i : Nat) : Fld := ⟨CMDQ_ASSOC i, 16, 16⟩
/-- RW STEAL_EN[0:0], R222. -/
def ENG_CTL_STEAL_EN : Fld := ⟨ENG_CTL, 0, 1⟩
/-- RW XC_EN[1:1], R222. -/
def ENG_CTL_XC_EN : Fld := ⟨ENG_CTL, 1, 1⟩
/-- RW LOCAL_NS[11:2], R222. -/
def ENG_CTL_LOCAL_NS : Fld := ⟨ENG_CTL, 2, 10⟩
/-- RW SLEEP[21:12], R222. -/
def ENG_CTL_SLEEP : Fld := ⟨ENG_CTL, 12, 10⟩
/-- RW HELP[27:22], R222. -/
def ENG_CTL_HELP : Fld := ⟨ENG_CTL, 22, 6⟩
/-- RW RESERVE[8:0], R222. -/
def ENG_LOCK_CFG_RESERVE : Fld := ⟨ENG_LOCK_CFG, 0, 9⟩
/-- RW TAG_RESERVE[25:16], R222. -/
def ENG_LOCK_CFG_TAG_RESERVE : Fld := ⟨ENG_LOCK_CFG, 16, 10⟩
/-- RW OP[2:0], R222. -/
def ENG_GLOBAL_CMD_OP : Fld := ⟨ENG_GLOBAL_CMD, 0, 3⟩
/-- W1S GO[31:31], R222. -/
def ENG_GLOBAL_CMD_GO : Fld := ⟨ENG_GLOBAL_CMD, 31, 1⟩
/-- RW ARG[31:0], R222. -/
def ENG_GLOBAL_ARG_ARG : Fld := ⟨ENG_GLOBAL_ARG, 0, 32⟩
/-- RO BUSY[0:0], R222. -/
def ENG_GLOBAL_STAT_BUSY : Fld := ⟨ENG_GLOBAL_STAT, 0, 1⟩
/-- RO PHASE[2:1], R222. -/
def ENG_GLOBAL_STAT_PHASE : Fld := ⟨ENG_GLOBAL_STAT, 1, 2⟩
/-- RO RESULT[5:3], R222. -/
def ENG_GLOBAL_STAT_RESULT : Fld := ⟨ENG_GLOBAL_STAT, 3, 3⟩
/-- RO ARMED[6:6], R222. -/
def ENG_GLOBAL_STAT_ARMED : Fld := ⟨ENG_GLOBAL_STAT, 6, 1⟩
/-- RO EPOCH[31:0], R222. -/
def ENG_EPOCH_EPOCH : Fld := ⟨ENG_EPOCH, 0, 32⟩
/-- RO LEFT[16:0], R222. -/
def ENG_DRAIN_LEFT : Fld := ⟨ENG_DRAIN, 0, 17⟩
/-- RO INACT_VALID[0:0], R222. -/
def ENG_UC_STAT_INACT_VALID : Fld := ⟨ENG_UC_STAT, 0, 1⟩
/-- RO LOADING[1:1], R222. -/
def ENG_UC_STAT_LOADING : Fld := ⟨ENG_UC_STAT, 1, 1⟩
/-- RO ACT_VER[31:16], R222. -/
def ENG_UC_STAT_ACT_VER : Fld := ⟨ENG_UC_STAT, 16, 16⟩
/-- W1S CLEAR[0:0], R222. -/
def ENG_CNT_CTL_CLEAR : Fld := ⟨ENG_CNT_CTL, 0, 1⟩
/-- RO POWER[1:0], R223. -/
def ENG_CL_STAT_POWER (i : Nat) : Fld := ⟨ENG_CL_STAT i, 0, 2⟩
/-- RO HELP[2:2], R223. -/
def ENG_CL_STAT_HELP (i : Nat) : Fld := ⟨ENG_CL_STAT i, 2, 1⟩
/-- RO DEQ[18:8], R223. -/
def ENG_CL_STAT_DEQ (i : Nat) : Fld := ⟨ENG_CL_STAT i, 8, 11⟩
/-- RO FREE[12:0], R223. -/
def ENG_SHARD_STAT_FREE (i : Nat) : Fld := ⟨ENG_SHARD_STAT i, 0, 13⟩
/-- RO MASK[15:0], R223. -/
def ENG_CL_RETIRED_MASK (i : Nat) : Fld := ⟨ENG_CL_RETIRED i, 0, 16⟩
/-- RW BKT[31:0], R223. -/
def ENG_LOCK_BKT_BKT (i : Nat) : Fld := ⟨ENG_LOCK_BKT i, 0, 32⟩
/-- RW TARGET[11:0], R223. -/
def ENG_SNAP_MAP_TARGET (i : Nat) : Fld := ⟨ENG_SNAP_MAP i, 0, 12⟩
/-- RW EN[12:12], R223. -/
def ENG_SNAP_MAP_EN (i : Nat) : Fld := ⟨ENG_SNAP_MAP i, 12, 1⟩
/-- RW SRIS[0:0], R245. -/
def DPT_CTL_SRIS : Fld := ⟨DPT_CTL, 0, 1⟩
/-- RW DPC_EN[1:1], R245. -/
def DPT_CTL_DPC_EN : Fld := ⟨DPT_CTL, 1, 1⟩
/-- RW HP_EN[2:2], R245. -/
def DPT_CTL_HP_EN : Fld := ⟨DPT_CTL, 2, 1⟩
/-- RW AUTO_FORMAT[3:3], R245. -/
def DPT_CTL_AUTO_FORMAT : Fld := ⟨DPT_CTL, 3, 1⟩
/-- RW FENCE_EN[4:4], R245. -/
def DPT_CTL_FENCE_EN : Fld := ⟨DPT_CTL, 4, 1⟩
/-- RW CMD_TO[7:0], R245. -/
def DPT_TIMEOUT_CMD_TO : Fld := ⟨DPT_TIMEOUT, 0, 8⟩
/-- RW ABORT_WAIT[15:8], R245. -/
def DPT_TIMEOUT_ABORT_WAIT : Fld := ⟨DPT_TIMEOUT, 8, 8⟩
/-- RW RESET_MAX[23:16], R245. -/
def DPT_TIMEOUT_RESET_MAX : Fld := ⟨DPT_TIMEOUT, 16, 8⟩
/-- RO SQE_FREE[15:0], R245. -/
def DPT_POOL_STAT_SQE_FREE : Fld := ⟨DPT_POOL_STAT, 0, 16⟩
/-- RO PRP_FREE[31:16], R245. -/
def DPT_POOL_STAT_PRP_FREE : Fld := ⟨DPT_POOL_STAT, 16, 16⟩
/-- RW OP[1:0], R245. -/
def DPT_MEM_CMD_OP : Fld := ⟨DPT_MEM_CMD, 0, 2⟩
/-- RW INDEX[14:8], R245. -/
def DPT_MEM_CMD_INDEX : Fld := ⟨DPT_MEM_CMD, 8, 7⟩
/-- W1S GO[31:31], R245. -/
def DPT_MEM_CMD_GO : Fld := ⟨DPT_MEM_CMD, 31, 1⟩
/-- RO BUSY[0:0], R245. -/
def DPT_MEM_CMD_STAT_BUSY : Fld := ⟨DPT_MEM_CMD_STAT, 0, 1⟩
/-- RO RESULT[2:1], R245. -/
def DPT_MEM_CMD_STAT_RESULT : Fld := ⟨DPT_MEM_CMD_STAT, 1, 2⟩
/-- W1S CLEAR[0:0], R245. -/
def DPT_CNT_CTL_CLEAR : Fld := ⟨DPT_CNT_CTL, 0, 1⟩
/-- RW EN[0:0], R246. -/
def DPT_PORT_CFG_EN (i : Nat) : Fld := ⟨DPT_PORT_CFG i, 0, 1⟩
/-- RW SPLIT[1:1], R246. -/
def DPT_PORT_CFG_SPLIT (i : Nat) : Fld := ⟨DPT_PORT_CFG i, 1, 1⟩
/-- RW MAX_GEN[3:2], R246. -/
def DPT_PORT_CFG_MAX_GEN (i : Nat) : Fld := ⟨DPT_PORT_CFG i, 2, 2⟩
/-- RW ASPM_L1[4:4], R246. -/
def DPT_PORT_CFG_ASPM_L1 (i : Nat) : Fld := ⟨DPT_PORT_CFG i, 4, 1⟩
/-- RO PRESENT for each half, R246. -/
def DPT_PORT_STAT_PRESENT (i h : Nat) : Fld := ⟨DPT_PORT_STAT i, 0 + 8 * h, 1⟩
/-- RO UP for each half, R246. -/
def DPT_PORT_STAT_UP (i h : Nat) : Fld := ⟨DPT_PORT_STAT i, 1 + 8 * h, 1⟩
/-- RO WIDTH for each half, R246. -/
def DPT_PORT_STAT_WIDTH (i h : Nat) : Fld := ⟨DPT_PORT_STAT i, 2 + 8 * h, 2⟩
/-- RO RATE for each half, R246. -/
def DPT_PORT_STAT_RATE (i h : Nat) : Fld := ⟨DPT_PORT_STAT i, 4 + 8 * h, 2⟩
/-- W1C DPC for each half, R246. -/
def DPT_PORT_STAT_DPC (i h : Nat) : Fld := ⟨DPT_PORT_STAT i, 6 + 8 * h, 1⟩
/-- RW EN[0:0], R246. -/
def DPT_XP_CFG_EN (i : Nat) : Fld := ⟨DPT_XP_CFG i, 0, 1⟩
/-- RW MAX_GEN[2:1], R246. -/
def DPT_XP_CFG_MAX_GEN (i : Nat) : Fld := ⟨DPT_XP_CFG i, 1, 2⟩
/-- RW ASPM_L1[3:3], R246. -/
def DPT_XP_CFG_ASPM_L1 (i : Nat) : Fld := ⟨DPT_XP_CFG i, 3, 1⟩
/-- RO UP[0:0], R246. -/
def DPT_XP_STAT_UP (i : Nat) : Fld := ⟨DPT_XP_STAT i, 0, 1⟩
/-- RO WIDTH[3:1], R246. -/
def DPT_XP_STAT_WIDTH (i : Nat) : Fld := ⟨DPT_XP_STAT i, 1, 3⟩
/-- RO RATE[5:4], R246. -/
def DPT_XP_STAT_RATE (i : Nat) : Fld := ⟨DPT_XP_STAT i, 4, 2⟩
/-- RO SWITCH[6:6], R246. -/
def DPT_XP_STAT_SWITCH (i : Nat) : Fld := ⟨DPT_XP_STAT i, 6, 1⟩
/-- RO NESTED[7:7], R246. -/
def DPT_XP_STAT_NESTED (i : Nat) : Fld := ⟨DPT_XP_STAT i, 7, 1⟩
/-- RO DRIVES[12:8], R246. -/
def DPT_XP_STAT_DRIVES (i : Nat) : Fld := ⟨DPT_XP_STAT i, 8, 5⟩
/-- W1C DPC[13:13], R246. -/
def DPT_XP_STAT_DPC (i : Nat) : Fld := ⟨DPT_XP_STAT i, 13, 1⟩
/-- RO TYPE[2:0], R247. -/
def DPT_MEM_LOC_TYPE (i : Nat) : Fld := ⟨DPT_MEM_LOC i, 0, 3⟩
/-- RO PORT[7:3], R247. -/
def DPT_MEM_LOC_PORT (i : Nat) : Fld := ⟨DPT_MEM_LOC i, 3, 5⟩
/-- RO SLOT[12:8], R247. -/
def DPT_MEM_LOC_SLOT (i : Nat) : Fld := ⟨DPT_MEM_LOC i, 8, 5⟩
/-- RO DUAL[13:13], R247. -/
def DPT_MEM_LOC_DUAL (i : Nat) : Fld := ⟨DPT_MEM_LOC i, 13, 1⟩
/-- RO STATE[2:0], R247. -/
def DPT_MEM_STAT_STATE (i : Nat) : Fld := ⟨DPT_MEM_STAT i, 0, 3⟩
/-- RO FMT[3:3], R247. -/
def DPT_MEM_STAT_FMT (i : Nat) : Fld := ⟨DPT_MEM_STAT i, 3, 1⟩
/-- RO LINK_DEG[4:4], R247. -/
def DPT_MEM_STAT_LINK_DEG (i : Nat) : Fld := ⟨DPT_MEM_STAT i, 4, 1⟩
/-- RO IOQ[9:5], R247. -/
def DPT_MEM_STAT_IOQ (i : Nat) : Fld := ⟨DPT_MEM_STAT i, 5, 5⟩
/-- RO QUAL_ERR[13:10], R247. -/
def DPT_MEM_STAT_QUAL_ERR (i : Nat) : Fld := ⟨DPT_MEM_STAT i, 10, 4⟩
/-- RO LADDER[15:14], R247. -/
def DPT_MEM_STAT_LADDER (i : Nat) : Fld := ⟨DPT_MEM_STAT i, 14, 2⟩
/-- RO RESV[16:16], R247. -/
def DPT_MEM_STAT_RESV (i : Nat) : Fld := ⟨DPT_MEM_STAT i, 16, 1⟩
/-- RW AUTO_REPLACE[0:0], R283. -/
def RED_CTL_AUTO_REPLACE : Fld := ⟨RED_CTL, 0, 1⟩
/-- RW PATROL_EN[1:1], R283. -/
def RED_CTL_PATROL_EN : Fld := ⟨RED_CTL, 1, 1⟩
/-- RW MISSING_HOLD[9:2], R283. -/
def RED_CTL_MISSING_HOLD : Fld := ⟨RED_CTL, 2, 8⟩
/-- RW DESTAGE_AGE[19:10], R283. -/
def RED_CTL_DESTAGE_AGE : Fld := ⟨RED_CTL, 10, 10⟩
/-- RW HOLDUP_MS[9:0], R283. -/
def RED_HOLDUP_HOLDUP_MS : Fld := ⟨RED_HOLDUP, 0, 10⟩
/-- RW DSTG_GBPS[23:16], R283. -/
def RED_HOLDUP_DSTG_GBPS : Fld := ⟨RED_HOLDUP, 16, 8⟩
/-- RW FLOOR[5:0], R283. -/
def RED_FLOOR_FLOOR : Fld := ⟨RED_FLOOR, 0, 6⟩
/-- RW MEMBW[31:16], R283. -/
def RED_FLOOR_MEMBW : Fld := ⟨RED_FLOOR, 16, 16⟩
/-- RW CYCLE_DAYS[8:0], R283. -/
def RED_PATROL_CYCLE_DAYS : Fld := ⟨RED_PATROL, 0, 9⟩
/-- RO BEHIND[31:16], R283. -/
def RED_PATROL_BEHIND : Fld := ⟨RED_PATROL, 16, 16⟩
/-- RO DIRTY[15:0], R283. -/
def RED_JRN_STAT_DIRTY : Fld := ⟨RED_JRN_STAT, 0, 16⟩
/-- RO PFAIL[16:16], R283. -/
def RED_JRN_STAT_PFAIL : Fld := ⟨RED_JRN_STAT, 16, 1⟩
/-- RO WAIT[17:17], R283. -/
def RED_JRN_STAT_WAIT : Fld := ⟨RED_JRN_STAT, 17, 1⟩
/-- RO REPLAY[18:18], R283. -/
def RED_JRN_STAT_REPLAY : Fld := ⟨RED_JRN_STAT, 18, 1⟩
/-- RO CAP[15:0], R283. -/
def RED_JRN_CAP_CAP : Fld := ⟨RED_JRN_CAP, 0, 16⟩
/-- RO SIZE[21:16], R283. -/
def RED_JRN_CAP_SIZE : Fld := ⟨RED_JRN_CAP, 16, 6⟩
/-- RC TYPE[7:0], R283. -/
def RED_EVLOG0_TYPE : Fld := ⟨RED_EVLOG0, 0, 8⟩
/-- RC SET[10:8], R283. -/
def RED_EVLOG0_SET : Fld := ⟨RED_EVLOG0, 8, 3⟩
/-- RC POS[15:11], R283. -/
def RED_EVLOG0_POS : Fld := ⟨RED_EVLOG0, 11, 5⟩
/-- RC SECTOR[19:16], R283. -/
def RED_EVLOG0_SECTOR : Fld := ⟨RED_EVLOG0, 16, 4⟩
/-- RC MEMBER[26:20], R283. -/
def RED_EVLOG0_MEMBER : Fld := ⟨RED_EVLOG0, 20, 7⟩
/-- RC OVF[30:30], R283. -/
def RED_EVLOG0_OVF : Fld := ⟨RED_EVLOG0, 30, 1⟩
/-- RC VALID[31:31], R283. -/
def RED_EVLOG0_VALID : Fld := ⟨RED_EVLOG0, 31, 1⟩
/-- RO STRIPE_L[31:0], R283. -/
def RED_EVLOG1_STRIPE_L : Fld := ⟨RED_EVLOG1, 0, 32⟩
/-- RO STRIPE_H[7:0], R283. -/
def RED_EVLOG2_STRIPE_H : Fld := ⟨RED_EVLOG2, 0, 8⟩
/-- RO COUNT_M1[11:8], R283. -/
def RED_EVLOG2_COUNT_M1 : Fld := ⟨RED_EVLOG2, 8, 4⟩
/-- RO SEC[31:0], R283. -/
def RED_EVLOG3_SEC : Fld := ⟨RED_EVLOG3, 0, 32⟩
/-- W1S CLEAR[0:0], R283. -/
def RED_CNT_CTL_CLEAR : Fld := ⟨RED_CNT_CTL, 0, 1⟩
/-- RW OP[2:0], R284. -/
def RED_SET_CMD_OP : Fld := ⟨RED_SET_CMD, 0, 3⟩
/-- RW SET[5:3], R284. -/
def RED_SET_CMD_SET : Fld := ⟨RED_SET_CMD, 3, 3⟩
/-- RW SLOT[10:6], R284. -/
def RED_SET_CMD_SLOT : Fld := ⟨RED_SET_CMD, 6, 5⟩
/-- RW MEMBER[17:11], R284. -/
def RED_SET_CMD_MEMBER : Fld := ⟨RED_SET_CMD, 11, 7⟩
/-- W1S GO[31:31], R284. -/
def RED_SET_CMD_GO : Fld := ⟨RED_SET_CMD, 31, 1⟩
/-- RO BUSY[0:0], R284. -/
def RED_SET_CMD_STAT_BUSY : Fld := ⟨RED_SET_CMD_STAT, 0, 1⟩
/-- RO RESULT[3:1], R284. -/
def RED_SET_CMD_STAT_RESULT : Fld := ⟨RED_SET_CMD_STAT, 1, 3⟩
/-- RW MEMBERS[31:0], R284. -/
def RED_SET_DATA_MEMBERS (i : Nat) : Fld := ⟨RED_SET_DATA i, 0, 32⟩
/-- RW CFG[31:0], R284. -/
def RED_SET_DATA8_CFG : Fld := ⟨RED_SET_DATA8, 0, 32⟩
/-- RW OP[1:0], R284. -/
def RED_VOL_CMD_OP : Fld := ⟨RED_VOL_CMD, 0, 2⟩
/-- RW VOLUME[13:2], R284. -/
def RED_VOL_CMD_VOLUME : Fld := ⟨RED_VOL_CMD, 2, 12⟩
/-- RW SET[16:14], R284. -/
def RED_VOL_CMD_SET : Fld := ⟨RED_VOL_CMD, 14, 3⟩
/-- W1S GO[31:31], R284. -/
def RED_VOL_CMD_GO : Fld := ⟨RED_VOL_CMD, 31, 1⟩
/-- RW SLABS[15:0], R284. -/
def RED_VOL_ARG_SLABS : Fld := ⟨RED_VOL_ARG, 0, 16⟩
/-- RO BUSY[0:0], R284. -/
def RED_VOL_STAT_BUSY : Fld := ⟨RED_VOL_STAT, 0, 1⟩
/-- RO RESULT[3:1], R284. -/
def RED_VOL_STAT_RESULT : Fld := ⟨RED_VOL_STAT, 1, 3⟩
/-- RW OP[1:0], R284. -/
def RED_LOST_CMD_OP : Fld := ⟨RED_LOST_CMD, 0, 2⟩
/-- RW INDEX[14:2], R284. -/
def RED_LOST_CMD_INDEX : Fld := ⟨RED_LOST_CMD, 2, 13⟩
/-- W1S GO[31:31], R284. -/
def RED_LOST_CMD_GO : Fld := ⟨RED_LOST_CMD, 31, 1⟩
/-- RO BUSY[0:0], R284. -/
def RED_LOST_STAT_BUSY : Fld := ⟨RED_LOST_STAT, 0, 1⟩
/-- RO RESULT[2:1], R284. -/
def RED_LOST_STAT_RESULT : Fld := ⟨RED_LOST_STAT, 1, 2⟩
/-- RO COUNT[16:3], R284. -/
def RED_LOST_STAT_COUNT : Fld := ⟨RED_LOST_STAT, 3, 14⟩
/-- RO VALID[0:0], R284. -/
def RED_LOST_DATA0_VALID : Fld := ⟨RED_LOST_DATA0, 0, 1⟩
/-- RO SET[3:1], R284. -/
def RED_LOST_DATA0_SET : Fld := ⟨RED_LOST_DATA0, 1, 3⟩
/-- RO FIRST[7:4], R284. -/
def RED_LOST_DATA0_FIRST : Fld := ⟨RED_LOST_DATA0, 4, 4⟩
/-- RO COUNT_M1[11:8], R284. -/
def RED_LOST_DATA0_COUNT_M1 : Fld := ⟨RED_LOST_DATA0, 8, 4⟩
/-- RO VOLUME[23:12], R284. -/
def RED_LOST_DATA0_VOLUME : Fld := ⟨RED_LOST_DATA0, 12, 12⟩
/-- RO POS_MASK[31:0], R284. -/
def RED_LOST_DATA1_POS_MASK : Fld := ⟨RED_LOST_DATA1, 0, 32⟩
/-- RO STRIPE_L[31:0], R284. -/
def RED_LOST_DATA2_STRIPE_L : Fld := ⟨RED_LOST_DATA2, 0, 32⟩
/-- RO STRIPE_H[7:0], R284. -/
def RED_LOST_DATA3_STRIPE_H : Fld := ⟨RED_LOST_DATA3, 0, 8⟩
/-- RO LAYOUT[1:0], R285. -/
def RED_SET_CFG_LAYOUT (i : Nat) : Fld := ⟨RED_SET_CFG i, 0, 2⟩
/-- RO K[6:2], R285. -/
def RED_SET_CFG_K (i : Nat) : Fld := ⟨RED_SET_CFG i, 2, 5⟩
/-- RO M[9:7], R285. -/
def RED_SET_CFG_M (i : Nat) : Fld := ⟨RED_SET_CFG i, 7, 3⟩
/-- RO N[15:10], R285. -/
def RED_SET_CFG_N (i : Nat) : Fld := ⟨RED_SET_CFG i, 10, 6⟩
/-- RO SPARE[18:16], R285. -/
def RED_SET_CFG_SPARE (i : Nat) : Fld := ⟨RED_SET_CFG i, 16, 3⟩
/-- RO CIPHER[19:19], R285. -/
def RED_SET_CFG_CIPHER (i : Nat) : Fld := ⟨RED_SET_CFG i, 19, 1⟩
/-- RO SEED[31:20], R285. -/
def RED_SET_CFG_SEED (i : Nat) : Fld := ⟨RED_SET_CFG i, 20, 12⟩
/-- RO STATE[2:0], R285. -/
def RED_SET_STAT_STATE (i : Nat) : Fld := ⟨RED_SET_STAT i, 0, 3⟩
/-- RO SPARE_LOW[3:3], R285. -/
def RED_SET_STAT_SPARE_LOW (i : Nat) : Fld := ⟨RED_SET_STAT i, 3, 1⟩
/-- RO REBUILDING[4:4], R285. -/
def RED_SET_STAT_REBUILDING (i : Nat) : Fld := ⟨RED_SET_STAT i, 4, 1⟩
/-- RO GEN[31:16], R285. -/
def RED_SET_STAT_GEN (i : Nat) : Fld := ⟨RED_SET_STAT i, 16, 16⟩
/-- RO TOTAL[23:0], R285. -/
def RED_SET_SLABS_TOTAL (i : Nat) : Fld := ⟨RED_SET_SLABS i, 0, 24⟩
/-- RO FREE[23:0], R285. -/
def RED_SET_FREE_FREE (i : Nat) : Fld := ⟨RED_SET_FREE i, 0, 24⟩
/-- RO SET[2:0], R285. -/
def RED_MEM_SET (i : Nat) : Fld := ⟨RED_MEM i, 0, 3⟩
/-- RO INSET[3:3], R285. -/
def RED_MEM_INSET (i : Nat) : Fld := ⟨RED_MEM i, 3, 1⟩
/-- RO SLOT[8:4], R285. -/
def RED_MEM_SLOT (i : Nat) : Fld := ⟨RED_MEM i, 4, 5⟩
/-- RO FOREIGN[9:9], R285. -/
def RED_MEM_FOREIGN (i : Nat) : Fld := ⟨RED_MEM i, 9, 1⟩
/-- RO STALE[10:10], R285. -/
def RED_MEM_STALE (i : Nat) : Fld := ⟨RED_MEM i, 10, 1⟩
/-- RO EN[0:0], R285. -/
def RED_VOL0_EN (i : Nat) : Fld := ⟨RED_VOL0 i, 0, 1⟩
/-- RO SET[3:1], R285. -/
def RED_VOL0_SET (i : Nat) : Fld := ⟨RED_VOL0 i, 1, 3⟩
/-- RO LOST[4:4], R285. -/
def RED_VOL0_LOST (i : Nat) : Fld := ⟨RED_VOL0 i, 4, 1⟩
/-- RO MAX_SLABS[31:16], R285. -/
def RED_VOL0_MAX_SLABS (i : Nat) : Fld := ⟨RED_VOL0 i, 16, 16⟩
/-- RO ALLOC[15:0], R285. -/
def RED_VOL1_ALLOC (i : Nat) : Fld := ⟨RED_VOL1 i, 0, 16⟩
/-- RO SHARED[16:16], R285. -/
def RED_VOL1_SHARED (i : Nat) : Fld := ⟨RED_VOL1 i, 16, 1⟩
/-- RW EN[0:0], R308. -/
def CCH_CTL_EN : Fld := ⟨CCH_CTL, 0, 1⟩
/-- RW DEF_POLICY[2:1], R308. -/
def CCH_CTL_DEF_POLICY : Fld := ⟨CCH_CTL, 1, 2⟩
/-- RW PF_EN[3:3], R308. -/
def CCH_CTL_PF_EN : Fld := ⟨CCH_CTL, 3, 1⟩
/-- RW PF_DEPTH[7:4], R308. -/
def CCH_CTL_PF_DEPTH : Fld := ⟨CCH_CTL, 4, 4⟩
/-- RW LOCK_WAYS[11:8], R308. -/
def CCH_CTL_LOCK_WAYS : Fld := ⟨CCH_CTL, 8, 4⟩
/-- RO SETS[18:0], R308. -/
def CCH_GEOM_SETS : Fld := ⟨CCH_GEOM, 0, 19⟩
/-- RO LOCKED[22:0], R308. -/
def CCH_LOCK_STAT_LOCKED : Fld := ⟨CCH_LOCK_STAT, 0, 23⟩
/-- RW WR_RSV[12:0], R308. -/
def CCH_STG_CFG_WR_RSV : Fld := ⟨CCH_STG_CFG, 0, 13⟩
/-- RW RD_RSV[28:16], R308. -/
def CCH_STG_CFG_RD_RSV : Fld := ⟨CCH_STG_CFG, 16, 13⟩
/-- RO FREE[12:0], R308. -/
def CCH_STG_STAT_FREE : Fld := ⟨CCH_STG_STAT, 0, 13⟩
/-- RO HOLD[28:16], R308. -/
def CCH_STG_STAT_HOLD : Fld := ⟨CCH_STG_STAT, 16, 13⟩
/-- W1S CLEAR[0:0], R308. -/
def CCH_CNT_CTL_CLEAR : Fld := ⟨CCH_CNT_CTL, 0, 1⟩
/-- RW OP[2:0], R308. -/
def CCH_MNT_CMD_OP : Fld := ⟨CCH_MNT_CMD, 0, 3⟩
/-- RW RESPECT_LOCKS[3:3], R308. -/
def CCH_MNT_CMD_RESPECT_LOCKS : Fld := ⟨CCH_MNT_CMD, 3, 1⟩
/-- RW ID[15:8], R308. -/
def CCH_MNT_CMD_ID : Fld := ⟨CCH_MNT_CMD, 8, 8⟩
/-- W1S GO[31:31], R308. -/
def CCH_MNT_CMD_GO : Fld := ⟨CCH_MNT_CMD, 31, 1⟩
/-- RW VOLUME[11:0], R308. -/
def CCH_MNT_ARG0_VOLUME : Fld := ⟨CCH_MNT_ARG0, 0, 12⟩
/-- RW ALL[12:12], R308. -/
def CCH_MNT_ARG0_ALL : Fld := ⟨CCH_MNT_ARG0, 12, 1⟩
/-- RW START[29:0], R308. -/
def CCH_MNT_ARG1_START : Fld := ⟨CCH_MNT_ARG1, 0, 30⟩
/-- RW COUNT[29:0], R308. -/
def CCH_MNT_ARG2_COUNT : Fld := ⟨CCH_MNT_ARG2, 0, 30⟩
/-- RO BUSY[0:0], R308. -/
def CCH_MNT_STAT_BUSY : Fld := ⟨CCH_MNT_STAT, 0, 1⟩
/-- RO LEVEL[5:1], R308. -/
def CCH_MNT_STAT_LEVEL : Fld := ⟨CCH_MNT_STAT, 1, 5⟩
/-- RO FULL[6:6], R308. -/
def CCH_MNT_STAT_FULL : Fld := ⟨CCH_MNT_STAT, 6, 1⟩
/-- RC ID[7:0], R308. -/
def CCH_MNT_DONE0_ID : Fld := ⟨CCH_MNT_DONE0, 0, 8⟩
/-- RC STATUS[10:8], R308. -/
def CCH_MNT_DONE0_STATUS : Fld := ⟨CCH_MNT_DONE0, 8, 3⟩
/-- RC VALID[31:31], R308. -/
def CCH_MNT_DONE0_VALID : Fld := ⟨CCH_MNT_DONE0, 31, 1⟩
/-- RO LINES[29:0], R308. -/
def CCH_MNT_DONE1_LINES : Fld := ⟨CCH_MNT_DONE1, 0, 30⟩
/-- RO LOCKS_BROKEN[15:0], R308. -/
def CCH_MNT_DONE2_LOCKS_BROKEN : Fld := ⟨CCH_MNT_DONE2, 0, 16⟩
/-- RO SKIPPED[31:16], R308. -/
def CCH_MNT_DONE2_SKIPPED : Fld := ⟨CCH_MNT_DONE2, 16, 16⟩
/-- RW EN[0:0], R308. -/
def CCH_REG_CFG_EN (i : Nat) : Fld := ⟨CCH_REG_CFG i, 0, 1⟩
/-- RW POLICY[2:1], R308. -/
def CCH_REG_CFG_POLICY (i : Nat) : Fld := ⟨CCH_REG_CFG i, 1, 2⟩
/-- RW PF_EN[3:3], R308. -/
def CCH_REG_CFG_PF_EN (i : Nat) : Fld := ⟨CCH_REG_CFG i, 3, 1⟩
/-- RW VOLUME[15:4], R308. -/
def CCH_REG_CFG_VOLUME (i : Nat) : Fld := ⟨CCH_REG_CFG i, 4, 12⟩
/-- RW LINE[29:0], R308. -/
def CCH_REG_START_LINE (i : Nat) : Fld := ⟨CCH_REG_START i, 0, 30⟩
/-- RW LINE[29:0], R308. -/
def CCH_REG_END_LINE (i : Nat) : Fld := ⟨CCH_REG_END i, 0, 30⟩
/-- RW BLK_SHIFT[5:0], R329. -/
def CIP_CTL_BLK_SHIFT : Fld := ⟨CIP_CTL, 0, 6⟩
/-- RW WARN_SHIFT[13:8], R329. -/
def CIP_CTL_WARN_SHIFT : Fld := ⟨CIP_CTL, 8, 6⟩
/-- W1S KAT[16:16], R329. -/
def CIP_CTL_KAT : Fld := ⟨CIP_CTL, 16, 1⟩
/-- RO KAT_BUSY[0:0], R329. -/
def CIP_STAT_KAT_BUSY : Fld := ⟨CIP_STAT, 0, 1⟩
/-- RO LIVE[6:1], R329. -/
def CIP_STAT_LIVE : Fld := ⟨CIP_STAT, 1, 6⟩
/-- RO KCV[15:0], R329. -/
def CIP_KEK_KCV : Fld := ⟨CIP_KEK, 0, 16⟩
/-- RO PROG[16:16], R329. -/
def CIP_KEK_PROG : Fld := ⟨CIP_KEK, 16, 1⟩
/-- RC SLOT[11:0], R329. -/
def CIP_HWM_REQ_SLOT : Fld := ⟨CIP_HWM_REQ, 0, 12⟩
/-- RC VALID[31:31], R329. -/
def CIP_HWM_REQ_VALID : Fld := ⟨CIP_HWM_REQ, 31, 1⟩
/-- WO SLOT[11:0], R329. -/
def CIP_HWM_ACK_SLOT : Fld := ⟨CIP_HWM_ACK, 0, 12⟩
/-- W1S CLEAR[0:0], R329. -/
def CIP_CNT_CTL_CLEAR : Fld := ⟨CIP_CNT_CTL, 0, 1⟩
/-- RW INDEX[11:0], R329. -/
def CIP_KS_RDCMD_INDEX : Fld := ⟨CIP_KS_RDCMD, 0, 12⟩
/-- W1S GO[31:31], R329. -/
def CIP_KS_RDCMD_GO : Fld := ⟨CIP_KS_RDCMD, 31, 1⟩
/-- RO RESULT[2:0], R329. -/
def CIP_KS_RESULT_RESULT : Fld := ⟨CIP_KS_RESULT, 0, 3⟩
/-- RO SLOT[14:3], R329. -/
def CIP_KS_RESULT_SLOT : Fld := ⟨CIP_KS_RESULT, 3, 12⟩
/-- RO SALT[31:0], R329. -/
def CIP_KS_SALT_SALT : Fld := ⟨CIP_KS_SALT, 0, 32⟩
/-- RO RETIRED[0:0], R329. -/
def CIP_PIPE_STAT_RETIRED (i : Nat) : Fld := ⟨CIP_PIPE_STAT i, 0, 1⟩
/-- RO GATED[1:1], R329. -/
def CIP_PIPE_STAT_GATED (i : Nat) : Fld := ⟨CIP_PIPE_STAT i, 1, 1⟩
/-- RO QUEUED[8:2], R329. -/
def CIP_PIPE_STAT_QUEUED (i : Nat) : Fld := ⟨CIP_PIPE_STAT i, 2, 7⟩
/-- RO STATE[1:0], R329. -/
def CIP_KS_STAT_STATE (i : Nat) : Fld := ⟨CIP_KS_STAT i, 0, 2⟩
/-- RO MODE[2:2], R329. -/
def CIP_KS_STAT_MODE (i : Nat) : Fld := ⟨CIP_KS_STAT i, 2, 1⟩
/-- RO LOW[3:3], R329. -/
def CIP_KS_STAT_LOW (i : Nat) : Fld := ⟨CIP_KS_STAT i, 3, 1⟩
/-- RO REQ[4:4], R329. -/
def CIP_KS_STAT_REQ (i : Nat) : Fld := ⟨CIP_KS_STAT i, 4, 1⟩
/-- RO KCV[31:16], R329. -/
def CIP_KS_STAT_KCV (i : Nat) : Fld := ⟨CIP_KS_STAT i, 16, 16⟩
/-- RWC SLOT[11:0], R329. -/
def CIP_VOL_KEY_SLOT (i : Nat) : Fld := ⟨CIP_VOL_KEY i, 0, 12⟩
/-- RWC EN[12:12], R329. -/
def CIP_VOL_KEY_EN (i : Nat) : Fld := ⟨CIP_VOL_KEY i, 12, 1⟩
/-- RW EN[0:0], R372. -/
def NZL_CTL_EN : Fld := ⟨NZL_CTL, 0, 1⟩
/-- RW REVERT_EN[1:1], R372. -/
def NZL_CTL_REVERT_EN : Fld := ⟨NZL_CTL, 1, 1⟩
/-- RW SWAP_EN[2:2], R372. -/
def NZL_CTL_SWAP_EN : Fld := ⟨NZL_CTL, 2, 1⟩
/-- W1S FENCE[3:3], R372. -/
def NZL_CTL_FENCE : Fld := ⟨NZL_CTL, 3, 1⟩
/-- RW HOLDOFF[15:8], R372. -/
def NZL_CTL_HOLDOFF : Fld := ⟨NZL_CTL, 8, 8⟩
/-- RW SWAP_DAYS[23:16], R372. -/
def NZL_CTL_SWAP_DAYS : Fld := ⟨NZL_CTL, 16, 8⟩
/-- RW SWAP_HOUR[28:24], R372. -/
def NZL_CTL_SWAP_HOUR : Fld := ⟨NZL_CTL, 24, 5⟩
/-- RW ACK_STALL[7:0], R372. -/
def NZL_TIMING_ACK_STALL : Fld := ⟨NZL_TIMING, 0, 8⟩
/-- RW REPLAY[15:8], R372. -/
def NZL_TIMING_REPLAY : Fld := ⟨NZL_TIMING, 8, 8⟩
/-- RW HS_WAIT[27:16], R372. -/
def NZL_TIMING_HS_WAIT : Fld := ⟨NZL_TIMING, 16, 12⟩
/-- RO GRP_UP[3:0], R372. -/
def NZL_STAT_GRP_UP : Fld := ⟨NZL_STAT, 0, 4⟩
/-- RO PRESENT[4:4], R372. -/
def NZL_STAT_PRESENT : Fld := ⟨NZL_STAT, 4, 1⟩
/-- RO IN_STEP[5:5], R372. -/
def NZL_STAT_IN_STEP : Fld := ⟨NZL_STAT, 5, 1⟩
/-- RO STALE[6:6], R372. -/
def NZL_STAT_STALE : Fld := ⟨NZL_STAT, 6, 1⟩
/-- RO CLAIM_FAULT[7:7], R372. -/
def NZL_STAT_CLAIM_FAULT : Fld := ⟨NZL_STAT, 7, 1⟩
/-- RO RESYNC[8:8], R372. -/
def NZL_STAT_RESYNC : Fld := ⟨NZL_STAT, 8, 1⟩
/-- RO LOSS_HOLD[9:9], R372. -/
def NZL_STAT_LOSS_HOLD : Fld := ⟨NZL_STAT, 9, 1⟩
/-- RO PEER_MODE[12:10], R372. -/
def NZL_STAT_PEER_MODE : Fld := ⟨NZL_STAT, 10, 3⟩
/-- RO HS[15:13], R372. -/
def NZL_STAT_HS : Fld := ⟨NZL_STAT, 13, 3⟩
/-- RO LOSS[19:16], R372. -/
def NZL_STAT_LOSS : Fld := ⟨NZL_STAT, 16, 4⟩
/-- RW SCORE[9:0], R372. -/
def NZL_CLAIM_SCORE : Fld := ⟨NZL_CLAIM, 0, 10⟩
/-- RO READY[10:10], R372. -/
def NZL_CLAIM_READY : Fld := ⟨NZL_CLAIM, 10, 1⟩
/-- RO SERVING[11:11], R372. -/
def NZL_CLAIM_SERVING : Fld := ⟨NZL_CLAIM, 11, 1⟩
/-- RO BASE[19:16], R372. -/
def NZL_CLAIM_BASE : Fld := ⟨NZL_CLAIM, 16, 4⟩
/-- RO SENT[15:0], R372. -/
def NZL_CLAIM_STAT_SENT : Fld := ⟨NZL_CLAIM_STAT, 0, 16⟩
/-- RO WIN[31:16], R372. -/
def NZL_CLAIM_STAT_WIN : Fld := ⟨NZL_CLAIM_STAT, 16, 16⟩
/-- RO IMG_VER[15:0], R372. -/
def NZL_PEER_IMG_VER : Fld := ⟨NZL_PEER, 0, 16⟩
/-- RO BASE[19:16], R372. -/
def NZL_PEER_BASE : Fld := ⟨NZL_PEER, 16, 4⟩
/-- RO PCT[6:0], R372. -/
def NZL_RESYNC_PCT : Fld := ⟨NZL_RESYNC, 0, 7⟩
/-- RO HOURS[15:0], R372. -/
def NZL_SWAP_LEFT_HOURS : Fld := ⟨NZL_SWAP_LEFT, 0, 16⟩
/-- W1S CLEAR[0:0], R372. -/
def NZL_CNT_CTL_CLEAR : Fld := ⟨NZL_CNT_CTL, 0, 1⟩
/-- RO LANEk[15:0], R372. -/
def NZL_GRP_STAT_LANE (i : Nat) : Fld := ⟨NZL_GRP_STAT i, 0, 16⟩
/-- RO UP[16:16], R372. -/
def NZL_GRP_STAT_UP (i : Nat) : Fld := ⟨NZL_GRP_STAT i, 16, 1⟩
/-- RO CREDIT[27:17], R372. -/
def NZL_GRP_STAT_CREDIT (i : Nat) : Fld := ⟨NZL_GRP_STAT i, 17, 11⟩
/-- RW SGP_EN[0:0], R438. -/
def SLP_CTL_SGP_EN : Fld := ⟨SLP_CTL, 0, 1⟩
/-- RW SGP_KHZ[7:1], R438. -/
def SLP_CTL_SGP_KHZ : Fld := ⟨SLP_CTL, 1, 7⟩
/-- RW PRES_POL[8:8], R438. -/
def SLP_CTL_PRES_POL : Fld := ⟨SLP_CTL, 8, 1⟩
/-- RW RS_SLOT[11:0], R438. -/
def SLP_SENSE_RS_SLOT : Fld := ⟨SLP_SENSE, 0, 12⟩
/-- RW RS_FEED[27:16], R438. -/
def SLP_SENSE_RS_FEED : Fld := ⟨SLP_SENSE, 16, 12⟩
/-- RW PF_TH[7:0], R438. -/
def SLP_PF_CFG_PF_TH : Fld := ⟨SLP_PF_CFG, 0, 8⟩
/-- RW PF_DLY[15:8], R438. -/
def SLP_PF_CFG_PF_DLY : Fld := ⟨SLP_PF_CFG, 8, 8⟩
/-- RW ALERT_EN[16:16], R438. -/
def SLP_PF_CFG_ALERT_EN : Fld := ⟨SLP_PF_CFG, 16, 1⟩
/-- RO PFAIL[0:0], R438. -/
def SLP_STAT_PFAIL : Fld := ⟨SLP_STAT, 0, 1⟩
/-- RO HELD[1:1], R438. -/
def SLP_STAT_HELD : Fld := ⟨SLP_STAT, 1, 1⟩
/-- RO STAGE[3:2], R438. -/
def SLP_STAT_STAGE : Fld := ⟨SLP_STAT, 2, 2⟩
/-- RW EN[3:0], R438. -/
def SLP_SMB_CFG_EN : Fld := ⟨SLP_SMB_CFG, 0, 4⟩
/-- RW FAST[7:4], R438. -/
def SLP_SMB_CFG_FAST : Fld := ⟨SLP_SMB_CFG, 4, 4⟩
/-- W1C STUCK[11:8], R438. -/
def SLP_SMB_CFG_STUCK : Fld := ⟨SLP_SMB_CFG, 8, 4⟩
/-- RW LOC[31:0], R438. -/
def SLP_LOCATE_L_LOC : Fld := ⟨SLP_LOCATE_L, 0, 32⟩
/-- RW LOC[31:0], R438. -/
def SLP_LOCATE_H_LOC : Fld := ⟨SLP_LOCATE_H, 0, 32⟩
/-- RO PRES[31:0], R438. -/
def SLP_PRES_L_PRES : Fld := ⟨SLP_PRES_L, 0, 32⟩
/-- RO PRES[31:0], R438. -/
def SLP_PRES_H_PRES : Fld := ⟨SLP_PRES_H, 0, 32⟩
/-- W1S CLEAR[0:0], R438. -/
def SLP_CNT_CTL_CLEAR : Fld := ⟨SLP_CNT_CTL, 0, 1⟩
/-- RW MODE[1:0], R439. -/
def SLP_CH_CFG_MODE (i : Nat) : Fld := ⟨SLP_CH_CFG i, 0, 2⟩
/-- RW RAMP[7:2], R439. -/
def SLP_CH_CFG_RAMP (i : Nat) : Fld := ⟨SLP_CH_CFG i, 2, 6⟩
/-- RW ILIM[15:8], R439. -/
def SLP_CH_CFG_ILIM (i : Nat) : Fld := ⟨SLP_CH_CFG i, 8, 8⟩
/-- RW FT_MULT[18:16], R439. -/
def SLP_CH_CFG_FT_MULT (i : Nat) : Fld := ⟨SLP_CH_CFG i, 16, 3⟩
/-- RW TIMER[24:19], R439. -/
def SLP_CH_CFG_TIMER (i : Nat) : Fld := ⟨SLP_CH_CFG i, 19, 6⟩
/-- RW RETRIES[28:25], R439. -/
def SLP_CH_CFG_RETRIES (i : Nat) : Fld := ⟨SLP_CH_CFG i, 25, 4⟩
/-- RW UNLIM[29:29], R439. -/
def SLP_CH_CFG_UNLIM (i : Nat) : Fld := ⟨SLP_CH_CFG i, 29, 1⟩
/-- RW FAIL_LAMP[30:30], R439. -/
def SLP_CH_CFG_FAIL_LAMP (i : Nat) : Fld := ⟨SLP_CH_CFG i, 30, 1⟩
/-- W1S CLEAR[31:31], R439. -/
def SLP_CH_CFG_CLEAR (i : Nat) : Fld := ⟨SLP_CH_CFG i, 31, 1⟩
/-- RW PG_HI[7:0], R439. -/
def SLP_CH_PG_PG_HI (i : Nat) : Fld := ⟨SLP_CH_PG i, 0, 8⟩
/-- RW PG_LO[15:8], R439. -/
def SLP_CH_PG_PG_LO (i : Nat) : Fld := ⟨SLP_CH_PG i, 8, 8⟩
/-- RW VGS_ON[23:16], R439. -/
def SLP_CH_PG_VGS_ON (i : Nat) : Fld := ⟨SLP_CH_PG i, 16, 8⟩
/-- RO STATE[2:0], R439. -/
def SLP_CH_STAT_STATE (i : Nat) : Fld := ⟨SLP_CH_STAT i, 0, 3⟩
/-- RO CAUSE[5:3], R439. -/
def SLP_CH_STAT_CAUSE (i : Nat) : Fld := ⟨SLP_CH_STAT i, 3, 3⟩
/-- RO PG[6:6], R439. -/
def SLP_CH_STAT_PG (i : Nat) : Fld := ⟨SLP_CH_STAT i, 6, 1⟩
/-- RO LIMITING[7:7], R439. -/
def SLP_CH_STAT_LIMITING (i : Nat) : Fld := ⟨SLP_CH_STAT i, 7, 1⟩
/-- RO ATTEMPTS[11:8], R439. -/
def SLP_CH_STAT_ATTEMPTS (i : Nat) : Fld := ⟨SLP_CH_STAT i, 8, 4⟩
/-- RO PRESENT[12:12], R439. -/
def SLP_CH_STAT_PRESENT (i : Nat) : Fld := ⟨SLP_CH_STAT i, 12, 1⟩
/-- RO IOUT[15:0], R439. -/
def SLP_CH_MEAS_IOUT (i : Nat) : Fld := ⟨SLP_CH_MEAS i, 0, 16⟩
/-- RO VOUT[31:16], R439. -/
def SLP_CH_MEAS_VOUT (i : Nat) : Fld := ⟨SLP_CH_MEAS i, 16, 16⟩
/-- RW EN[0:0], R439. -/
def SLP_FD_CFG_EN (i : Nat) : Fld := ⟨SLP_FD_CFG i, 0, 1⟩
/-- RW UV_TH[8:1], R439. -/
def SLP_FD_CFG_UV_TH (i : Nat) : Fld := ⟨SLP_FD_CFG i, 1, 8⟩
/-- RW OV_TH[16:9], R439. -/
def SLP_FD_CFG_OV_TH (i : Nat) : Fld := ⟨SLP_FD_CFG i, 9, 8⟩
/-- RW PCG_TO[24:17], R439. -/
def SLP_FD_CFG_PCG_TO (i : Nat) : Fld := ⟨SLP_FD_CFG i, 17, 8⟩
/-- RO STATE[2:0], R439. -/
def SLP_FD_STAT_STATE (i : Nat) : Fld := ⟨SLP_FD_STAT i, 0, 3⟩
/-- RO OPEN[7:4], R439. -/
def SLP_FD_STAT_OPEN (i : Nat) : Fld := ⟨SLP_FD_STAT i, 4, 4⟩
/-- RO VIN[15:0], R439. -/
def SLP_FD_MEAS_VIN (i : Nat) : Fld := ⟨SLP_FD_MEAS i, 0, 16⟩
/-- RO IIN[31:16], R439. -/
def SLP_FD_MEAS_IIN (i : Nat) : Fld := ⟨SLP_FD_MEAS i, 16, 16⟩
/-- RO VBUS[15:0], R439. -/
def SLP_FD_VBUS_VBUS (i : Nat) : Fld := ⟨SLP_FD_VBUS i, 0, 16⟩
/-- RW USER_EN[0:0], R452. -/
def MON_CTL_USER_EN : Fld := ⟨MON_CTL, 0, 1⟩
/-- RW REMOTE_EN[1:1], R452. -/
def MON_CTL_REMOTE_EN : Fld := ⟨MON_CTL, 1, 1⟩
/-- RW REMOTE_SCOPE[2:2], R452. -/
def MON_CTL_REMOTE_SCOPE : Fld := ⟨MON_CTL, 2, 1⟩
/-- W1S SNAP_ALL[3:3], R452. -/
def MON_CTL_SNAP_ALL : Fld := ⟨MON_CTL, 3, 1⟩
/-- RW WIN_US[21:0], R452. -/
def MON_BW_CFG_WIN_US : Fld := ⟨MON_BW_CFG, 0, 22⟩
/-- RW EN[22:22], R452. -/
def MON_BW_CFG_EN : Fld := ⟨MON_BW_CFG, 22, 1⟩
/-- RO SEQ[31:0], R452. -/
def MON_BW_SEQ_SEQ : Fld := ⟨MON_BW_SEQ, 0, 32⟩
/-- RC UNIT[7:0], R452. -/
def MON_SRAM_LAST_UNIT : Fld := ⟨MON_SRAM_LAST, 0, 8⟩
/-- RC UE[8:8], R452. -/
def MON_SRAM_LAST_UE : Fld := ⟨MON_SRAM_LAST, 8, 1⟩
/-- RC VALID[31:31], R452. -/
def MON_SRAM_LAST_VALID : Fld := ⟨MON_SRAM_LAST, 31, 1⟩
/-- RW EN[13:0], R452. -/
def MON_HEALTH_EN_EN : Fld := ⟨MON_HEALTH_EN, 0, 14⟩
/-- W1C SRC[13:0], R452. -/
def MON_HEALTH_STAT_SRC : Fld := ⟨MON_HEALTH_STAT, 0, 14⟩
/-- W1C SLOT[31:16], R452. -/
def MON_HEALTH_STAT_SLOT : Fld := ⟨MON_HEALTH_STAT, 16, 16⟩
/-- RW WIN[15:0], R452. -/
def MON_HEALTH_WIN_WIN : Fld := ⟨MON_HEALTH_WIN, 0, 16⟩
/-- RW GROUP[7:0], R452. -/
def MON_HSLOT_CFG_GROUP (i : Nat) : Fld := ⟨MON_HSLOT_CFG i, 0, 8⟩
/-- RW CODE[17:8], R452. -/
def MON_HSLOT_CFG_CODE (i : Nat) : Fld := ⟨MON_HSLOT_CFG i, 8, 10⟩
/-- RW EN[18:18], R452. -/
def MON_HSLOT_CFG_EN (i : Nat) : Fld := ⟨MON_HSLOT_CFG i, 18, 1⟩
/-- RW THRESH[15:0], R452. -/
def MON_HSLOT_CNT_THRESH (i : Nat) : Fld := ⟨MON_HSLOT_CNT i, 0, 16⟩
/-- RO COUNT[31:16], R452. -/
def MON_HSLOT_CNT_COUNT (i : Nat) : Fld := ⟨MON_HSLOT_CNT i, 16, 16⟩
/-- RW EN[0:0], R452. -/
def MON_GRP_CTL_EN (i : Nat) : Fld := ⟨MON_GRP_CTL i, 0, 1⟩
/-- W1S SNAP[1:1], R452. -/
def MON_GRP_CTL_SNAP (i : Nat) : Fld := ⟨MON_GRP_CTL i, 1, 1⟩
/-- RW VIEW[2:2], R452. -/
def MON_GRP_CTL_VIEW (i : Nat) : Fld := ⟨MON_GRP_CTL i, 2, 1⟩
/-- W1S CLEAR[3:3], R452. -/
def MON_GRP_CTL_CLEAR (i : Nat) : Fld := ⟨MON_GRP_CTL i, 3, 1⟩
/-- RW OVF_ALERT[15:8], R452. -/
def MON_GRP_CTL_OVF_ALERT (i : Nat) : Fld := ⟨MON_GRP_CTL i, 8, 8⟩
/-- W1C OVF[7:0], R452. -/
def MON_GRP_STAT_OVF (i : Nat) : Fld := ⟨MON_GRP_STAT i, 0, 8⟩
/-- RW CODE[9:0], R452. -/
def MON_PC_SEL_CODE (i j : Nat) : Fld := ⟨MON_PC_SEL i j, 0, 10⟩
/-- RO BAD[10:10], R452. -/
def MON_PC_SEL_BAD (i j : Nat) : Fld := ⟨MON_PC_SEL i j, 10, 1⟩
/-- RW OVF_GIB[3:0], R310. -/
def DMC_CFG_OVF_GIB : Fld := ⟨DMC_CFG, 0, 4⟩
/-- RW JRN_GIB[13:8], R310. -/
def DMC_CFG_JRN_GIB : Fld := ⟨DMC_CFG, 8, 6⟩
/-- RW MAP_GIB[20:16], R310. -/
def DMC_CFG_MAP_GIB : Fld := ⟨DMC_CFG, 16, 5⟩
/-- RO CH_MASK[11:0], R310. -/
def DMC_INFO_CH_MASK : Fld := ⟨DMC_INFO, 0, 12⟩
/-- RO DENSITY[17:12], R310. -/
def DMC_INFO_DENSITY : Fld := ⟨DMC_INFO, 12, 6⟩
/-- RO INSTALLED_GIB[26:18], R310. -/
def DMC_INFO_INSTALLED_GIB : Fld := ⟨DMC_INFO, 18, 9⟩
/-- RO USABLE_GIB[8:0], R310. -/
def DMC_PART_STAT_USABLE_GIB : Fld := ⟨DMC_PART_STAT, 0, 9⟩
/-- RO CACHE_GIB[17:9], R310. -/
def DMC_PART_STAT_CACHE_GIB : Fld := ⟨DMC_PART_STAT, 9, 9⟩
/-- RO ERR[21:18], R310. -/
def DMC_PART_STAT_ERR : Fld := ⟨DMC_PART_STAT, 18, 4⟩
/-- RW HOURS[7:0], R310. -/
def DMC_SCRUB_HOURS : Fld := ⟨DMC_SCRUB, 0, 8⟩
/-- RC PART[1:0], R310. -/
def DMC_UE_LAST_PART : Fld := ⟨DMC_UE_LAST, 0, 2⟩
/-- RC CH[7:4], R310. -/
def DMC_UE_LAST_CH : Fld := ⟨DMC_UE_LAST, 4, 4⟩
/-- RC VALID[31:31], R310. -/
def DMC_UE_LAST_VALID : Fld := ⟨DMC_UE_LAST, 31, 1⟩
/-- W1S CLEAR[0:0], R310. -/
def DMC_CNT_CTL_CLEAR : Fld := ⟨DMC_CNT_CTL, 0, 1⟩
/-- RW EN[0:0], R397. -/
def ADM_CTL_EN : Fld := ⟨ADM_CTL, 0, 1⟩
/-- RW ENTRIES_M1[5:1], R397. -/
def ADM_CTL_ENTRIES_M1 : Fld := ⟨ADM_CTL, 1, 5⟩
/-- RW IEN[6:6], R397. -/
def ADM_CTL_IEN : Fld := ⟨ADM_CTL, 6, 1⟩
/-- RW VECTOR[17:7], R397. -/
def ADM_CTL_VECTOR : Fld := ⟨ADM_CTL, 7, 11⟩
/-- RW KATO[31:18], R397. -/
def ADM_CTL_KATO : Fld := ⟨ADM_CTL, 18, 14⟩
/-- RO RDY[0:0], R397. -/
def ADM_STAT_RDY : Fld := ⟨ADM_STAT, 0, 1⟩
/-- RO ASSOC[10:1], R397. -/
def ADM_STAT_ASSOC : Fld := ⟨ADM_STAT, 1, 10⟩
/-- RO ERR[12:11], R397. -/
def ADM_STAT_ERR : Fld := ⟨ADM_STAT, 11, 2⟩

end Sys2Proof.Machine
end

