-- ==== Sys2Proof/Machine/State.lean ====
section
/-! DEFINITION. The machine's state: plain data, nested by block, with every field's default its value right after a
PORn reset; the reasons a step can stop. -/

namespace Sys2Proof.Machine

/-! ### Time -/

/-- The part's free-running time and the device time. -/
structure Clock where
  /-- Wheel time of R122: nanoseconds of FCLK since DAWN began. -/
  nowNs : Nat := 0
  /-- Device time of R81 in units of 1/(1024·10^9) ns, so that NET_TIME_ADJ is exact; it restarts at every DAWN (R80, 03_network_ports.md). -/
  dev : Nat := 0
  deriving DecidableEq, Repr

/-! ### Mode sequencer, resets, boot, watchdog -/

/-- Whether a reset is being held (R14, R16). -/
inductive ResetHold where
  | none | chip | porn
  deriving DecidableEq, Repr

/-- The AON island and boot state beside the SYS registers. -/
structure Sys where
  /-- The reset in progress (R14, R16, R462). -/
  hold : ResetHold := .none
  /-- PORn held by the supply monitor (R466). -/
  supplyLow : Bool := false
  /-- PORn held by PWRON_N low (R462). -/
  pwronLow : Bool := false
  /-- High-word latch of each requester, keyed by its code (R9); an unlisted requester's latch reads 0. -/
  latches : List (Nat × Word) := []
  /-- Device-time seconds latched for each requester by a read of NET_TIME_NS (R81). -/
  timeLatches : List (Nat × Nat) := []
  /-- CUR is 0 and the power gates are closing (R45 step 6, R46). -/
  gatesClosing : Bool := false
  /-- A wake source arrived while the gates closed (R46). -/
  heldWake : Bool := false
  /-- The mode the NIGHT request was accepted in (R45, R46). -/
  nightFrom : Nat := 0
  /-- DAWN step 1 done: the main-die power gates are open (R48). -/
  gatesOpen : Bool := false
  /-- DAWN step 2 done: PLLs locked and fuses loaded (R48). -/
  pllLocked : Bool := false
  /-- The boot copies tried and failed in this DAWN, as a mask (R50). -/
  copiesFailed : Nat := 0
  /-- An image has been verified and runs (R50). -/
  imageRunning : Bool := false
  /-- DAWN step 5 done (R48). -/
  bistDone : Bool := false
  /-- DAWN step 6 done (R48). -/
  sramInit : Bool := false
  /-- DAWN step 7 done (R48). -/
  dramTrained : Bool := false
  /-- The watchdog is armed (R55). -/
  wdogArmed : Bool := false
  /-- Stage 2 of the watchdog runs (R55). -/
  wdogStage2 : Bool := false
  /-- MIDNIGHT was entered from DAWN, so frozen blocks read 0 (R41). -/
  midnightFromDawn : Bool := false
  /-- AVS setpoint writes sent and not acknowledged in this DAWN (R464). -/
  avsTries : Nat := 0
  /-- The AVS write was acknowledged, or given up (R464). -/
  avsDone : Bool := false
  /-- Budget-interval ends since the NIGHT request was accepted (R46, R64). -/
  drainCount : Nat := 0
  /-- Version and oldest partner accepted of the running image (R386). -/
  imgVersion : Nat := 0
  /-- MIN_PARTNER of the running image. -/
  imgMinPartner : Nat := 0
  /-- CUR reached a serving mode or TWILIGHT since the last reset (R51). -/
  served : Bool := false
  /-- DRAM training found channels of different densities (R35, R310). -/
  dramDiffer : Bool := false
  deriving DecidableEq, Repr

/-! ### Power die interface and clock gating -/

/-- The gate phase of an engine cluster (R19, R20): an entry once started completes. -/
inductive GatePhase where
  | awake | enteringCg | clockGated | enteringPg | powerGated
  deriving DecidableEq, Repr

/-! ### Network ports, classifier, switch core, egress -/

/-- What an RDMA packet sent by the part carries (06_rdma_transport.md). -/
inductive PktKind where
  | ack (syndrome msn : Nat)
  | cnp
  | sendCqe (cid status sqhd sqid result : Nat)
  | sendEvent (payload : Nat)
  | writeData (rkey va bytes payload : Nat)
  | readReq (rkey va bytes : Nat)
  | readResp (bytes payload : Nat)
  deriving DecidableEq, Repr

/-- An RDMA packet sent by the part. -/
structure Pkt where
  qpn  : Nat
  psn  : Nat
  kind : PktKind
  deriving DecidableEq, Repr

/-- Where a frame's cells are held (R107). -/
inductive Place where
  | guaranteed | shared | lossless | dram
  deriving DecidableEq, Repr

/-- A frame in the switch core. `bytes` counts destination address to FCS (R106); `data` is its octets without the FCS
(empty for a frame the part built); `icls` its ingress class (R108). -/
structure Frame where
  id     : Nat
  inPort : Nat
  icls   : Nat
  bytes  : Nat
  data   : List (BitVec 8) := []
  q      : Nat := 0
  l3     : Nat := 0
  tc     : Nat := 0
  colour : Nat := 0
  ecn    : Nat := 0
  isIp   : Bool := false
  pass   : Nat := 0
  recMeta : Nat := 0
  tcSet  : Bool := false
  colSet : Bool := false
  place  : Place := .guaranteed
  joined : Nat := 0
  rxTs   : Option Nat := none
  reason : Option Nat := none
  stamp  : Nat := 0
  pkt    : Option Pkt := none
  tag    : Option Nat := none
  deriving DecidableEq, Repr

/-- A pause or PFC frame the MAC has to send (R108): one class, or `none` for 802.3x, with its quanta. -/
structure PauseTx where
  cls    : Option Nat
  quanta : Nat
  deriving DecidableEq, Repr

/-- One network port beside its registers. -/
structure PortSt where
  /-- Classes TC0–TC7 stopped by received pause or PFC, as a mask (R78). -/
  stopped : Nat := 0
  /-- Timestamp FIFO, oldest first: nanoseconds, seconds, sequenceId (R80). -/
  tsFifo : List (Nat × Nat × Nat) := []
  /-- Classes for which XOFF is in force, as a mask; bit 0 for 802.3x (R108). -/
  xoffSent : Nat := 0
  /-- Pause and PFC frames waiting for the MAC (R119 item 1). -/
  pauseTx : List PauseTx := []
  /-- DWRR pointer: the class visited next (R120). -/
  drr : Nat := 0
  /-- The class whose DWRR visit is under way (R120). -/
  drrCur : Option Nat := none
  deriving DecidableEq, Repr

/-- A slot or slot pair of the match memory: key and 64-bit action word (R90, R97). -/
structure MatchEntry where
  key    : Nat
  action : Nat
  deriving DecidableEq, Repr

/-- The classifier beside its registers. -/
structure Cls where
  /-- Match-table contents, keyed (table·4 + way)·65536 + slot (even slot of a pair in a wide table); unlisted is empty (R90). -/
  slots : List (Nat × MatchEntry) := []
  /-- Tables being cleared, as a mask: they miss (R95). -/
  clearing : Nat := 0
  /-- Fraction of a slow-path token, in millionths (R101). -/
  slowFrac : Nat := 0
  deriving DecidableEq, Repr

/-- The switch core beside its registers. -/
structure Swc where
  /-- Virtual output queues keyed input·128 + output: frames with the cells still to move, oldest first (R112). -/
  voq : List (Nat × List (Frame × Nat)) := []
  /-- Output queues keyed 16·port + class, oldest first (R106). -/
  outq : List (Nat × List Frame) := []
  /-- Frames that came back through P86 and wait for their next pass (R98). -/
  recirc : List Frame := []
  /-- Grant pointer of each output port (R113). -/
  grant : List (Nat × Nat) := []
  /-- Accept pointer of each input port (R113). -/
  accept : List (Nat × Nat) := []
  /-- WRED average of each queue in units of 2^-16 cell (R110). -/
  avg : List (Nat × Nat) := []
  /-- Shared pool size in cells, set at the commit (R107). -/
  pool : Nat := 0
  /-- Size in GiB of the switch overflow partition in force, set at the commit (R37, R38). -/
  ovfGib : Nat := 0
  deriving DecidableEq, Repr

/-- A rate limiter (R123–R126). -/
structure Limiter where
  /-- Next eligible time T in 1/16 ns (R123). -/
  t16 : Nat := 0
  /-- The limiter holds a wheel entry (R122). -/
  onWheel : Bool := false
  /-- The credit shaper governs (R124). -/
  shaper : Bool := false
  /-- Credit C in thousandths of a bit (R125). -/
  credit : Int := 0
  /-- Wheel time in ns at which the credit was last brought up to date (R125). -/
  upTo : Nat := 0
  /-- DWRR deficit in bytes (R120). -/
  deficit : Nat := 0
  deriving DecidableEq, Repr

/-- The egress scheduler beside its registers. -/
structure Egs where
  /-- Queue limiters keyed 16·port + class (R123). -/
  lim : List (Nat × Limiter) := []
  /-- Per-QP limiters keyed by QP number [13:0] (R126). -/
  qpLim : List (Nat × Limiter) := []
  deriving DecidableEq, Repr

/-! ### RDMA transport -/

/-- A READ record of the responder (R145): the request, and how far it got. -/
structure ReadRec where
  psn     : Nat
  va      : Nat
  len     : Nat
  rkey    : Nat
  port    : Nat
  /-- Handle of the window request in the command table; none for a zero-length READ. -/
  req     : Option Nat := none
  started : Bool := false
  done    : Bool := false
  /-- Dropped under R161; later responses and ACKs wait for its duplicate (R162). -/
  dropped : Bool := false
  deriving DecidableEq, Repr

/-- The message a responder is in the middle of (R136, R143). -/
structure CurMsg where
  isSend  : Bool
  first   : Nat
  va      : Nat := 0
  len     : Nat := 0
  rkey    : Nat := 0
  got     : Nat := 0
  data    : Nat := 0
  port    : Nat := 0
  stamp   : Nat := 0
  req     : Option Nat := none
  deriving DecidableEq, Repr

/-- Why the part reads a host's memory (R136). -/
inductive ReadPurpose where
  | writeData (tag : Nat)
  | doorbell (q : Nat)
  | entries (q : Nat) (slot count : Nat)
  deriving DecidableEq, Repr

/-- A message the part sends as requester (R476). -/
inductive MsgKind where
  | cqe (tag : Option Nat) (cqe : Nat) (inval : Option Nat)
  | event (cqe : Nat)
  | data (tag : Nat) (rkey va payload : Nat)
  | ringCqe (cqe : Nat) (rkey va : Nat)
  | read (purpose : ReadPurpose) (rkey va : Nat)
  deriving DecidableEq, Repr

/-- A requester message with its payload length. -/
structure Msg where
  kind  : MsgKind
  bytes : Nat
  deriving DecidableEq, Repr

/-- A requester message that has started: its PSNs, and for a READ which responses are present (R150, R153, R154). -/
structure OutMsg where
  msg   : Msg
  first : Nat
  count : Nat
  /-- Response PSNs present, as a mask. -/
  have' : Nat := 0
  data  : Nat := 0
  /-- Its retransmission hold cannot be resent intact (R153). -/
  lost  : Bool := false
  deriving DecidableEq, Repr

/-- A queue-pair context: the fields of R138, then what the hardware keeps beside them. -/
structure Qp where
  state    : Nat := 0
  pmtu     : Nat := 0
  t        : Nat := 0
  retryCnt : Nat := 0
  rnrRetry : Nat := 0
  minRnr   : Nat := 0
  peer     : Bool := false
  maxRd    : Nat := 0
  maxDestRd : Nat := 0
  kind     : Nat := 0
  assoc    : Nat := 0
  gen      : Nat := 0
  port     : Nat := 0
  lag      : Bool := false
  destQpn  : Nat := 0
  dscp     : Nat := 0
  ect      : Bool := false
  sqPsn    : Nat := 0
  unaPsn   : Nat := 0
  expStep  : Nat := 0
  retryLeft : Nat := 0
  epsn     : Nat := 0
  rnrLeft  : Nat := 0
  msn      : Nat := 0
  pKey     : Nat := 0
  sport    : Nat := 0
  rateBase : Nat := 0
  vid      : Nat := 0
  pcp      : Nat := 0
  tagged   : Bool := false
  ipv6     : Bool := false
  srcIdx   : Nat := 0
  destMac  : Nat := 0
  destIp   : Nat := 0
  /-- Tracker bitmap, bit i for PSN EPSN + i; none while the QP holds no tracker (R143). -/
  tracker  : Option Nat := none
  /-- Request packets placed out of order, by PSN, with the outcome of their window check: 0, or the AETH syndrome (R143). -/
  placed   : List (Nat × RoPkt × Nat) := []
  /-- Windows counted in IN_FLIGHT for messages not yet executed (R160). -/
  inWin    : List Nat := []
  /-- The reorder timer runs (R144). -/
  reorder  : Bool := false
  /-- A sequence NAK was sent for this EPSN (R143, R144). -/
  seqNaked : Bool := false
  /-- Requests are discarded until this PSN arrives again (R148). -/
  nakWait  : Option Nat := none
  /-- The message being received. -/
  cur      : Option CurMsg := none
  /-- A message failed its checks: its later packets are discarded without counting (R149). -/
  skipMsg  : Bool := false
  /-- A submission-queue slot is held for the message being received (R149). -/
  slotHeld : Bool := false
  /-- READ records, oldest first (R145). -/
  reads    : List ReadRec := []
  /-- In-order packets since the last ACK (R147). -/
  unacked  : Nat := 0
  /-- The ACK delay timer runs (R147). -/
  ackTimer : Bool := false
  /-- First PSN not acknowledged yet (R147). -/
  ackedTo  : Nat := 0
  /-- PSNs of window WRITEs not yet durable, which no ACK may pass (R147, R164). -/
  ackHeld  : List Nat := []
  /-- An ACK is called for and waits for a held PSN (R147). -/
  ackWant  : Bool := false
  /-- Messages queued and not started (R476). -/
  sendq    : List Msg := []
  /-- Messages started and not acknowledged (R150, R153). -/
  outst    : List OutMsg := []
  /-- An RNR wait is in progress (R151). -/
  rnrWait  : Bool := false
  /-- The PSN the RNR NAK named. -/
  rnrPsn   : Nat := 0
  /-- READ responses have a gap, whose timer runs (R154). -/
  respGap  : Bool := false
  /-- The ERROR flush runs (R141). -/
  flushing : Bool := false
  /-- Last credit received; none before the first one, and while the last one was 0b11111 (R147, R155). -/
  credit   : Option Nat := none
  /-- Messages sent since the last credit (R155). -/
  sentSince : Nat := 0
  /-- The last WRITE or SEND started, whose last packet draws an ACK while a credit of 0 stands (R155). -/
  lastOut  : Option OutMsg := none
  /-- Rate in force under R157; none before the first cut. -/
  ccCur    : Option Nat := none
  /-- Wheel time in ns of the last cut (R157). -/
  lastCut  : Option Nat := none
  /-- Recovery runs (R157). -/
  recovering : Bool := false
  /-- Wheel time in ns of the last CNP sent (R156). -/
  lastCnp  : Option Nat := none
  deriving DecidableEq, Repr

/-- A window descriptor (R158), and what is counted while REVOKING (R165). -/
structure Win where
  state    : Nat := 0
  policy   : Nat := 0
  rdEn     : Bool := false
  wrEn     : Bool := false
  stall    : Nat := 0
  vol      : Nat := 0
  tag      : Nat := 0
  baseVa   : Nat := 0
  length   : Nat := 0
  volLba   : Nat := 0
  inFlight : Nat := 0
  finished : Nat := 0
  naks     : Nat := 0
  /-- The Window Revoke admin command that waits for FREE: its tag (R174). -/
  waiter   : Option Nat := none
  deriving DecidableEq, Repr

/-- The RDMA block beside its registers. -/
structure Rdm where
  /-- Contexts by QP number [13:0]; unlisted is RESET (R137). -/
  qps : List (Nat × Qp) := []
  /-- Windows by number; unlisted is FREE (R158). -/
  wins : List (Nat × Win) := []
  /-- RDM_ERRQP FIFO: QPN and cause, oldest first, 64 entries (R167). -/
  errq : List (Nat × Nat) := []
  deriving DecidableEq, Repr

/-! ### Associations, queues, commands, engines -/

/-- A raw submission entry that has arrived at its queue, with its in-capsule data, stamp and ingress port (R146, R186). -/
structure Capsule where
  sqe   : Nat
  data  : Nat := 0
  stamp : Nat
  port  : Nat
  deriving DecidableEq, Repr

/-- What a command does (R173, R187). -/
inductive CmdKind where
  | flush | write | read | compare | zeroes | dealloc | admin (opc : Nat) | winRead | winWrite
  deriving DecidableEq, Repr

/-- How far a command has come. -/
inductive CmdState where
  /-- Checked, waiting for its arbiter (R184). -/
  | waiting
  /-- Tag taken, lock entries placed (R207). -/
  | placed
  /-- All lock entries granted (R209). -/
  | granted
  /-- Admitted and charged by the governor (R338). -/
  | admitted
  /-- Its data transfer or media work is under way. -/
  | running
  /-- Its work is done; the retire step may post its CQE. -/
  | done
  deriving DecidableEq, Repr

/-- Where a block's stored sector came from (R258). -/
inductive Src where
  /-- Unallocated or UNINIT: zeros. -/
  | zero
  /-- A journal record, by SEQ. -/
  | journal (seq : Nat)
  | cache
  | member
  deriving DecidableEq, Repr

/-- One block of a command: its stored sector, and its plaintext once verified or pulled. -/
structure Piece where
  block  : Nat
  src    : Src := .member
  stored : Option Nat := none
  plain  : Option Nat := none
  /-- Sectors read for its reconstruction, by strip position (R258). -/
  have'  : List (Nat × Nat) := []
  /-- Erased strip positions: unreadable, or failed their tag (R259). -/
  bad    : List Nat := []
  /-- Its sector came from reconstruction, and is written back where its own strip was erased (R259). -/
  recon  : Bool := false
  deriving DecidableEq, Repr

/-- A command or window request. -/
structure Cmd where
  kind    : CmdKind
  /-- Queue index (R197); none for a window request. -/
  queue   : Option Nat := none
  assoc   : Nat
  cid     : Nat := 0
  sqe     : Nat := 0
  data    : Nat := 0
  vol     : Nat := 0
  /-- Block ranges (first, count) in order. -/
  ranges  : List (Nat × Nat) := []
  /-- Byte offset and length of a window READ within the volume. -/
  bytes   : Nat × Nat := (0, 0)
  stamp   : Nat
  port    : Nat
  cluster : Nat := 0
  /-- Failure found by the checks of R175, as SCT·256 + SC. -/
  status  : Nat := 0
  result  : Nat := 0
  state   : CmdState := .waiting
  /-- Segment being executed (R212). -/
  seg     : Nat := 0
  /-- Staging slots held (R32, R304). -/
  credit  : Nat := 0
  /-- Where its data lies in host memory: address and length, in order (R176). -/
  host    : List (Nat × Nat) := []
  /-- Host rkey of that data. -/
  rkey    : Nat := 0
  /-- Its segment's data messages were queued, or its local data written (R28). -/
  sent    : Bool := false
  /-- The blocks of the segment being executed. -/
  pieces  : List Piece := []
  /-- Its cipher request waits for counters or a pipeline, or runs (R311, R317). -/
  cipher  : Bool := false
  /-- A write held by the arming of a snapshot or a power-fail warning (R216, R269). -/
  journaled : Bool := false
  /-- A fault of a window READ: its data is not all in the cache (R161). -/
  fault   : Bool := false
  /-- The window READ was dropped (R161). -/
  dropped : Bool := false
  /-- The QP and first PSN of a window request, and its window. -/
  qpn     : Nat := 0
  psn     : Nat := 0
  win     : Nat := 0
  /-- Abort mark (R192): tag of the Abort. -/
  abortBy : Option Nat := none
  /-- Its association is gone: no CQE (R172). -/
  orphan  : Bool := false
  /-- The journal SEQ of its record, while its mirror acknowledgement is awaited (R32). -/
  mirror  : Option Nat := none
  /-- The write is durable or failed for a Flush (R188). -/
  durable : Bool := false
  /-- The host data it reads has arrived in staging (R32). -/
  arrived : Bool := false
  /-- Its last data frame has left the MAC (R28). -/
  lastSent : Bool := false
  /-- Its wait for counters was counted (R317), its wait for journal room (R261), its wait for a staging slot (R304). -/
  ctrWait : Bool := false
  jrnWait : Bool := false
  stgWait : Bool := false
  /-- Deferred by the governor since this many intervals (R339). -/
  deferred : Option Nat := none
  /-- It was admitted before the epoch barrier in progress (R215). -/
  oldEpoch : Bool := false
  deriving DecidableEq, Repr

/-- What a ring does once its outstanding commands have completed (R179). -/
inductive RingAction where
  | detach (tag : Nat)
  | reepoch (tag : Nat) (epoch : Nat)
  deriving DecidableEq, Repr

/-- A queue context (R197). -/
structure Queue where
  /-- 0 admin, 1 I/O capsule, 2 remote ring, 3 local ring. -/
  type     : Nat
  cls      : Nat := 2
  stalled  : Bool := false
  phase    : Bool := true
  assoc    : Nat
  qid      : Nat
  entriesM1 : Nat
  sqHead   : Nat := 0
  sqTail   : Nat := 0
  cqTail   : Nat := 0
  active   : Bool := false
  epoch    : Nat := 0
  qpn      : Nat := 0
  vector   : Nat := 0
  ien      : Bool := false
  rkey     : Nat := 0
  sqBase   : Nat := 0
  cqBase   : Nat := 0
  dbAddr   : Nat := 0
  /-- Entries that have arrived and wait for decoding, oldest first. -/
  inbox    : List Capsule := []
  /-- Commands checked and waiting for admission, oldest first. -/
  waiting  : List Cmd := []
  /-- Submission-queue slots held for messages being received (R149). -/
  slotsHeld : Nat := 0
  /-- Its head's skip was counted in LOCK_FULL or HORIZON_HOLD (R211). -/
  held     : Bool := false
  /-- A doorbell word that has come back and waits to be judged (R180). -/
  dbWord   : Option Nat := none
  /-- Fetched entries that have come back: count, octets as a number, stamp, port (R186). -/
  entryIn  : List (Nat × Nat × Nat × Nat) := []
  /-- Chunks of new entries asked for and not handed on, in order: slot and count (R181). -/
  toFetch  : List (Nat × Nat) := []
  /-- Chunks that came back ahead of their turn, by slot: data, stamp, port. -/
  early    : List (Nat × (Nat × Nat × Nat)) := []
  /-- A doorbell read is outstanding (R181). -/
  dbOut    : Bool := false
  /-- A nudge made the next read due at the return of the outstanding one (R181). -/
  dbDue    : Bool := false
  /-- The bad doorbell value was reported (R180). -/
  dbBad    : Bool := false
  /-- Entries fetched and not yet returned (R181). -/
  fetching : Nat := 0
  /-- Fetching has stopped for a detach or re-epoch (R179), a reset (R172), or bus-master disable (R404). -/
  stopped  : Bool := false
  action   : Option RingAction := none
  /-- Stamp of the last ring entry (R186). -/
  lastStamp : Nat := 0
  /-- Commands admitted in this queue's turn (R184). -/
  turn     : Nat := 0
  deriving DecidableEq, Repr

/-- An association (R169–R172) beside CMDQ_ASSOC. -/
structure Assoc where
  disc     : Bool := false
  isLocal  : Bool := false
  kato     : Nat := 0
  /-- First 8 bytes of SHA-384 over the host NQN (R374). -/
  nqn      : Nat := 0
  /-- Ingress port of the admin Connect (R375). -/
  port     : Nat := 0
  /-- CC of the controller properties (R174). -/
  cc       : Nat := 0
  /-- CSTS.RDY. -/
  ready    : Bool := false
  /-- Async event configuration (R174). -/
  aenCfg   : Nat := 0
  /-- Outstanding Asynchronous Event Requests: tags, oldest first. -/
  aers     : List Nat := []
  /-- Events held for want of a request: type and info (R178, R189). -/
  events   : List (Nat × Nat) := []
  /-- Time in ns at which the keep-alive timer last restarted (R171). -/
  kaAt     : Nat := 0
  deriving DecidableEq, Repr

/-- A range-lock entry (R207). -/
structure LockEntry where
  vol     : Nat
  stripe  : Nat
  mask    : Nat
  stamp   : Nat
  owner   : Nat
  isWrite : Bool
  granted : Bool := false
  shard   : Nat
  deriving DecidableEq, Repr

/-- A cluster's arbiter: WRR credit of High, Medium and Low, and the rotating queue pointer of each class (R184). -/
structure Arb where
  high   : Nat := 0
  medium : Nat := 0
  low    : Nat := 0
  /-- Queue whose turn it is in each class: admin, urgent, high, medium, low. -/
  ptr    : List (Nat × Nat) := []
  deriving DecidableEq, Repr

/-- The command-queue block beside its registers. -/
structure Cmdq where
  assocs  : List (Nat × Assoc) := []
  /-- Queues by index: 0–16,383 I/O, 16,384 + a admin (R197). -/
  queues  : List (Nat × Queue) := []
  /-- Commands by handle: 0–65,535 the tag (R191), 65,536 and above window requests. -/
  cmds    : List (Nat × Cmd) := []
  /-- Next handle of a window request. -/
  winNext : Nat := 65536
  /-- Capsules that arrived on a QP with no queue yet and wait for firmware (Connect), by QP number (R170). -/
  connects : List (Nat × Capsule) := []
  /-- PF1 nudge FIFO: QIDs, oldest first, 256 entries (R182). -/
  nudges  : List Nat := []
  arbs    : List (Nat × Arb) := []
  /-- ANA change count (R177). -/
  anaCount : Nat := 0
  deriving DecidableEq, Repr

/-- A stripe engine (R199–R205). -/
structure Engine where
  /-- Deque of command handles, head first (R203). -/
  deque    : List Nat := []
  /-- Contexts: command handle and whether it is parked (R200). -/
  ctxs     : List (Nat × Bool) := []
  /-- Engine of the last victim among siblings (R204). -/
  lastVictim : Nat := 0
  /-- Last victim cluster (R205). -/
  lastCluster : Nat := 0
  /-- It has turned to other clusters (R205). -/
  remote   : Bool := false
  /-- It has stopped probing (R205). -/
  asleep   : Bool := false
  /-- Microcode bank it runs on (R217). -/
  bank     : Nat := 0
  /-- It has acknowledged the barrier and waits to switch banks (R217). -/
  switching : Bool := false
  deriving DecidableEq, Repr

/-- The stripe-engine block beside its registers. -/
structure Eng where
  /-- Engines by global number; unlisted is empty. -/
  engines : List (Nat × Engine) := []
  /-- Gate phase of each cluster (R19, R20); unlisted is awake. -/
  gates   : List (Nat × GatePhase) := []
  /-- Work arrived during a gating entry (R20). -/
  wakeDue : List (Nat × Bool) := []
  /-- Range-lock entries in placement order (R207). -/
  locks   : List LockEntry := []
  /-- SWC_HASH_SEED latched at the commit (R208). -/
  lockSeed : Nat := 0
  /-- Global operation in progress: 0 none, else the OP code; 5 microcode activation (R214–R218). -/
  globalOp : Nat := 0
  /-- An activation waits for the global operation in progress: the stamp count of its write (R218). -/
  ucWait  : Option Nat := none
  /-- The maps are marked copy-on-write and the partner was asked to arm (R216). -/
  armSent : Bool := false
  /-- Sources of the snapshot in progress, with targets (R216). -/
  snap    : List (Nat × Nat) := []
  /-- Rotating index of each cluster for remote probes (R205). -/
  probeIx : List (Nat × Nat) := []
  /-- Rotating pointer of each cluster's dispatcher (R202, R114). -/
  dispPtr : List (Nat × Nat) := []
  /-- Versions held in the inactive bank of the engines (R217). -/
  inactVer : Nat := 0
  deriving DecidableEq, Repr

/-! ### Protection setup -/

/-- A staged change (R381): its record as octets, the stager's port code, the digest, and wrong quotes so far. -/
structure Change where
  record : List (BitVec 8)
  stager : Nat
  digest : Nat
  wrong  : Nat := 0
  /-- Time in ns at which its 120 s window began. -/
  start  : Nat := 0
  deriving DecidableEq, Repr

/-- The protection block beside its registers (R377). -/
structure Prot where
  /-- Access list by index 0–16,383 (R376, R390). -/
  acl      : List (Nat × AclEntry) := []
  /-- Steward list: NQN digests (R377). -/
  stewards : List Nat := []
  /-- The 64-bit generation (R377). -/
  gen      : Nat := 0
  /-- The pending change (R381). -/
  change   : Option Change := none
  /-- PROT_CMT_BUF by word (R390). -/
  buf      : List (Nat × Word) := []
  /-- PROT_CMT_QUOTE (R390). -/
  quote    : Nat := 0
  /-- Load record of each key slot, with its CTR_BASE raised under R317 (R324, R377). -/
  records  : List (Nat × Nat) := []
  /-- The two sealed copies in the SPI NOR; none is not valid (R377). -/
  copy0    : Option Setup := none
  /-- The second copy. -/
  copy1    : Option Setup := none
  deriving DecidableEq, Repr

/-! ### Host endpoint -/

/-- An MSI-X table entry (R392). -/
structure MsixEntry where
  addr : Nat := 0
  data : Nat := 0
  mask : Bool := true
  deriving DecidableEq, Repr

/-- A PCIe function of the endpoint (R392–R405). -/
structure Func where
  bme      : Bool := false
  d3hot    : Bool := false
  msixEn   : Bool := false
  msixMask : Bool := false
  table    : List (Nat × MsixEntry) := []
  pba      : List Nat := []
  /-- Completion Timeout Value (R401). -/
  cto      : Nat := 0
  tag10    : Bool := false
  extTag   : Bool := false
  /-- Max Payload Size and Max Read Request Size in octets (R393). -/
  mps      : Nat := 128
  mrrs     : Nat := 512
  ltrEn    : Bool := false
  aspm     : Nat := 0
  /-- Uncorrectable and correctable error status of AER (R392, R402). -/
  aerUnc   : Nat := 0
  aerCor   : Nat := 0
  /-- Expansion ROM enable (R398). -/
  romEn    : Bool := false
  deriving DecidableEq, Repr

/-- A PF1 memory read in flight: its purpose, address, length and data so far (R400). -/
structure PciRead where
  purpose : ReadPurpose
  addr    : Nat
  bytes   : Nat
  /-- Completion Timeout Value in force at issue (R401). -/
  cto     : Nat
  /-- Where its data lies in what it reads for. -/
  off     : Nat := 0
  /-- Time of issue in ns. -/
  born    : Nat := 0
  /-- The request it belongs to has failed: its data is not used (R402). -/
  dead    : Bool := false
  got     : Nat := 0
  data    : Nat := 0
  deriving DecidableEq, Repr

/-- The host endpoint beside its registers. -/
structure Hep where
  pf0      : Func := {}
  pf1      : Func := {}
  /-- Reads in flight by tag. -/
  reads    : List (Nat × PciRead) := []
  /-- Requests waiting for a free tag, oldest first (R400). -/
  waiting  : List PciRead := []
  /-- Quarantined tags, with the time in ns at which each returns (R403). -/
  quar     : List (Nat × Nat) := []
  /-- Tag count in force (R400). -/
  tags     : Nat := 32
  /-- Report list of R404: admission stamp, SQID and CID. -/
  report   : List (Nat × Nat × Nat) := []
  /-- Affected commands that have not ended yet, by tag (R404). -/
  affected : List Nat := []
  /-- Data link is up (R406). -/
  linkUp   : Bool := false
  /-- The last LTR message was the ACT value (R399). -/
  ltrAct   : Bool := false
  deriving DecidableEq, Repr

/-! ### Mailboxes -/

/-- One direction of a mailbox channel (R409): words not yet popped, and whether the message is closed. -/
structure MbxDir where
  words  : List Word := []
  closed : Bool := false
  /-- ACK_REG was in force when the message was closed (R410). -/
  ackReg : Bool := true
  /-- Closed in compatible mode while the far end is down, not delivered yet (R411). -/
  held   : Bool := false
  deriving DecidableEq, Repr

/-- The mailboxes beside their registers: direction 2·n from the outer end of MBn inward, 2·n + 1 outward (R408). -/
structure Mbx where
  dirs    : List (Nat × MbxDir) := []
  /-- Messages waiting for the inner end of MB0: notices and MC0's messages, oldest first (R408). -/
  backlog : List (List Word) := []
  /-- Words of the message that MC0 is sending to PF0 (R408). -/
  part    : List Word := []
  /-- Management cores that are halted, as a mask (R411). -/
  halted  : Nat := 0
  deriving DecidableEq, Repr

/-! ### Monitoring -/

/-- The monitoring block beside its configuration registers (R440–R448). -/
structure Mon where
  /-- Nanoseconds each group's clock has run since its CYC was cleared (R440). -/
  ran     : List (Nat × Nat) := []
  /-- Programmable counters keyed 8·group + k (R442). -/
  pc      : List (Nat × Nat) := []
  /-- OVF bits of each group (R442). -/
  ovf     : List (Nat × Nat) := []
  /-- Shadows of each group: CYC, then PC0–PC7 (R443). -/
  shadow  : List (Nat × List Nat) := []
  /-- MON_HEALTH_STAT.SRC (R447). -/
  src     : Nat := 0
  /-- MON_HEALTH_STAT.SLOT (R448). -/
  slot    : Nat := 0
  /-- Occurrences of each health source (R446). -/
  count   : List (Nat × Nat) := []
  /-- Counts of the health slots in the current window (R448). -/
  hcount  : List (Nat × Nat) := []
  /-- Slots that reached their threshold in this window, as a mask. -/
  hdone   : Nat := 0
  /-- Budget intervals in the current health window (R448). -/
  hwin    : Nat := 0
  /-- Time in ns at which the bandwidth window began (R444). -/
  bwFrom  : Nat := 0
  /-- Bytes received and sent by each port in the current bandwidth window (R444). -/
  bwRx    : List (Nat × Nat) := []
  /-- Bytes sent. -/
  bwTx    : List (Nat × Nat) := []
  deriving DecidableEq, Repr

/-! ### Governor -/

/-- The governor beside its registers. Levels are in 1/2048 µJ, which makes every tick's credit exact (R330). -/
structure Gov where
  chip     : Int := 0
  drv      : Int := 0
  /-- Last valid sample of each sensor in 0.25 °C (R332). -/
  last     : List (Nat × Int) := []
  /-- Good samples in a row of an excluded sensor (R332). -/
  good     : List (Nat × Nat) := []
  /-- Highest valid sample in this interval of the sensors with USE = 1 (R332). -/
  tmax     : Option Int := none
  /-- On-die sensors with a valid sample in this interval. -/
  valid    : List Nat := []
  /-- Unclamped intervals in a row (R340). -/
  unclamped : Nat := 0
  /-- Floor reserve unspent in this interval, chip and drive, in 1/64 µJ (R338). -/
  resChip  : Nat := 0
  /-- Drive floor reserve. -/
  resDrv   : Nat := 0
  /-- Sectors of rebuild admitted under the floor on each member in this interval (R273). -/
  floor    : List (Nat × Nat) := []
  /-- A host item was deferred during this interval (R340). -/
  deferredNow : Bool := false
  /-- Deferred Urgent commands in arrival order, by handle (R339). -/
  urgent   : List Nat := []
  /-- Deferred High, Medium and Low items, window requests among them. -/
  shared   : List Nat := []
  /-- Orders 4–6 with an item deferred, as a mask (R339). -/
  bgDefer  : Nat := 0
  /-- Feed power of the last frame in 0.1 W, and its sum over the interval's slow ticks (R343). -/
  feedLast : Nat := 0
  /-- Sum over the interval. -/
  feedSum  : Nat := 0
  /-- Slow ticks in the interval so far. -/
  ticks    : Nat := 0
  /-- AON alarm countdown in slow ticks (R345). -/
  alarm    : Option Nat := none
  deriving DecidableEq, Repr

/-! ### Protection sets, volumes, journal -/

/-- A destage in progress: what it covers and the member writes not yet complete (R263, R264). -/
structure Destage where
  set    : Nat
  stripe : Nat
  vol    : Nat
  /-- Blocks it writes, with the record SEQ that supplied each. -/
  blocks : List (Nat × Nat)
  /-- Member writes still to complete. -/
  left   : Nat
  deriving DecidableEq, Repr

/-- An intent record to be written (R264, R265), with its 64 octets as a number. -/
structure IRec where
  set    : Nat
  stripe : Nat
  seq    : Nat
  isOpen : Bool
  word   : Nat
  deriving DecidableEq, Repr

/-- The redundancy block beside its registers. -/
structure Red where
  sets    : List (Nat × PSet) := []
  vols    : List (Nat × Vol) := []
  /-- Journal records in SEQ order. -/
  journal : List JRec := []
  /-- SEQ of the next record. -/
  jseq    : Nat := 1
  /-- Destages in progress, by number. -/
  destages : List (Nat × Destage) := []
  /-- Number of the next destage. -/
  dnext   : Nat := 0
  /-- Stripes whose destage waits for counters, counted once (R317): set and stripe. -/
  zeroWait : List (Nat × Nat) := []
  /-- Intent records gathered for each member, oldest first (R264). -/
  iq      : List (Nat × List IRec) := []
  /-- Intent region of each member (R264): the block written next, and the OPEN records in each block. -/
  ring    : List (Nat × (Nat × List (Nat × List IRec))) := []
  /-- Bad-range table by entry (R274). -/
  lost    : List (Nat × Lost) := []
  /-- Event log, oldest first: four words (R281). -/
  evlog   : List (Nat × Nat × Nat × Nat) := []
  /-- An event was lost since the last entry that was read. -/
  evOvf   : Bool := false
  /-- Words 1–3 latched for each requester by a read of RED_EVLOG0. -/
  evLatch : List (Nat × (Nat × Nat × Nat)) := []
  /-- Labels read from the members, by member number. -/
  labels  : List (Nat × Label) := []
  /-- Members that went MISSING and wait out MISSING_HOLD (R271). -/
  holding : List Nat := []
  /-- The maps that the members hold, while the part holds none in service: sets, volumes, bad ranges (R285). -/
  saved   : Option (List (Nat × PSet) × List (Nat × Vol) × List (Nat × Lost)) := none
  deriving DecidableEq, Repr


/-! ### Cipher -/

/-- The secret part of a key slot beside CIP_KS_STAT (R317, R324). -/
structure KeySlot where
  key   : Nat := 0
  salt  : Nat := 0
  ctr   : Nat := 0
  hwm   : Nat := 0
  /-- The load record it came from, 96 octets as a number (R324). -/
  record : Nat := 0
  deriving DecidableEq, Repr

/-- A request queued on a pipeline (R311, R312): its command, key slot, direction, and the blocks still to be released. -/
structure CipReq where
  owner  : Nat
  slot   : Nat
  enc    : Bool
  xts    : Bool
  blocks : List Nat
  /-- First counter reserved for an encryption (R317). -/
  base   : Nat := 0
  deriving DecidableEq, Repr

/-- The cipher beside its registers. -/
structure Cip where
  slots  : List (Nat × KeySlot) := []
  /-- CIP_HWM_REQ FIFO, oldest first. -/
  hwmReq : List Nat := []
  /-- Requests queued on each pipeline, in the order received. -/
  queues : List (Nat × List CipReq) := []
  /-- Rotating pointer over the pipelines (R114, R311). -/
  ptr    : Nat := 0
  /-- Key slot of the request before on each pipeline. -/
  last   : List (Nat × Nat) := []
  /-- Pipelines whose known-answer test is still to run, in order; the first is under test. -/
  kat    : List Nat := []
  /-- The key-encryption key, where it is fused. -/
  kek    : Option Nat := none
  deriving DecidableEq, Repr

/-! ### Drives -/

/-- What a drive command is for. -/
inductive DrvUse where
  | host (h : Nat)
  /-- A prefetch or maintenance fill of a line: volume and lock stripe. -/
  | fill (vol stripe : Nat)
  /-- A member write of a destage, by its number. -/
  | destage (d : Nat)
  /-- An Abort of another command, by its CID. -/
  | abort (cid : Nat)
  /-- Another admin command of the part: Set Features 0x02 (1), Reservation Acquire (2). -/
  | admin (what : Nat)
  deriving DecidableEq, Repr

/-- A drive command not issued yet. -/
structure DrvReq where
  member  : Nat
  cluster : Nat
  write   : Bool
  block   : Nat
  count   : Nat
  use     : DrvUse
  data    : List Nat := []
  /-- Its wait for a pool entry or slot was counted (R229). -/
  waited  : Bool := false
  deriving DecidableEq, Repr

/-- An outstanding drive command (R229, R230), keyed by its pool entry, which is its CID. -/
structure DrvCmd where
  req    : DrvReq
  queue  : Nat
  slot   : Nat
  /-- Time of its doorbell write in ns. -/
  born   : Nat
  /-- Sectors the drive has written into its buffer, by index. -/
  got    : List (Nat × Nat) := []
  /-- It was reissued once after a retry status (R241). -/
  retried : Bool := false
  /-- It waits 10 ms for that reissue (R241). -/
  waiting : Bool := false
  /-- It waits for the end of a controller reset (R239). -/
  held   : Bool := false
  /-- It was reissued by a controller reset (R239). -/
  reissue : Bool := false
  /-- Issue number, which orders the commands of a member. -/
  nth    : Nat := 0
  deriving DecidableEq, Repr

/-- One queue pair of a member: tail of the SQ, next CQ slot and its phase, completions taken since the last head doorbell, depth. -/
structure DrvQueue where
  tail  : Nat := 0
  head  : Nat := 0
  phase : Bool := true
  taken : Nat := 0
  depth : Nat := 32
  deriving DecidableEq, Repr

/-- A member beside DPT_MEM_LOC and DPT_MEM_STAT. -/
structure MemSt where
  /-- State before SUSPECT (R239). -/
  prev    : Nat := 0
  /-- The command being aborted, and that the Abort has completed. -/
  ladder  : Option Nat := none
  /-- CC.EN was cleared, and set again (R239 step 2). -/
  disabled : Bool := false
  /-- The port's containment is held (R236). -/
  queues  : List (Nat × DrvQueue) := []
  /-- Bands its namespace holds (R250). -/
  bands   : Nat := 0
  /-- The drive's slot was seen empty (R242). -/
  gone    : Bool := false
  /-- It is in its low power state by the governor's order (R342). -/
  lowPower : Bool := false
  /-- Activity lamp since the last SGPIO frame (R433). -/
  active  : Bool := false
  /-- The acquire of a takeover is outstanding (R238). -/
  acquiring : Bool := false
  /-- The Abort of its ladder has completed (R239, R240). -/
  abortDone : Bool := false
  deriving DecidableEq, Repr

/-- The drive ports beside their registers. -/
structure Dpt where
  todo : List DrvReq := []
  cmds : List (Nat × DrvCmd) := []
  mems : List (Nat × MemSt) := []
  /-- Half-ports (2·n + half) whose link is held disabled by containment, and whether presence has been seen empty since (R236). -/
  contained : List (Nat × Bool) := []
  /-- Half-ports whose reset output is released (R235). -/
  released : List Nat := []
  /-- Places whose link is up and whose drive is not ready yet: 2·n + half, or 64 + 32·port + slot on an expansion port. -/
  linked : List Nat := []
  /-- Places whose drive reached CSTS.RDY and is not qualified yet (R235). -/
  ready : List Nat := []
  /-- Expansion drives present, keyed 32·port + slot. -/
  xdrives : List Nat := []
  /-- Issue number of the next drive command. -/
  next : Nat := 0
  deriving DecidableEq, Repr

/-! ### Content cache -/

/-- A cached line (R287, R289). -/
structure Line where
  vol    : Nat
  stripe : Nat
  key    : Nat := 0
  ptag   : Nat := 0
  /-- Sectors held, by index. -/
  sectors : List (Nat × Nat) := []
  dirty  : Nat := 0
  jseq   : Nat := 0
  lock   : Bool := false
  busy   : Bool := false
  age    : Nat := 2
  /-- Fill order of a side-buffer line (R295). -/
  order  : Nat := 0
  deriving DecidableEq, Repr

/-- A fill under way: it holds the line lock of its line (R292, R295, R299). -/
structure Fill where
  vol    : Nat
  stripe : Nat
  /-- 0 demand, 1 prefetch into the side buffer, 2 maintenance PREFETCH, 3 maintenance LOCK. -/
  kind   : Nat
  /-- The read that makes a demand fill. -/
  owner  : Nat := 0
  /-- Sectors to install, as a mask. -/
  want   : Nat
  /-- Sectors that have arrived. -/
  sectors : List (Nat × Nat) := []
  /-- The governor has admitted its fetch (R338). -/
  admitted : Bool := true
  stale  : Bool := false
  cancelled : Bool := false
  deriving DecidableEq, Repr

/-- A maintenance operation (R298). -/
structure MntOp where
  op : Nat
  respect : Bool
  id : Nat
  vol : Nat
  all : Bool
  start : Nat
  count : Nat
  /-- It has begun; the next line it works on; lines changed, and lines skipped, so far. -/
  started : Bool := false
  /-- Next line. -/
  next : Nat := 0
  /-- Lines changed. -/
  lines : Nat := 0
  /-- Lines skipped. -/
  skipped : Nat := 0
  deriving DecidableEq, Repr

/-- The cache beside its registers. -/
structure Cch where
  /-- Main cache keyed 16·set + way. -/
  main : List (Nat × Line) := []
  /-- Eviction buffer, oldest first. -/
  evb  : List Line := []
  /-- Prefetch side buffer. -/
  side : List Line := []
  /-- Order number of the next side-buffer fill. -/
  order : Nat := 0
  /-- Sequential trackers, least recently used first: volume and next stripe (R295). -/
  trackers : List (Nat × Nat) := []
  fills : List Fill := []
  mnt   : List MntOp := []
  /-- Completions not read yet: ID, STATUS, LINES, LOCKS_BROKEN, SKIPPED. -/
  done  : List (Nat × Nat × Nat × Nat × Nat) := []
  /-- DONE1 and DONE2 latched for each requester (R308). -/
  doneLatch : List (Nat × (Nat × Nat)) := []
  deriving DecidableEq, Repr

/-! ### Narzan link -/

/-- A Narzan group (R349–R354). -/
structure NzlGrp where
  training : Bool := false
  /-- SEQ of the next message sent. -/
  next   : Nat := 0
  /-- Messages sent and not acknowledged, oldest first. -/
  kept   : List NzlMsg := []
  /-- Messages that wait for credit. -/
  queue  : List NzlMsg := []
  /-- Frames sent since the group came up. -/
  frames : Nat := 0
  /-- Last CREDIT_LIMIT received. -/
  limit  : Nat := 1024
  /-- SEQ expected next. -/
  expect : Nat := 0
  /-- Later messages are discarded until the expected SEQ arrives. -/
  skip   : Bool := false
  /-- Frame buffers freed by applied messages. -/
  freed  : Nat := 0
  /-- Time in ns of the last valid frame. -/
  heard  : Nat := 0
  deriving DecidableEq, Repr

/-- The state of a swap or takeover (R365, R368). -/
inductive Pause where
  | none
  /-- The serving part drains for a swap. -/
  | swap
  /-- SWAP_END was sent. -/
  | ended
  /-- This part is taking over. -/
  | takeover
  deriving DecidableEq, Repr

/-- The state of a shared output stage (R364). -/
inductive Stage where
  | drive | hold | watch
  deriving DecidableEq, Repr

/-- What the resynchronisation still has to stream (R367); each is read when it is sent. -/
inductive StreamItem where
  | vol (v : Nat)
  | set (p : Nat)
  | lost (i : Nat)
  | key (n : Nat)
  | bind (v : Nat)
  | lock (h : Nat)
  | journal (seq : Nat)
  deriving DecidableEq, Repr

/-- The partner's HANDSHAKE (R356, R366): image, oldest partner accepted, base, journal and map sizes, KEK check value, setup generation. -/
structure PeerHs where
  img : Nat
  minPartner : Nat
  base : Nat
  jrn : Nat
  map : Nat
  kcv : Nat
  gen : Nat
  deriving DecidableEq, Repr

/-- The Narzan block beside its registers. -/
structure Nzl where
  grps   : List (Nat × NzlGrp) := []
  /-- Link-wide number of the next message. -/
  msgId  : Nat := 1
  /-- MSG_IDs applied since the link came up. -/
  applied : List Nat := []
  /-- Group that carries the next record (R351). -/
  turn   : Nat := 0
  /-- Octets received so far of long mirrored records, by SEQ (R351). -/
  parts  : List (Nat × Nat) := []
  /-- Lock entries of the partner's write-kind commands (R367). -/
  locks  : List LockEntry := []
  /-- Mirrored key slots: slot, state, HWM, record (R367). -/
  keys   : List (Nat × (Nat × Nat × Nat)) := []
  pause  : Pause := .none
  /-- The swap in progress is a hand-back (R369). -/
  handback : Bool := false
  /-- The part has left the pair in step 5 of a NIGHT drain (R45). -/
  leaving : Bool := false
  /-- A reset of the block makes the part claim 0 until its next commit (R475). -/
  hold0  : Bool := false
  stage  : Stage := .watch
  /-- The claim being sent in the round in progress. -/
  round  : Option Nat := none
  /-- A round was won since the loss was declared (R359). -/
  won    : Bool := false
  /-- Rounds without disagreement since CLAIM_FAULT was set (R363). -/
  agree  : Nat := 0
  /-- The partner is in a mode 3–6 and not lost, and it was declared lost (R357). -/
  paired : Bool := false
  /-- The partner was declared lost. -/
  lost   : Bool := false
  /-- STALE, IN_STEP and RESYNC of the partner's last HEARTBEAT. -/
  peerStale : Bool := false
  peerStep  : Bool := false
  peerResync : Bool := false
  /-- The partner's HANDSHAKE. -/
  peerHs : Option PeerHs := none
  /-- This part sent its HANDSHAKE since the link came up. -/
  hsSent : Bool := false
  /-- Resynchronisation still to stream, and how much there was (R367). -/
  stream : List StreamItem := []
  streamTotal : Nat := 0
  /-- MSG_ID and journal SEQ of the SWAP_END received (R368). -/
  swapEnd : Option (Nat × Nat) := none
  /-- Time in ns of the last change of roles, and that a scheduled swap was refused (R370). -/
  roleAt : Nat := 0
  swapRetry : Bool := false
  /-- Configuration registers of the partner's last commit (R367). -/
  regs   : List (Nat × Word) := []
  /-- Protection setup of a CFG not complete yet. -/
  setup  : Option Setup := none
  deriving DecidableEq, Repr


/-! ### Slot and feed power -/

/-- The power die's slot and feed channels beside the SLP registers (R417–R434). -/
structure Slp where
  /-- Slot gates that are on, as a mask. They outlast a PORn that resets STATE (R466). -/
  gates : Nat := 0
  /-- Slot channels whose gate a bus sag turned off and that ramp again after 1 ms (R423). -/
  sagWait : List Nat := []
  /-- Slot channels whose ramp is a retry attempt (R421). -/
  retry : List Nat := []
  /-- Feed gates that are on, as a mask: FA bit 0, FB bit 1. -/
  feedGate : Nat := 0
  /-- Pre-charge gates that are on, as a mask. -/
  pcg : Nat := 0
  /-- A slot fast trip or a feed reverse turn-off has happened (R423). -/
  sagEvent : Bool := false
  /-- Presence levels sampled last, as a mask over the 64 positions (R433). -/
  presIn : Nat := 0
  /-- Recoveries in a row on each SMBus master (R434). -/
  smbRec : List (Nat × Nat) := []
  /-- VHV_PD is below the lockout (R466). -/
  vhvLow : Bool := false
  /-- Fan duty that the power die received last (R334, R348). -/
  fanDuty : Nat := 100
  /-- The AON island runs from the crystal (R467). -/
  xtal : Bool := false
  deriving DecidableEq, Repr

/-- What the part emits to its outside, as the transcript records it. -/
inductive Out where
  /-- A register read answered to a requester (R7, R9, R10). -/
  | read (req : Requester) (off : Nat) (val : Word)
  /-- A read of a function's BAR2 or of PF0's expansion ROM answered (R395, R398). -/
  | bar2Read (pf1 : Bool) (off : Nat) (val : Word)
  | romRead (off : Nat) (val : Word)
  /-- A frame leaves a network port (R119). -/
  | txFrame (port : Nat) (f : Frame)
  /-- A pause or PFC frame leaves a network port (R108). -/
  | txPause (port : Nat) (p : PauseTx)
  /-- A frame is delivered to an internal switch port (R22). -/
  | deliver (port : Nat) (f : Frame)
  /-- Autonegotiation starts again (R73). -/
  | autoneg (port : Nat)
  /-- PPS_OUT rises for some ms (R81). -/
  | ppsOut (ms : Nat)
  /-- PF1 writes host memory (R183). -/
  | pciWrite (addr bytes data : Nat)
  /-- PF1 reads host memory under a tag (R400). -/
  | pciRead (tag addr bytes : Nat)
  /-- The answer to a read of the diagnostic DRAM aperture: its offset and the word, or a poisoned completion (R396). -/
  | diagData (off : Nat) (val : Option Word)
  /-- A word read by the management end or a cluster's microcode from a direction of a mailbox (R409). -/
  | mbxRead (dir : Nat) (val : Word)
  /-- The endpoint answers a configuration request with Configuration Request Retry Status (R49). -/
  | cfgRetry
  /-- PMBus writes on AVS after VOUT_MODE was read: the setpoint in mV, and whether it was acknowledged (R464). -/
  | avs (mv : Nat) (acked : Bool)
  /-- How the JTAG port takes an instruction (R388). -/
  | jtag (i : JtagInstr)
  /-- An LTR message: value and scale (R399). -/
  | ltr (value scale : Nat)
  /-- An MSI-X message of a function (R183, R407). -/
  | msix (pf1 : Bool) (vector : Nat)
  /-- An RFC or NVMe admin answer of the part's own: response data of an admin command, by queue and CID (R174). -/
  | adminData (queue cid : Nat) (data : Nat)
  /-- An answer to a drive's read of an SQ slot (R228): the posted entry, or zeros. -/
  | drvEntry (member queue slot : Nat) (entry : Option DrvReq)
  /-- The answer to a drive's read of a buffer, or a refusal with Unsupported Request (R228). -/
  | drvData (member cid : Nat) (data : Nat)
  | drvRefused (member : Nat)
  /-- A doorbell write to a drive: SQ tail or CQ head (R230, R231). -/
  | drvTail (member queue tail : Nat)
  | drvHead (member queue head : Nat)
  /-- The part resets a drive's controller: CC.EN written (R239). -/
  | drvEnable (member : Nat) (en : Bool)
  /-- A write to a member by rebuild, patrol, repair, labels or intents: first block and stored sectors (R251, R262, R264). -/
  | memberWrite (member block : Nat) (data : List Nat)
  /-- A Narzan message leaves on a group (R350). -/
  | nzl (group : Nat) (m : NzlMsg)
  /-- BROADCAST reaches the microcode of every engine (R214). -/
  | broadcast (arg : Word)
  /-- An SGPIO frame: activity, locate and fail bits of the 64 positions, as masks (R433). -/
  | sgpio (activity locate fail : Nat)
  /-- An SMBus master recovers its bus with nine clocks and a STOP (R434). -/
  | smbRecover (bus : Nat)
  deriving DecidableEq, Repr

/-- Why a step stops. The block has no exception entry, and no command of the table stops it. -/
inductive Fault where
  /-- Never raised by a meaning of this model; safe. -/
  | none
  deriving DecidableEq, Repr

/-- Why a command has no meaning. -/
inductive Refusal where
  /-- Raised by the dispatcher for a command not modelled yet; safe: nothing is claimed of it. -/
  | notModelled (mnemonic : String)
  deriving DecidableEq, Repr

/-- The state of the OX9632 as this model holds it. -/
structure State where
  /-- Register file: offset and word, offsets rising, a register at its PORn value unlisted (R15, R24). -/
  regs : List (Nat × Word) := []
  /-- Commands waiting, first in, first out (the model's own). -/
  pending : List Instr := []
  /-- Transcript of what the part emitted, newest first (the model's own). -/
  out : List Out := []
  /-- Counter of the free values used (the model's own). -/
  free : Nat := 0
  /-- Time. -/
  clock : Clock := {}
  /-- Mode sequencer, resets, boot, watchdog. -/
  sys : Sys := {}
  /-- Network ports keyed by number, beside their registers. -/
  ports : List (Nat × PortSt) := []
  /-- Classifier. -/
  cls : Cls := {}
  /-- Switch core. -/
  swc : Swc := {}
  /-- Egress scheduler. -/
  egs : Egs := {}
  /-- RDMA transport. -/
  rdm : Rdm := {}
  /-- Associations, queues, commands. -/
  cmdq : Cmdq := {}
  /-- Stripe engines and range locks. -/
  eng : Eng := {}
  /-- Protection setup and commit. -/
  prot : Prot := {}
  /-- Host endpoint. -/
  hep : Hep := {}
  /-- Mailboxes. -/
  mbx : Mbx := {}
  /-- Counters, health events, bandwidth windows. -/
  mon : Mon := {}
  /-- Power and thermal budget governor. -/
  gov : Gov := {}
  /-- Protection sets, volumes, journal. -/
  red : Red := {}
  /-- Cipher. -/
  cip : Cip := {}
  /-- Drives. -/
  dpt : Dpt := {}
  /-- Content cache. -/
  cch : Cch := {}
  /-- Narzan link. -/
  nzl : Nzl := {}
  /-- Slot and feed power. -/
  slp : Slp := {}
  deriving DecidableEq, Repr

/-- The machine right after the PORn reset of power-on, at the start of DAWN: CUR is DAWN, every register at its PORn value,
SYS_RST_CAUSE.PWRON_PIN set for the pin that is released last at power-on (R65, R465), and NZL_CLAIM.BASE as the straps give it, read open as 0xF. -/
def State.reset : State := { regs := [(0x2C, 1), (0xC0000C, 0xF03FF)] }

end Sys2Proof.Machine
end

