-- ==== Sys2Proof/Machine/Ops.lean ====
section
/-! DEFINITION. The named operations on State that every meaning uses: tables keyed by a number, the register file and
its fields, 64-bit counters, the transcript, free values. -/

namespace Sys2Proof.Machine

/-! ### Tables: lists of (key, value) with strictly rising keys -/

/-- The value at a key. -/
def tget? {α : Type} : List (Nat × α) → Nat → Option α
  | [], _ => none
  | (k, v) :: t, q => if k = q then some v else tget? t q

/-- The value at a key, or a default for an unlisted key. -/
def tget {α : Type} (t : List (Nat × α)) (q : Nat) (d : α) : α := (tget? t q).getD d

/-- The table without a key. -/
def tdel {α : Type} (t : List (Nat × α)) (q : Nat) : List (Nat × α) := t.filter (fun e => e.1 != q)

/-- The table with a key set, keys kept rising. -/
def tput {α : Type} : List (Nat × α) → Nat → α → List (Nat × α)
  | [], q, x => [(q, x)]
  | (k, v) :: t, q, x =>
    if k = q then (q, x) :: t else if q < k then (q, x) :: (k, v) :: t else (k, v) :: tput t q x

/-- Change the value at a key, from a default where it is unlisted. -/
def tmod {α : Type} (t : List (Nat × α)) (q : Nat) (d : α) (f : α → α) : List (Nat × α) := tput t q (f (tget t q d))

/-- Strictly rising keys: the canonical form of every table. -/
def keysRise {α : Type} : List (Nat × α) → Bool
  | [] => true
  | [_] => true
  | (k, _) :: (k', v') :: t => decide (k < k') && keysRise ((k', v') :: t)

/-! ### Register layout -/

/-- The index in each dimension of an array at a distance from its base, if the distance is that of an element. -/
def dimIndex : List (Nat × Nat) → Nat → Option (List Nat)
  | [], r => if r = 0 then some [] else none
  | (stride, count) :: ds, r =>
    if r / stride < count then (dimIndex ds (r % stride)).map (fun l => (r / stride) :: l) else none

/-- Which indices of an array exist: SWC queue slots (R117), EGS queue slots (R133). -/
def guardOk (guard : Nat) (ix : List Nat) : Bool :=
  let q := ix.headD 0
  let port := q / 16
  let cls := q % 16
  match guard with
  | 0 => true
  | 1 => (port ≤ 87 && cls ≤ 7) || (port ≤ 63 && cls = 8)
  | 2 => port ≤ 63 && cls ≤ 8
  | _ => port ≤ 63 && cls ≤ 7

/-- The descriptor of the register at a word offset, with its indices; none where no register lies (R25). -/
def findReg : List RegDesc → Nat → Option (RegDesc × List Nat)
  | [], _ => none
  | d :: ds, off =>
    if d.base ≤ off then
      match dimIndex d.dims (off - d.base) with
      | some ix => if guardOk d.guard ix then some (d, ix) else findReg ds off
      | none => findReg ds off
    else findReg ds off

/-- The register at a word offset. -/
def regAt (off : Nat) : Option (RegDesc × List Nat) := findReg (regBlock off) off

/-- Cost entry `i` of R335 as a GOV_COST word: chip energy in bits 15:0, drive energy in bits 31:16. -/
def costPor (i : Nat) : Nat :=
  match i with
  | 0 => 19
  | 1 => 29 + 768 * 65536
  | 2 => 38
  | 3 => 13 + 896 * 65536
  | 4 => 13 + 832 * 65536
  | 5 => 10 + 768 * 65536
  | 6 => 6
  | 7 => 19 + 768 * 65536
  | 8 => 3
  | 9 => 1280
  | 10 => 13 + 768 * 65536
  | 11 => 128
  | _ => 0

/-- PROT_PRIV_LOCAL of an unprovisioned part (R378): Z0–Z3 DATA, PF0, UART and JTAG STEWARD, PF1 ADMIN. -/
def privLocalUnprov : Nat := 0xFB55

/-- The value a register takes at PORn, where it depends on the index: bucket maps (R118, R222), EGS_Q_SCHED.PRIO (R134), GOV_COST
(R335), GOV_TS.USE (R347), PROT_PRIV_LOCAL (R378). -/
def porAt (d : RegDesc) (ix : List Nat) : Nat :=
  let i := ix.headD 0
  match d.kind with
  | 0 => d.por
  | 1 => 0x03020100 + 0x04040404 * (i % 4)
  | 2 => d.por + i % 16 % 8
  | 3 => costPor i
  | 4 => if i = 24 then d.por else d.por + 0x1000
  | _ => privLocalUnprov

/-- The PORn value of the register at an offset (0 where none lies). -/
def regPor (off : Nat) : Word :=
  match regAt off with
  | some (d, ix) => BitVec.ofNat 32 (porAt d ix)
  | none => 0

/-- The bits of a register that are named fields; the others are reserved (R8). -/
def regImpl (off : Nat) : Word :=
  match regAt off with
  | some (d, _) => BitVec.ofNat 32 d.impl
  | none => 0

/-! ### Reading and writing registers -/

/-- Read a word of the register file: an unlisted register holds its PORn value. -/
def readRegs (r : List (Nat × Word)) (off : Nat) : Word := (tget? r off).getD (regPor off)

/-- Write a word of the register file. Reserved bits stay 0 (R8), an offset without a register stores nothing (R25), and a register at its PORn
value is unlisted. -/
def writeRegs (r : List (Nat × Word)) (off : Nat) (w : Word) : List (Nat × Word) :=
  let v := w &&& regImpl off
  if v = regPor off then tdel r off else tput r off v

/-- The canonical form of the register file: rising offsets, no entry equal to its PORn value, no reserved bit set. -/
def regsWf (r : List (Nat × Word)) : Bool :=
  keysRise r && r.all (fun e => e.2 != regPor e.1 && (e.2 &&& regImpl e.1) == e.2)

/-- A register's word. -/
def State.reg (s : State) (off : Nat) : Word := readRegs s.regs off

/-- Set a register's word. -/
def State.setReg (s : State) (off : Nat) (w : Word) : State := { s with regs := writeRegs s.regs off w }

/-- A field of a word, as a number. -/
def fieldOf (w : Word) (lo wd : Nat) : Nat := (w.toNat >>> lo) % 2 ^ wd

/-- A word with a field replaced by the low bits of a number. -/
def withField (w : Word) (lo wd v : Nat) : Word :=
  BitVec.ofNat 32 (w.toNat - (fieldOf w lo wd) * 2 ^ lo + (v % 2 ^ wd) * 2 ^ lo)

/-- A register field, as a number. -/
def State.fld (s : State) (f : Fld) : Nat := fieldOf (s.reg f.off) f.lo f.wd

/-- A one-bit field as a Bool. -/
def State.flag (s : State) (f : Fld) : Bool := s.fld f != 0

/-- Set a register field. -/
def State.setFld (s : State) (f : Fld) (v : Nat) : State := s.setReg f.off (withField (s.reg f.off) f.lo f.wd v)

/-- Set a one-bit field. -/
def State.setFlag (s : State) (f : Fld) (b : Bool) : State := s.setFld f b.toNat

/-- A 64-bit quantity in two words, low word first (R9). -/
def State.get64 (s : State) (off : Nat) : Nat := (s.reg off).toNat + (s.reg (off + 4)).toNat * 2 ^ 32

/-- Set a 64-bit quantity. -/
def State.set64 (s : State) (off v : Nat) : State :=
  (s.setReg off (BitVec.ofNat 32 v)).setReg (off + 4) (BitVec.ofNat 32 (v / 2 ^ 32))

/-- Take every register with lo ≤ offset < hi back to its PORn value. -/
def State.clearRegs (s : State) (lo hi : Nat) : State :=
  { s with regs := s.regs.filter (fun e => e.1 < lo || hi ≤ e.1) }

/-- Set an n-bit mask bit in a field. -/
def State.setBit (s : State) (f : Fld) (i : Nat) : State := s.setFld f (s.fld f ||| 2 ^ i)

/-- Clear a bit in a field. -/
def State.clrBit (s : State) (f : Fld) (i : Nat) : State := s.setFld f (s.fld f - (s.fld f &&& 2 ^ i))

/-! ### Conditional effects, transcript, free values -/

/-- An effect that takes place only under a condition; otherwise nothing changes. -/
def State.cond (s : State) (c : Bool) (f : State → State) : State := if c then f s else s

/-- Append what the part emits to the transcript. -/
def State.emit (s : State) (o : Out) : State := { s with out := o :: s.out }

/-- Use up one free value: the counter a free value of Config is applied to advances. -/
def State.useFree (s : State) : State := { s with free := s.free + 1 }

/-- Fold an effect over a list. -/
def State.each {α : Type} (s : State) (l : List α) (f : State → α → State) : State := l.foldl f s

/-! ### MSI-X (R392, R407) -/

/-- A message of a function leaves: enabled, unmasked, Bus Master Enable set, link up, not in D3hot. -/
def State.msixReady (s : State) (f : Func) (v : Nat) : Bool :=
  f.msixEn && !f.msixMask && !(tget f.table v {}).mask && f.bme && s.hep.linkUp && !f.d3hot

/-- Set a pending bit. -/
def Func.pend (f : Func) (v : Nat) : Func := if f.pba.contains v then f else { f with pba := f.pba ++ [v] }

/-- A request that comes due in L0s or L1 brings the link back to L0 (R399). -/
def State.wakeLink (s : State) : State := if s.fld HEP_STAT_LPS = 2 || s.fld HEP_STAT_LPS = 3 then s.setFld HEP_STAT_LPS 1 else s

/-- An MSI-X message of PF1 falls due: sent, or its pending bit set (R407). -/
def State.msix1 (s : State) (v : Nat) : State :=
  if s.msixReady s.hep.pf1 v then s.wakeLink.emit (.msix true v) else { s with hep := { s.hep with pf1 := s.hep.pf1.pend v } }

/-- An MSI-X message of PF0 falls due. -/
def State.msix0 (s : State) (v : Nat) : State :=
  if s.msixReady s.hep.pf0 v then s.wakeLink.emit (.msix false v) else { s with hep := { s.hep with pf0 := s.hep.pf0.pend v } }

/-! ### Health events and programmable counters (R441, R442, R446–R448) -/

/-- A health source occurs: it is counted, and if enabled sets its STAT bit; the first bit set sends vector 4 of PF0 (R446, R447). -/
def State.health (s : State) (b : Nat) : State :=
  let s1 := { s with mon := { s.mon with count := tmod s.mon.count b 0 (fun n => (n + 1) % 2 ^ 64) } }
  if !((s.fld MON_HEALTH_EN_EN >>> b) % 2 == 1) || (s.mon.src >>> b) % 2 == 1 then s1 else
  let s2 := { s1 with mon := { s1.mon with src := s1.mon.src + 2 ^ b } }
  if s.mon.src = 0 then s2.msix0 4 else s2

/-- Add to one programmable counter: it wraps at 2^48, sets OVF, and raises source 12 where OVF_ALERT asks for it (R442). -/
def State.pcAdd (s : State) (g k n : Nat) : State :=
  let v := tget s.mon.pc (8 * g + k) 0 + n
  let s1 := { s with mon := { s.mon with pc := tput s.mon.pc (8 * g + k) (v % 2 ^ 48) } }
  if v < 2 ^ 48 then s1 else
  let o := tget s1.mon.ovf g 0
  let s2 := { s1 with mon := { s1.mon with ovf := tput s1.mon.ovf g (o ||| 2 ^ k) } }
  if (s.fld (MON_GRP_CTL_OVF_ALERT g) >>> k) % 2 = 1 then s2.health 12 else s2

/-- Add to one health slot; reaching THRESH sets its SLOT bit and raises source 13, once in each window (R448). -/
def State.slotAdd (s : State) (k n : Nat) : State :=
  let v := min 0xFFFF (tget s.mon.hcount k 0 + n)
  let s1 := { s with mon := { s.mon with hcount := tput s.mon.hcount k v } }
  if max 1 (s.fld (MON_HSLOT_CNT_THRESH k)) ≤ v && (s.mon.hdone >>> k) % 2 == 0 then
    { s1 with mon := { s1.mon with hdone := s1.mon.hdone + 2 ^ k, slot := s1.mon.slot ||| 2 ^ k } }.health 13
  else s1

/-- The programmable counters set to a code, as (group, k): a selection of 0 counts nothing and is unlisted (R441). -/
def State.pcsOn (s : State) (code : Nat) : List (Nat × Nat) :=
  (s.regs.filter (fun e => decide (0xE10000 ≤ e.1 ∧ e.1 < 0xE14080) && decide (0x10 ≤ e.1 % 0x80 ∧ e.1 % 0x80 < 0x30) && fieldOf e.2 0 10 == code)).map
    (fun e => ((e.1 - 0xE10000) / 0x80, (e.1 % 0x80 - 0x10) / 4))

/-- The health slots set to a code, as (group, slot). -/
def State.slotsWith (s : State) (code : Nat) : List (Nat × Nat) :=
  (s.regs.filter (fun e => decide (0xE00200 ≤ e.1 ∧ e.1 < 0xE00280) && e.1 % 8 == 0 && fieldOf e.2 18 1 == 1 && fieldOf e.2 8 10 == code)).map
    (fun e => (fieldOf e.2 0 8, (e.1 - 0xE00200) / 8))

/-- The health slots set to a code of a group. -/
def State.slotsOn (s : State) (g code : Nat) : List Nat := ((s.slotsWith code).filter (fun e => e.1 == g)).map (fun e => e.2)

/-- An event code of a group occurs `n` times: every programmable counter and health slot set to it counts (R441, R448). -/
def State.monEvent (s : State) (g code n : Nat) : State :=
  if n = 0 then s else
  let s1 := s.each ((s.pcsOn code).filter (fun e => e.1 == g && s.flag (MON_GRP_CTL_EN g))) (fun t e => t.pcAdd g e.2 n)
  s1.each (s.slotsOn g code) (fun t k => t.slotAdd k n)

/-- The group and mirror-list index of a 64-bit counter (R440). Cluster and drive-port lists need the unit and are fed where they count. -/
def mirrorOf (off : Nat) : Option (Nat × Nat) :=
  if 0x100000 ≤ off && off < 0x140000 then
    let r := (off - 0x100000) % 0x1000
    if 0x100 ≤ r && r < 0x180 then some ((off - 0x100000) / 0x1000, (r - 0x100) / 8) else none
  else if 0x300100 ≤ off && off < 0x300118 then some (124, (off - 0x300100) / 8)
  else if 0x340000 ≤ off && off < 0x360000 then some (124, 3 + off % 0x40 / 8)
  else if 0xA00800 ≤ off && off < 0xA008A0 then some (125, (off - 0xA00800) / 8)
  else if 0xB00200 ≤ off && off < 0xB00260 then some (126, (off - 0xB00200) / 8)
  else if 0x900400 ≤ off && off < 0x9004B8 then some (127, (off - 0x900400) / 8)
  else if 0x10400 ≤ off && off < 0x10468 then some (128, (off - 0x10400) / 8)
  else if 0xF00100 ≤ off && off < 0xF001C0 then some (112 + (off - 0xF00100) / 0x10, off % 0x10 / 8)
  else none

/-- Add to a 64-bit counter, which wraps at 2^64 (R85, R440), and to what monitors it. -/
def State.bumpBy (s : State) (off n : Nat) : State :=
  let s1 := s.set64 off ((s.get64 off + n) % 2 ^ 64)
  match mirrorOf off with
  | some (g, i) => s1.monEvent g (0x40 + i) n
  | none => s1

/-- Count one in a 64-bit counter. -/
def State.bump (s : State) (off : Nat) : State := s.bumpBy off 1

/-- Count one in an ENG counter on behalf of a cluster, and in that cluster's mirror list (R440). -/
def State.bumpC (s : State) (c off : Nat) : State := (s.bump off).monEvent (64 + c) (0x40 + (off - CNT_ENG_STEAL_LOCAL) / 8) 1

/-- Count in an ENG counter `n` times on behalf of a cluster. -/
def State.bumpCBy (s : State) (c off n : Nat) : State := (s.bumpBy off n).monEvent (64 + c) (0x40 + (off - CNT_ENG_STEAL_LOCAL) / 8) n

/-- Count one in a DPT counter on behalf of a drive port, and in that port's mirror list (R440). -/
def State.bumpD (s : State) (p off : Nat) : State :=
  let s1 := s.bump off
  if p < 32 then s1.monEvent (80 + p) (0x40 + (off - CNT_DPT_TIMEOUTS) / 8) 1 else s1

/-- Bytes of a frame pass a port's MAC in the bandwidth window (R444). -/
def State.countBw (s : State) (tx : Bool) (p n : Nat) : State :=
  if !s.flag MON_BW_CFG_EN then s
  else if tx then { s with mon := { s.mon with bwTx := tmod s.mon.bwTx p 0 (fun x => x + n) } }
  else { s with mon := { s.mon with bwRx := tmod s.mon.bwRx p 0 (fun x => x + n) } }

/-- Count in the host endpoint's malformed-access counter (R7, R25). -/
def State.malformed (s : State) : State := s.bump CNT_HEP_MALFORMED

/-! ### Modes (R39) -/

/-- SYS_MODE.CUR. -/
def State.mode (s : State) : Nat := s.fld SYS_MODE_CUR

/-- The part carries service: NOON, AFTERNOON or DUSK (R42). -/
def State.serving (s : State) : Bool := s.mode == 3 || s.mode == 4 || s.mode == 5

/-- A commit has been accepted: NOON, AFTERNOON, DUSK or TWILIGHT. -/
def State.inService (s : State) : Bool := s.serving || s.mode == 6

/-- The data path runs: MORNING to TWILIGHT, with no reset held (R39, R54). -/
def State.running (s : State) : Bool := (s.mode == 2 || s.inService) && s.sys.hold == .none

/-- Main-die logic outside the boot path is powered: MORNING to MIDNIGHT, with no reset held. -/
def State.powered (s : State) : Bool := (s.running || s.mode == 7) && s.sys.hold == .none

/-! ### Bits and bytes -/

/-- Bit `i` of a number. -/
def bitOf (v i : Nat) : Bool := (v / 2 ^ i) % 2 == 1

/-- The number of bits set among the low `n`. -/
def popCount (n v : Nat) : Nat := ((List.range n).filter (bitOf v)).length

/-- Ceiling division. -/
def cdiv (a b : Nat) : Nat := (a + b - 1) / b

/-- Octet `i` of a list, 0 beyond its end. -/
def octet (d : List (BitVec 8)) (i : Nat) : Nat := (d.getD i 0).toNat

/-- `n` octets from `off`, most significant first. -/
def beNat (d : List (BitVec 8)) (off : Nat) : Nat → Nat
  | 0 => 0
  | n + 1 => beNat d off n * 256 + octet d (off + n)

/-- `n` octets from `off`, least significant first. -/
def leNat (d : List (BitVec 8)) (off : Nat) : Nat → Nat
  | 0 => 0
  | n + 1 => octet d (off + n) * 256 ^ n + leNat d off n

/-- The `n` octets of a number, most significant first. -/
def toBe : Nat → Nat → List (BitVec 8)
  | 0, _ => []
  | n + 1, v => BitVec.ofNat 8 (v / 256 ^ n) :: toBe n v

/-- The `n` octets of a number, least significant first. -/
def toLe : Nat → Nat → List (BitVec 8)
  | 0, _ => []
  | n + 1, v => BitVec.ofNat 8 v :: toLe n (v / 256)

/-- Overwrite octets from `off`. -/
def putOctets (d : List (BitVec 8)) (off : Nat) (v : List (BitVec 8)) : List (BitVec 8) :=
  d.take off ++ v ++ d.drop (off + v.length)

/-- One octet through the reflected CRC-32C (polynomial 0x82F63B78, RFC 3720). -/
def crcStep (crc : Nat) : Nat → Nat
  | 0 => crc
  | n + 1 => crcStep (if crc % 2 = 1 then (crc / 2) ^^^ 0x82F63B78 else crc / 2) n

/-- CRC-32C of RFC 3720 over octets (R91, R102, R103). -/
def crc32c (d : List (BitVec 8)) : Nat :=
  (d.foldl (fun c b => crcStep (c ^^^ b.toNat) 8) 0xFFFFFFFF) ^^^ 0xFFFFFFFF

end Sys2Proof.Machine
end

