-- ==== Sys2Proof/Machine/GovBase.lean ====
section
/-! DEFINITION. Charging the governor's buckets (R330, R335, R336) and the gate phases of the engine clusters (R19, R20, R341). -/

namespace Sys2Proof.Machine

/-- A number as a 32-bit two's complement field. -/
def toSigned32 (v : Int) : Nat := (v % (2 ^ 32 : Nat)).toNat

/-- The drive bucket is enforced (R331). -/
def State.drvEnforced (s : State) : Bool := s.fld GOV_SHELF_SHELF_W != 0

/-- Show the bucket levels in whole µJ, rounded toward minus infinity (R330). -/
def State.syncLvl (s : State) : State :=
  ((s.setFld GOV_CHIP_LVL_LEVEL (toSigned32 (s.gov.chip / 2048))).setFld GOV_DRV_LVL_LEVEL (toSigned32 (s.gov.drv / 2048))).setFlag GOV_STAT_DRV_EN s.drvEnforced

/-- Charge `n` units of a cost entry to the buckets, the drive bucket only while it is enforced (R331, R335). -/
def State.charge (s : State) (entry n : Nat) : State :=
  let c : Int := (32 * n * s.fld (GOV_COST_CHIP entry) : Nat)
  let d : Int := if s.drvEnforced then (32 * n * s.fld (GOV_COST_DRIVE entry) : Nat) else 0
  { s with gov := { s.gov with chip := s.gov.chip - c, drv := s.gov.drv - d } }.syncLvl

/-- A cluster's gate phase. -/
def State.gate (s : State) (c : Nat) : GatePhase := tget s.eng.gates c .awake

/-- POWER code of a gate phase (R223). -/
def GatePhase.code (g : GatePhase) : Nat := match g with
  | .awake => 0
  | .clockGated => 1
  | .powerGated => 2
  | .enteringCg => 3
  | .enteringPg => 3

/-- Set a cluster's gate phase, with ENG_CL_STAT.POWER and GOV_STAT.AWAKE (R223, R330, R347). -/
def State.setGate (s : State) (c : Nat) (g : GatePhase) : State :=
  let s1 := { s with eng := { s.eng with gates := tput s.eng.gates c g } }.setFld (ENG_CL_STAT_POWER c) g.code
  s1.setFld GOV_STAT_AWAKE (16 - (s1.eng.gates.filter (fun e => e.1 < 16 && e.2 == .powerGated)).length)

/-- A demand wake of a cluster: charged under entry 8 or 9, counted, never held; during an entry the wake is due at its end (R20, R341). -/
def State.wakeCluster (s : State) (c : Nat) : State :=
  match s.gate c with
  | .awake => s
  | .clockGated => ((s.setGate c .awake).charge 8 1).bump CNT_GOV_WAKE_CG
  | .powerGated => ((s.setGate c .awake).charge 9 1).bump CNT_GOV_WAKE_PG
  | _ => { s with eng := { s.eng with wakeDue := tput s.eng.wakeDue c true } }

end Sys2Proof.Machine
end

