-- ==== Sys2Proof/Machine/CacheBase.lean ====
section
/-! DEFINITION. The content cache: lookup, regions, installs, replacement, the eviction and side buffers (R286–R297). A lookup takes the stored bytes of the
sectors it serves, so a stream keeps its data whatever becomes of the frame. -/

namespace Sys2Proof.Machine

/-! ### Keys (R288) -/

/-- h1 of a line key. -/
def lineH1 (v st : Nat) : Nat := crc32c (toBe 1 0 ++ toBe 2 v ++ toBe 8 st)
/-- h2. -/
def lineH2 (v st : Nat) : Nat := crc32c (toBe 1 1 ++ toBe 2 v ++ toBe 8 st)
/-- PTAG. -/
def linePtag (v st : Nat) : Nat := lineH2 v st % 2 ^ 24

/-- Sets of the main cache; none while the cache is off or not laid out. -/
def State.cchSets (s : State) : Nat := if s.flag CCH_CTL_EN then s.fld CCH_GEOM_SETS else 0

/-- The way of a set whose valid entry carries a line's PTAG, keyed 16·set + way (R288 step 1). -/
def State.candidate (s : State) (v st : Nat) : Option (Nat × Line) :=
  if s.cchSets = 0 then none else
  let set := lineH1 v st % s.cchSets
  s.cch.main.find? (fun e => e.1 / 16 == set && e.2.ptag == linePtag v st)

/-- The main-cache line of a key. -/
def State.mainLine (s : State) (v st : Nat) : Option (Nat × Line) := match s.candidate v st with
  | some e => if e.2.vol = v && e.2.stripe = st then some e else none
  | none => none

/-- The line is in the eviction buffer. -/
def State.evbLine (s : State) (v st : Nat) : Option Line := s.cch.evb.find? (fun l => l.vol == v && l.stripe == st)
/-- The line is in the side buffer. -/
def State.sideLine (s : State) (v st : Nat) : Option Line := s.cch.side.find? (fun l => l.vol == v && l.stripe == st)

/-- The fill that holds a line's lock. -/
def State.fillOn (s : State) (v st : Nat) : Option Fill := s.cch.fills.find? (fun f => f.vol == v && f.stripe == st && !f.cancelled)

/-- Policy and prefetch enable of a line (R290): 0 WB, 1 WT, 2 NOALLOC, 3 STREAM. -/
def State.policy (s : State) (v st : Nat) : Nat × Bool :=
  match (List.range 64).find? (fun r => s.flag (CCH_REG_CFG_EN r) && s.fld (CCH_REG_CFG_VOLUME r) == v && decide (s.fld (CCH_REG_START_LINE r) ≤ st && st ≤ s.fld (CCH_REG_END_LINE r))) with
  | some r => (s.fld (CCH_REG_CFG_POLICY r), s.flag (CCH_REG_CFG_PF_EN r))
  | none => (s.fld CCH_CTL_DEF_POLICY, s.flag CCH_CTL_PF_EN)

/-- Show the number of locked lines. -/
def State.syncLocks (s : State) : State := s.setFld CCH_LOCK_STAT_LOCKED (s.cch.main.filter (fun e => e.2.lock)).length

/-- Replace a main-cache line. -/
def State.setLine (s : State) (k : Nat) (l : Line) : State := { s with cch := { s.cch with main := tput s.cch.main k l } }

/-- A command still serves sectors it took from a cached line (R293, R294). -/
def State.streaming (s : State) (v st : Nat) : Bool :=
  s.cmdq.cmds.any (fun e => e.2.vol == v && e.2.state == .running && e.2.pieces.any (fun p => p.src == .cache && p.block / 16 == st))

/-! ### Eviction and side buffers (R294–R296) -/

/-- Copy a victim into the eviction buffer; a full buffer drops its oldest line that no stream reads (R294). -/
def State.evict (s : State) (l : Line) : State :=
  if l.sectors.isEmpty then s else
  let old := s.cch.evb
  let e1 := if old.length < 256 then old else match old.find? (fun x => !s.streaming x.vol x.stripe) with
    | some x => old.erase x
    | none => old.drop 1
  { s with cch := { s.cch with evb := e1 ++ [{ l with lock := false, busy := false }] } }.bump CNT_CCH_EVICT_COPY

/-- Free the side-buffer line of a key; `hit` says that a demand read used it (R295). -/
def State.dropSide (s : State) (v st : Nat) (hit : Bool) : State :=
  let l := s.cch.side
  let l1 := l.filter (fun x => !(x.vol == v && x.stripe == st))
  let s1 := { s with cch := { s.cch with side := l1 } }
  if !hit && l1.length < l.length then s1.bump CNT_CCH_PF_UNUSED else s1

/-- Put a line into the side buffer: 1,024 sets of 4 ways, least recently filled first (R295). -/
def State.putSide (s : State) (l : Line) : State :=
  let set := lineH1 l.vol l.stripe % 1024
  let s0 := s.dropSide l.vol l.stripe true
  let inSet := s0.cch.side.filter (fun x => lineH1 x.vol x.stripe % 1024 == set)
  let s1 := if inSet.length < 4 then s0 else match inSet with
    | x :: _ => s0.dropSide x.vol x.stripe false
    | [] => s0
  { s1 with cch := { s1.cch with side := s1.cch.side ++ [{ l with order := s1.cch.order }], order := s1.cch.order + 1 } }

/-! ### Installs (R292, R293) -/

/-- Raise the ages of the ways that may be replaced, until one reads 7 (R293 step 3). -/
def State.ageUp (s : State) (ks : List Nat) : State :=
  let top := ks.foldl (fun m k => max m ((tget? s.cch.main k).map (fun l => l.age) |>.getD 0)) 0
  let up (e : Nat × Line) : Nat × Line := if ks.contains e.1 then (e.1, { e.2 with age := e.2.age + (7 - top) }) else e
  { s with cch := { s.cch with main := s.cch.main.map up } }

/-- Choose the way of a new line (R293): the state with the way free, and its key; none where no way qualifies. -/
def State.chooseWay (s : State) (v st : Nat) : State × Option Nat :=
  let set := lineH1 v st % s.cchSets
  match s.candidate v st with
  | some (k, l) => if l.lock then (s, none) else ({ (s.evict l) with cch := { (s.evict l).cch with main := tdel (s.evict l).cch.main k } }, some k)
  | none =>
    match (List.range 16).find? (fun w => (tget? s.cch.main (16 * set + w)).isNone) with
    | some w => (s, some (16 * set + w))
    | none =>
      let ks := (s.cch.main.filter (fun e => e.1 / 16 == set && !e.2.lock && !e.2.busy && (s.fillOn e.2.vol e.2.stripe).isNone && !s.streaming e.2.vol e.2.stripe)).map (fun e => e.1)
      let s1 := s.ageUp ks
      match ks.find? (fun k => match tget? s1.cch.main k with
        | some l => l.age == 7
        | none => false) with
      | none => (s, none)
      | some k => match tget? s1.cch.main k with
        | some l => ({ (s1.evict l) with cch := { (s1.evict l).cch with main := tdel (s1.evict l).cch.main k } }, some k)
        | none => (s1, none)

/-- Sectors of a line laid over others. -/
def overSectors (old new : List (Nat × Nat)) : List (Nat × Nat) := new.foldl (fun l e => tput l e.1 e.2) old

/-- A journal record still holds a block undestaged (R258, R291). -/
def State.journalHolds (s : State) (v b : Nat) : Bool := s.red.journal.any (fun r => r.vol == v && r.dirty.any (fun x => decide (x.1 ≤ b && b < x.1 + x.2)))

/-- Install sectors of a line in the main cache; what the journal holds undestaged is skipped (R292 step 2, R293). `lock` is set by LOCK. -/
def State.install (s : State) (v st key : Nat) (sectors : List (Nat × Nat)) (lock : Bool) : State :=
  if s.cchSets = 0 then s else
  let new := sectors.filter (fun e => !s.journalHolds v (16 * st + e.1))
  match s.mainLine v st with
  | some (k, l) => ((s.setLine k { l with sectors := overSectors l.sectors new, key := key, busy := false, lock := l.lock || lock }).bump CNT_CCH_FILL_INSTALLED).syncLocks
  | none =>
    match s.chooseWay v st with
    | (t, some k) => (((t.setLine k { vol := v, stripe := st, key := key, ptag := linePtag v st, sectors := overSectors [] new, lock := lock }).bump CNT_CCH_FILL_INSTALLED)).syncLocks
    | (t, none) => t.bump CNT_CCH_INSTALL_SKIP

/-- Remove a fill. -/
def State.dropFill (s : State) (f : Fill) : State := { s with cch := { s.cch with fills := s.cch.fills.erase f } }

/-- A fill has every sector it wants. -/
def Fill.complete (f : Fill) : Bool := (List.range 16).all (fun i => !bitOf f.want i || (tget? f.sectors i).isSome)

/-- Key slot named in a stored sector's metadata (R314). -/
def sectorKey (w : Nat) : Nat := w / 2 ^ (32768 + 224) % 2 ^ 12

/-- Key slot of a line to be installed: that of its first sector. -/
def sectorsKey (l : List (Nat × Nat)) : Nat := match l with
  | e :: _ => sectorKey e.2
  | [] => 0

/-- Finish a demand fill: installed, or cancelled (R292, R300). -/
def State.endDemand (s : State) (f : Fill) : State :=
  let s1 := s.dropFill f
  if f.cancelled then s1.bump CNT_CCH_FILL_CANCEL
  else if f.sectors.isEmpty then s1
  else s1.install f.vol f.stripe (sectorsKey f.sectors) f.sectors false

/-- The demand fills of a read end before it releases its range locks (R292 step 2). -/
def State.endFillsOf (s : State) (h : Nat) : State := s.each (s.cch.fills.filter (fun f => f.kind == 0 && f.owner == h)) (fun t f => t.endDemand f)

/-! ### What an append does to cached copies (R291) -/

/-- Remove one sector from the eviction and side buffers. -/
def State.dropBuffered (s : State) (v st i : Nat) : State :=
  let cut (l : Line) : Line := if l.vol = v && l.stripe = st then { l with sectors := tdel l.sectors i } else l
  let side1 := s.cch.side.map cut
  let s1 := { s with cch := { s.cch with evb := (s.cch.evb.map cut).filter (fun l => !l.sectors.isEmpty), side := side1.filter (fun l => !l.sectors.isEmpty) } }
  if side1.any (fun l => l.sectors.isEmpty) then s1.bump CNT_CCH_PF_UNUSED else s1

/-- Act on the cached copies of one block of an appended record: `w` is its new stored sector, none for ZEROES and DEALLOC (R290, R291). -/
def State.appendBlock (s : State) (v b seq : Nat) (w : Option Nat) : State :=
  let st := b / 16
  let i := b % 16
  let s1 := s.dropBuffered v st i
  let stale (f : Fill) : Fill := if f.vol = v && f.stripe = st && f.kind != 0 then { f with stale := true } else f
  let s2 := { s1 with cch := { s1.cch with fills := s1.cch.fills.map stale } }
  let pol := (s2.policy v st).1
  match s2.mainLine v st with
  | some (k, l) =>
    let has := (tget? l.sectors i).isSome
    match w with
    | some x =>
      if pol = 0 || (pol != 3 && has) then s2.setLine k { l with sectors := tput l.sectors i x, dirty := l.dirty ||| 2 ^ i, jseq := seq, key := sectorKey x, age := l.age }
      else if pol = 3 then s2.setLine k { l with sectors := tdel l.sectors i, dirty := l.dirty - (l.dirty &&& 2 ^ i) }
      else s2
    | none => s2.setLine k { l with sectors := tdel l.sectors i, dirty := l.dirty - (l.dirty &&& 2 ^ i) }
  | none => match w with
    | some x =>
      if pol != 0 || s2.cchSets = 0 then s2 else
      match s2.chooseWay v st with
      | (t, some k) => t.setLine k { vol := v, stripe := st, key := sectorKey x, ptag := linePtag v st, sectors := [(i, x)], dirty := 2 ^ i, jseq := seq }
      | (t, none) => t.bump CNT_CCH_INSTALL_SKIP
    | none => s2

/-- Clear the DIRTY bit of a block that no record holds undestaged (R291). -/
def State.cleanBlock (s : State) (v b : Nat) : State :=
  if s.journalHolds v b then s else match s.mainLine v (b / 16) with
  | some (k, l) => s.setLine k { l with dirty := l.dirty - (l.dirty &&& 2 ^ (b % 16)) }
  | none => s

/-- Invalidate one sector wherever it is cached (R301). -/
def State.dropCached (s : State) (v b : Nat) : State :=
  let s1 := s.dropBuffered v (b / 16) (b % 16)
  match s1.mainLine v (b / 16) with
  | some (k, l) => s1.setLine k { l with sectors := tdel l.sectors (b % 16) }
  | none => s1

/-! ### Demand lookup (R288, R290, R294, R296) -/

/-- Look up a line for a demand read that needs the sectors of a mask: the sectors served, by index, with the hit counted and the line moved as its
policy says. -/
def State.demandLookup (s : State) (v st mask : Nat) : State × List (Nat × Nat) :=
  let pol := (s.policy v st).1
  let need (l : Line) : List (Nat × Nat) := l.sectors.filter (fun e => bitOf mask e.1)
  let full := popCount 16 mask
  let count (t : State) (n : Nat) : State := t.bump (if n = 0 then CNT_CCH_MISS else if n = full then CNT_CCH_HIT else CNT_CCH_PARTIAL)
  if s.cchSets = 0 then (s.bump CNT_CCH_MISS, []) else
  match s.mainLine v st with
  | some (k, l) =>
    let got := need l
    let s1 := if got.isEmpty then s else s.setLine k { l with age := if pol = 3 then 7 else 0 }
    (count s1 got.length, got)
  | none =>
    let s0 := if (s.candidate v st).isSome then s.bump CNT_CCH_FALSE_MATCH else s
    match s0.evbLine v st with
    | some l =>
      let got := need l
      if got.isEmpty then (count s0 0, []) else
      let s1 := (count s0 got.length).bump CNT_CCH_EVB_HIT
      if pol ≤ 1 && (s1.fillOn v st).isNone then (({ s1 with cch := { s1.cch with evb := s1.cch.evb.erase l } }.charge 6 l.sectors.length).install v st l.key l.sectors false, got) else (s1, got)
    | none => match s0.sideLine v st with
      | some l =>
        let got := need l
        if got.isEmpty then (count s0 0, []) else
        let s1 := ((count s0 got.length).bump CNT_CCH_SIDE_HIT).dropSide v st true
        (if pol ≤ 1 && (s1.fillOn v st).isNone then s1.install v st l.key l.sectors false else s1, got)
      | none => (count s0 0, [])

end Sys2Proof.Machine
end

