-- ==== Sys2Proof/Machine/Access.lean ====
section
/-! DEFINITION. Who may reach a register: reachability by mode (R41), privilege class of the requester (R373, R374), pages and
offsets that do not answer (R25, R69, R415), and the high-word latch (R9). -/

namespace Sys2Proof.Machine

/-- A requester's number, for its latch (R9). -/
def reqNum (r : Requester) : Nat :=
  match r with
  | .pf0 => 0
  | .pf1 => 1
  | .uart => 2
  | .jtag => 3
  | .mc n => 4 + n.val

/-- A requester's code in PROT_RWC_LAST (R373, R385). -/
def reqCode (r : Requester) : Nat :=
  match r with
  | .pf0 => 68
  | .pf1 => 69
  | .uart => 70
  | .jtag => 71
  | .mc n => 0x7C + n.val

/-- The privilege class of a requester's register access (R373, R374): PF0, UART and JTAG from PROT_PRIV_LOCAL; the management cores are
above class; PF1 reaches no BAR0 register. -/
def State.classOf (s : State) (r : Requester) : Nat :=
  match r with
  | .pf0 => fieldOf (s.reg PROT_PRIV_LOCAL) 8 2
  | .uart => fieldOf (s.reg PROT_PRIV_LOCAL) 12 2
  | .jtag => fieldOf (s.reg PROT_PRIV_LOCAL) 14 2
  | .pf1 => fieldOf (s.reg PROT_PRIV_LOCAL) 10 2
  | .mc _ => 3

/-- Registers answer at all: MORNING to MIDNIGHT with no reset held (R41); PF0 in D3hot does not decode BAR0 (R399). -/
def State.reachable (s : State) (r : Requester) : Bool := s.powered && (match r with
  | .pf1 => false
  | .pf0 => !s.hep.pf0.d3hot
  | _ => true)

/-- Blocks that keep answering in MIDNIGHT: SYS, MBX and MON (R41). -/
def midnightOpen (off : Nat) : Bool :=
  off < 0x10000 || (0x20000 ≤ off && off < 0x30000) || (0xE00000 ≤ off && off < 0xF00000)

/-- Writes that MIDNIGHT accepts (R41). -/
def midnightWrite (off : Nat) : Bool := midnightOpen off || off == ENG_GLOBAL_CMD || off == ENG_GLOBAL_ARG

/-- Lanes of the port that a lane group's GRP_MODE starts on lane `k` of the group (R67); 0 where the lane has no port of its own. -/
def grpWidth (mode k : Nat) : Nat :=
  match mode, k with
  | 0, _ => 1
  | 1, 0 => 2
  | 1, 1 => 0
  | 1, _ => 1
  | 2, 2 => 2
  | 2, 3 => 0
  | 2, _ => 1
  | 3, 0 => 2
  | 3, 2 => 2
  | 4, 0 => 4
  | _, _ => 0

/-- GRP_MODE of a port's group (R67). -/
def State.grpMode (s : State) (p : Nat) : Nat := s.fld (NET_PORT_CFG_GRP_MODE (p / 4 * 4))

/-- Width of a port in lanes; 0 where the lane has no port (R67, R70). -/
def State.portWidth (s : State) (p : Nat) : Nat := grpWidth (s.grpMode p) (p % 4)

/-- A port page is active: it is the lowest lane of a port, or of a group with a reserved GRP_MODE (R69, R70). -/
def State.pageActive (s : State) (p : Nat) : Bool := p % 4 == 0 || 0 < s.portWidth p

/-- The offset lies in an inactive port page (R69). -/
def State.inactivePage (s : State) (off : Nat) : Bool :=
  0x100000 ≤ off && off < 0x140000 && !s.pageActive ((off - 0x100000) / 0x1000)

/-- Data registers of the mailboxes (R415). -/
def mbxData (off : Nat) : Bool := 0x20100 ≤ off && off < 0x20400 && (off - 0x20100) % 0x20 < 0x10

/-- Mailbox number of an offset. -/
def mbxNum (off : Nat) : Nat := (off - 0x20100) / 0x20

/-- An offset that does not answer a requester as a register (R25, R69, R415). -/
def State.absent (s : State) (r : Requester) (off : Nat) : Bool :=
  (regAt off).isNone || s.inactivePage off || (mbxData off && (decide (4 ≤ mbxNum off) || r != .pf0))

/-- Count a register access refused by class (R374). -/
def State.privRefused (s : State) : State := (s.bump CNT_PROT_PRIV_REFUSED).malformed

/-- A write by a requester to an offset, passed to its effect where the mode, the class and the page admit it (R25, R41, R69, R374). -/
def State.accessWrite (s : State) (r : Requester) (off : Nat) (f : State → State) : State :=
  if !s.reachable r then s
  else if s.classOf r < 2 then s.privRefused
  else if s.mode == 7 && !midnightWrite off then s.malformed
  else if s.absent r off then s.malformed
  else f s

/-- Whether a read by a requester reaches the register; otherwise it returns 0. -/
def State.readOk (s : State) (r : Requester) (off : Nat) : Bool :=
  s.reachable r && !(s.classOf r == 0 && !(off == SYS_IDREV || (0x30000 ≤ off && off < 0x40000))) && !s.absent r off
    && !(s.mode == 7 && s.sys.midnightFromDawn && !midnightOpen off)

/-- The counts of a read that does not reach a register (R25, R374). -/
def State.readRefused (s : State) (r : Requester) (off : Nat) : State :=
  if !s.reachable r then s
  else if s.classOf r == 0 && !(off == SYS_IDREV || (0x30000 ≤ off && off < 0x40000)) then s.privRefused
  else if s.absent r off then s.malformed
  else s

/-- A read with a side effect: the effect takes place only where the read reaches the register and it is not frozen in MIDNIGHT (R41). -/
def State.accessRead (s : State) (r : Requester) (off : Nat) (val : Word) (f : State → State) : State :=
  if !s.reachable r then s
  else if s.readOk r off then
    let s1 := s.emit (.read r off val)
    if s.mode == 7 && !midnightOpen off then s1 else f s1
  else (s.readRefused r off).emit (.read r off 0)

/-- An access of PF1 to its BAR2, beside the MSI-X table and PBA: it needs PF1 present and out of D3hot (R391, R399), and is malformed while PF1's
class is NONE (R395) and in MIDNIGHT (R41). -/
def State.pf1Access (s : State) (f : State → State) : State :=
  if !(s.powered && s.flag HEP_STAT_PF1_PRESENT) || s.hep.pf1.d3hot then s
  else if s.classOf .pf1 = 0 || s.mode == 7 then s.malformed
  else f s

/-- Latch a high word for a requester (R9). -/
def State.latch (s : State) (r : Requester) (w : Word) : State :=
  { s with sys := { s.sys with latches := tput s.sys.latches (reqNum r) w } }

/-- The latched high word of a requester (R9). -/
def State.latched (s : State) (r : Requester) : Word := tget s.sys.latches (reqNum r) 0

end Sys2Proof.Machine
end

