-- ==== Sys2Proof/Machine/Switch.lean ====
section
/-! DEFINITION. The switch core: cells, queues, placement and overflow (R106, R107), drop and mark decisions (R109–R111),
flow control thresholds (R108), the matching scheduler (R112–R114), LAG live tables (R104, R105), and the time the part keeps. -/

namespace Sys2Proof.Machine

/-! ### Time -/

/-- A field as a two's complement number. -/
def signed (wd v : Nat) : Int := if v < 2 ^ (wd - 1) then (v : Int) else (v : Int) - (2 ^ wd : Nat)

/-- The device time in whole nanoseconds (R81). -/
def State.devNs (s : State) : Nat := s.clock.dev / 1024000000000

/-- NET_TIME_ADJ in units of 1/1024 ppb, clamped to ±500 ppm (R81). -/
def State.timeAdj (s : State) : Int :=
  let a := signed 32 (s.fld NET_TIME_ADJ_FREQ)
  max (-512000000) (min 512000000 a)

/-- A group's clock runs: a configured port (EN), a cluster neither clock- nor power-gated, a populated channel (R440). -/
def State.groupRuns (s : State) (g : Nat) : Bool :=
  s.flag (MON_GRP_CTL_EN g) && (if g < 64 then s.flag (NET_PORT_CFG_EN g)
    else if g < 80 then (tget s.eng.gates (g - 64) .awake) != .clockGated && (tget s.eng.gates (g - 64) .awake) != .powerGated
    else if g < 112 then true
    else if g < 124 then bitOf (s.fld DMC_INFO_CH_MASK) (g - 112)
    else true)

/-- Cycles of a group's clock in so many nanoseconds: FCLK at 1.5 GHz, ECLK for a cluster (R19, R440). -/
def groupCycles (g ns : Nat) : Nat := if 64 ≤ g && g < 80 then ns * Config.eclkHz / 1000000000 else ns * 3 / 2

/-- What a code of R441 that counts cycles adds for each cycle of a group's clock: code 0x001 one, a cluster's 0x081 one for each engine with a running
context, a drive port's 0x083 one while a command is outstanding. -/
def State.cycleWeight (s : State) (code g : Nat) : Nat :=
  if code = 1 then 1
  else if code = 0x081 && 64 ≤ g && g < 80 then min 16 (s.eng.engines.filter (fun e => e.1 / 16 == g - 64 && e.2.ctxs.any (fun x => !x.2))).length
  else if code = 0x083 && 80 ≤ g && g < 112 then (if s.dpt.cmds.any (fun e => s.fld (DPT_MEM_LOC_TYPE e.2.req.member) != 4 && s.fld (DPT_MEM_LOC_PORT e.2.req.member) == g - 80) then 1 else 0)
  else 0

/-- One cycle-counting event code over `dt` nanoseconds of the state `s` (R441, R448). -/
def State.cycleEvents (s : State) (dt code : Nat) (t : State) : State :=
  let old (g : Nat) : Nat := tget s.mon.ran g 0
  let n (g : Nat) : Nat := if s.groupRuns g then s.cycleWeight code g * (groupCycles g (old g + dt) - groupCycles g (old g)) else 0
  let t1 := t.each ((s.pcsOn code).filter (fun e => n e.1 != 0)) (fun u e => u.pcAdd e.1 e.2 (n e.1))
  t1.each ((s.slotsWith code).filter (fun e => n e.1 != 0)) (fun u e => u.slotAdd e.2 (n e.1))

/-- Cycle counters and the codes that count cycles, over `dt` nanoseconds (R440, R441). -/
def State.monPass (s : State) (dt : Nat) : State :=
  let old (g : Nat) : Nat := tget s.mon.ran g 0
  let s1 := { s with mon := { s.mon with ran := (List.range 129).map (fun g => (g, if s.groupRuns g then old g + dt else old g)) } }
  s.cycleEvents dt 0x083 (s.cycleEvents dt 0x081 (s.cycleEvents dt 1 s1))

/-- `dt` nanoseconds of FCLK pass on a powered main die: wheel time and its slot (R122), the device time at its adjusted rate (R81), and
the slow-path policer's refill (R101). -/
def State.pass (s : State) (dt : Nat) : State :=
  if s.mode == 0 || s.sys.hold != .none then s else
  let now := s.clock.nowNs + dt
  let dev := ((s.clock.dev : Int) + dt * (1024000000000 + s.timeAdj)).toNat
  let burst := max 1 (s.fld CLS_SLOW_BURST_BURST)
  let fr := s.cls.slowFrac + s.fld CLS_SLOW_RATE_RATE * dt
  let tok := min burst (s.fld CLS_SLOW_TOKENS_TOKENS + fr / 1000000)
  let s1 := { s with clock := { nowNs := now, dev := dev }, cls := { s.cls with slowFrac := fr % 1000000 } }
  ((s1.setFld CLS_SLOW_TOKENS_TOKENS tok).setFld EGS_WHEEL_STAT_SLOT (now / 64 % 4096)).monPass dt

/-! ### Cells -/

/-- Cells of a frame of so many bytes (R106). -/
def cellsOf (bytes : Nat) : Nat := cdiv bytes 256

/-- A port's state beside its registers. -/
def State.port (s : State) (p : Nat) : PortSt := tget s.ports p {}

/-- Change a port's state. -/
def State.modPort (s : State) (p : Nat) (f : PortSt → PortSt) : State := { s with ports := tmod s.ports p {} f }

/-- An output queue. -/
def State.outQ (s : State) (q : Nat) : List Frame := tget s.swc.outq q []

/-- Every frame charged to a queue: in its virtual output queues and in the output queue (R106). -/
def State.framesOf (s : State) (q : Nat) : List Frame :=
  s.outQ q ++ (s.swc.voq.flatMap (fun e => e.2.map Prod.fst)).filter (fun f => f.q == q)

/-- Every frame in the buffer. -/
def State.allFrames (s : State) : List Frame :=
  s.swc.outq.flatMap Prod.snd ++ s.swc.voq.flatMap (fun e => e.2.map Prod.fst)

/-- Cells of the frames of a list that satisfy a condition. -/
def cellSum (l : List Frame) (c : Frame → Bool) : Nat := (l.filter c).foldl (fun n f => n + cellsOf f.bytes) 0

/-- Free shared cells: the pool less the cells placed outside the guarantees (R107). -/
def State.sharedFree (s : State) : Nat :=
  s.swc.pool - cellSum s.allFrames (fun f => f.place == .shared || f.place == .lossless)

/-- Bytes in the DRAM overflow partition. -/
def State.ovfUsed (s : State) : Nat := 256 * cellSum s.allFrames (fun f => f.place == .dram)

/-- Bring the buffer status registers of a queue up to date (R118). -/
def State.syncQ (s : State) (q : Nat) : State :=
  let fr := s.framesOf q
  let s1 := s.setFld (SWC_Q_DEPTH_ONCHIP q) (cellSum fr (fun f => f.place != .dram))
  let s2 := s1.setFld (SWC_Q_DDEPTH_DRAM q) (cellSum fr (fun f => f.place == .dram))
  let s3 := s2.setFld SWC_BUF_STAT_FREE (196608 - cellSum s.allFrames (fun f => f.place != .dram))
  s3.setFld SWC_SHARED_STAT_SHARED_FREE s.sharedFree

/-- The ingress class of a port is lossless (R107). -/
def State.losslessIn (s : State) (p c : Nat) : Bool :=
  p < 64 && ((s.fld (NET_FC_CFG_MODE p) == 2 && bitOf (s.fld (NET_FC_CFG_PFC_EN p)) c) || s.fld (NET_FC_CFG_MODE p) == 1)

/-- The queue's DRAM bytes stay within OVF_MAX with `n` more cells (R107). -/
def State.ovfMaxOk (s : State) (q n : Nat) : Bool :=
  let m := s.fld (SWC_Q_OVF_OVF_MAX q)
  m == 0 || (s.fld (SWC_Q_DDEPTH_DRAM q) + n) * 256 ≤ m * 2 ^ 20

/-- The partition can hold `n` more cells (R107). -/
def State.ovfPartOk (s : State) (n : Nat) : Bool := 0 < s.swc.ovfGib && s.ovfUsed + n * 256 ≤ s.swc.ovfGib * 2 ^ 30

/-- Room in DRAM (R107). -/
def State.dramRoom (s : State) (q n : Nat) : Bool := s.ovfPartOk n && s.ovfMaxOk q n

/-- Where a frame of `n` cells is placed: the first rule of R107 that applies; none is a tail drop. -/
def State.placement (s : State) (q n : Nat) (lossless : Bool) : Option Place :=
  let onchip := s.fld (SWC_Q_DEPTH_ONCHIP q)
  let ovf := s.flag (SWC_Q_CFG_OVF_EN q)
  let sh := cellSum (s.framesOf q) (fun f => f.place == .shared)
  let free := s.sharedFree
  if 0 < s.fld (SWC_Q_DDEPTH_DRAM q) then (if s.dramRoom q n then some .dram else none)
  else if ovf && s.fld (SWC_Q_OVF_OVF_TH q) ≤ onchip && s.dramRoom q n then some .dram
  else if onchip + n ≤ s.fld (SWC_Q_CFG_GUAR q) then some .guaranteed
  else if (sh + n) * 16 ≤ 2 ^ s.fld (SWC_Q_CFG_ALPHA q) * free && n ≤ free then some .shared
  else if lossless && n ≤ s.fld SWC_BUF_STAT_FREE then some .lossless
  else if ovf && s.dramRoom q n then some .dram
  else none

/-- A frame was refused DRAM only because the partition is full (R107). -/
def State.ovfRefused (s : State) (q n : Nat) : Bool :=
  (0 < s.fld (SWC_Q_DDEPTH_DRAM q) || s.flag (SWC_Q_CFG_OVF_EN q)) && 0 < s.swc.ovfGib && !s.ovfPartOk n && s.ovfMaxOk q n

/-! ### WRED and marking -/

/-- The average of a queue, in units of 2^-16 cell (R110). -/
def State.avgOf (s : State) (q : Nat) : Nat := tget s.swc.avg q 0

/-- Update the average: avg + (q − avg)·2^−W (R110). -/
def State.avgUpdate (s : State) (q : Nat) : State :=
  let depth := s.fld (SWC_Q_DEPTH_ONCHIP q) + s.fld (SWC_Q_DDEPTH_DRAM q)
  let a : Int := s.avgOf q
  let a' := (a + ((depth * 65536 : Nat) - a) / (2 ^ s.fld (SWC_Q_CFG_W q) : Nat)).toNat
  { s with swc := { s.swc with avg := tput s.swc.avg q a' } }.setFld (SWC_Q_AVG_AVG q) (a' / 65536)

/-- MIN, MAX of the colour's profile. -/
def State.wredProf (s : State) (q colour : Nat) : Nat × Nat :=
  match colour with
  | 0 => (s.fld (SWC_Q_WRED_G_MIN q), s.fld (SWC_Q_WRED_G_MAX q))
  | 1 => (s.fld (SWC_Q_WRED_Y_MIN q), s.fld (SWC_Q_WRED_Y_MAX q))
  | _ => (s.fld (SWC_Q_WRED_R_MIN q), s.fld (SWC_Q_WRED_R_MAX q))

/-- DROP and ECN bits of the colour. -/
def State.wredBits (s : State) (q colour : Nat) : Bool × Bool :=
  match colour with
  | 0 => (s.flag (SWC_Q_CFG_G_DROP q), s.flag (SWC_Q_CFG_G_ECN q))
  | 1 => (s.flag (SWC_Q_CFG_Y_DROP q), s.flag (SWC_Q_CFG_Y_ECN q))
  | _ => (s.flag (SWC_Q_CFG_R_DROP q), s.flag (SWC_Q_CFG_R_ECN q))

/-- Whether WRED selects a frame: never below MIN, always from MAX (or from MIN when MIN ≥ MAX); between them the queue's LFSR, whose
polynomial and seed the spec does not give, decides: a free value (R110). -/
def State.wredSelect (s : State) (q colour : Nat) : Bool :=
  let (mn, mx) := s.wredProf q colour
  let a := s.avgOf q
  if a < mn * 16 * 65536 then false
  else if mx ≤ mn then true
  else if mx * 16 * 65536 ≤ a then true
  else if a = mn * 16 * 65536 then false
  else Config.freeBool s.free

/-- WRED's verdict on a frame. -/
inductive WredVerdict where
  | pass | mark | drop
  deriving DecidableEq, Repr

/-- Pass, mark or drop (R110): a colour with both bits 0 has no WRED, and a frame at ECN 0b11 passes. -/
def State.wred (s : State) (q : Nat) (f : Frame) : WredVerdict :=
  let (dropB, ecnB) := s.wredBits q f.colour
  if !(dropB || ecnB) || f.ecn == 3 then .pass
  else if !s.wredSelect q f.colour then .pass
  else if ecnB && f.isIp && (f.ecn == 1 || f.ecn == 2) then .mark
  else if dropB then .drop
  else .pass

/-- One's complement sum of 16-bit words. -/
def onesSum (d : List (BitVec 8)) (off : Nat) : Nat → Nat
  | 0 => 0
  | n + 1 => let t := onesSum d off n + beNat d (off + 2 * n) 2; t % 65536 + t / 65536

/-- The IPv4 header checksum over `ihl` 32-bit words at `off`, the checksum field taken as 0. -/
def ipv4Sum (d : List (BitVec 8)) (off ihl : Nat) : Nat :=
  0xFFFF - onesSum (putOctets d (off + 10) [0, 0]) off (2 * ihl)

/-- Set ECN to 0b11 and recompute the IPv4 header checksum (R111). -/
def markEcn (f : Frame) : Frame :=
  if f.data.isEmpty then { f with ecn := 3 } else
  let o := f.l3
  if octet f.data o / 16 = 4 then
    let d := putOctets f.data (o + 1) [BitVec.ofNat 8 (octet f.data (o + 1) ||| 3)]
    { f with ecn := 3, data := putOctets d (o + 10) (toBe 2 (ipv4Sum d o (octet d o % 16))) }
  else
    { f with ecn := 3, data := putOctets f.data (o + 1) [BitVec.ofNat 8 (octet f.data (o + 1) ||| 0x30)] }

/-! ### Flow control thresholds -/

/-- On-chip cells held by frames that arrived on a port in a class (R108). -/
def State.ingressUsage (s : State) (p c : Nat) : Nat :=
  cellSum s.allFrames (fun f => f.inPort == p && f.icls == c && f.place != .dram)

/-- Usage, XOFF and effective XON that govern a port and class (R108): 802.3x sums all classes and uses class 0's thresholds. -/
def State.pfcLevels (s : State) (p c : Nat) : Nat × Nat × Nat :=
  let pause := s.fld (NET_FC_CFG_MODE p) == 1
  let k := if pause then 0 else c
  let use := if pause then cellSum s.allFrames (fun f => f.inPort == p && f.place != .dram) else s.ingressUsage p c
  let xoff := s.fld (SWC_PFC_TH_XOFF p k)
  let xon := s.fld (SWC_PFC_TH_XON p k)
  (use, xoff, if xoff ≤ xon then xoff - 1 else xon)

/-- The flow-control slot of a class: bit 0 for 802.3x pause. -/
def State.pfcBit (s : State) (p c : Nat) : Nat := if s.fld (NET_FC_CFG_MODE p) == 1 then 0 else c

/-- The part generates flow control for a port and class: 802.3x, or PFC on an enabled class. -/
def State.pfcOn (s : State) (p c : Nat) : Bool :=
  p < 64 && (s.fld (NET_FC_CFG_MODE p) == 1 || (s.fld (NET_FC_CFG_MODE p) == 2 && bitOf (s.fld (NET_FC_CFG_PFC_EN p)) c))

/-- Hand a pause or PFC frame to the MAC. -/
def State.pushPause (s : State) (p c quanta : Nat) : State :=
  let cl := if s.fld (NET_FC_CFG_MODE p) == 1 then none else some c
  s.modPort p (fun t => { t with pauseTx := t.pauseTx ++ [⟨cl, quanta⟩] })

/-- Send XOFF when usage has reached it (R108). -/
def State.pfcXoff (s : State) (p c : Nat) : State :=
  let (use, xoff, _) := s.pfcLevels p c
  let b := s.pfcBit p c
  if s.pfcOn p c && xoff ≤ use && !bitOf (s.port p).xoffSent b then
    (s.pushPause p c 0xFFFF).modPort p (fun t => { t with xoffSent := t.xoffSent + 2 ^ b })
  else s

/-- Send XON when usage has fallen to it (R108). -/
def State.pfcXon (s : State) (p c : Nat) : State :=
  let (use, _, xon) := s.pfcLevels p c
  let b := s.pfcBit p c
  if p < 64 && use ≤ xon && bitOf (s.port p).xoffSent b then
    (s.pushPause p c 0).modPort p (fun t => { t with xoffSent := t.xoffSent - 2 ^ b })
  else s

/-! ### Queueing -/

/-- A network port's switch port is configured: its link is in LSTATE 5 or 6 (R23, R69, R76, R77). -/
def State.linkUsable (s : State) (p : Nat) : Bool := s.fld (NET_PORT_STAT_LSTATE p) == 5 || s.fld (NET_PORT_STAT_LSTATE p) == 6

/-- A switch port that can be a destination (R23): P0–P63 when configured, P64–P87. -/
def State.destOk (s : State) (port : Nat) : Bool := if port < 64 then s.linkUsable port else port ≤ 87

/-- Put a frame into the virtual output queue of its input and output (R112). -/
def State.toVoq (s : State) (f : Frame) (port : Nat) : State :=
  { s with swc := { s.swc with voq := tmod s.swc.voq (f.inPort * 128 + port) [] (fun l => l ++ [(f, cellsOf f.bytes)]) } }

/-- The decisions of R109 for a frame to a switch port in a class: invalid destination, WRED, placement, mark. -/
def State.enqueue (s : State) (f0 : Frame) (port cls : Nat) : State :=
  if !s.destOk port then s.bump CNT_SWC_INVALID_DEST else
  let q := 16 * port + cls
  let n := cellsOf f0.bytes
  let s1 := s.avgUpdate q
  let v := s1.wred q f0
  let s2 := s1.useFree
  match v with
  | .drop => s2.bump (CNT_SWC_Q_WRED_DROP q)
  | _ =>
    match s2.placement q n (s2.losslessIn f0.inPort f0.icls) with
    | none =>
      (s2.bump (CNT_SWC_Q_TAIL_DROP q)).cond (s2.ovfRefused q n) (fun t => t.bump CNT_SWC_OVF_FULL)
    | some pl =>
      let f1 := if v = .mark then markEcn f0 else f0
      let s3 := s2.cond (v = .mark) (fun t => t.bump (CNT_SWC_Q_ECN_MARK q))
      let s4 := (s3.toVoq { f1 with q := q, place := pl } port).syncQ q
      let s5 := (s4.bump (CNT_SWC_Q_ENQ_PKTS q)).bumpBy (CNT_SWC_Q_ENQ_CELLS q) n
      (s5.cond (pl = .dram) (fun t => t.bump (CNT_SWC_Q_OVF_PKTS q))).pfcXoff f0.inPort f0.icls

/-- A queue goes from empty to non-empty at wheel time `a`: T ← max(T, a) (R123). -/
def State.limActive (s : State) (q : Nat) : State :=
  let l := tget s.egs.lim q { upTo := s.clock.nowNs }
  { s with egs := { s.egs with lim := tput s.egs.lim q { l with t16 := max l.t16 (16 * s.clock.nowNs) } } }

/-- A frame whose last cell has arrived joins its output: a network queue holds it, P86 holds it for its next pass, and any other internal port
takes it at once (R22, R112). -/
def State.joinOutput (s : State) (f : Frame) (port : Nat) : State :=
  if port < 64 then
    let s1 := s.cond (s.outQ f.q).isEmpty (fun t => t.limActive f.q)
    { s1 with swc := { s1.swc with outq := tmod s1.swc.outq f.q [] (fun l => l ++ [{ f with joined := s.clock.nowNs }]) } }
  else if port = 86 then
    ({ s with swc := { s.swc with recirc := s.swc.recirc ++ [f] } }.syncQ f.q).pfcXon f.inPort f.icls
  else ((s.emit (.deliver port f)).syncQ f.q).pfcXon f.inPort f.icls

/-- Move one cell of the head frame of a virtual output queue (R112). -/
def State.moveCell (s : State) (i o : Nat) : State :=
  match tget s.swc.voq (i * 128 + o) [] with
  | [] => s
  | (f, n) :: rest =>
    if n ≤ 1 then
      let v := if rest.isEmpty then tdel s.swc.voq (i * 128 + o) else tput s.swc.voq (i * 128 + o) rest
      { s with swc := { s.swc with voq := v } }.joinOutput f o
    else { s with swc := { s.swc with voq := tput s.swc.voq (i * 128 + o) ((f, n - 1) :: rest) } }

/-- Insert a number into an ascending list. -/
def insNat (n : Nat) : List Nat → List Nat
  | [] => [n]
  | x :: l => if n ≤ x then n :: x :: l else x :: insNat n l

/-- The first member of a list at or after a pointer, in ascending order with wrap-around (R114). -/
def rotPick (cand : List Nat) (ptr : Nat) : Option Nat :=
  match cand.find? (fun c => decide (ptr ≤ c)) with
  | some c => some c
  | none => cand.head?

/-- The matching in progress: the pairs made and the pointers. -/
structure Matching where
  pairs  : List (Nat × Nat) := []
  grant  : List (Nat × Nat)
  accept : List (Nat × Nat)
  deriving DecidableEq, Repr

/-- One iteration of R113 over the requests (input, output), in ascending order; pointers move only in the first. -/
def matchIter (reqs : List (Nat × Nat)) (first : Bool) (m : Matching) : Matching :=
  let open' := reqs.filter (fun r => !(m.pairs.any (fun p => p.1 == r.1 || p.2 == r.2)))
  let outs := (open'.map Prod.snd).eraseDups.foldr insNat []
  let grants := outs.filterMap (fun o =>
    (rotPick (((open'.filter (fun r => r.2 == o)).map Prod.fst).foldr insNat []) (tget m.grant o 0)).map (fun i => (i, o)))
  let ins := (grants.map Prod.fst).eraseDups.foldr insNat []
  let acc := ins.filterMap (fun i =>
    (rotPick ((grants.filter (fun g => g.1 == i)).map Prod.snd) (tget m.accept i 0)).map (fun o => (i, o)))
  { pairs := m.pairs ++ acc,
    grant := if first then acc.foldl (fun g p => tput g p.2 ((p.1 + 1) % 88)) m.grant else m.grant,
    accept := if first then acc.foldl (fun a p => tput a p.1 ((p.2 + 1) % 88)) m.accept else m.accept }

/-- MATCH_SLOT (R113): two iterations, then one cell moves for each matched pair, counted for the monitoring block (R441). An output that is not a valid destination is not requested (R23). -/
def execMatchSlot (s : State) : Host.Outcome State Fault Refusal :=
  .next (if s.running then
    let reqs := (s.swc.voq.filter (fun e => !e.2.isEmpty)).map (fun e => (e.1 / 128, e.1 % 128))
    let ok := reqs.filter (fun r => s.destOk r.2)
    let m := matchIter ok false (matchIter ok true { grant := s.swc.grant, accept := s.swc.accept })
    let s1 := { s with swc := { s.swc with grant := m.grant, accept := m.accept } }
    ((s1.each m.pairs (fun t p => t.moveCell p.1 p.2)).monEvent 124 0x080 m.pairs.length).monEvent 124 0x081 (min 1 m.pairs.length)
  else s)

/-- Remove every frame of a queue from the buffer, and count them in a counter (R77). -/
def State.flushQueue (s : State) (q cnt : Nat) : State :=
  let n := (s.framesOf q).length
  if n = 0 then s else
  let voq := (s.swc.voq.map (fun e => (e.1, e.2.filter (fun x => x.1.q != q)))).filter (fun e => !e.2.isEmpty)
  let fr := s.framesOf q
  let s1 := ({ s with swc := { s.swc with voq := voq, outq := tdel s.swc.outq q } }.bumpBy cnt n).syncQ q
  s1.each fr (fun t f => t.pfcXon f.inPort f.icls)

/-- PFC_XOFF_REPEAT (R108): while usage stays above XON, XOFF is sent again. -/
def execPfcXoffRepeat (port : Port) (cls : Fin 8) (s : State) : Host.Outcome State Fault Refusal :=
  let (use, _, xon) := s.pfcLevels port cls
  .next (s.cond (s.running && bitOf (s.port port).xoffSent (s.pfcBit port cls) && decide (xon < use))
    (fun t => t.pushPause port cls 0xFFFF))

/-- WRED_IDLE_UPDATE (R110): 1 µs with the queue empty updates its average. -/
def execWredIdleUpdate (port : Fin 88) (cls : Fin 9) (s : State) : Host.Outcome State Fault Refusal :=
  let q := 16 * port.val + cls.val
  .next (s.cond (s.running && (s.framesOf q).isEmpty) (fun t => t.avgUpdate q))

/-! ### LAGs -/

/-- Byte `b` of a bucket table of 64 words (R118). -/
def State.bucket (s : State) (word : Nat → Nat) (b : Nat) : Nat := fieldOf (s.reg (word (b / 4))) (8 * (b % 4)) 8

/-- Set byte `b` of a bucket table. -/
def State.setBucket (s : State) (word : Nat → Nat) (b v : Nat) : State := s.setFld ⟨word (b / 4), 8 * (b % 4), 8⟩ v

/-- The members of a LAG: the ports named in any byte of its SWC_LAG_CFG, ascending (R104). -/
def State.lagMembers (s : State) (l : Nat) : List Nat :=
  let named := (List.range 64).flatMap (fun w => (List.range 4).map (fun k => fieldOf (s.reg (SWC_LAG_CFG l w)) (8 * k) 6))
  (List.range 64).filter (fun p => named.contains p)

/-- A member is live while its link is up (R104). -/
def State.lagLive (s : State) (l : Nat) : List Nat := (s.lagMembers l).filter s.linkUsable

/-- Hand a failed member's buckets, ascending, to the live members cyclically from the first above it (R104). -/
def State.lagFail (s : State) (l p : Nat) : State :=
  let live := s.lagLive l
  if live.isEmpty then s.each (List.range 256) (fun t b => t.setBucket (SWC_LAG_LIVE l) b 0xFF) else
  let start := (live.filter (fun m => decide (m ≤ p))).length
  let bs := (List.range 256).filter (fun b => s.bucket (SWC_LAG_LIVE l) b == p)
  s.each bs.zipIdx (fun t e => t.setBucket (SWC_LAG_LIVE l) e.1 (live.getD ((start + e.2) % live.length) 0))

/-- SWC_LAG_CTL.LIVE counts the live members (R104). -/
def State.lagCount (s : State) (l : Nat) : State := s.setFld (SWC_LAG_CTL_LIVE l) (s.lagLive l).length

/-- A member declared down: the LAGs in use that name it are rewritten (R104). -/
def State.lagMemberDown (s : State) (p : Nat) : State :=
  s.each (List.range 32) (fun t l =>
    if t.flag (SWC_LAG_CTL_EN l) && (t.lagMembers l).contains p then (t.lagFail l p).lagCount l else t)

/-- A member that came up gets no bucket, and is counted (R104, R105). -/
def State.lagMemberUp (s : State) (p : Nat) : State :=
  s.each (List.range 32) (fun t l =>
    if t.flag (SWC_LAG_CTL_EN l) && (t.lagMembers l).contains p then t.lagCount l else t)

/-- REBAL (R105): the configured buckets become the live ones, and R104 is applied to each member that is down. -/
def State.lagRebal (s : State) (l : Nat) : State :=
  let s1 := s.each (List.range 64) (fun t w => t.setReg (SWC_LAG_LIVE l w) (t.reg (SWC_LAG_CFG l w) &&& 0x3F3F3F3F))
  let down := (s1.lagMembers l).filter (fun p => !s1.linkUsable p)
  (s1.each down (fun t p => t.lagFail l p)).lagCount l

/-- LAG_REBAL (R105). -/
def execLagRebal (lag : Fin 32) (s : State) : Host.Outcome State Fault Refusal :=
  .next (s.cond s.running (fun t => t.lagRebal lag))

/-- A frame the part itself sends from an internal port to a network port: it joins the queue of its class (R112, R119). -/
def State.sendFrame (s : State) (inPort port cls bytes : Nat) (pkt : Pkt) (tag : Option Nat) : State :=
  s.enqueue { id := 0, inPort := inPort, icls := 0, bytes := bytes, tc := cls, isIp := true, ecn := 2, pkt := some pkt, tag := tag } port cls

end Sys2Proof.Machine
end

