-- ==== Sys2Proof/Machine/Egress.lean ====
section
/-! DEFINITION. Egress scheduling: limiters on the timing wheel, credit shapers, time gates, the choice of the next frame, depth
and delay sampling (R119–R135). -/

namespace Sys2Proof.Machine

/-! ### Port speed -/

/-- Gbit/s of a SPEED code (R68, R84). -/
def speedGbps (c : Nat) : Nat :=
  match c with
  | 0 => 25
  | 1 => 50
  | 4 => 200
  | 5 => 400
  | _ => 100

/-- The speed a port runs at: resolved when it autonegotiates, configured otherwise (R73). -/
def State.portGbps (s : State) (p : Nat) : Nat :=
  speedGbps (if s.flag (NET_PORT_CFG_AN_EN p) then s.fld (NET_PORT_STAT_HCD_SPEED p) else s.fld (NET_PORT_CFG_SPEED p))

/-! ### Time gates -/

/-- CYCLE of a bank in units of 8 ns, above 125,000,000 taken as that (R135). -/
def State.gateCycle (s : State) (p bank : Nat) : Nat :=
  min 125000000 (if bank = 0 then s.fld (EGS_GATE_CYCLE0_CYCLE p) else s.fld (EGS_GATE_CYCLE1_CYCLE p))

/-- The entries of a bank up to its LEN, as (index, gates, interval in 8 ns). -/
def State.gateEntries (s : State) (p bank : Nat) : List (Nat × Nat × Nat) :=
  let len := if bank = 0 then s.fld (EGS_GATE_CTL_LEN0 p) else s.fld (EGS_GATE_CTL_LEN1 p)
  (List.range (len + 1)).map (fun e =>
    (e, s.fld (EGS_GATE_ENT_GATES p (256 * bank + e)), max 1 (s.fld (EGS_GATE_ENT_INTERVAL p (256 * bank + e)))))

/-- One cycle of a list: cut at the cycle end, the last entry extended to it (R128). -/
def cutCycle : List (Nat × Nat × Nat) → Nat → List (Nat × Nat × Nat)
  | [], _ => []
  | [(e, g, _)], left => if left = 0 then [] else [(e, g, left)]
  | (e, g, d) :: t, left => if left = 0 then [] else (e, g, min d left) :: cutCycle t (left - min d left)

/-- The operating list of a port over one cycle. -/
def State.gateList (s : State) (p : Nat) : List (Nat × Nat × Nat) :=
  let b := s.fld (EGS_GATE_CTL_BANK p)
  cutCycle (s.gateEntries p b) (s.gateCycle p b)

/-- BASE in nanoseconds, bits [2:0] ignored (R135). -/
def State.gateBase (s : State) (p : Nat) : Nat :=
  s.fld (EGS_GATE_BASE_SEC_SEC p) * 1000000000 + s.fld (EGS_GATE_BASE_NS_NS p) / 8 * 8

/-- Position in the operating cycle, in units of 8 ns; none before BASE or with a zero cycle (R128). -/
def State.gatePos (s : State) (p : Nat) : Option Nat :=
  let c := s.gateCycle p (s.fld (EGS_GATE_CTL_BANK p))
  if c = 0 || s.devNs < s.gateBase p then none else some ((s.devNs - s.gateBase p) / 8 % c)

/-- The entry at a position, and how much of it is left. -/
def entryAt : List (Nat × Nat × Nat) → Nat → Option (Nat × Nat × Nat)
  | [], _ => none
  | (e, g, d) :: t, pos => if pos < d then some (e, g, d - pos) else entryAt t (pos - d)

/-- The gate list governs: EN, the device time set, and a cycle start reached (R128). -/
def State.gateRuns (s : State) (p : Nat) : Bool :=
  s.flag (EGS_GATE_CTL_EN p) && s.flag NET_TIME_CTL_VALID && s.flag (EGS_GATE_STAT_RUN p)

/-- The entry in force of a governing list. -/
def State.gateNow (s : State) (p : Nat) : Option (Nat × Nat × Nat) :=
  if s.gateRuns p then (s.gatePos p).bind (entryAt (s.gateList p)) else none

/-- Gate states in force: all open where no list governs (R128). -/
def State.gates (s : State) (p : Nat) : Nat := match s.gateNow p with
  | some (_, g, _) => g
  | none => 0x1FF

/-- Bring EGS_GATE_STAT up to date. -/
def State.syncGate (s : State) (p : Nat) : State :=
  match s.gateNow p with
  | some (e, g, _) => (s.setFld (EGS_GATE_STAT_ENTRY p) e).setFld (EGS_GATE_STAT_GATES p) g
  | none => ((s.setFld (EGS_GATE_STAT_ENTRY p) 0).setFld (EGS_GATE_STAT_GATES p) 0x1FF).cond
      (!(s.flag (EGS_GATE_CTL_EN p) && s.flag NET_TIME_CTL_VALID)) (fun t => t.setFlag (EGS_GATE_STAT_RUN p) false)

/-- Length of the run of open entries at the head of a list, in 8 ns. -/
def openRun (c : Nat) : List (Nat × Nat × Nat) → Nat
  | [] => 0
  | (_, g, d) :: t => if bitOf g c then d + openRun c t else 0

/-- The list rotated to start at each of its entries. -/
def rotations {α : Type} (l : List α) : List (List α) := (List.range l.length).map (fun i => l.drop i ++ l.take i)

/-- The longest contiguous open span of a class in the operating list; none when every entry opens it (R129). -/
def State.longestOpen (s : State) (p c : Nat) : Option Nat :=
  let l := s.gateList p
  if l.all (fun e => bitOf e.2.1 c) then none else some ((rotations l).foldl (fun m r => max m (openRun c r)) 0)

/-- The time left until the class's gate next closes; none when it never does (R129). -/
def State.openLeft (s : State) (p c : Nat) : Option Nat :=
  match s.gateNow p with
  | none => none
  | some (e, g, left) =>
    let l := s.gateList p
    if l.all (fun x => bitOf x.2.1 c) then none
    else if !bitOf g c then some 0
    else
      let i := l.findIdx (fun x => x.1 == e)
      some (left + openRun c (l.drop (i + 1) ++ l.take (i + 1)))

/-- Line time of a frame in units of 8 ns: (L + 20) × 8 ns over the speed in Gbit/s, rounded up (R129). -/
def State.lineTime (s : State) (p bytes : Nat) : Nat := cdiv (bytes + 20) (s.portGbps p)

/-- The frame fits in what is left of its queue's window (R129). -/
def State.fits (s : State) (p c bytes : Nat) : Bool :=
  match s.openLeft p c with
  | none => true
  | some left => s.lineTime p bytes ≤ left

/-- The frame could never be sent (R129). -/
def State.oversize (s : State) (p c bytes : Nat) : Bool :=
  s.gateRuns p && (match s.longestOpen p c with
    | none => false
    | some span => span < s.lineTime p bytes)

/-! ### Limiters and shapers -/

/-- A queue's limiter. -/
def State.limOf (s : State) (q : Nat) : Limiter := tget s.egs.lim q {}

/-- Replace a queue's limiter. -/
def State.setLim (s : State) (q : Nat) (l : Limiter) : State := { s with egs := { s.egs with lim := tput s.egs.lim q l } }

/-- Bring a shaper's credit up to the present wheel time (R125): it rises at RATE, to HI_CREDIT with a frame waiting and the gate
open, toward 0 on an empty queue, and is frozen by a closed gate. -/
def State.creditNow (s : State) (q : Nat) : State :=
  let l := s.limOf q
  if !l.shaper then s else
  let rise : Int := ((s.fld (EGS_Q_RATE_RATE q) * (s.clock.nowNs - l.upTo) : Nat) : Int)
  let hi : Int := ((s.fld (EGS_Q_CS_HI_CREDIT q) * 64 * 1000 : Nat) : Int)
  let c := if (s.outQ q).isEmpty then (if l.credit < 0 then min 0 (l.credit + rise) else 0)
    else if bitOf (s.gates (q / 16)) (q % 16) then min hi (l.credit + rise) else l.credit
  s.setLim q { l with credit := c, upTo := s.clock.nowNs }

/-- The limiter or shaper allows the queue to send (R119, R123, R125). -/
def State.limAllows (s : State) (q : Nat) : Bool :=
  let l := s.limOf q
  if s.fld (EGS_Q_RATE_RATE q) = 0 then true
  else if l.shaper then decide (0 ≤ l.credit)
  else decide (cdiv l.t16 1024 * 1024 ≤ 16 * s.clock.nowNs / 1024 * 1024)

/-- The interval of a frame in 1/16 ns, rounded up (R123). -/
def interval16 (bytes rate : Nat) : Nat := cdiv (8 * bytes * 1000 * 16) rate

/-- The wheel's horizon of 4,095 slots, in 1/16 ns (R124). -/
def horizon16 : Nat := 262080 * 16

/-- Take a wheel entry for a limiter that holds none, or give one back (R122). -/
def State.wheelTake (s : State) : State := s.setFld EGS_WHEEL_STAT_FREE (s.fld EGS_WHEEL_STAT_FREE - 1)
/-- Give a wheel entry back. -/
def State.wheelGive (s : State) : State := s.setFld EGS_WHEEL_STAT_FREE (s.fld EGS_WHEEL_STAT_FREE + 1)

/-- A frame of a queue is dequeued (R123, R124). -/
def State.limDequeue (s : State) (q bytes : Nat) : State :=
  let rate := s.fld (EGS_Q_RATE_RATE q)
  if rate = 0 then s else
  let l := s.limOf q
  let iv := interval16 bytes rate
  let t := 16 * s.clock.nowNs
  let cost : Int := ((8 * bytes * 1000 : Nat) : Int)
  let far := decide (horizon16 < iv)
  let noFree := !l.onWheel && s.fld EGS_WHEEL_STAT_FREE == 0
  if far || noFree then
    let s1 := s.bump (if far then CNT_EGS_HORIZON_FB else CNT_EGS_WHEEL_FULL)
    let s2 := s1.cond l.onWheel State.wheelGive
    let c := if l.shaper then l.credit - cost else - cost
    s2.setLim q { l with onWheel := false, shaper := true, upTo := s.clock.nowNs, credit := c }
  else
    let s1 := s.cond (!l.onWheel) State.wheelTake
    if l.shaper then s1.setLim q { l with onWheel := true, shaper := false, credit := 0, t16 := t + iv }
    else s1.setLim q { l with onWheel := true, t16 := max l.t16 (t - 1024) + iv }

/-- A per-QP limiter counts a frame that carries payload or a request (R126): no shaper, and a QP beyond the wheel waits in the
transmitter's own timer. -/
def State.qpDequeue (s : State) (qpn bytes : Nat) : State :=
  let i := qpn % 16384
  let rate := s.fld (EGS_QP_RATE_RATE i)
  if rate = 0 then s else
  let l := tget s.egs.qpLim i {}
  let iv := interval16 bytes rate
  let t := 16 * s.clock.nowNs
  let far := decide (horizon16 < iv)
  let noFree := !l.onWheel && s.fld EGS_WHEEL_STAT_FREE == 0
  let t' := max l.t16 (t - 1024) + iv
  let set (u : State) (l' : Limiter) : State := { u with egs := { u.egs with qpLim := tput u.egs.qpLim i l' } }
  if far || noFree then
    set ((s.bump (if far then CNT_EGS_HORIZON_FB else CNT_EGS_WHEEL_FULL)).cond l.onWheel State.wheelGive) { l with onWheel := false, t16 := t' }
  else set (s.cond (!l.onWheel) State.wheelTake) { l with onWheel := true, t16 := t' }

/-- Release the entries of the slots up to the current one (R122). -/
def State.wheelRelease (s : State) : State :=
  let due (l : Limiter) : Bool := l.onWheel && decide (cdiv l.t16 1024 * 1024 ≤ 16 * s.clock.nowNs)
  let n := (s.egs.lim.filter (fun e => due e.2)).length + (s.egs.qpLim.filter (fun e => due e.2)).length
  let rel (e : Nat × Limiter) : Nat × Limiter := (e.1, if due e.2 then { e.2 with onWheel := false } else e.2)
  { s with egs := { s.egs with lim := s.egs.lim.map rel, qpLim := s.egs.qpLim.map rel } }.setFld EGS_WHEEL_STAT_FREE (s.fld EGS_WHEEL_STAT_FREE + n)

/-- WHEEL_SLOT_ADVANCE (R122): wheel time reaches the next 64 ns boundary and the slot's entries are released. -/
def execWheelSlotAdvance (s : State) : Host.Outcome State Fault Refusal :=
  .next (s.cond s.running (fun t => (t.pass (64 - t.clock.nowNs % 64)).wheelRelease))

/-- A port declared down resets its queues' limiters: T to the wheel time, credit and deficit 0, wheel entry freed (R127). -/
def State.limReset (s : State) (q : Nat) : State :=
  match tget? s.egs.lim q with
  | none => s
  | some l => (s.cond l.onWheel State.wheelGive).setLim q
      { t16 := 16 * s.clock.nowNs, onWheel := false, shaper := false, credit := 0, upTo := s.clock.nowNs, deficit := 0 }

/-! ### Choosing the next frame -/

/-- Pause or PFC has stopped a TC queue (R78). -/
def State.paused (s : State) (p c : Nat) : Bool := c < 8 && bitOf (s.port p).stopped c

/-- A TC queue is eligible (R119). -/
def State.eligible (s : State) (p c : Nat) : Bool :=
  let q := 16 * p + c
  match s.outQ q with
  | [] => false
  | f :: _ => !s.paused p c && s.limAllows q && bitOf (s.gates p) c && s.fits p c f.bytes

/-- EGS_Q_STAT of a queue (R134). -/
def State.syncQStat (s : State) (p c : Nat) : State :=
  let q := 16 * p + c
  let l := s.limOf q
  let wait := match s.outQ q with
    | [] => !bitOf (s.gates p) c
    | f :: _ => !bitOf (s.gates p) c || !s.fits p c f.bytes
  let s1 := ((s.setFlag (EGS_Q_STAT_SHAPER q) l.shaper).setFlag (EGS_Q_STAT_GATE_WAIT q) wait).setFlag (EGS_Q_STAT_PAUSED q) (s.paused p c)
  (s1.setFlag (EGS_Q_STAT_ELIGIBLE q) (s.eligible p c)).setFld (EGS_Q_STAT_CREDIT q) ((l.credit / 64000) % (2 ^ 24 : Nat)).toNat

/-- EGS_Q_STAT of every queue of a port. -/
def State.syncPortQ (s : State) (p : Nat) : State := s.each (List.range 9) (fun t c => t.syncQStat p c)

/-- The visits of deficit round robin (R120) among the eligible queues of one PRIO: each visit adds WEIGHT × 256, until a queue's
deficit covers its head frame. Answers the class and the deficits. -/
def drrVisit (cand : List Nat) (len weight : Nat → Nat) : Nat → Nat → (Nat → Nat) → Option (Nat × List (Nat × Nat))
  | 0, _, _ => none
  | n + 1, ptr, defi =>
    match rotPick cand ptr with
    | none => none
    | some c =>
      let d := defi c + weight c * 256
      let defi' := fun x => if x = c then d else defi x
      if len c ≤ d then some (c, cand.map (fun x => (x, defi' x))) else drrVisit cand len weight n ((c + 1) % 8) defi'

/-- Length of a queue's head frame. -/
def State.headLen (s : State) (q : Nat) : Nat := match s.outQ q with
  | [] => 0
  | f :: _ => f.bytes

/-- Choose the TC queue under R120; the state carries the visits' deficits and pointer. -/
def State.drrChoose (s : State) (p : Nat) : Option (Nat × State) :=
  let el := (List.range 8).filter (fun c => s.eligible p c)
  let top := el.foldl (fun m c => max m (s.fld (EGS_Q_SCHED_PRIO (16 * p + c)))) 0
  let cand := el.filter (fun c => s.fld (EGS_Q_SCHED_PRIO (16 * p + c)) == top)
  let len := fun c => s.headLen (16 * p + c)
  let ps := s.port p
  match ps.drrCur.filter (fun c => cand.contains c && decide (len c ≤ (s.limOf (16 * p + c)).deficit)) with
  | some c => some (c, s)
  | none =>
    match drrVisit cand len (fun c => max 1 (s.fld (EGS_Q_SCHED_WEIGHT (16 * p + c)))) 400 ps.drr (fun c => (s.limOf (16 * p + c)).deficit) with
    | none => none
    | some (c, ds) =>
      let s1 := s.each ds (fun t e => t.setLim (16 * p + e.1) { t.limOf (16 * p + e.1) with deficit := e.2 })
      some (c, s1.modPort p (fun t => { t with drr := (c + 1) % 8, drrCur := some c }))

/-! ### Precision time at transmit (R80) -/

/-- The PTP message of a frame: offset of its header and whether it runs over UDP/IPv6, for an encapsulation enabled in NET_PTP_CFG and an event message. -/
def State.ptpEvent (s : State) (p : Nat) (f : Frame) : Option (Nat × Nat) :=
  let d := f.data
  let l3 := f.l3
  if d.isEmpty || !s.flag (NET_PTP_CFG_TS_EN p) then none else
  let et := beNat d (l3 - 2) 2
  let ev (off : Nat) : Bool := octet d off % 16 < 4 && off + 34 ≤ d.length
  if et = 0x88F7 then (if s.flag (NET_PTP_CFG_L2 p) && ev l3 then some (l3, 0) else none)
  else if et = 0x0800 then
    let l4 := l3 + 4 * (octet d l3 % 16)
    if s.flag (NET_PTP_CFG_UDP4 p) && octet d (l3 + 9) == 17 && beNat d (l4 + 2) 2 == 319 && ev (l4 + 8) then some (l4 + 8, 4) else none
  else if et = 0x86DD then
    if s.flag (NET_PTP_CFG_UDP6 p) && octet d (l3 + 6) == 17 && beNat d (l3 + 42) 2 == 319 && ev (l3 + 48) then some (l3 + 48, 6) else none
  else none

/-- Bring the head of a port's timestamp FIFO into NET_TS. -/
def State.syncTs (s : State) (p : Nat) : State :=
  match (s.port p).tsFifo with
  | [] => ((s.setFld (NET_TS_LOW_NS p) 0).setFlag (NET_TS_LOW_VALID p) false).setReg (NET_TS_HIGH p) 0
  | (ns, sec, seq) :: _ =>
    (((s.setFld (NET_TS_LOW_NS p) ns).setFlag (NET_TS_LOW_VALID p) true).setFld (NET_TS_HIGH_SEQ_ID p) seq).setFld (NET_TS_HIGH_SEC_LO p) sec

/-- Push a transmit timestamp; a full FIFO loses it (R80). -/
def State.pushTs (s : State) (p seq : Nat) : State :=
  if 16 ≤ (s.port p).tsFifo.length then (s.setFlag (NET_TS_LOW_OVF p) true).bump (CNT_NET_TS_LOST p)
  else (s.modPort p (fun t => { t with tsFifo := t.tsFifo ++ [(s.devNs % 1000000000, s.devNs / 1000000000 % 65536, seq)] })).syncTs p

/-- A PTP event message leaves: one-step corrects it, two-step pushes its timestamp (R80). -/
def State.ptpTx (s : State) (p : Nat) (f : Frame) : State × Frame :=
  match s.ptpEvent p f with
  | none => (s, f)
  | some (off, enc) =>
    let d := f.data
    if s.flag (NET_PTP_CFG_ONE_STEP p) && enc ≠ 6 then
      let c := (beNat d (off + 8) 8 + (s.clock.nowNs - f.joined) * 65536) % 2 ^ 64
      let d1 := putOctets d (off + 8) (toBe 8 c)
      (s, { f with data := if enc = 4 then putOctets d1 (off - 2) [0, 0] else d1 })
    else (s.pushTs p (beNat d (off + 30) 2), f)

/-- Send the head frame of a queue from its port. -/
def State.txHead (s : State) (p c : Nat) : State :=
  let q := 16 * p + c
  match s.outQ q with
  | [] => s
  | f :: rest =>
    let s1 := { s with swc := { s.swc with outq := if rest.isEmpty then tdel s.swc.outq q else tput s.swc.outq q rest } }.syncQ q
    let l := s1.limOf q
    let s2 := s1.cond (c < 8) (fun t => (t.setLim q { l with deficit := if rest.isEmpty then 0 else l.deficit - f.bytes }).limDequeue q f.bytes)
    let s3 := s2.cond rest.isEmpty (fun t => t.modPort p (fun x => { x with drrCur := none }))
    let s4 := ((((s3.bump (CNT_NET_TX_FRAMES p)).monEvent p (0x80 + c) 1).bumpBy (CNT_NET_TX_BYTES p) f.bytes).countBw true p f.bytes).pfcXon f.inPort f.icls
    let r := s4.ptpTx p f
    r.1.emit (.txFrame p r.2)

/-- A head frame that can never fit is discarded (R129). -/
def State.dropOversize (s : State) (p c : Nat) : Nat → State
  | 0 => s
  | n + 1 =>
    let q := 16 * p + c
    match s.outQ q with
    | [] => s
    | f :: rest =>
      if s.oversize p c f.bytes then
        let s1 := { s with swc := { s.swc with outq := if rest.isEmpty then tdel s.swc.outq q else tput s.swc.outq q rest } }.syncQ q
        ((s1.bump CNT_EGS_GATE_OVERSIZE).pfcXon f.inPort f.icls).dropOversize p c n
      else s

/-- EGRESS_SELECT (R119), `dt` ns after the last command that carried time: a pause frame, the control queue, or the chosen TC queue.
A port transmits with its link in LSTATE 5 or 6 while the data path runs (R54, R76). -/
def State.egressSelect (s0 : State) (p dt : Nat) : State :=
  let s := s0.pass dt
  if !(s.running && s.linkUsable p) then s else
  match (s.port p).pauseTx with
  | pf :: rest =>
    let s1 := (s.modPort p (fun t => { t with pauseTx := rest })).bump (CNT_NET_PAUSE_TX p)
    (((s1.bump (CNT_NET_TX_FRAMES p)).bumpBy (CNT_NET_TX_BYTES p) 64).countBw true p 64).emit (.txPause p pf)
  | [] =>
    let s1 := s.each (List.range 9) (fun t c => (t.dropOversize p c (t.outQ (16 * p + c)).length).creditNow (16 * p + c))
    let ctl := match s1.outQ (16 * p + 8) with
      | [] => false
      | f :: _ => bitOf (s1.gates p) 8 && s1.fits p 8 f.bytes
    if ctl then (s1.txHead p 8).syncPortQ p else
    match s1.drrChoose p with
    | some (c, s2) => (s2.txHead p c).syncPortQ p
    | none => s1.syncPortQ p

/-- EGRESS_SELECT (R119). -/
def execEgressSelect (port : Port) (dt : Nat) (s : State) : Host.Outcome State Fault Refusal := .next (s.egressSelect port dt)

/-! ### Gate events and commands -/

/-- GATE_ENTRY_CHANGE (R128): an entry or cycle boundary is reached; a list that was not running starts at a cycle start. -/
def execGateEntryChange (port : Port) (dt : Nat) (s : State) : Host.Outcome State Fault Refusal :=
  let s1 := s.pass dt
  .next (s1.cond s1.running (fun t =>
    let start := t.flag (EGS_GATE_CTL_EN port) && t.flag NET_TIME_CTL_VALID && t.gatePos port == some 0
    (t.cond start (fun u => u.setFlag (EGS_GATE_STAT_RUN port) true)).syncGate port))

/-- CHANGE (R128): arms a switch to the other bank; malformed while PEND is 1 (R131). -/
def State.gateChange (s : State) (p : Nat) : State :=
  if s.flag (EGS_GATE_CTL_PEND p) then s.malformed else s.setFlag (EGS_GATE_CTL_PEND p) true

/-- GATE_BANK_CHANGE: a write of CHANGE. -/
def execGateBankChange (port : Port) (dt : Nat) (s : State) : Host.Outcome State Fault Refusal :=
  let s1 := s.pass dt
  .next (s1.cond s1.running (fun t => t.gateChange port))

/-- GATE_BANK_SWITCH (R128): at the new bank's first cycle start the operating bank switches and the change is counted. -/
def execGateBankSwitch (port : Port) (dt : Nat) (s : State) : Host.Outcome State Fault Refusal :=
  let s1 := s.pass dt
  .next (s1.cond (s1.running && s1.flag (EGS_GATE_CTL_PEND port)) (fun t =>
    let t1 := (t.setFld (EGS_GATE_CTL_BANK port) (1 - t.fld (EGS_GATE_CTL_BANK port))).setFlag (EGS_GATE_CTL_PEND port) false
    let t2 := t1.cond (t1.flag (EGS_GATE_CTL_EN port) && t1.flag NET_TIME_CTL_VALID) (fun u => u.setFlag (EGS_GATE_STAT_RUN port) true)
    (t2.bump CNT_EGS_GATE_SWITCH).syncGate port))

/-- A write to EGS_GATE_CTL (R131, R135): one that would set EN in service with a zero operating cycle, or change the operating
bank's LEN while EN is 1, or write CHANGE while PEND is 1, is discarded and malformed. -/
def State.gateCtlWrite (s : State) (p : Nat) (v : Word) : State :=
  let old := s.reg (EGS_GATE_CTL p)
  let en := old.toNat % 2 == 1
  let bank := s.fld (EGS_GATE_CTL_BANK p)
  let badEn := s.inService && v.toNat % 2 == 1 && s.gateCycle p bank == 0
  let badLen := en && fieldOf v (8 + 8 * bank) 8 != fieldOf old (8 + 8 * bank) 8
  let chg := bitOf v.toNat 1
  if badEn || badLen || (chg && s.flag (EGS_GATE_CTL_PEND p)) then s.malformed else
  let s1 := s.setReg (EGS_GATE_CTL p) ((old &&& 0xC) ||| (v &&& 0xFFFF01))
  let s2 := s1.cond (en && v.toNat % 2 == 0) (fun t => t.setFlag (EGS_GATE_STAT_RUN p) false)
  (s2.cond chg (fun t => t.gateChange p)).syncGate p

/-- A write to an entry or a CYCLE of the operating bank while EN is 1 is discarded and malformed (R131). -/
def State.gateBankLocked (s : State) (p bank : Nat) : Bool := s.flag (EGS_GATE_CTL_EN p) && s.fld (EGS_GATE_CTL_BANK p) == bank

/-! ### Sampling -/

/-- The histogram bin of a sample (R132). -/
def histBin (v shift : Nat) : Nat := if v < 2 ^ shift then 0 else min 15 (Nat.log2 (v / 2 ^ shift) + 1)

/-- Add one to a 32-bit bin that stops at its maximum. -/
def State.bumpBin (s : State) (off : Nat) : State :=
  let v := (s.reg off).toNat
  if v = 0xFFFFFFFF then s else s.setReg off (BitVec.ofNat 32 (v + 1))

/-- Sample one queue (R132). -/
def State.sampleQ (s : State) (q : Nat) : State :=
  let depth := s.fld (SWC_Q_DEPTH_ONCHIP q) + s.fld (SWC_Q_DDEPTH_DRAM q)
  let soj := match s.outQ q with
    | [] => 0
    | f :: _ => (s.clock.nowNs - f.joined) / 8
  (s.bumpBin (EGS_HIST q (histBin depth (s.fld EGS_CTL_DEPTH_SHIFT)))).bumpBin (EGS_HIST q (16 + histBin soj (s.fld EGS_CTL_DELAY_SHIFT)))

/-- DEPTH_SAMPLE (R132): the 576 network queues are binned while SMP_EN is 1. -/
def execDepthSample (dt : Nat) (s : State) : Host.Outcome State Fault Refusal :=
  let s1 := s.pass dt
  .next (s1.cond (s1.running && s1.flag EGS_CTL_SMP_EN) (fun t =>
    t.each (List.range 64) (fun u p => u.each (List.range 9) (fun w c => w.sampleQ (16 * p + c)))))

end Sys2Proof.Machine
end

