-- ==== Sys2Proof/Machine/Net.lean ====
section
/-! DEFINITION. Network ports: configuration checks (R67–R70), autonegotiation (R73), lane health (R74, R75), link state (R76,
R77), received pause (R78), and the device time (R80, R81). -/

namespace Sys2Proof.Machine

/-! ### Configuration -/

/-- Lane-rate class of a SPEED code (R68): NRZ 25.78 GBd, PAM4 26.56 GBd, PAM4 53.125 GBd. -/
def laneRate (speed : Nat) : Nat :=
  match speed with
  | 0 => 0
  | 1 => 1
  | _ => 2

/-- SPEED allowed for a port width (R67, R71, R84). -/
def speedOk (width speed : Nat) : Bool :=
  match width with
  | 1 => speed ≤ 3
  | 2 => speed == 4
  | 4 => speed == 5
  | _ => false

/-- FEC allowed for a speed (R71, R84): RS(528,514) or none at 25 GbE, RS(544,514) elsewhere, or as the speed gives. -/
def fecOk (speed fec : Nat) : Bool := fec == 0 || (if speed = 0 then fec == 2 || fec == 3 else fec == 1)

/-- The lane rates of the enabled ports of a group below a lane. -/
def State.ratesBelow (s : State) (p : Nat) : List Nat :=
  let g := p / 4 * 4
  (((List.range 4).filter (fun k => g + k < p && 0 < s.portWidth (g + k) && s.flag (NET_PORT_CFG_EN (g + k)))).map
    (fun k => laneRate (s.fld (NET_PORT_CFG_SPEED (g + k))))).eraseDups

/-- The first failed check of a port's configuration, as CFG_ERR (R70); 0 where all pass. GRP_MODE is checked whatever EN. -/
def State.portCheck (s : State) (p : Nat) : Nat :=
  let speed := s.fld (NET_PORT_CFG_SPEED p)
  let rates := s.ratesBelow p
  if p % 4 == 0 && 5 ≤ s.grpMode p then 1
  else if 5 ≤ s.grpMode p || !s.flag (NET_PORT_CFG_EN p) || s.portWidth p == 0 then 0
  else if !speedOk (s.portWidth p) speed then 2
  else if 2 ≤ rates.length && !rates.contains (laneRate speed) then 3
  else if !fecOk speed (s.fld (NET_PORT_CFG_FEC p)) then 4
  else 0

/-- The first page of a group in ascending lane order that fails a check, with its CFG_ERR. -/
def State.groupCheck (s : State) (g : Nat) : Option (Nat × Nat) :=
  (List.range 4).findSome? (fun k => let e := s.portCheck (4 * g + k); if e = 0 then none else some (4 * g + k, e))

/-- A group's port has EN set. -/
def State.groupEnabled (s : State) (p : Nat) : Bool :=
  (List.range 4).any (fun k => s.pageActive (p / 4 * 4 + k) && s.flag (NET_PORT_CFG_EN (p / 4 * 4 + k)))

/-- NET's check at the configuration commit (R70): CFG_ERR is set in each failing page, and the answer says whether all pass. -/
def State.netCommit (s : State) : State × Bool :=
  let bad := (List.range 16).filterMap s.groupCheck
  (s.each bad (fun t e => t.setFld (NET_PORT_STAT_CFG_ERR e.1) e.2), bad.isEmpty)

/-! ### Link state -/

/-- Set a port's LSTATE (R76). -/
def State.setLink (s : State) (p v : Nat) : State := s.setFld (NET_PORT_STAT_LSTATE p) v

/-- LSTATE of a port. -/
def State.link (s : State) (p : Nat) : Nat := s.fld (NET_PORT_STAT_LSTATE p)

/-- The link is declared down, in one step (R77). -/
def State.declareDown (s : State) (p : Nat) : State :=
  let s1 := ((s.setFlag (NET_PORT_STAT_UP p) false).setFlag (NET_PORT_STAT_LINK_CHG p) true).bump (CNT_NET_LINK_DOWN p)
  let s2 := s1.each (List.range 9) (fun t c => (t.flushQueue (16 * p + c) (CNT_NET_TX_FLUSH p)).limReset (16 * p + c))
  let s3 := s2.modPort p (fun t => { t with stopped := 0, pauseTx := [], drrCur := none })
  s3.syncPortQ p

/-- Start the lane check; in a group with a reserved GRP_MODE no link starts (R70, R76). -/
def State.startCheck (s : State) (p : Nat) : State := if s.portWidth p = 0 then s else s.setLink p 1

/-- EN cleared: the link is declared down if it was up, and the port stops (R76). -/
def State.stopPort (s : State) (p : Nat) : State :=
  if s.linkUsable p then ((s.declareDown p).setLink p 0).lagMemberDown p
  else s.setLink p 0

/-- EN cleared then EN set (R76). -/
def State.restartPort (s : State) (p : Nat) : State := (s.stopPort p).startCheck p

/-- What an accepted write of NET_PORT_CFG does to the link: EN set, EN cleared, RESTART or a change on an enabled port (R70, R76). -/
def State.linkAfterWrite (s : State) (p : Nat) (old new : Word) (restart : Bool) : State :=
  let en0 := old.toNat % 2 == 1
  let en1 := new.toNat % 2 == 1
  if !en0 && en1 then s.startCheck p
  else if en0 && !en1 then s.stopPort p
  else if en0 && en1 && (restart || old != new) then s.restartPort p
  else s

/-- A write to NET_PORT_CFG (R70): stored in MORNING, checked at once after a commit. GRP_MODE is reserved outside pages 4g, and changes only
while every port of the group has EN = 0. -/
def State.portCfgWrite (s : State) (p : Nat) (v : Word) : State :=
  let old := s.reg (NET_PORT_CFG p)
  let keep : Word := if p % 4 = 0 then 0x3FFF07FF else 0x3FFF00FF
  let new := v &&& keep
  let restart := bitOf v.toNat 11
  let grpChange := p % 4 == 0 && fieldOf old 8 3 != fieldOf new 8 3
  if grpChange && s.groupEnabled p then s.setFld (NET_PORT_STAT_CFG_ERR p) 5
  else
    let s1 := s.setReg (NET_PORT_CFG p) new
    if s.mode == 2 then s1.linkAfterWrite p old new restart
    else
      match s1.groupCheck (p / 4) with
      | some (q, e) =>
        if (s.groupCheck (p / 4)).isNone || q == p then s.setFld (NET_PORT_STAT_CFG_ERR p) e
        else (s1.setFld (NET_PORT_STAT_CFG_ERR p) 0).linkAfterWrite p old new restart
      | none => (s1.setFld (NET_PORT_STAT_CFG_ERR p) 0).linkAfterWrite p old new restart

/-- PORT_CFG_WRITE (R70). -/
def execPortCfgWrite (req : Requester) (port : Port) (val : Word) (s : State) : Host.Outcome State Fault Refusal :=
  .next (s.accessWrite req (NET_PORT_CFG port) (fun t => t.portCfgWrite port val))

/-- PORT_ENABLE (R76): NET_PORT_CFG written with EN set. -/
def execPortEnable (req : Requester) (port : Port) (s : State) : Host.Outcome State Fault Refusal :=
  .next (s.accessWrite req (NET_PORT_CFG port) (fun t => t.portCfgWrite port (t.reg (NET_PORT_CFG port) ||| 1)))

/-- PORT_DISABLE (R76): NET_PORT_CFG written with EN clear. -/
def execPortDisable (req : Requester) (port : Port) (s : State) : Host.Outcome State Fault Refusal :=
  .next (s.accessWrite req (NET_PORT_CFG port) (fun t => t.portCfgWrite port (t.reg (NET_PORT_CFG port) &&& 0xFFFFFFFE)))

/-- PORT_RESTART (R76): NET_PORT_CFG written with RESTART set. -/
def execPortRestart (req : Requester) (port : Port) (s : State) : Host.Outcome State Fault Refusal :=
  .next (s.accessWrite req (NET_PORT_CFG port) (fun t => t.portCfgWrite port (t.reg (NET_PORT_CFG port) ||| 0x800)))

/-- LANE_CHECK_COMPLETE (R74–R76): codes of the port's lanes, lowest first; lanes beyond its width read 6. -/
def execLaneCheckComplete (port : Port) (codes : List (Fin 6)) (s : State) : Host.Outcome State Fault Refusal :=
  let w := s.portWidth port
  let code (k : Nat) : Nat := if k < w then (codes.getD k 0).val else 6
  .next (s.cond (s.running && s.link port == 1) (fun t =>
    let t1 := t.setFld (NET_LANE_HEALTH_LANE port) (code 0 + 16 * code 1 + 256 * code 2 + 4096 * code 3)
    if (List.range w).any (fun k => 1 ≤ code k && code k ≤ 4) then (t1.setFlag (NET_PORT_STAT_LANE_FAULT port) true).setLink port 7
    else (t1.setFlag (NET_PORT_STAT_LANE_FAULT port) false).setLink port (if t.flag (NET_PORT_CFG_AN_EN port) then 2 else 3)))

/-- The abilities of NET_AN_ADV a port advertises (R73): those of its width at a lane rate the group's enabled ports use. -/
def State.advertised (s : State) (p : Nat) : Nat :=
  let g := p / 4 * 4
  let rates := ((List.range 4).filter (fun k => 0 < s.portWidth (g + k) && s.flag (NET_PORT_CFG_EN (g + k)))).map
    (fun k => laneRate (s.fld (NET_PORT_CFG_SPEED (g + k))))
  let ok (bit width rate : Nat) : Nat := if s.portWidth p = width && rates.contains rate && bitOf (s.reg (NET_AN_ADV p)).toNat bit then 2 ^ bit else 0
  ok 0 1 0 + ok 1 1 1 + ok 2 1 2 + ok 3 2 2 + ok 4 4 2

/-- SPEED code of an ability bit: 25, 50, 100, 200, 400 GbE. -/
def abilitySpeed (bit : Nat) : Nat :=
  match bit with
  | 0 => 0
  | 1 => 1
  | 2 => 2
  | 3 => 4
  | _ => 5

/-- AN_RESOLVED (R72, R73): `partner` is the link partner's abilities coded as NET_AN_ADV[4:0], `rs528` its request for RS(528,514). The highest
common ability is recorded and trained; with none, CFG_ERR reads 6 and the link stays down. -/
def execAnResolved (port : Port) (partner : Nat) (rs528 : Bool) (s : State) : Host.Outcome State Fault Refusal :=
  .next (s.cond (s.running && s.link port == 2) (fun t =>
    let common := t.advertised port &&& partner
    match (List.range 5).reverse.find? (bitOf common) with
    | none => t.setFld (NET_PORT_STAT_CFG_ERR port) 6
    | some b =>
      let fec := if b = 0 then (if rs528 || t.flag (NET_AN_ADV_RS528_REQ port) then 2 else 3) else 1
      ((((t.setFld (NET_PORT_STAT_HCD_SPEED port) (abilitySpeed b)).setFld (NET_PORT_STAT_HCD_FEC port) fec).setFld
        (NET_PORT_STAT_CFG_ERR port) 0).setLink port 3)))

/-- AN_RETRY_TIMER (R73): with no common ability, autonegotiation restarts every 500 ms while AUTO_RETRY is 1. -/
def execAnRetryTimer (port : Port) (s : State) : Host.Outcome State Fault Refusal :=
  .next (s.cond (s.running && s.link port == 2 && s.fld (NET_PORT_STAT_CFG_ERR port) == 6 && s.flag (NET_LINK_CFG_AUTO_RETRY port))
    (fun t => t.emit (.autoneg port)))

/-- TRAINING_COMPLETE (R76): UP_HOLD starts. -/
def execTrainingComplete (port : Port) (s : State) : Host.Outcome State Fault Refusal :=
  .next (s.cond (s.running && s.link port == 3) (fun t => t.setLink port 4))

/-- TRAINING_FAIL (R76): retry at once, or stop with LANE_FAULT clear. -/
def execTrainingFail (port : Port) (s : State) : Host.Outcome State Fault Refusal :=
  .next (s.cond (s.running && s.link port == 3) (fun t =>
    if t.flag (NET_LINK_CFG_AUTO_RETRY port) then t.setLink port 1
    else (t.setFlag (NET_PORT_STAT_LANE_FAULT port) false).setLink port 7))

/-- UP_HOLD_EXPIRY (R76): UP and LINK_CHG are set and the switch port is enabled; a LAG member that came up is counted (R105). -/
def execUpHoldExpiry (port : Port) (s : State) : Host.Outcome State Fault Refusal :=
  .next (s.cond (s.running && s.link port == 4) (fun t =>
    (((t.setFlag (NET_PORT_STAT_UP port) true).setFlag (NET_PORT_STAT_LINK_CHG port) true).setLink port 5).lagMemberUp port))

/-- DOWN_HOLD ends: the link is declared down; next is lane check, or disabled with AUTO_RETRY = 0 (R76, R77), and its LAG buckets move (R104). -/
def State.downHoldEnd (s : State) (p : Nat) : State :=
  let s1 := s.declareDown p
  (if s1.flag (NET_LINK_CFG_AUTO_RETRY p) then s1.setLink p 1 else s1.setLink p 0).lagMemberDown p

/-- LINK_LOST (R76): in up-hold a glitch is counted; in up DOWN_HOLD starts, and a DOWN_HOLD of 0 declares the link down at once (R84). -/
def execLinkLost (port : Port) (s : State) : Host.Outcome State Fault Refusal :=
  .next (if !s.running then s
    else if s.link port = 4 then (s.bump (CNT_NET_LINK_GLITCH port)).setLink port 1
    else if s.link port = 5 then
      (if s.fld (NET_LINK_CFG_DOWN_HOLD port) = 0 then s.downHoldEnd port else s.setLink port 6)
    else s)

/-- LINK_RESTORED (R76). -/
def execLinkRestored (port : Port) (s : State) : Host.Outcome State Fault Refusal :=
  .next (s.cond (s.running && s.link port == 6) (fun t => (t.bump (CNT_NET_LINK_GLITCH port)).setLink port 5))

/-- DOWN_HOLD_EXPIRY (R76, R77). -/
def execDownHoldExpiry (port : Port) (s : State) : Host.Outcome State Fault Refusal :=
  .next (s.cond (s.running && s.link port == 6) (fun t => t.downHoldEnd port))

/-- FAULT_HOLD_EXPIRY (R75, R76). -/
def execFaultHoldExpiry (port : Port) (s : State) : Host.Outcome State Fault Refusal :=
  .next (s.cond (s.running && s.link port == 7 && s.flag (NET_LINK_CFG_AUTO_RETRY port) && s.flag (NET_PORT_CFG_EN port)) (fun t => t.setLink port 1))

/-! ### Received pause -/

/-- A received pause or PFC frame is counted and consumed; if it is of the kind MODE selects it stops or releases the classes (R78). A pause frame
acts on all classes, a PFC frame on those of PFC_EN. -/
def State.pauseRx (s : State) (p : Nat) (pfc : Bool) (stop go : Nat) : State :=
  let s1 := s.bump (CNT_NET_PAUSE_RX p)
  let mode := s.fld (NET_FC_CFG_MODE p)
  let mask := if pfc then s.fld (NET_FC_CFG_PFC_EN p) else 0xFF
  if (pfc && mode == 2) || (!pfc && mode == 1) then
    (s1.modPort p (fun t => { t with stopped := (t.stopped - (t.stopped &&& (go &&& mask))) ||| (stop &&& mask) })).syncPortQ p
  else s1

/-- PAUSE_FRAME_RX (R78): `stop` the classes whose pause time is not 0, `go` those whose time is 0 (all or none for 802.3x). In MIDNIGHT the frame is
counted as received and discarded (R76). -/
def execPauseFrameRx (port : Port) (pfc : Bool) (stop : Fin 256) (go : Fin 256) (s : State) : Host.Outcome State Fault Refusal :=
  .next (s.cond (s.powered && s.linkUsable port) (fun t =>
    (((t.bump (CNT_NET_RX_FRAMES port)).bumpBy (CNT_NET_RX_BYTES port) 64).countBw false port 64).cond (s.mode != 7) (fun u => u.pauseRx port pfc stop.val go.val)))

/-- PAUSE_TIME_EXPIRY (R78): the classes whose received pause time runs out may send again. -/
def execPauseTimeExpiry (port : Port) (classes : Fin 256) (s : State) : Host.Outcome State Fault Refusal :=
  .next (s.cond s.running (fun t => (t.modPort port (fun x => { x with stopped := x.stopped - (x.stopped &&& classes.val) })).syncPortQ port))

/-! ### Device time and PPS -/

/-- TIME_READ (R81): the nanoseconds are returned and the seconds latched for the requester. -/
def execTimeRead (req : Requester) (dt : Nat) (s : State) : Host.Outcome State Fault Refusal :=
  let s1 := s.pass dt
  .next (s1.accessRead req NET_TIME_NS (BitVec.ofNat 32 (s1.devNs % 1000000000)) (fun t =>
    { t with sys := { t.sys with timeLatches := tput t.sys.timeLatches (reqNum req) (t.devNs / 1000000000 % 2 ^ 48) } }))

/-- NET_TIME_STEP (R81): a signed offset in ns, clamped at 0; the gates follow at once (R130). -/
def State.timeStep (s : State) (step : Word) : State :=
  let d := ((s.clock.dev : Int) + signed 32 step.toNat * 1024000000000).toNat
  let s1 := { s with clock := { s.clock with dev := d } }
  s1.each (List.range 64) (fun t p => if t.flag (EGS_GATE_CTL_EN p) then t.syncGate p else t)

/-- TIME_STEP (R81, R130). -/
def execTimeStep (req : Requester) (step : Word) (dt : Nat) (s : State) : Host.Outcome State Fault Refusal :=
  .next ((s.pass dt).accessWrite req NET_TIME_STEP (fun t => t.timeStep step))

/-- TIME_ADJUST (R81): the frequency offset is stored as written and acts clamped to ±500 ppm. -/
def execTimeAdjust (req : Requester) (freq : Word) (dt : Nat) (s : State) : Host.Outcome State Fault Refusal :=
  .next ((s.pass dt).accessWrite req NET_TIME_ADJ (fun t => t.setReg NET_TIME_ADJ freq))

/-- PPS_OUT_PULSE (R81): at a whole second of valid device time with OUT_EN, PPS_OUT rises for OUT_WIDTH ms (0 taken as 1). -/
def execPpsOutPulse (dt : Nat) (s : State) : Host.Outcome State Fault Refusal :=
  let s1 := s.pass dt
  .next (s1.cond (s1.running && s1.flag NET_TIME_CTL_OUT_EN && s1.flag NET_TIME_CTL_VALID)
    (fun t => t.emit (.ppsOut (max 1 (t.fld NET_TIME_CTL_OUT_WIDTH)))))

/-- PPS_IN_EDGE (R81): an edge of the selected polarity captures the device time, over an earlier capture not yet read. -/
def execPpsInEdge (falling : Bool) (dt : Nat) (s : State) : Host.Outcome State Fault Refusal :=
  let s1 := s.pass dt
  .next (s1.cond (s1.running && s1.flag NET_TIME_CTL_IN_EN && s1.flag NET_TIME_CTL_IN_EDGE == falling)
    (fun t => (t.setFld NET_PPS_CAP_NS (t.devNs % 1000000000)).setFlag NET_PPS_CAP_VALID true))

/-- TS_FIFO_POP (R85): a read of NET_TS low returns the head, latches its high word and pops it; OVF clears with the pop (R85). In MIDNIGHT nothing is popped,
and the latch works (R41). -/
def execTsFifoPop (req : Requester) (port : Port) (s : State) : Host.Outcome State Fault Refusal :=
  let lat (t : State) : State := if s.readOk req (NET_TS_LOW port) then t.latch req (s.reg (NET_TS_HIGH port)) else t
  .next (lat (s.accessRead req (NET_TS_LOW port) (s.reg (NET_TS_LOW port)) (fun t =>
    ((t.setFlag (NET_TS_LOW_OVF port) false).modPort port (fun x => { x with tsFifo := x.tsFifo.drop 1 })).syncTs port)))

/-! ### Counter clears -/

/-- The effect of a write to a block's counter-control register (R85, R116, R118, R134, R440): its CLEAR bits clear that block's counters. -/
def State.counterClear (s : State) (off : Nat) (v : Word) : State :=
  let c := bitOf v.toNat 0
  let c1 := bitOf v.toNat 1
  if 0x100000 ≤ off && off < 0x140000 then
    let b := 0x100000 + (off - 0x100000) / 0x1000 * 0x1000
    s.cond (c && off == b + 0x30) (fun t => t.clearRegs (b + 0x100) (b + 0x180))
  else if off = CLS_CNT_CTL then
    (s.cond c (fun t => t.clearRegs 0x200300 0x200388)).cond c1 (fun t => t.clearRegs 0x210000 0x220000)
  else if off = SWC_CNT_CTL then
    s.cond c (fun t => (t.clearRegs 0x300100 0x300118).clearRegs 0x340000 0x358000)
  else if off = EGS_CNT_CTL then
    (s.cond c (fun t => t.clearRegs 0x400100 0x400120)).cond c1 (fun t => t.clearRegs 0x460000 0x480000)
  else if off = RDM_CNT_CTL then s.cond c (fun t => t.clearRegs 0x500300 0x5003D0)
  else if off = CMDQ_CNT_CTL then s.cond c (fun t => t.clearRegs 0x600300 0x600398)
  else if off = ENG_CNT_CTL then s.cond c (fun t => t.clearRegs 0x700300 0x700360)
  else if off = DPT_CNT_CTL then s.cond c (fun t => t.clearRegs 0x800300 0x800368)
  else if off = RED_CNT_CTL then s.cond c (fun t => t.clearRegs 0x900400 0x9004B8)
  else if off = CCH_CNT_CTL then s.cond c (fun t => t.clearRegs 0xA00800 0xA008A0)
  else if off = CIP_CNT_CTL then s.cond c (fun t => t.clearRegs 0xB00200 0xB00260)
  else if off = NZL_CNT_CTL then s.cond c (fun t => t.clearRegs 0xC00100 0xC00168)
  else if off = SLP_CNT_CTL then s.cond c (fun t => t.clearRegs 0xD00500 0xD00578)
  else if off = DMC_CNT_CTL then s.cond c (fun t => t.clearRegs 0xF00100 0xF001C0)
  else if off = GOV_CNT_CTL then s.cond c (fun t => t.clearRegs 0x10400 0x10468)
  else if off = MBX_CNT_CTL then s.cond c (fun t => t.clearRegs 0x20400 0x20428)
  else if off = PROT_CNT_CTL then s.cond c (fun t => t.clearRegs 0x30100 0x30140)
  else if off = HEP_CNT_CTL then s.cond c (fun t => t.clearRegs 0x40100 0x40150)
  else s

/-- COUNTER_CLEAR (R85): a write to a counter-control register. -/
def execCounterClear (req : Requester) (off : Nat) (val : Word) (s : State) : Host.Outcome State Fault Refusal :=
  .next (s.accessWrite req off (fun t => t.counterClear off val))

end Sys2Proof.Machine
end

