-- ==== Sys2Proof/Machine/Classifier.lean ====
section
/-! DEFINITION. Parsing and classification: the parser (R79, R86–R89), the exact-match tables and their commands (R90–R97), the
actions (R98–R100), the slow path (R101), steering and flow pinning (R102, R103), and a frame's reception. -/

namespace Sys2Proof.Machine

/-! ### What the parser reads -/

/-- What the parser finds in a frame; a field that the frame lacks is 0 (R92). Offsets count from the destination address. -/
structure Parsed where
  pclass  : Nat := 0
  l3      : Nat := 14
  l4      : Nat := 0
  pay     : Nat := 0
  etype   : Nat := 0
  outerVid : Nat := 0
  innerVid : Nat := 0
  tc      : Nat := 0
  v4sa    : Nat := 0
  v4da    : Nat := 0
  v6sa    : Nat := 0
  v6da    : Nat := 0
  proto   : Nat := 0
  dscp    : Nat := 0
  ecn     : Nat := 0
  isIp    : Bool := false
  l4sp    : Nat := 0
  l4dp    : Nat := 0
  opc     : Nat := 0
  qpn     : Nat := 0
  hasBth  : Bool := false
  rkey    : Nat := 0
  va      : Nat := 0
  hasReth : Bool := false
  assoc   : Nat := 0
  kind    : Nat := 0
  capValid : Bool := false
  capOpc  : Nat := 0
  capNsid : Nat := 0
  capSlba : Nat := 0
  capLba  : Bool := false
  ptpMsg  : Nat := 0
  deriving DecidableEq, Repr

/-- The parser's outcome: a parse class (R87), the slow path with a reason (R86, R101), or a discard counted in a counter. -/
inductive ParseOut where
  | ok (p : Parsed)
  | slow (reason : Nat) (p : Parsed)
  | discard (cnt : Nat)
  deriving DecidableEq, Repr

/-- The layer-2 part of the parse: EtherType offset, VIDs and PCP; third tag (R79, R86). -/
structure L2 where
  etOff : Nat
  outerVid : Nat
  innerVid : Nat
  pcp : Nat
  tagged : Bool
  third : Bool
  deriving DecidableEq, Repr

/-- Walk the tags of a frame (R79). -/
def State.parseTags (s : State) (p : Nat) (d : List (BitVec 8)) : L2 :=
  let outer := if s.flag (NET_VLAN_CFG_OUTER_TPID p) then 0x88A8 else 0x8100
  let qinq := s.flag (NET_VLAN_CFG_QINQ_EN p)
  if beNat d 12 2 ≠ outer then ⟨12, s.fld (NET_VLAN_CFG_PVID p), 0, s.fld (NET_VLAN_CFG_DEF_PCP p), false, false⟩ else
  let tci := beNat d 14 2
  if qinq && beNat d 16 2 == 0x8100 then
    ⟨20, tci % 4096, beNat d 18 2 % 4096, tci / 8192, true, beNat d 20 2 == 0x8100⟩
  else ⟨16, tci % 4096, 0, tci / 8192, true, false⟩

/-- Skip IPv6 extension headers of types 0, 43 and 60 (R86): the next header and its offset, or the slow-path reason. -/
def skipExt (d : List (BitVec 8)) (maxExt : Nat) : Nat → Nat → Nat → Nat → Nat × Nat ⊕ Nat
  | 0, _, _, _ => .inr 5
  | fuel + 1, nh, off, n =>
    if nh = 44 then .inr 3
    else if nh = 50 || nh = 51 || nh = 135 || nh = 139 || nh = 140 then .inr 5
    else if nh = 0 || nh = 43 || nh = 60 then
      if maxExt ≤ n then .inr 5
      else if d.length < off + 8 then .inr 6
      else skipExt d maxExt fuel (octet d off) (off + 8 * (octet d (off + 1) + 1)) (n + 1)
    else .inl (nh, off)

/-- Octets of the extended headers that a BTH opcode requires (R86; InfiniBand RC and UD). -/
def extHdr (opc : Nat) : Nat :=
  match opc with
  | 0x03 => 4
  | 0x05 => 4
  | 0x06 => 16
  | 0x09 => 4
  | 0x0A => 16
  | 0x0B => 20
  | 0x0C => 16
  | 0x0D => 4
  | 0x0F => 4
  | 0x10 => 4
  | 0x11 => 4
  | 0x12 => 12
  | 0x13 => 28
  | 0x14 => 28
  | 0x16 => 4
  | 0x17 => 4
  | 0x64 => 8
  | 0x65 => 12
  | _ => 0

/-- The opcode carries a RETH first. -/
def opcReth (opc : Nat) : Bool := opc == 0x06 || opc == 0x0A || opc == 0x0B || opc == 0x0C

/-- BTH: accepted transports (R86). -/
def bthOk (opc qpn tver : Nat) : Bool :=
  tver == 0 && qpn != 0 && (opc == 0x81 || (opc / 32 == 0 && qpn != 1) || (opc / 32 == 3 && qpn == 1))

/-- The QP table entry's ASSOC and KIND for a DestQP (R88). -/
def State.qpt (s : State) (qpn : Nat) : Nat × Nat :=
  let e := qpn % 16384
  if s.flag (CLS_QPT_VALID e) && s.fld (CLS_QPT_GEN e) == qpn / 16384 % 1024 then (s.fld (CLS_QPT_ASSOC e), s.fld (CLS_QPT_KIND e)) else (0, 0)

/-- The capsule decoder (R89). -/
def State.capsule (s : State) (d : List (BitVec 8)) (p : Parsed) : Parsed :=
  if s.flag CLS_PARSE_CFG_CAPSULE_EN && (p.opc == 0 || p.opc == 4 || p.opc == 5) && (p.kind == 1 || p.kind == 2) && p.pay + 64 ≤ d.length then
    let opc := octet d p.pay
    { p with capValid := true, capOpc := opc, capNsid := leNat d (p.pay + 4) 4, capSlba := leNat d (p.pay + 40) 8, capLba := p.kind == 1 && (opc == 1 || opc == 2 || opc == 5 || opc == 8) }
  else p

/-- RoCEv2: BTH and extended headers (R86–R89). -/
def State.parseRoce (s : State) (d : List (BitVec 8)) (p : Parsed) (v6 : Bool) : ParseOut :=
  let o := p.l4 + 8
  if d.length < o + 12 then .slow 6 p else
  let opc := octet d o
  let qpn := beNat d (o + 5) 3
  if !bthOk opc qpn (octet d (o + 1) % 16) then .discard CNT_CLS_UNSUP_TRANSPORT else
  let ext := extHdr opc
  let pay := o + 12 + ext
  if d.length < pay then .slow 6 p else
  let (as', kd) := s.qpt qpn
  let p1 := { p with opc := opc, qpn := qpn, hasBth := true, pay := pay, assoc := as', kind := kd, pclass := if v6 then 2 else 1 }
  let p2 := if opcReth opc then { p1 with hasReth := true, va := beNat d (o + 12) 8, rkey := beNat d (o + 20) 4 } else p1
  if 256 < pay then .slow 7 p2 else .ok (s.capsule d p2)

/-- Layer 4 of an IP frame (R86, R87). -/
def State.parseL4 (s : State) (d : List (BitVec 8)) (p : Parsed) (v6 : Bool) : ParseOut :=
  let o := p.l4
  if p.proto = 17 then
    if d.length < o + 8 then .slow 6 p else
    let p1 := { p with l4sp := beNat d o 2, l4dp := beNat d (o + 2) 2, pay := o + 8 }
    if p1.l4dp = 4791 && s.flag CLS_PARSE_CFG_ROCE_EN then s.parseRoce d p1 v6
    else if 256 < p1.pay then .slow 7 p1
    else .ok { p1 with pclass := if v6 then 4 else 3, ptpMsg := if p1.l4dp = 319 || p1.l4dp = 320 then octet d p1.pay % 16 else 0 }
  else
    let tcp := p.proto == 6 && decide (o + 4 ≤ d.length)
    let p1 := { p with pay := o, l4sp := if tcp then beNat d o 2 else 0, l4dp := if tcp then beNat d (o + 2) 2 else 0, pclass := if v6 then 6 else 5 }
    if 256 < o then .slow 7 p1 else .ok p1

/-- IPv4 (R86). -/
def State.parseV4 (s : State) (d : List (BitVec 8)) (p : Parsed) : ParseOut :=
  let o := p.l3
  let ihl := octet d o % 16
  let tot := beNat d (o + 2) 2
  if d.length < o + 20 || octet d o / 16 ≠ 4 || ihl < 5 then .slow 6 p
  else if d.length < o + 4 * ihl then .slow 6 p
  else if onesSum d o (2 * ihl) ≠ 0xFFFF then .discard CNT_CLS_IP_CSUM
  else if beNat d (o + 6) 2 % 16384 ≠ 0 then .slow 3 p
  else if tot < 4 * ihl || d.length < o + tot then .slow 6 p
  else
    s.parseL4 d { p with l4 := o + 4 * ihl, v4sa := beNat d (o + 12) 4, v4da := beNat d (o + 16) 4, proto := octet d (o + 9), dscp := octet d (o + 1) / 4, ecn := octet d (o + 1) % 4, isIp := true } false

/-- IPv6 (R86). -/
def State.parseV6 (s : State) (d : List (BitVec 8)) (p : Parsed) : ParseOut :=
  let o := p.l3
  if d.length < o + 40 || octet d o / 16 ≠ 6 then .slow 6 p else
  let cl := beNat d o 2 / 16 % 256
  let p1 := { p with v6sa := beNat d (o + 8) 16, v6da := beNat d (o + 24) 16, dscp := cl / 4, ecn := cl % 4, isIp := true }
  match skipExt d (min 2 (s.fld CLS_PARSE_CFG_MAX_V6_EXT)) 4 (octet d (o + 6)) (o + 40) 0 with
  | .inr r => .slow r p1
  | .inl (nh, off) => if d.length < off then .slow 6 p1 else s.parseL4 d { p1 with proto := nh, l4 := off } true

/-- The parser on a frame's octets without FCS, received on a port (R86, R87). -/
def State.parse (s : State) (port : Nat) (d : List (BitVec 8)) : ParseOut :=
  let t := s.parseTags port d
  let et := beNat d t.etOff 2
  let p : Parsed := { l3 := t.etOff + 2, etype := et, outerVid := t.outerVid, innerVid := t.innerVid, tc := fieldOf (s.reg (NET_PCP_MAP port)) (3 * t.pcp) 3, pay := t.etOff + 2 }
  if t.third then .slow 8 p
  else if et = 0x0800 then s.parseV4 d p
  else if et = 0x86DD then s.parseV6 d p
  else if et = 0x88F7 then .ok { p with pclass := 0, ptpMsg := octet d p.l3 % 16 }
  else .slow 4 p

/-! ### Keys and lookup -/

/-- A selector's value and width for a frame (R92); `none` for a reserved code. -/
def selector (d : List (BitVec 8)) (f : Frame) (p : Parsed) (offA offB : Nat) (code : Nat) : Option (Nat × Nat) :=
  match code with
  | 0 => some (0, 0)
  | 1 => some (beNat d 0 6, 48)
  | 2 => some (beNat d 6 6, 48)
  | 3 => some (p.outerVid, 12)
  | 4 => some (p.innerVid, 12)
  | 5 => some (p.etype, 16)
  | 6 => some (p.tc, 3)
  | 7 => some (p.v4sa, 32)
  | 8 => some (p.v4da, 32)
  | 9 => some (p.v6sa, 128)
  | 10 => some (p.v6da, 128)
  | 11 => some (p.proto, 8)
  | 12 => some (p.dscp, 6)
  | 13 => some (p.l4sp, 16)
  | 14 => some (p.l4dp, 16)
  | 15 => some (p.opc, 8)
  | 16 => some (p.qpn, 24)
  | 17 => some (p.assoc, 10)
  | 18 => some (p.kind, 3)
  | 19 => some (p.capOpc, 8)
  | 20 => some (p.capNsid, 32)
  | 21 => some (p.rkey, 32)
  | 22 => some (beNat d (p.pay + offA) 4, 32)
  | 23 => some (beNat d (p.pay + offB) 4, 32)
  | 24 => some (f.inPort % 64, 6)
  | 25 => some (p.pclass, 4)
  | 26 => some (p.ptpMsg, 4)
  | 27 => some (f.recMeta, 16)
  | 28 => some (f.pass, 2)
  | _ => none

/-- A profile's eight selector codes in order (R92, R116). -/
def State.selCodes (s : State) (t : Nat) : List Nat :=
  (List.range 4).map (fun k => fieldOf (s.reg (CLS_PROF_SELA t)) (8 * k) 8) ++ (List.range 4).map (fun k => fieldOf (s.reg (CLS_PROF_SELB t)) (8 * k) 8)

/-- Key width of a table's profile (R90). -/
def State.keyBits (s : State) (t : Nat) : Nat := if s.flag (CLS_PROF_CTL_WIDE t) then 320 else 128

/-- A profile is valid (R93). -/
def State.profileOk (s : State) (t : Nat) : Bool :=
  let ws := (s.selCodes t).map (fun c => (selector [] { id := 0, inPort := 0, icls := 0, bytes := 0 } {} 0 0 c).map Prod.snd)
  ws.all Option.isSome && (ws.foldl (fun n w => n + w.getD 0) 0) ≤ s.keyBits t
    && s.fld (CLS_PROF_PAY_OFF_A t) ≤ 124 && s.fld (CLS_PROF_PAY_OFF_B t) ≤ 124

/-- A frame's key for a table: fields packed from the most significant bit, the rest zeros (R92). -/
def State.buildKey (s : State) (t : Nat) (d : List (BitVec 8)) (f : Frame) (p : Parsed) : Nat :=
  let fs := (s.selCodes t).filterMap (selector d f p (s.fld (CLS_PROF_PAY_OFF_A t)) (s.fld (CLS_PROF_PAY_OFF_B t)))
  let (v, w) := fs.foldl (fun (a : Nat × Nat) x => (a.1 * 2 ^ x.2 + x.1 % 2 ^ x.2, a.2 + x.2)) (0, 0)
  v * 2 ^ (s.keyBits t - w)

/-- The position of a key in a way (R91): the slot number, the even slot of the pair in a wide table. -/
def keyPos (wide : Bool) (way key : Nat) : Nat :=
  let c := crc32c (BitVec.ofNat 8 way :: toBe (if wide then 40 else 16) key)
  if wide then 2 * (c % 32768) else c % 65536

/-- Key of a slot in the model's table of slots. -/
def slotKey (t w i : Nat) : Nat := (t * 4 + w) * 65536 + i

/-- The position read has an uncorrectable error, in either slot of a pair (R96). -/
def posUe (errs : List SlotErr) (wide : Bool) (t w i : Nat) : Bool :=
  errs.any (fun e => e.ue && e.table.val == t && e.way.val == w && (e.index.val == i || (wide && e.index.val == i + 1)))

/-- The position read has a correctable error. -/
def posCe (errs : List SlotErr) (wide : Bool) (t w i : Nat) : Bool :=
  errs.any (fun e => !e.ue && e.table.val == t && e.way.val == w && (e.index.val == i || (wide && e.index.val == i + 1)))

/-- The entry a position holds: present when its VALID bit is set. -/
def State.slotAt (s : State) (t w i : Nat) : MatchEntry := tget s.cls.slots (slotKey t w i) ⟨0, 0⟩

/-- VALID of an action word (R97). -/
def actValid (a : Nat) : Bool := bitOf a 63

/-- Count the errors of reading positions (R96). -/
def State.countErrs (s : State) (errs : List SlotErr) (wide : Bool) (t : Nat) (pos : List (Nat × Nat)) : State :=
  s.each pos (fun u e => (u.cond (posUe errs wide t e.1 e.2) (fun x => x.bump CNT_CLS_MATCH_UE)).cond
    (posCe errs wide t e.1 e.2) (fun x => x.bump CNT_CLS_MATCH_CE))

/-- The four candidate positions of a key. -/
def candidates (wide : Bool) (key : Nat) : List (Nat × Nat) := (List.range 4).map (fun w => (w, keyPos wide w key))

/-- Find a key in a table: the way and position of a valid matching entry without an uncorrectable error (R91, R94, R96). -/
def State.findKey (s : State) (errs : List SlotErr) (t key : Nat) : Option (Nat × Nat) :=
  let wide := s.flag (CLS_PROF_CTL_WIDE t)
  (candidates wide key).find? (fun e => !posUe errs wide t e.1 e.2 && actValid (s.slotAt t e.1 e.2).action && (s.slotAt t e.1 e.2).key == key)

/-- Look a frame up in the tables its class selects; the lowest-numbered hit supplies the action word (R94). Answers the action and whether any slot read
was uncorrectable. -/
def State.lookup (s : State) (errs : List SlotErr) (d : List (BitVec 8)) (f : Frame) (p : Parsed) : State × Option Nat × Bool :=
  let mask := fieldOf (s.reg CLS_CLASS_MAP) (4 * p.pclass) 4
  let ts := (List.range 4).filter (fun t => bitOf mask t && s.flag (CLS_PROF_CTL_EN t) && !bitOf s.cls.clearing t)
  let keys := ts.map (fun t => (t, s.buildKey t d f p))
  let s1 := s.each keys (fun u e => u.countErrs errs (s.flag (CLS_PROF_CTL_WIDE e.1)) e.1 (candidates (s.flag (CLS_PROF_CTL_WIDE e.1)) e.2))
  let hit := keys.findSome? (fun e => (s.findKey errs e.1 e.2).map (fun w => (s.slotAt e.1 w.1 w.2).action))
  let ue := keys.any (fun e => (candidates (s.flag (CLS_PROF_CTL_WIDE e.1)) e.2).any (fun w => posUe errs (s.flag (CLS_PROF_CTL_WIDE e.1)) e.1 w.1 w.2))
  (s1, hit, ue)

/-! ### Steering -/

/-- CRC-32C over the hash seed and further octets (R102, R103). -/
def State.seedHash (s : State) (d : List (BitVec 8)) : Nat := crc32c (toLe 4 (s.fld SWC_HASH_SEED_SEED) ++ d) % 256

/-- The flow-pinning bucket of a frame (R103). -/
def State.flowBucket (s : State) (d : List (BitVec 8)) (p : Parsed) : Nat :=
  if p.isIp then
    let sa := if p.etype = 0x0800 then p.v4sa else p.v6sa
    let da := if p.etype = 0x0800 then p.v4da else p.v6da
    s.seedHash (toBe 16 sa ++ toBe 16 da ++ toBe 1 p.proto ++ toBe 2 p.l4sp ++ toBe 2 p.l4dp ++ toBe 3 p.qpn)
  else s.seedHash (d.take 12 ++ toBe 2 p.etype)

/-- The cluster of a STEER action (R102). -/
def State.steer (s : State) (d : List (BitVec 8)) (p : Parsed) (act : Nat) : Nat :=
  let shift := min 40 (s.fld CLS_STEER_CFG_SHIFT)
  let term := if p.capValid then some (if p.capLba then p.capSlba >>> shift else 0)
    else if p.hasReth then some (p.va >>> (12 + shift)) else none
  match (if bitOf act 18 then term else none) with
  | some st => s.bucket SWC_ST_BKT (s.seedHash (toBe 2 (act / 2 ^ 19 % 4096) ++ toBe 8 st)) % 16
  | none => s.bucket SWC_CL_BKT (s.flowBucket d p) % 16

/-! ### Slow path -/

/-- The counter of a slow-path reason, for reasons 2–9 (R101). -/
def reasonCounter (r : Nat) : Option Nat :=
  match r with
  | 2 => some CNT_CLS_MISS
  | 3 => some CNT_CLS_FRAGMENT
  | 4 => some CNT_CLS_ETHERTYPE
  | 5 => some CNT_CLS_OPTIONS
  | 6 => some CNT_CLS_PARSE_FAIL
  | 7 => some CNT_CLS_HDR_LONG
  | 8 => some CNT_CLS_THIRD_TAG
  | 9 => some CNT_CLS_MATCH_ECC
  | _ => none

/-- A frame for the slow path takes a token and goes to P85 with its reason, or is discarded (R101). -/
def State.slowPath (s : State) (f : Frame) (reason : Nat) : State :=
  let s1 := match reasonCounter reason with
    | some c => s.bump c
    | none => s
  let tok := s1.fld CLS_SLOW_TOKENS_TOKENS
  if tok = 0 then s1.bump CNT_CLS_SLOW_DROP
  else ((s1.setFld CLS_SLOW_TOKENS_TOKENS (tok - 1)).bump CNT_CLS_SLOW_SENT).enqueue { f with reason := some reason } 85 f.tc

/-! ### Actions -/

/-- The action word applied to a frame (R98, R99). -/
def State.applyAction (s : State) (f0 : Frame) (d : List (BitVec 8)) (p : Parsed) (act : Nat) : State :=
  let f1 := if bitOf act 58 then { f0 with tc := act / 2 ^ 55 % 8, tcSet := true } else f0
  let f := if bitOf act 54 then { f1 with colour := min 2 (act / 2 ^ 52 % 4), colSet := true } else f1
  let ctr := act / 2 ^ 40 % 4096
  let s1 := s.cond (bitOf act 39) (fun t => (t.bump (CLS_HIT ctr 0)).bumpBy (CLS_HIT ctr 1) f.bytes)
  let s2 := s1.cond (bitOf act 59) (fun t => t.slowPath f 0)
  let port := act / 2 ^ 32 % 128
  let lag := bitOf act 31
  let noPriv := (p.pclass == 1 || p.pclass == 2) && f.inPort < 64 && s.fld (NET_PRIV_CLASS f.inPort) == 0
  let privDrop (t : State) : State := t.bump (CNT_NET_PRIV_DROP f.inPort)
  match act / 2 ^ 60 % 8 with
  | 0 => s2
  | 1 =>
    if lag then
      let l := port % 32
      if !s2.flag (SWC_LAG_CTL_EN l) then s2.bump CNT_SWC_INVALID_DEST
      else s2.enqueue f (let m := s2.bucket (SWC_LAG_LIVE l) (s2.flowBucket d p); if m = 0xFF then 95 else m % 64) f.tc
    else if 64 ≤ port && port ≤ 85 && noPriv then privDrop s2
    else if port = 85 then s2.slowPath f 1
    else if port = 86 then s2.bump CNT_SWC_INVALID_DEST
    else s2.enqueue f port f.tc
  | 2 => if noPriv then privDrop s2 else s2.enqueue { f with stamp := s2.clock.nowNs * 3 / 2 } (64 + s2.steer d p act) f.tc
  | 3 => s2.slowPath f 1
  | 4 =>
    if 2 ≤ f.pass then s2.bump CNT_CLS_RECIRC_LIMIT
    else s2.enqueue { f with recMeta := act % 65536 } 86 f.tc
  | _ => s2.bump CNT_CLS_BAD_ACTION

/-- Parse and classify a frame (R86–R101). -/
def State.classify (s : State) (f0 : Frame) (errs : List SlotErr) : State :=
  let d := f0.data
  match s.parse f0.inPort d with
  | .discard c => s.bump c
  | .slow r p => s.slowPath { f0 with l3 := p.l3, isIp := p.isIp, ecn := p.ecn, tc := if f0.tcSet then f0.tc else p.tc } r
  | .ok p =>
    let f := { f0 with l3 := p.l3, isIp := p.isIp, ecn := p.ecn, tc := if f0.tcSet then f0.tc else p.tc }
    let s1 := s.bump CNT_CLS_PARSED
    let (s2, hit, ue) := s1.lookup errs d f p
    match hit with
    | some act => s2.applyAction f d p act
    | none => s2.slowPath f (if ue then 9 else 2)

/-- MAX_FRM in force (R84). -/
def State.maxFrame (s : State) (p : Nat) : Nat := max 1518 (min 9600 (s.fld (NET_PORT_CFG_MAX_FRM p)))

/-- RX_FRAME (R76, R79): a frame of `data` octets (without its FCS) received whole on a port. Counted in LSTATE 5 or 6; in MIDNIGHT it is counted and
discarded. `errs` are the match-memory slots whose read finds an error. -/
def State.rxFrame (s : State) (p id : Nat) (data : List (BitVec 8)) (fcsOk : Bool) (errs : List SlotErr) : State :=
  let len := data.length + 4
  if !(s.powered && s.linkUsable p) then s else
  let s1 := ((s.bump (CNT_NET_RX_FRAMES p)).bumpBy (CNT_NET_RX_BYTES p) len).countBw false p len
  if s.maxFrame p < len || len < 64 then s1.bump (CNT_NET_RX_LEN_ERR p)
  else if !fcsOk then s1.bump (CNT_NET_RX_FCS_ERR p)
  else if !s.running then s1
  else if beNat data 12 2 = 0x8808 && (beNat data 14 2 = 1 || beNat data 14 2 = 0x0101) then
    let pfc := beNat data 14 2 == 0x0101
    let stop := if pfc then (List.range 8).foldl (fun m c => if bitOf (beNat data 16 2) c && beNat data (18 + 2 * c) 2 != 0 then m + 2 ^ c else m) 0
      else if beNat data 16 2 = 0 then 0 else 0xFF
    let go := if pfc then (List.range 8).foldl (fun m c => if bitOf (beNat data 16 2) c && beNat data (18 + 2 * c) 2 == 0 then m + 2 ^ c else m) 0
      else if beNat data 16 2 = 0 then 0xFF else 0
    s1.pauseRx p pfc stop go
  else
    let t := s.parseTags p data
    if !t.tagged && s.flag (NET_VLAN_CFG_DROP_UNTAGGED p) then s1.bump (CNT_NET_VLAN_DROP p)
    else
      let tc := fieldOf (s.reg (NET_PCP_MAP p)) (3 * t.pcp) 3
      s1.classify { id := id, inPort := p, icls := tc, bytes := len, data := data, tc := tc, rxTs := if s.flag (NET_PTP_CFG_TS_EN p) then some s.devNs else none } errs

/-- RX_FRAME (R79). -/
def execRxFrame (port : Port) (dt : Nat) (id : Nat) (data : List (BitVec 8)) (fcsOk : Bool) (errs : List SlotErr) (s : State) : Host.Outcome State Fault Refusal :=
  .next ((s.pass dt).rxFrame port id data fcsOk errs)

/-- RECIRC_PASS (R98): the oldest frame that came back through P86 is parsed and looked up again with PASS one higher. -/
def execRecircPass (dt : Nat) (errs : List SlotErr) (s : State) : Host.Outcome State Fault Refusal :=
  let s1 := s.pass dt
  .next (match s1.swc.recirc with
    | [] => s1
    | f :: rest => if s1.running then { s1 with swc := { s1.swc with recirc := rest } }.classify { f with pass := f.pass + 1 } errs else s1)

/-! ### Table commands (R95–R97) -/

/-- Key and action held in CLS_TBL_DATA (R97). -/
def State.tblData (s : State) (t : Nat) : Nat × Nat :=
  let n := if s.flag (CLS_PROF_CTL_WIDE t) then 10 else 4
  let w (k : Nat) : Nat := (s.reg (CLS_TBL_DATA k)).toNat
  ((List.range n).foldl (fun v k => v * 2 ^ 32 + w k) 0, w n * 2 ^ 32 + w (n + 1))

/-- Return a key and action into CLS_TBL_DATA (R97). -/
def State.setTblData (s : State) (t key act : Nat) : State :=
  let n := if s.flag (CLS_PROF_CTL_WIDE t) then 10 else 4
  let s1 := s.each (List.range n) (fun u k => u.setReg (CLS_TBL_DATA k) (BitVec.ofNat 32 (key / 2 ^ (32 * (n - 1 - k)))))
  (s1.setReg (CLS_TBL_DATA n) (BitVec.ofNat 32 (act / 2 ^ 32))).setReg (CLS_TBL_DATA (n + 1)) (BitVec.ofNat 32 act)

/-- Set CLS_TBL_STAT of a finished command (R116). -/
def State.tblStat (s : State) (result way index moves : Nat) : State :=
  (((s.setFld CLS_TBL_STAT_RESULT result).setFld CLS_TBL_STAT_WAY way).setFld CLS_TBL_STAT_INDEX index).setFld CLS_TBL_STAT_MOVES moves

/-- Write a slot: fresh check bits, VALID set (R96, R97). -/
def State.putSlot (s : State) (t w i key act : Nat) : State :=
  let a := act % 2 ^ 63 + 2 ^ 63
  { s with cls := { s.cls with slots := tput s.cls.slots (slotKey t w i) ⟨key, a⟩ } }

/-- Empty a slot. -/
def State.clearSlot (s : State) (t w i : Nat) : State := { s with cls := { s.cls with slots := tdel s.cls.slots (slotKey t w i) } }

/-- A position is free: empty, or its read is uncorrectable (R96). -/
def State.slotFree (s : State) (errs : List SlotErr) (wide : Bool) (t w i : Nat) : Bool :=
  posUe errs wide t w i || !actValid (s.slotAt t w i).action

/-- Cuckoo displacement (R95): place (key, action), at a free candidate if there is one, else displace a candidate and go on, at most `fuel` moves.
Which free candidate and which victim is the part's own choice: a free value. Positions already lost to an uncorrectable error are free and
never moved. -/
def State.cuckoo (s : State) (errs : List SlotErr) (wide : Bool) (t : Nat) : Nat → Nat → Nat → Nat → Nat → Option (State × Nat × Nat × Nat)
  | 0, _, _, _, _ => none
  | fuel + 1, key, act, moves, fr =>
    let cs := candidates wide key
    let fs := cs.filter (fun e => s.slotFree errs wide t e.1 e.2)
    if fs.isEmpty then
      match cs[Config.freeNat fr % 4]? with
      | none => none
      | some (w, i) =>
        let old := s.slotAt t w i
        match State.cuckoo (s.putSlot t w i key act) errs wide t fuel old.key old.action (moves + 1) (fr + 1) with
        | none => none
        | some (s', _, _, m) => some (s', w, i, m)
    else
      match fs[Config.freeNat fr % fs.length]? with
      | none => none
      | some (w, i) => some (s.putSlot t w i key act, w, i, moves)

/-- Start a table command (R95, R116): it needs BUSY 0, and a profile enabled and valid. -/
def State.tblCmd (s : State) (op t way index : Nat) (f : State → State) : State :=
  if s.flag CLS_TBL_STAT_BUSY then s.malformed else
  let s1 := (((s.setFld CLS_TBL_CMD_OP op).setFld CLS_TBL_CMD_TABLE t).setFld CLS_TBL_CMD_WAY way).setFld CLS_TBL_CMD_INDEX index
  if !(s1.flag (CLS_PROF_CTL_EN t) && s1.profileOk t) then s1.tblStat 4 0 0 0 else f s1

/-- INSERT (R95): an existing key's action is replaced in place (RESULT 2), else the key is placed (RESULT 0) or the table is full and unchanged (RESULT 1). -/
def State.tblInsert (s : State) (t : Nat) (errs : List SlotErr) : State :=
  let wide := s.flag (CLS_PROF_CTL_WIDE t)
  let (key, act) := s.tblData t
  let s0 := s.countErrs errs wide t (candidates wide key)
  match s0.findKey errs t key with
  | some (w, i) => (s0.putSlot t w i key act).tblStat 2 w i 0
  | none =>
    let s1 := { s0 with free := s0.free + 33 }
    match s1.cuckoo errs wide t 33 key act 0 s0.free with
    | none => s1.tblStat 1 0 0 0
    | some (s2, w, i, m) => s2.tblStat 0 w i m

/-- DELETE (R95). -/
def State.tblDelete (s : State) (t : Nat) (errs : List SlotErr) : State :=
  let wide := s.flag (CLS_PROF_CTL_WIDE t)
  let key := (s.tblData t).1
  let s0 := s.countErrs errs wide t (candidates wide key)
  match s0.findKey errs t key with
  | some (w, i) => (s0.clearSlot t w i).tblStat 0 w i 0
  | none => s0.tblStat 3 0 0 0

/-- SEARCH (R95). -/
def State.tblSearch (s : State) (t : Nat) (errs : List SlotErr) : State :=
  let wide := s.flag (CLS_PROF_CTL_WIDE t)
  let key := (s.tblData t).1
  let s0 := s.countErrs errs wide t (candidates wide key)
  match s0.findKey errs t key with
  | some (w, i) => (s0.setTblData t (s0.slotAt t w i).key (s0.slotAt t w i).action).tblStat 0 w i 0
  | none => s0.tblStat 3 0 0 0

/-- READ_SLOT (R95, R97): the raw contents of a position; an uncorrectable slot answers RESULT 5. -/
def State.tblReadSlot (s : State) (t way index : Nat) (errs : List SlotErr) : State :=
  let wide := s.flag (CLS_PROF_CTL_WIDE t)
  let i := if wide then 2 * (index / 2) else index
  let s0 := s.countErrs errs wide t [(way, i)]
  if posUe errs wide t way i then s0.tblStat 5 way i 0
  else (s0.setTblData t (s0.slotAt t way i).key (s0.slotAt t way i).action).tblStat 0 way i 0

/-- CLEAR (R95): every lookup in the table misses from now on; BUSY until it completes. -/
def State.tblClear (s : State) (t : Nat) : State :=
  ({ s with cls := { s.cls with clearing := s.cls.clearing ||| 2 ^ t } }.setFlag CLS_TBL_STAT_BUSY true).tblStat 0 0 0 0

/-- TBL_INSERT: a write of CLS_TBL_CMD with GO and OP 1. -/
def execTblInsert (req : Requester) (table : Fin 4) (errs : List SlotErr) (s : State) : Host.Outcome State Fault Refusal :=
  .next (s.accessWrite req CLS_TBL_CMD (fun t => t.tblCmd 1 table 0 0 (fun u => u.tblInsert table errs)))

/-- TBL_DELETE: OP 2. -/
def execTblDelete (req : Requester) (table : Fin 4) (errs : List SlotErr) (s : State) : Host.Outcome State Fault Refusal :=
  .next (s.accessWrite req CLS_TBL_CMD (fun t => t.tblCmd 2 table 0 0 (fun u => u.tblDelete table errs)))

/-- TBL_SEARCH: OP 3. -/
def execTblSearch (req : Requester) (table : Fin 4) (errs : List SlotErr) (s : State) : Host.Outcome State Fault Refusal :=
  .next (s.accessWrite req CLS_TBL_CMD (fun t => t.tblCmd 3 table 0 0 (fun u => u.tblSearch table errs)))

/-- TBL_READ_SLOT: OP 4. -/
def execTblReadSlot (req : Requester) (table : Fin 4) (way : Fin 4) (index : Fin 65536) (errs : List SlotErr) (s : State) : Host.Outcome State Fault Refusal :=
  .next (s.accessWrite req CLS_TBL_CMD (fun t => t.tblCmd 4 table way index (fun u => u.tblReadSlot table way index errs)))

/-- TBL_CLEAR: OP 5. -/
def execTblClear (req : Requester) (table : Fin 4) (s : State) : Host.Outcome State Fault Refusal :=
  .next (s.accessWrite req CLS_TBL_CMD (fun t => t.tblCmd 5 table 0 0 (fun u => u.tblClear table)))

/-- TBL_CLEAR_DONE (R95): the table is empty and BUSY clears. -/
def execTblClearDone (s : State) : Host.Outcome State Fault Refusal :=
  .next (s.cond (s.running && s.flag CLS_TBL_STAT_BUSY && s.cls.clearing != 0) (fun t =>
    let keep := t.cls.slots.filter (fun e => !bitOf t.cls.clearing (e.1 / 262144))
    ({ t with cls := { t.cls with slots := keep, clearing := 0 } }.setFlag CLS_TBL_STAT_BUSY false).setFld CLS_TBL_STAT_RESULT 0))

/-- A table holds an entry (R93). -/
def State.tableUsed (s : State) (t : Nat) : Bool := s.cls.slots.any (fun e => e.1 / 262144 == t && actValid e.2.action)

/-- A write to a profile's registers (R93): discarded and malformed while its table holds an entry, or if an enabled profile would become invalid. -/
def State.profWrite (s : State) (t off : Nat) (v : Word) : State :=
  let s1 := s.setReg off v
  if (s.tableUsed t && s1.reg off != s.reg off) || (s.flag (CLS_PROF_CTL_EN t) && s.profileOk t && !s1.profileOk t) then s.malformed else s1

/-- CLS's check at the configuration commit (R93). -/
def State.clsCommit (s : State) : Bool := (List.range 4).all (fun t => !s.flag (CLS_PROF_CTL_EN t) || s.profileOk t)

/-- SWC's check at the commit (R107): the guarantees sum to at most 98,304 cells. -/
def State.guarSum (s : State) : Nat :=
  (List.range 88).foldl (fun n p => (List.range (if p < 64 then 9 else 8)).foldl (fun m c => m + s.fld (SWC_Q_CFG_GUAR (16 * p + c))) n) 0

/-- EGS's check at the commit (R131): no port has EN = 1 with a zero CYCLE in its operating bank. -/
def State.egsCommit (s : State) : Bool :=
  (List.range 64).all (fun p => !(s.flag (EGS_GATE_CTL_EN p) && s.gateCycle p (s.fld (EGS_GATE_CTL_BANK p)) == 0))

end Sys2Proof.Machine
end

