-- ==== Sys2Proof/Machine/MbxBase.lean ====
section
/-! DEFINITION. Interrupt messages of the endpoint (R407) and the mailbox directions: levels, far ends, delivery, freeing and the notice
backlog of MB0 (R408–R412). -/

namespace Sys2Proof.Machine

/-! ### MSI-X (R392, R407) -/

/-- Send what is pending and has become possible (R407). -/
def State.msixFlush (s : State) : State :=
  let go0 := s.hep.pf0.pba.filter (s.msixReady s.hep.pf0)
  let go1 := s.hep.pf1.pba.filter (s.msixReady s.hep.pf1)
  let s1 := { s with hep := { s.hep with pf0 := { s.hep.pf0 with pba := s.hep.pf0.pba.filter (fun v => !go0.contains v) }, pf1 := { s.hep.pf1 with pba := s.hep.pf1.pba.filter (fun v => !go1.contains v) } } }
  (s1.each go0 (fun t v => t.wakeLink.emit (.msix false v))).each go1 (fun t v => t.wakeLink.emit (.msix true v))

/-! ### Directions -/

/-- A direction of a mailbox channel. -/
def State.mbxDir (s : State) (d : Nat) : MbxDir := tget s.mbx.dirs d {}

/-- Replace a direction. -/
def State.setMbxDir (s : State) (d : Nat) (x : MbxDir) : State := { s with mbx := { s.mbx with dirs := tput s.mbx.dirs d x } }

/-- The far end of a direction is down (R411). -/
def State.farDown (s : State) (d : Nat) : Bool :=
  let n := d / 2
  if n < 4 then
    if d % 2 = 0 then bitOf s.mbx.halted n else s.hep.pf0.d3hot || !s.hep.linkUp || s.flag HEP_STAT_PF0_FLR
  else if n < 8 then !s.flag NZL_STAT_PRESENT
  else if d % 2 = 1 then 2 ≤ s.fld (ENG_CL_STAT_POWER (n - 8)) else false

/-- The acknowledgement mode of the next message of a channel is ACK_REG (R410). -/
def State.ackMode (s : State) (n : Nat) : Bool := s.mode == 1 || s.mode == 2 || s.mode == 7 || bitOf (s.fld MBX_ACKSEL_ACK_REG) n

/-- The direction whose sender MBX_STAT[n] reports as TX: PF0's for MB0–MB3, the management end's for the others (R415). -/
def txDir (n : Nat) : Nat := if n < 4 then 2 * n else 2 * n + 1

/-- The direction it reports as RX. -/
def rxDir (n : Nat) : Nat := if n < 4 then 2 * n + 1 else 2 * n

/-- Bring MBX_STAT of a channel up to date (R416). -/
def State.syncMbx (s : State) (n : Nat) : State :=
  let tx := s.mbxDir (txDir n)
  let rx := s.mbxDir (rxDir n)
  let vis := rx.closed && !rx.held
  ((((s.setFld (MBX_STAT_TX_LEVEL n) tx.words.length).setFld (MBX_STAT_RX_LEVEL n) rx.words.length).setFlag (MBX_STAT_RX_EOM n) vis).setFlag
    (MBX_STAT_TX_BUSY n) tx.closed).setFlag (MBX_STAT_MODE n) (s.ackMode n)

/-- An MBX_IRQ event of a channel's reported end; for MB0–MB3 an enabled one signals MSI-X vector n of PF0 (R409, R416). -/
def State.mbxIrq (s : State) (n : Nat) (bit en : Nat → Fld) : State :=
  (s.setFlag (bit n) true).cond (n < 4 && s.flag (en n)) (fun t => t.msix0 n)

/-- FAR_DOWN or OVR set at the sender's end of a direction, with its ERR event, where that end is reported (R411, R416). -/
def State.mbxErr (s : State) (d : Nat) (f : Nat → Fld) : State :=
  if d = txDir (d / 2) then (s.setFlag (f (d / 2)) true).mbxIrq (d / 2) MBX_IRQ_ERR MBX_IRQ_ERR_EN else s

/-- A closed message becomes visible to its receiver (R409). -/
def State.mbxDeliver (s : State) (d : Nat) : State :=
  let s1 := ((s.setMbxDir d { s.mbxDir d with held := false }).bump CNT_MBX_MSG_RECV).syncMbx (d / 2)
  if d = rxDir (d / 2) then s1.mbxIrq (d / 2) MBX_IRQ_RX_MSG MBX_IRQ_RX_EN else s1

/-- Close a message: it is delivered, or kept in compatible mode while the far end is down (R409, R411). -/
def State.mbxClose (s : State) (d : Nat) : State :=
  let x := s.mbxDir d
  let s1 := (s.setMbxDir d { x with closed := true, ackReg := s.ackMode (d / 2), held := s.farDown d }).bump CNT_MBX_MSG_SENT
  if s.farDown d then s1.syncMbx (d / 2) else s1.mbxDeliver d

/-- Move the oldest waiting message into MB0's direction toward PF0 once that is free (R408). -/
def State.mbxPump (s : State) : State :=
  let s1 := s.setFld MBX_NOTICE_LEVEL s.mbx.backlog.length
  match s.mbx.backlog with
  | [] => s1
  | m :: rest =>
    if (s.mbxDir 1).closed || (s.farDown 1 && !bitOf (s.fld MBX_CTL_COMPAT) 0) then s1
    else
      let s2 := { s with mbx := { s.mbx with backlog := rest } }.setMbxDir 1 { words := m }
      ((s2.mbxClose 1).setFld MBX_NOTICE_LEVEL rest.length)

/-- A direction is freed (R410): the sender learns it, with the code where it was acknowledged. -/
def State.mbxFree (s : State) (d : Nat) (code : Option Nat) : State :=
  let n := d / 2
  let s1 := s.setMbxDir d {}
  let s2 := if d = txDir n then
      (match code with
        | some c => s1.setFld (MBX_STAT_ACK_CODE n) c
        | none => s1).mbxIrq n MBX_IRQ_TX_FREE MBX_IRQ_TX_EN
    else s1
  (s2.cond (d == 1) State.mbxPump).syncMbx n

/-- Post a notice to MB0 for PF0: it joins the backlog of 4,096 (R165, R408). -/
def State.notice (s : State) (words : List Nat) : State :=
  if 4096 ≤ s.mbx.backlog.length then s else
  { s with mbx := { s.mbx with backlog := s.mbx.backlog ++ [words.map (fun w => BitVec.ofNat 32 w)] } }.mbxPump

end Sys2Proof.Machine
end

