-- ==== Sys2Proof/Machine/NzlBase.lean ====
section
/-! DEFINITION. Sending on the Narzan link: groups, message sizes, credit, retained copies, heartbeats, and what is mirrored (R350–R356, R367). -/

namespace Sys2Proof.Machine

/-! ### Groups -/

/-- A Narzan group. -/
def State.grp (s : State) (g : Nat) : NzlGrp := tget s.nzl.grps g {}

/-- Replace a group. -/
def State.setGrp (s : State) (g : Nat) (x : NzlGrp) : State := { s with nzl := { s.nzl with grps := tput s.nzl.grps g x } }

/-- The group is up (R349). -/
def State.grpUp (s : State) (g : Nat) : Bool := bitOf (s.fld NZL_STAT_GRP_UP) g

/-- The partner is present and mirroring is in force: SYS_MODE.PARTNER (R32). -/
def State.partnered (s : State) : Bool := s.flag SYS_MODE_PARTNER

/-- Changes are mirrored: to a present partner, and to one that is being resynchronised (R367). -/
def State.mirroring (s : State) : Bool := s.partnered || (s.serving && s.flag NZL_STAT_RESYNC)

/-- The live groups in order. -/
def State.liveGrps (s : State) : List Nat := [0, 1, 2, 3].filter s.grpUp

/-! ### Sizes (R350) -/

/-- Bytes of a journal record with its header, a multiple of 64 (R260). -/
def JRec.bytes (r : JRec) : Nat := if r.typ = 1 then 64 + r.nlb * 4160 else 64

/-- Bytes of an item with its header (R356). -/
def NzlItem.bytes (i : NzlItem) : Nat := match i with
  | .intent _ _ _ _ _ _ _ => 68
  | .mapVol _ _ => 20
  | .mapSet _ _ => 20
  | .mapLost _ _ => 20
  | .lockPlace _ _ _ _ _ _ => 36
  | .lockRelease _ => 12
  | .keySlot _ _ _ _ => 116
  | .keyBind _ _ _ => 12
  | .handshake _ _ _ _ _ _ _ => 28
  | .handshakeResult _ => 12
  | .reg _ _ => 12
  | .setup _ => 2044
  | .commitEnd _ => 12
  | .reserved _ => 4

/-- Bytes of a message body (R356); a record that is split carries an 8-byte offset in each part (R351). -/
def NzlBody.bytes (b : NzlBody) : Nat := match b with
  | .mirror r _ len => if len = r.bytes then len else len + 8
  | .metaItems l => l.foldl (fun n i => n + i.bytes) 0
  | .cfg l => l.foldl (fun n i => n + i.bytes) 0
  | .heartbeat _ _ _ _ _ _ _ _ _ => 16
  | .fence _ => 16
  | .report _ _ _ => 16
  | .handback => 16
  | .mbox _ _ _ _ => 40
  | .snapArm _ _ l => 32 + 4 * l.length
  | .swapEnd _ _ => 24
  | .armed _ _ => 16

/-- Frames of a message with a body of `n` bytes. -/
def nzlFrames (n : Nat) : Nat := 1 + cdiv (n - 224) 256

/-- A body that carries a link-wide MSG_ID: every type but HEARTBEAT and CLAIM_INFO. -/
def NzlBody.numbered (b : NzlBody) : Bool := match b with
  | .heartbeat _ _ _ _ _ _ _ _ _ => false
  | .fence _ => false
  | .report _ _ _ => false
  | .handback => false
  | _ => true

/-! ### Heartbeats (R355, R356) -/

/-- CREDIT_LIMIT of a group's receiver (R354). -/
def NzlGrp.ownLimit (g : NzlGrp) : Nat := (1024 + g.freed) % 2 ^ 16

/-- ACK_SEQ of a group's receiver. -/
def NzlGrp.ackSeq (g : NzlGrp) : Nat := (g.expect + 2 ^ 32 - 1) % 2 ^ 32

/-- The HEARTBEAT body: MODE 0 once the part leaves the pair in a NIGHT drain (R355, R356). -/
def State.hbBody (s : State) (nak : Bool) : NzlBody :=
  .heartbeat (if s.nzl.leaving then 0 else s.mode) (s.flag NZL_STAT_STALE) (s.flag NZL_STAT_IN_STEP) (s.flag NZL_STAT_RESYNC) (s.flag NZL_STAT_LOSS_HOLD)
    s.sys.imgVersion (s.fld NZL_CLAIM_BASE) s.prot.gen nak

/-- Send a HEARTBEAT on a group: it takes no credit and no SEQ of its own (R354). -/
def State.heartbeat (s : State) (g : Nat) (nak : Bool) : State :=
  if !s.grpUp g then s else
  let x := s.grp g
  (s.emit (.nzl g { seq := (x.next + 2 ^ 32 - 1) % 2 ^ 32, ack := x.ackSeq, credit := x.ownLimit, body := s.hbBody nak, sent := s.clock.nowNs })).cond (s.mode != 7) (fun t => t.bump CNT_NZL_TX_FRAMES)

/-! ### Messages -/

/-- Frames a group's sender may still send (R354). -/
def NzlGrp.credit (x : NzlGrp) : Nat := (x.limit + 2 ^ 16 - x.frames % 2 ^ 16) % 2 ^ 16

/-- Show the credit of a group. -/
def State.syncGrp (s : State) (g : Nat) : State := s.setFld (NZL_GRP_STAT_CREDIT g) (s.grp g).credit

/-- Start the messages of a group that have credit, in order (R354); each is kept until it is acknowledged (R352). -/
def State.nzlPump (s : State) (g : Nat) : Nat → State
  | 0 => s
  | fuel + 1 =>
    let x := s.grp g
    match x.queue with
    | [] => s.syncGrp g
    | m :: rest =>
      if !s.grpUp g || x.credit < m.frames then s.syncGrp g else
      let m' : NzlMsg := { m with seq := x.next, ack := x.ackSeq, credit := x.ownLimit, sent := s.clock.nowNs }
      let s1 := s.setGrp g { x with queue := rest, next := (x.next + 1) % 2 ^ 32, frames := x.frames + m.frames, kept := x.kept ++ [m'] }
      (((s1.emit (.nzl g m')).bumpBy CNT_NZL_TX_FRAMES m.frames)).nzlPump g fuel

/-- Queue a message on a group. -/
def State.nzlOn (s : State) (g : Nat) (b : NzlBody) : State :=
  let id := if b.numbered then s.nzl.msgId else 0
  let s1 := if b.numbered then { s with nzl := { s.nzl with msgId := s.nzl.msgId + 1 } } else s
  let x := s1.grp g
  (s1.setGrp g { x with queue := x.queue ++ [{ id := id, frames := nzlFrames b.bytes, body := b }] }).nzlPump g (x.queue.length + 1)

/-- Send a message on the lowest-numbered live group (R351); with none it is not sent. -/
def State.nzlSend (s : State) (b : NzlBody) : State := match s.liveGrps with
  | [] => s
  | g :: _ => s.nzlOn g b

/-- Send META items to the partner (R367). -/
def State.metaSend (s : State) (items : List NzlItem) : State := if s.mirroring then s.nzlSend (.metaItems items) else s

/-- The parts of a journal record: whole up to 16,352 bytes, else pieces of 16,344 with their offsets (R351). -/
def mirrorParts (r : JRec) : List NzlBody :=
  if r.bytes ≤ 16352 then [.mirror r 0 r.bytes]
  else (List.range (cdiv r.bytes 16344)).map (fun k => .mirror r (16344 * k) (min 16344 (r.bytes - 16344 * k)))

/-- Mirror a journal record: successive records go to the live groups in turn (R351). -/
def State.mirrorRecord (s : State) (r : JRec) : State :=
  let live := s.liveGrps
  match live[s.nzl.turn % max 1 live.length]? with
  | none => s
  | some g => (mirrorParts r).foldl (fun t b => t.nzlOn g b) { s with nzl := { s.nzl with turn := s.nzl.turn + 1 } }

/-! ### The maps: every change is mirrored before it is used (R367) -/

/-- Replace or remove a volume, and mirror the change. -/
def State.putVol (s : State) (v : Nat) (x : Option Vol) : State :=
  { s with red := { s.red with vols := match x with
    | some y => tput s.red.vols v y
    | none => tdel s.red.vols v } }.metaSend [.mapVol v x]

/-- Replace or remove a set, and mirror the change. -/
def State.putSet (s : State) (p : Nat) (x : Option PSet) : State :=
  { s with red := { s.red with sets := match x with
    | some y => tput s.red.sets p y
    | none => tdel s.red.sets p } }.metaSend [.mapSet p x]

/-- Replace or remove a bad-range entry, and mirror the change. -/
def State.putLost (s : State) (i : Nat) (x : Option Lost) : State :=
  { s with red := { s.red with lost := match x with
    | some y => tput s.red.lost i y
    | none => tdel s.red.lost i } }.metaSend [.mapLost i x]

end Sys2Proof.Machine
end

