-- ==== Sys2Proof/Machine/Cmds.lean ====
section
/-! DEFINITION. What every door to a volume shares: stamps, the access list, queue-pair frames, completion entries, tags, range locks and
horizons, dispatch, the end of commands, association resets and queue-pair errors (R141, R158, R172, R183, R186, R191, R202, R207–R213, R376). -/

namespace Sys2Proof.Machine

/-! ### Stamps (R186) -/

/-- A stamp in the total order of R186: count, then ingress port, then index within a packet. -/
def mkStamp (count port ix : Nat) : Nat := count * 2 ^ 24 + port % 256 * 2 ^ 16 + ix % 2 ^ 16

/-! ### Lookups -/

/-- A queue-pair context. -/
def State.qp (s : State) (i : Nat) : Qp := tget s.rdm.qps (i % 16384) {}

/-- Replace a queue-pair context. -/
def State.setQp (s : State) (i : Nat) (q : Qp) : State := { s with rdm := { s.rdm with qps := tput s.rdm.qps (i % 16384) q } }

/-- Change a queue-pair context. -/
def State.modQp (s : State) (i : Nat) (f : Qp → Qp) : State := s.setQp i (f (s.qp i))

/-- A window. -/
def State.win (s : State) (w : Nat) : Win := tget s.rdm.wins w {}

/-- Replace a window. -/
def State.setWin (s : State) (w : Nat) (x : Win) : State := { s with rdm := { s.rdm with wins := tput s.rdm.wins w x } }

/-- A queue is its association's admin queue: a capsule queue, or QID 0 of PF1 (R397). -/
def Queue.isAdmin (q : Queue) : Bool := q.type == 0 || (q.type == 3 && q.qid == 0)

/-- A queue in use. -/
def State.queue? (s : State) (q : Nat) : Option Queue := tget? s.cmdq.queues q

/-- Replace a queue. -/
def State.setQueue (s : State) (q : Nat) (x : Queue) : State := { s with cmdq := { s.cmdq with queues := tput s.cmdq.queues q x } }

/-- Change a queue in use. -/
def State.modQueue (s : State) (q : Nat) (f : Queue → Queue) : State := match s.queue? q with
  | some x => s.setQueue q (f x)
  | none => s

/-- A command or window request. -/
def State.cmd? (s : State) (h : Nat) : Option Cmd := tget? s.cmdq.cmds h

/-- Replace a command. -/
def State.setCmd (s : State) (h : Nat) (c : Cmd) : State := { s with cmdq := { s.cmdq with cmds := tput s.cmdq.cmds h c } }

/-- Change a command in the table. -/
def State.modCmd (s : State) (h : Nat) (f : Cmd → Cmd) : State := match s.cmd? h with
  | some c => s.setCmd h (f c)
  | none => s

/-- An association. -/
def State.assoc? (s : State) (a : Nat) : Option Assoc := tget? s.cmdq.assocs a

/-- Replace an association. -/
def State.setAssoc (s : State) (a : Nat) (x : Assoc) : State := { s with cmdq := { s.cmdq with assocs := tput s.cmdq.assocs a x } }

/-- The port code of an ingress port: PF1's commands enter through P84 and hold code 69 (R186, R373). -/
def portCode (port : Nat) : Nat := if port = 84 then 69 else port

/-- The privilege class of an ingress port: NONE 0, DATA 1, ADMIN 2, STEWARD 3 (R373). -/
def State.portClass (s : State) (port : Nat) : Nat :=
  if port < 64 then s.fld (NET_PRIV_CLASS port) else if port = 84 then fieldOf (s.reg PROT_PRIV_LOCAL) 10 2 else 0

/-- The access list admits an association and ingress port to a volume: for reading (0), writing (1), or either (2) (R376). -/
def State.aclOk (s : State) (a port vol need : Nat) : Bool :=
  let digest := match s.assoc? a with
    | some x => x.nqn
    | none => 0
  s.prot.acl.any (fun e => e.2.vol == vol && (e.2.digest == 0 || e.2.digest == digest)
    && (if port = 84 then e.2.pf1 else bitOf e.2.ports port)
    && (match need with
      | 0 => e.2.rd
      | 1 => e.2.wr
      | _ => e.2.rd || e.2.wr))

/-! ### Staging slots (R304) -/

/-- Slots holding write payloads. -/
def State.stgWrite (s : State) : Nat := s.cmdq.cmds.foldl (fun n e => match e.2.kind with
  | .write => n + e.2.credit
  | .compare => n + e.2.credit
  | .winWrite => n + e.2.credit
  | _ => n) 0

/-- Slots that are retransmission holds of read data (R153, R304). -/
def State.stgHold (s : State) : Nat :=
  s.rdm.qps.foldl (fun n e => e.2.outst.foldl (fun m o => match o.msg.kind with
    | .data _ _ _ _ => m + cdiv o.msg.bytes 4096
    | _ => m) n) 0

/-- Slots holding drive read data and retransmission holds. -/
def State.stgRead (s : State) : Nat := s.stgHold + s.cmdq.cmds.foldl (fun n e => match e.2.kind with
  | .read => n + e.2.credit
  | .winRead => n + e.2.credit
  | _ => n) 0

/-- Slots of the shared pool in use. -/
def State.stgShared (s : State) : Nat :=
  (s.stgWrite - s.fld CCH_STG_CFG_WR_RSV) + (s.stgRead - s.fld CCH_STG_CFG_RD_RSV)

/-- Free slots of the shared pool. -/
def State.stgSharedFree (s : State) : Nat := (7056 - s.fld CCH_STG_CFG_WR_RSV - s.fld CCH_STG_CFG_RD_RSV) - s.stgShared

/-- Slots a write payload can take. -/
def State.stgWriteFree (s : State) : Nat := (s.fld CCH_STG_CFG_WR_RSV - s.stgWrite) + s.stgSharedFree

/-- Slots drive read data can take. -/
def State.stgReadFree (s : State) : Nat := (s.fld CCH_STG_CFG_RD_RSV - s.stgRead) + s.stgSharedFree

/-- Bring CCH_STG_STAT up to date. -/
def State.syncStg (s : State) : State :=
  (s.setFld CCH_STG_STAT_FREE (7056 - (s.stgWrite + s.stgRead))).setFld CCH_STG_STAT_HOLD s.stgHold

/-! ### Frames of a queue pair -/

/-- Octets of a PMTU code (R138). -/
def pmtuBytes (c : Nat) : Nat := 2 ^ (c + 7)

/-- Length of a RoCEv2 frame with so many octets of extended headers and payload, padded to 4, with ICRC and FCS (R27, R31). -/
def Qp.frameLen (q : Qp) (ext payload : Nat) : Nat :=
  max 64 (14 + (if q.tagged then 4 else 0) + (if q.ipv6 then 40 else 20) + 8 + 12 + ext + cdiv payload 4 * 4 + 4 + 4)

/-- The flow hash of the frames of a queue pair (R103). -/
def State.qpFlow (s : State) (q : Qp) : Nat :=
  let ip (k : Nat) : List (BitVec 8) := toBe 4 (s.reg (RDM_SRCADDR_IP q.srcIdx k)).toNat
  let src := if q.ipv6 then ip 0 ++ ip 1 ++ ip 2 ++ ip 3 else toBe 12 0 ++ ip 3
  let dst := if q.ipv6 then toBe 16 q.destIp else toBe 12 0 ++ toBe 4 q.destIp
  s.seedHash (src ++ dst ++ toBe 1 17 ++ toBe 2 q.sport ++ toBe 2 4791 ++ toBe 3 q.destQpn)

/-- The egress port of a queue pair: its port, or the live member of its LAG in its flow's bucket (R103, R138). -/
def State.qpPort (s : State) (q : Qp) : Nat := if q.lag then s.bucket (SWC_LAG_LIVE q.port) (s.qpFlow q) else q.port

/-- Hand a frame of a queue pair to its egress port, in the class of NET_PCP_MAP(PCP), or the control queue for a CNP (R138, R156). -/
def State.qpFrame (s : State) (i : Nat) (ext payload : Nat) (psn : Nat) (kind : PktKind) (tag : Option Nat) : State :=
  let q := s.qp i
  let p := s.qpPort q
  let cls := if kind = .cnp then 8 else fieldOf (s.reg (NET_PCP_MAP p)) (3 * q.pcp) 3
  let n := q.frameLen ext payload
  let f : Frame := { id := 0, inPort := 64 + i % 16, icls := 0, bytes := n, tc := cls, isIp := true, ecn := if q.ect then 2 else 0, pkt := some ⟨i, psn, kind⟩, tag := tag }
  let s1 := match kind with
    | .ack _ _ => s
    | .cnp => s
    | _ => s.qpDequeue i n
  s1.enqueue f p cls

/-- Queue a message on a queue pair: it waits its turn in RTR and RTS, and is ended in any other state (R139, R141, R476). -/
def State.qpSend (s : State) (i : Nat) (m : Msg) : State :=
  let q := s.qp i
  if q.state = 2 || q.state = 3 then s.setQp i { q with sendq := q.sendq ++ [m] } else s

/-! ### PF1's requests to host memory -/

/-- A posted write of PF1, in pieces of at most the Max Payload Size in force (R393); none leaves while Bus Master Enable is 0 (R404). -/
def State.pf1Write (s : State) (addr n data : Nat) : State := 
  if !(s.hep.pf1.bme && s.hep.linkUp) then s else
  let m := max 128 s.hep.pf1.mps
  s.wakeLink.each (List.range (cdiv n m)) (fun t k => t.emit (.pciWrite (addr + k * m) (min m (n - k * m)) (data / 2 ^ (8 * (k * m)) % 2 ^ (8 * min m (n - k * m)))))

/-- Tag count that PF1's enables ask for (R400). -/
def Func.tagCount (f : Func) : Nat := if f.tag10 then 1024 else if f.extTag then 256 else 32

/-- Bring HEP_TAG_STAT up to date. -/
def State.syncPciTags (s : State) : State :=
  (s.setFld HEP_TAG_STAT_QUAR s.hep.quar.length).setFld HEP_TAG_STAT_FREE (s.hep.tags - s.hep.reads.length - s.hep.quar.length)

/-- The lowest free tag of the count in force. -/
def State.pciFreeTag (s : State) : Option Nat := (List.range s.hep.tags).find? (fun t => (tget? s.hep.reads t).isNone && !s.hep.quar.any (fun e => e.1 == t))

/-- Issue a read under a tag. -/
def State.pciIssue (s : State) (t : Nat) (r : PciRead) : State :=
  ({ s with hep := { s.hep with reads := tput s.hep.reads t r } }.wakeLink.emit (.pciRead t r.addr r.bytes)).syncPciTags

/-- Issue one read of PF1 under a free tag; with none free it waits, counted in TAG_WAIT (R400). -/
def State.pf1Read (s : State) (purpose : ReadPurpose) (addr n off : Nat) : State :=
  if !(s.hep.pf1.bme && s.hep.linkUp) then s else
  let r : PciRead := { purpose := purpose, addr := addr, bytes := n, cto := s.hep.pf1.cto, off := off, born := s.clock.nowNs }
  match (if s.hep.waiting.isEmpty then s.pciFreeTag else none) with
  | some t => s.pciIssue t r
  | none => { s with hep := { s.hep with waiting := s.hep.waiting ++ [r] } }.bump CNT_HEP_TAG_WAIT

/-- Read host memory for a queue of the local association, in requests of at most the MRRS in force (R393). -/
def State.pf1ReadAll (s : State) (purpose : ReadPurpose) (addr n off : Nat) : State :=
  let m := max 128 s.hep.pf1.mrrs
  s.each (List.range (cdiv n m)) (fun t k => t.pf1Read purpose (addr + k * m) (min m (n - k * m)) (off + k * m))

/-- Read the data of a command from its host ranges, over PF1 or on its queue pair (R32). -/
def State.readHost (s : State) (h : Nat) (c : Cmd) (q : Queue) : State :=
  if q.type = 3 then (c.host.foldl (fun (acc : State × Nat) r => (acc.1.pf1ReadAll (.writeData h) r.1 r.2 acc.2, acc.2 + r.2)) (s, 0)).1
  else s.each c.host (fun t r => t.qpSend q.qpn ⟨.read (.writeData h) c.rkey r.1, r.2⟩)

/-! ### Completions -/

/-- A completion entry in the layout of R183, as a 128-bit number; status is SCT·256 + SC. -/
def cqeWord (result sqhd sqid cid status : Nat) (phase : Bool) : Nat :=
  result % 2 ^ 32 + (sqhd % 2 ^ 16) * 2 ^ 64 + (sqid % 2 ^ 16) * 2 ^ 80 + (cid % 2 ^ 16) * 2 ^ 96 + phase.toNat * 2 ^ 112
    + (status % 256) * 2 ^ 113 + (status / 256 % 8) * 2 ^ 121

/-- The host rkey to invalidate with a response, for a descriptor of subtype 0xF (R136, R176). -/
def invalKey (sqe : Nat) : Option Nat :=
  let d := sqe / 2 ^ (24 * 8) % 2 ^ 128
  if d / 2 ^ 120 = 0x4F then some (d / 2 ^ 88 % 2 ^ 32) else none

/-- Post a completion entry for a command of a queue (R183). A local queue whose Bus Master Enable is 0 lists it for report (R404). -/
def State.postCqe (s : State) (qi cid status result : Nat) (sqe : Nat) : State :=
  match s.queue? qi with
  | none => s
  | some q =>
    if q.type = 3 && !s.hep.pf1.bme then
      if s.hep.report.length < 65536 then { s with hep := { s.hep with report := s.hep.report ++ [(match s.cmdq.cmds.find? (fun (e : Nat × Cmd) => e.2.queue == some qi && e.2.cid == cid) with
        | some e => e.2.stamp
        | none => 0, q.qid, cid)] } }.setFlag HEP_STAT_REPORT_PEND true else s
    else
      let w := cqeWord result q.sqHead q.qid cid status q.phase
      let wrap := decide (q.cqTail = q.entriesM1)
      let s1 := (s.setQueue qi { q with cqTail := if wrap then 0 else q.cqTail + 1, phase := if wrap then !q.phase else q.phase }).bump CNT_CMDQ_CQE_POSTED
      match q.type with
      | 2 => s1.qpSend q.qpn ⟨.ringCqe w q.rkey (q.cqBase + 16 * q.cqTail), 16⟩
      | 3 => (s1.pf1Write (q.cqBase + 16 * q.cqTail) 16 w).cond q.ien (fun t => t.msix1 q.vector)
      | _ => s1.qpSend q.qpn ⟨.cqe none w (invalKey sqe), 16⟩

/-! ### Tags, locks, engines -/

/-- Commands holding tags. -/
def State.tagsUsed (s : State) : Nat := (s.cmdq.cmds.filter (fun e => e.1 < 65536)).length

/-- Bring the status registers of tags, shards, deques and the drain up to date (R191, R215, R223). -/
def State.syncCmds (s : State) : State :=
  let s1 := s.setFld CMDQ_TAGS_FREE (65536 - s.tagsUsed)
  let s2 := s1.each (List.range 16) (fun t c =>
    let held := (t.eng.locks.filter (fun e => e.shard == c)).length
    let deq := (t.eng.engines.filter (fun e => e.1 / 16 == c)).foldl (fun n e => n + e.2.deque.length) 0
    let t1 := (t.setFld (ENG_SHARD_STAT_FREE c) (4096 - held)).setFld (ENG_CL_STAT_DEQ c) deq
    if deq ≤ max 1 (t.fld ENG_CTL_HELP) then t1.setFlag (ENG_CL_STAT_HELP c) false else t1)
  (s2.setFld ENG_DRAIN_LEFT (s2.cmdq.cmds.filter (fun e => e.2.oldEpoch)).length).syncStg

/-- The cluster of the engine that holds a command in a context. -/
def State.runsAt (s : State) (h : Nat) : Option Nat := (s.eng.engines.find? (fun e => e.2.ctxs.any (fun x => x.1 == h))).map (fun e => e.1 / 16)

/-- Lock operations of a stolen command whose shard lies in another cluster than the one it runs in are counted (R205). -/
def State.remoteOps (s : State) (h home : Nat) (es : List LockEntry) : State := match s.runsAt h with
  | none => s
  | some c => if c = home then s else s.bumpCBy c CNT_ENG_LOCK_REMOTE_OPS (es.filter (fun e => e.shard != c)).length

/-- Lock entries of a command are released (R213), after its demand fills have ended (R292); the release of a write-kind command's entries is
mirrored (R367). -/
def State.unlock (s0 : State) (h : Nat) : State :=
  let s := s0.endFillsOf h
  let mine := s.eng.locks.filter (fun e => e.owner == h)
  let home := match s.cmd? h with
    | some c => c.cluster
    | none => 0
  let s1 := { s with eng := { s.eng with locks := s.eng.locks.filter (fun e => e.owner != h) } }.remoteOps h home mine
  if mine.any (fun e => e.isWrite) && h < 65536 then s1.metaSend [.lockRelease h] else s1

/-- A command leaves every deque and context. -/
def State.offEngines (s : State) (h : Nat) : State :=
  let f (e : Nat × Engine) : Nat × Engine := (e.1, { e.2 with deque := e.2.deque.filter (fun x => x != h), ctxs := e.2.ctxs.filter (fun x => x.1 != h) })
  { s with eng := { s.eng with engines := s.eng.engines.map f } }

/-- A command ends: its lock entries, its engine context, its tag and its staging slots are free (R191, R213). -/
def State.endCmd (s : State) (h : Nat) : State :=
  let s1 := (s.unlock h).offEngines h
  { s1 with cmdq := { s1.cmdq with cmds := tdel s1.cmdq.cmds h }, hep := { s1.hep with affected := s1.hep.affected.filter (fun x => x != h) } }.syncCmds

/-- A kind that acts as a write (R187). -/
def CmdKind.isWrite : CmdKind → Bool
  | .write => true
  | .zeroes => true
  | .dealloc => true
  | .winWrite => true
  | _ => false

/-- A kind that touches blocks (R207). -/
def CmdKind.touches : CmdKind → Bool
  | .write => true
  | .read => true
  | .compare => true
  | .zeroes => true
  | .dealloc => true
  | .winRead => true
  | .winWrite => true
  | _ => false

/-- Cut a block range at multiples of 256 blocks (R212). -/
def cut256 : Nat → Nat → Nat → List (Nat × Nat)
  | 0, _, _ => []
  | fuel + 1, a, n => if n = 0 then [] else
    let k := min n (256 - a % 256)
    (a, k) :: cut256 fuel (a + k) (n - k)

/-- The segments of a command: its whole range, or the pieces of R212. -/
def segsOf (ranges : List (Nat × Nat)) : List (Nat × Nat) :=
  let total := ranges.foldl (fun n r => n + r.2) 0
  if 256 < total || 1 < ranges.length then ranges.flatMap (fun r => cut256 (r.2 / 256 + 2) r.1 r.2) else ranges

/-- Lock stripes and block masks of a block range (R207). -/
def lockStripes (a n : Nat) : List (Nat × Nat) :=
  if n = 0 then [] else
  (List.range ((a + n - 1) / 16 - a / 16 + 1)).map (fun k =>
    let st := a / 16 + k
    (st, (List.range 16).foldl (fun m b => if a ≤ 16 * st + b && 16 * st + b < a + n then m + 2 ^ b else m) 0))

/-- The shard of a lock stripe: CRC-32C over the seed latched at the commit, the volume and the stripe (R208). -/
def State.shardOf (s : State) (vol stripe : Nat) : Nat :=
  let h := crc32c (toLe 4 s.eng.lockSeed ++ toBe 2 vol ++ toBe 8 stripe) % 256
  fieldOf (s.reg (ENG_LOCK_BKT (h / 4))) (8 * (h % 4)) 4

/-- The home cluster of a command: the steering hash of R102 over its volume and first block. -/
def State.homeOf (s : State) (vol lba : Nat) : Nat :=
  let h := s.seedHash (toBe 2 vol ++ toBe 8 (lba >>> s.fld CLS_STEER_CFG_SHIFT))
  fieldOf (s.reg (SWC_ST_BKT (h / 4))) (8 * (h % 4)) 4

/-- The lock entries a command's segment needs (R207). -/
def State.entriesOf (s : State) (h : Nat) (c : Cmd) : List LockEntry :=
  if !c.kind.touches then [] else
  match (segsOf c.ranges)[c.seg]? with
  | none => []
  | some (a, n) => (lockStripes a n).map (fun e =>
      { vol := c.vol, stripe := e.1, mask := e.2, stamp := c.stamp, owner := h, isWrite := c.kind.isWrite, shard := s.shardOf c.vol e.1 })

/-- Opcode, namespace and stamp of a raw entry. -/
def sqeOpc (sqe : Nat) : Nat := sqe % 256
/-- NSID of a submission entry. -/
def sqeNsid (sqe : Nat) : Nat := sqe / 2 ^ 32 % 2 ^ 32
/-- CID of a submission entry. -/
def sqeCid (sqe : Nat) : Nat := sqe / 2 ^ 16 % 2 ^ 16
/-- Dword `k` of a submission entry. -/
def sqeDw (sqe k : Nat) : Nat := sqe / 2 ^ (32 * k) % 2 ^ 32

/-- The I/O kind an opcode names (R173). -/
def ioKind (opc : Nat) : Option CmdKind :=
  match opc with
  | 0x00 => some .flush
  | 0x01 => some .write
  | 0x02 => some .read
  | 0x05 => some .compare
  | 0x08 => some .zeroes
  | 0x09 => some .dealloc
  | _ => none

/-- Stamps of the commands of a volume that are stamped and not yet placed, of write kind or of read kind (R209): entries that wait
for decoding, commands that wait for admission, window requests that wait for room, and long commands with segments to come (R212). -/
def State.unplaced (s : State) (vol : Nat) (wr : Bool) : List Nat :=
  let q := s.cmdq.queues.flatMap (fun e =>
    (if e.2.isAdmin then [] else e.2.inbox.filterMap (fun c => (ioKind (sqeOpc c.sqe)).bind (fun k =>
      if k.touches && k.isWrite == wr && sqeNsid c.sqe == vol + 1 then some c.stamp else none)))
    ++ e.2.waiting.filterMap (fun c => if c.status = 0 && c.kind.touches && c.kind.isWrite == wr && c.vol == vol then some c.stamp else none))
  let t := s.cmdq.cmds.filterMap (fun e => let c := e.2
    if c.vol = vol && c.kind.touches && c.kind.isWrite == wr && c.status == 0 &&
      (c.state == .waiting || decide (c.seg + 1 < (segsOf c.ranges).length)) then some c.stamp else none)
  q ++ t

/-- A horizon: the lowest such stamp, or none when unbounded (R209). -/
def State.horizon (s : State) (vol : Nat) (wr : Bool) : Option Nat := (s.unplaced vol wr).min?

/-- A stamp lies below a horizon. -/
def belowHorizon (st : Nat) (h : Option Nat) : Bool := match h with
  | none => true
  | some x => decide (st < x)

/-- Two entries overlap: same volume and stripe, a block in common. -/
def LockEntry.overlaps (e f : LockEntry) : Bool := e.vol == f.vol && e.stripe == f.stripe && (e.mask &&& f.mask) != 0

/-- An entry may be granted (R209). A command's own horizon, held at its stamp for segments to come (R212), does not hold it back. -/
def State.grantable (s : State) (e : LockEntry) : Bool :=
  s.eng.locks.all (fun f => f.owner == e.owner || !(e.overlaps f && decide (f.stamp < e.stamp)) || (f.granted && !f.isWrite && !e.isWrite))
    && (s.unplaced e.vol true).all (fun x => decide (e.stamp < x) || (e.isWrite && x == e.stamp))
    && (!e.isWrite || (s.unplaced e.vol false).all (fun x => decide (e.stamp < x)))

/-- Place the lock entries of a command (R207); those that cannot be granted at once are counted in LOCK_WAIT. -/
def State.placeLocks (s : State) (h : Nat) (c : Cmd) : State :=
  let es := s.entriesOf h c
  let s0 := { s with eng := { s.eng with locks := s.eng.locks ++ es } }
  let s1 := if h < 65536 then (es.filter (fun e => e.isWrite)).foldl (fun t e => t.metaSend [.lockPlace e.vol true e.mask e.stripe e.stamp h]) s0 else s0
  s1.each (es.filter (fun e => !s1.grantable e)) (fun t e => t.bumpC e.shard CNT_ENG_LOCK_WAIT)

/-- Free entries of a shard. -/
def State.shardFree (s : State) (c : Nat) : Nat := 4096 - (s.eng.locks.filter (fun e => e.shard == c)).length

/-- Every shard a command needs has room, beyond a reserve (R211). -/
def State.lockRoom (s : State) (h : Nat) (c : Cmd) (reserve : Nat) : Bool :=
  let es := s.entriesOf h c
  (List.range 16).all (fun k =>
    let n := (es.filter (fun e => e.shard == k)).length
    n == 0 || decide (n + reserve ≤ s.shardFree k))

/-- RESERVE of ENG_LOCK_CFG; below 32 is taken as 32 (R222). -/
def State.lockReserve (s : State) : Nat := max 32 (s.fld ENG_LOCK_CFG_RESERVE)

/-- A command's stamp equals its volume's horizon of its kind (R211). -/
def State.atHorizon (s : State) (c : Cmd) : Bool := s.horizon c.vol c.kind.isWrite == some c.stamp

/-- The command may be placed: room beyond the reserve in every shard it needs, or room at all for the command at the horizon (R211). -/
def State.placeable (s : State) (h : Nat) (c : Cmd) : Bool :=
  s.lockRoom h c (s.lockReserve + 1) || (s.atHorizon c && s.lockRoom h c 0)

/-- Overlap depth of a command: placed commands with earlier stamps that overlap it and still hold entries (R210). -/
def State.overlapDepth (s : State) (h : Nat) (c : Cmd) : Nat :=
  let es := s.entriesOf h c
  ((s.eng.locks.filter (fun f => decide (f.stamp < c.stamp) && es.any (fun e => e.overlaps f))).map (fun f => f.owner)).eraseDups.length

/-! ### Dispatch (R202) -/

/-- An engine. -/
def State.engine (s : State) (e : Nat) : Engine := tget s.eng.engines e {}

/-- Change an engine. -/
def State.modEngine (s : State) (e : Nat) (f : Engine → Engine) : State := { s with eng := { s.eng with engines := tmod s.eng.engines e {} f } }

/-- An engine is retired (R201). -/
def State.retired (s : State) (e : Nat) : Bool := bitOf (s.fld (ENG_CL_RETIRED_MASK (e / 16))) (e % 16)

/-- Engines of a cluster with deque room. -/
def State.pushable (s : State) (c : Nat) : List Nat :=
  ((List.range 16).map (fun k => 16 * c + k)).filter (fun e => !s.retired e && decide ((s.engine e).deque.length < 64))

/-- Wake the cluster if it is gated (R341), and push a command onto the deque of the engine with the fewest entries and occupied
contexts, ties under R114 (R202). -/
def State.dispatch (s : State) (c h : Nat) : State :=
  let load (e : Nat) : Nat := (s.engine e).deque.length + (s.engine e).ctxs.length
  let es := s.pushable c
  let best := es.foldl (fun m e => min m (load e)) 1000
  match rotPick (es.filter (fun e => load e == best)) (tget s.eng.dispPtr c 0) with
  | none => s
  | some e =>
    let s1 := (s.wakeCluster c).modEngine e (fun x => { x with deque := x.deque ++ [h] })
    { s1 with eng := { s1.eng with dispPtr := tput s1.eng.dispPtr c (16 * c + (e + 1) % 16) } }.syncCmds

/-- Park a command's context (R200); leaving a running context is a context switch of its cluster (R441). -/
def State.park (s : State) (h : Nat) : State :=
  let f (e : Nat × Engine) : Nat × Engine := (e.1, { e.2 with ctxs := e.2.ctxs.map (fun x => if x.1 = h then (h, true) else x) })
  let ran := s.eng.engines.filter (fun e => e.2.ctxs.contains (h, false))
  { s with eng := { s.eng with engines := s.eng.engines.map f } }.each ran (fun t e => t.monEvent (64 + e.1 / 16) 0x082 1)

/-- An engine has taken a command into a context. -/
def State.onEngine (s : State) (h : Nat) : Bool := s.eng.engines.any (fun e => e.2.ctxs.any (fun x => x.1 == h))

/-! ### Asynchronous events (R174, R178) -/

/-- An association's hosts want ANA change notices: bit 11 of the Async Event Configuration (NVM Express). -/
def Assoc.wantsAna (a : Assoc) : Bool := bitOf a.aenCfg 11

/-- Deliver an event to an association: it completes the oldest outstanding request, or is held once (R174, R178, R189). -/
def State.aen (s : State) (a typ info page : Nat) : State :=
  match s.assoc? a with
  | none => s
  | some x =>
    match x.aers with
    | [] => if x.events.contains (typ, info) then s else s.setAssoc a { x with events := x.events ++ [(typ, info)] }
    | h :: rest =>
      let s1 := s.setAssoc a { x with aers := rest }
      match s1.cmd? h with
      | none => s1
      | some c =>
        let s2 := match c.queue with
          | some qi => s1.postCqe qi c.cid 0 (typ + info * 256 + page * 65536) c.sqe
          | none => s1
        s2.endCmd h

/-- The log page an event names. -/
def eventPage (typ : Nat) : Nat := if typ = 2 then 0x0C else if typ = 7 then 0xC0 else 0x01

/-- The reported ANA state changes (R177, R178). -/
def State.setAna (s : State) (v : Nat) : State :=
  if s.fld CMDQ_STAT_ANA = v then s else
  let s1 := { s with cmdq := { s.cmdq with anaCount := (s.cmdq.anaCount + 1) % 2 ^ 64 } }.setFld CMDQ_STAT_ANA v
  s1.each (s1.cmdq.assocs.filter (fun e => e.2.wantsAna)) (fun t e => t.aen e.1 2 3 0x0C)

/-- The durability state changes with PARTNER (R189). -/
def State.setPartner (s : State) (b : Bool) : State :=
  if s.flag SYS_MODE_PARTNER = b then s else
  let s1 := (s.setFlag SYS_MODE_PARTNER b).setFlag CMDQ_STAT_WCE (!b)
  s1.each s1.cmdq.assocs (fun t e => t.aen e.1 7 0xC0 0xC0)

/-! ### Ring reads and nudges (R181, R182, R399) -/

/-- Send an LTR message when the activity of PF1's rings has changed and the host has enabled LTR (R399). -/
def State.syncLtr (s : State) : State :=
  let act := s.cmdq.queues.any (fun e => e.2.type == 3 && e.2.active)
  if act == s.hep.ltrAct then s else
  let s1 := { s with hep := { s.hep with ltrAct := act } }
  if !s.hep.pf0.ltrEn then s1
  else if act then s1.emit (.ltr (s.fld HEP_LTR_ACT_VAL) (s.fld HEP_LTR_ACT_SCALE)) else s1.emit (.ltr (s.fld HEP_LTR_IDLE_VAL) (s.fld HEP_LTR_IDLE_SCALE))

/-- Issue the read of a ring's doorbell word; with one outstanding, the next falls due at its return (R181). -/
def State.readDoorbell (s : State) (qi : Nat) : State :=
  match s.queue? qi with
  | none => s
  | some q =>
    if q.type < 2 || q.stopped then s
    else if q.dbOut then s.setQueue qi { q with dbDue := true }
    else if q.type = 2 then ((s.setQueue qi { q with dbOut := true }).bump CNT_CMDQ_DB_READS).qpSend q.qpn ⟨.read (.doorbell qi) q.rkey q.dbAddr, 8⟩
    else if !s.hep.pf1.bme then s
    else ((s.setQueue qi { q with dbOut := true }).bump CNT_CMDQ_DB_READS).pf1ReadAll (.doorbell qi) q.dbAddr 8 0

/-- A nudge for a QID of an association (R182): the ring becomes active and its doorbell word is read at once. -/
def State.nudge (s : State) (a qid : Nat) : State :=
  match s.cmdq.queues.find? (fun e => e.2.assoc == a && e.2.qid == qid && decide (2 ≤ e.2.type)) with
  | none => s.bump CNT_CMDQ_NUDGE_BAD
  | some e => ((((s.bump CNT_CMDQ_NUDGES).modQueue e.1 (fun q => { q with active := true })).syncLtr).readDoorbell e.1)

/-! ### Window requests -/

/-- A window's requests in flight fall by one (R160). -/
def State.winDone (s : State) (w : Nat) : State :=
  let x := s.win w
  s.setWin w { x with inFlight := x.inFlight - 1, finished := if x.state = 2 then x.finished + 1 else x.finished }

/-- End the window requests of a queue pair (R141, R160). -/
def State.endWinReqs (s : State) (i : Nat) : State :=
  let hs := s.cmdq.cmds.filter (fun e => (e.2.kind == .winRead || e.2.kind == .winWrite) && e.2.qpn == i % 16384)
  s.each hs (fun t e => (if e.2.state == .granted || e.2.state == .admitted || e.2.state == .running then
      t.modCmd e.1 (fun c => { c with orphan := true }) else t.endCmd e.1).winDone e.2.win)

/-! ### Association reset and queue-pair error -/

/-- Remove a queue and give it back to the pool (R172). -/
def State.freeQueue (s : State) (qi : Nat) : State :=
  let s1 := { s with cmdq := { s.cmdq with queues := tdel s.cmdq.queues qi } }
  if qi < 16384 then s1.setFld CMDQ_QUEUES_IOQ_FREE (s1.fld CMDQ_QUEUES_IOQ_FREE + 1) else s1

/-- A command has its lock grant and is not finished (R172). -/
def CmdState.past (c : CmdState) : Bool := match c with
  | .granted => true
  | .admitted => true
  | .running => true
  | _ => false

/-- A context cleared to RESET, which keeps GEN (R139). -/
def Qp.cleared (q : Qp) : Qp := { gen := q.gen }

/-- Reset an association (R172): every queue stops; a command without its lock grant ends at once; one with its grant runs on without a CQE;
queues and contexts return to their pools. -/
def State.assocReset (s : State) (a : Nat) : State :=
  match s.assoc? a with
  | none => s
  | some x =>
    let qs := s.cmdq.queues.filter (fun e => e.2.assoc == a)
    let waiting := qs.foldl (fun n e => n + e.2.inbox.length + e.2.waiting.length) 0
    let s1 := (s.bump CNT_CMDQ_ASSOC_RESET).bumpBy CNT_CMDQ_RESET_ENDED waiting
    let cs := s1.cmdq.cmds.filter (fun e => e.2.assoc == a && e.1 < 65536)
    let s2 := s1.each cs (fun t e => if e.2.state.past then t.modCmd e.1 (fun c => { c with orphan := true })
      else (t.endCmd e.1).bump CNT_CMDQ_RESET_ENDED)
    let s3 := s2.each qs (fun t e => t.freeQueue e.1)
    let ps := s3.rdm.qps.filter (fun e => e.2.state != 0 && e.2.state != 4 && e.2.assoc == a)
    let s4 := s3.each ps (fun t e => ((t.each e.2.inWin (fun u w => u.winDone w)).endWinReqs e.1).setQp e.1 e.2.cleared)
    let s5 := { s4 with cmdq := { s4.cmdq with assocs := tdel s4.cmdq.assocs a } }
    let s6 := (s5.setReg (CMDQ_ASSOC a) 0).setFld CMDQ_STAT_ASSOC (s5.cmdq.assocs.length)
    s6.cond x.isLocal (fun t => ({ t with hep := { t.hep with report := [] } }.setFlag HEP_STAT_REPORT_PEND false).setFlag ADM_STAT_RDY false)

/-- Push an entry to RDM_ERRQP's FIFO; a full FIFO loses it and sets OVF (R167). -/
def State.pushErrQp (s : State) (qpn cause : Nat) : State :=
  if 64 ≤ s.rdm.errq.length then s.setFlag RDM_ERRQP_OVF true else
  let s1 := { s with rdm := { s.rdm with errq := s.rdm.errq ++ [(qpn, cause)] } }
  match s1.rdm.errq with
  | (n, c) :: _ => ((s1.setFld RDM_ERRQP_QPN n).setFld RDM_ERRQP_CAUSE c).setFlag RDM_ERRQP_VALID true
  | [] => s1

/-- The 24-bit number of a context. -/
def Qp.number (q : Qp) (i : Nat) : Nat := i % 16384 + q.gen * 16384

/-- Trackers in use (R143). -/
def State.trackersUsed (s : State) : Nat := (s.rdm.qps.filter (fun e => e.2.tracker.isSome)).length

/-- Bring RDM_OOO_STAT up to date. -/
def State.syncTrackers (s : State) : State := s.setFld RDM_OOO_STAT_FREE (2048 - s.trackersUsed)

/-- Discard the frames of a queue pair that are still queued at a cluster (R141). -/
def State.dropQpFrames (s : State) (i : Nat) : State :=
  let keep (x : Frame × Nat) : Bool := match x.1.pkt with
    | some p => p.qpn != i % 16384
    | none => true
  let qs := ((s.swc.voq.flatMap (fun e => e.2)).filter (fun x => !keep x)).map (fun x => x.1.q)
  let s1 := { s with swc := { s.swc with voq := (s.swc.voq.map (fun (e : Nat × List (Frame × Nat)) => (e.1, e.2.filter keep))).filter (fun e => !e.2.isEmpty) } }
  s1.each qs.eraseDups (fun t q => t.syncQ q)

/-- A context enters ERROR (R139, R141): it stops sending, releases what it holds, ends its window requests, and its association is reset. -/
def State.qpError (s : State) (i cause : Nat) : State :=
  let q := s.qp i
  let s1 := (s.bump CNT_RDM_QP_ERR).pushErrQp (q.number i) cause
  let sw := q.inWin
  let bad : Qp := { q with state := 4, flushing := q.state == 2 || q.state == 3, tracker := none, placed := [], reorder := false, cur := none, reads := [], sendq := [], outst := [], rnrWait := false, ackTimer := false, ackWant := false, ackHeld := [], slotHeld := false, nakWait := none, recovering := false, inWin := [] }
  let s2 := ((s1.setQp i bad).dropQpFrames i).syncTrackers
  let s3 := s2.each sw (fun t w => t.winDone w)
  let s3 := s3.endWinReqs i
  if q.state = 2 || q.state = 3 then (s3.assocReset q.assoc).syncCmds else s3

end Sys2Proof.Machine
end

