-- ==== Sys2Proof/Machine/CipBase.lean ====
section
/-! DEFINITION. The cipher's stored sectors, key slots and invocation counters (R314–R327). -/

namespace Sys2Proof.Machine

/-! ### Stored sectors: 4,096 data octets, then 64 of metadata, as one number with octet 0 least significant (R314) -/

/-- The data octets of a stored sector. -/
def secData (w : Nat) : Nat := w % 2 ^ 32768
/-- The metadata octets. -/
def secMeta (w : Nat) : Nat := w / 2 ^ 32768 % 2 ^ 512
/-- TAG. -/
def metaTag (m : Nat) : Nat := m % 2 ^ 128
/-- CTR. -/
def metaCtr (m : Nat) : Nat := m / 2 ^ 128 % 2 ^ 64
/-- SALT. -/
def metaSalt (m : Nat) : Nat := m / 2 ^ 192 % 2 ^ 32
/-- SLOT. -/
def metaSlot (m : Nat) : Nat := m / 2 ^ 224 % 2 ^ 12
/-- KCV. -/
def metaKcv (m : Nat) : Nat := m / 2 ^ 240 % 2 ^ 16
/-- VOLUME. -/
def metaVol (m : Nat) : Nat := m / 2 ^ 256 % 2 ^ 16
/-- VLBA. -/
def metaVlba (m : Nat) : Nat := m / 2 ^ 288 % 2 ^ 64

/-- Metadata bytes 16–63 as a number: the additional authenticated data of R315. -/
def mkAad (ctr salt slot kcv vol vlba : Nat) : Nat :=
  ctr % 2 ^ 64 + salt % 2 ^ 32 * 2 ^ 64 + slot % 2 ^ 12 * 2 ^ 96 + kcv % 2 ^ 16 * 2 ^ 112 + vol % 2 ^ 16 * 2 ^ 128 + vlba % 2 ^ 64 * 2 ^ 160

/-- The 96-bit IV: SALT, then CTR, most significant byte first (R315). -/
def gcmIv (salt ctr : Nat) : Nat := salt % 2 ^ 32 * 2 ^ 64 + ctr % 2 ^ 64

/-- Seal a sector under GCM (R314, R315). -/
def sealGcm (key ctr salt slot kcv vol vlba plain : Nat) : Nat :=
  let ct := (plain ^^^ Config.gcmStream key (gcmIv salt ctr) 4096) % 2 ^ 32768
  let aad := mkAad ctr salt slot kcv vol vlba
  ct + (Config.gcmTag key (gcmIv salt ctr) aad ct % 2 ^ 128 + aad * 2 ^ 128) * 2 ^ 32768

/-- The XTS tweak: VLBA in bytes 0–7, the allocating volume in bytes 8–9 (R323). -/
def xtsTweak (vol vlba : Nat) : Nat := vlba % 2 ^ 64 + vol % 2 ^ 16 * 2 ^ 64

/-- What verification of a sector finds (R316, R321, R322). -/
inductive Verdict where
  | ok (plain : Nat)
  | fail
  /-- The sector's key is absent. -/
  | absent
  deriving DecidableEq, Repr

/-! ### Key slots -/

/-- The secret part of a slot. -/
def State.slot (s : State) (n : Nat) : KeySlot := tget s.cip.slots n {}

/-- Replace it. -/
def State.setSlot (s : State) (n : Nat) (x : KeySlot) : State := { s with cip := { s.cip with slots := tput s.cip.slots n x } }

/-- A slot's key can decrypt: ACTIVE or EXHAUSTED (R322). -/
def State.slotLive (s : State) (n : Nat) : Bool := s.fld (CIP_KS_STAT_STATE n) == 1 || s.fld (CIP_KS_STAT_STATE n) == 2

/-- The block size K of R317. -/
def State.blkK (s : State) : Nat := 2 ^ (min 40 (max 20 (s.fld CIP_CTL_BLK_SHIFT)))

/-- CIP_LIMIT; below 2^32 is taken as 2^32 (R329). -/
def State.cipLimit (s : State) : Nat := max (2 ^ 32) (s.get64 CIP_LIMIT)

/-- The exhaustion point E of R318. -/
def State.cipE (s : State) : Nat := s.cipLimit - 2 ^ 20

/-- Show the head of CIP_HWM_REQ's FIFO. -/
def State.syncHwmReq (s : State) : State := match s.cip.hwmReq with
  | [] => s.setReg CIP_HWM_REQ 0
  | n :: _ => (s.setFld CIP_HWM_REQ_SLOT n).setFlag CIP_HWM_REQ_VALID true

/-- Ask for a block of counters where the slot needs one (R317). -/
def State.hwmCheck (s : State) (n : Nat) : State :=
  let x := s.slot n
  if s.fld (CIP_KS_STAT_MODE n) = 0 && s.slotLive n && !s.flag (CIP_KS_STAT_REQ n) && decide (x.hwm - x.ctr < s.blkK / 4) && decide (x.hwm < s.cipLimit) then
    (({ s with cip := { s.cip with hwmReq := if s.cip.hwmReq.contains n then s.cip.hwmReq else s.cip.hwmReq ++ [n] } }.setFlag (CIP_KS_STAT_REQ n) true).bump
      CNT_CIP_HWM_REQUESTS).syncHwmReq
  else s

/-- LOW is set once E − CTR < 2^WARN_SHIFT; setting it is a health event (R318). -/
def State.lowCheck (s : State) (n : Nat) : State :=
  if s.fld (CIP_KS_STAT_MODE n) = 0 && s.slotLive n && !s.flag (CIP_KS_STAT_LOW n) && decide (s.cipE - (s.slot n).ctr < 2 ^ (min 63 (max 20 (s.fld CIP_CTL_WARN_SHIFT)))) then
    (s.setFlag (CIP_KS_STAT_LOW n) true).health 4
  else s

/-- Mirror a slot's state, high-water mark and record (R327, R367). -/
def State.mirrorSlot (s : State) (n : Nat) : State :=
  s.metaSend [.keySlot n (s.fld (CIP_KS_STAT_STATE n)) (s.slot n).hwm (s.slot n).record]

/-- What a reservation of counters meets (R317, R318). -/
inductive Reserve where
  | ok | wait | exhausted
  deriving DecidableEq, Repr

/-- Judge a reservation of `n` counters: host-path requests end at E, zero fill at CIP_LIMIT (R317, R318). -/
def State.reserveOk (s : State) (slot n : Nat) (zero : Bool) : Reserve :=
  let x := s.slot slot
  if (if zero then s.cipLimit else s.cipE) < x.ctr + n then .exhausted
  else if x.hwm < x.ctr + n then .wait
  else .ok

/-- Reserve `n` counters. -/
def State.reserve (s : State) (slot n : Nat) : State :=
  let x := s.slot slot
  ((s.setSlot slot { x with ctr := x.ctr + n }).lowCheck slot).hwmCheck slot

/-- Seal one sector of a volume under a slot from a reserved counter (R315, R323). -/
def State.sealSector (s : State) (slot vol vlba ctr plain : Nat) : Nat :=
  let x := s.slot slot
  if s.fld (CIP_KS_STAT_MODE slot) = 1 then Config.xtsEnc x.key (xtsTweak vol vlba) plain % 2 ^ 32768
  else sealGcm x.key ctr x.salt slot (s.fld (CIP_KS_STAT_KCV slot)) vol vlba plain

/-- Verify and decrypt a stored sector (R316, R320, R322, R323). An XTS sector names no slot: it is opened under the slot given. -/
def State.openSector (s : State) (xts : Bool) (slot stored vol vlba : Nat) : Verdict :=
  if xts then
    if s.slotLive slot && s.fld (CIP_KS_STAT_MODE slot) == 1 then .ok (Config.xtsDec (s.slot slot).key (xtsTweak vol vlba) (secData stored) % 2 ^ 32768) else .absent
  else
    let m := secMeta stored
    let n := metaSlot m
    if !s.slotLive n || s.fld (CIP_KS_STAT_KCV n) != metaKcv m then .absent
    else
      let iv := gcmIv (metaSalt m) (metaCtr m)
      if metaVlba m != vlba || metaVol m != vol then .fail
      else if Config.gcmTag (s.slot n).key iv (m / 2 ^ 128) (secData stored) % 2 ^ 128 != metaTag m then .fail
      else .ok ((secData stored ^^^ Config.gcmStream (s.slot n).key iv 4096) % 2 ^ 32768)

/-! ### Loads and zeroizes (R324, R325) -/

/-- MODE of a load record. -/
def recMode (r : Nat) : Nat := r % 256
/-- SALT. -/
def recSalt (r : Nat) : Nat := r / 2 ^ 32 % 2 ^ 32
/-- CTR_BASE. -/
def recBase (r : Nat) : Nat := r / 2 ^ 64 % 2 ^ 64
/-- The wrapped key: 40 octets for GCM, 72 for XTS. -/
def recWkey (r : Nat) : Nat := if recMode r = 1 then r / 2 ^ 128 % 2 ^ 576 else r / 2 ^ 128 % 2 ^ 320
/-- A record with another CTR_BASE (R317). -/
def recWithBase (r b : Nat) : Nat := r - recBase r * 2 ^ 64 + b % 2 ^ 64 * 2 ^ 64

/-- The outcome of the checks of R325 for a load: 0, or the RESULT of CIP_KS_RESULT. -/
def State.loadCheck (s : State) (n r : Nat) : Nat :=
  if s.fld (CIP_KS_STAT_STATE n) != 0 then 3
  else match s.cip.kek with
    | none => 2
    | some kek =>
      if (Config.keyUnwrap kek (if recMode r = 1 then 72 else 40) (recWkey r)).isNone then 1
      else if recMode r = 0 && decide (s.cipE ≤ recBase r) then 4
      else 0

/-- Record the outcome of a load or zeroize. -/
def State.ksResult (s : State) (n r : Nat) : State := (s.setFld CIP_KS_RESULT_RESULT r).setFld CIP_KS_RESULT_SLOT n

/-- Apply a load (R325); the counter starts at `base` (R319). -/
def State.loadSlot (s : State) (n r base : Nat) : State :=
  let c := s.loadCheck n r
  if c != 0 then s.ksResult n c else
  match s.cip.kek.bind (fun kek => Config.keyUnwrap kek (if recMode r = 1 then 72 else 40) (recWkey r)) with
  | none => s.ksResult n 1
  | some key =>
    let kcv := Config.aes256 (key % 2 ^ 256) 0 % 2 ^ 16
    let s1 := s.setSlot n { key := key, salt := recSalt r, ctr := base, hwm := base, record := r }
    let s2 := (((((s1.setFld (CIP_KS_STAT_STATE n) 1).setFld (CIP_KS_STAT_MODE n) (recMode r)).setFlag (CIP_KS_STAT_LOW n) false).setFlag (CIP_KS_STAT_REQ n) false).setFld
      (CIP_KS_STAT_KCV n) kcv)
    (((s2.ksResult n 0).lowCheck n).hwmCheck n).mirrorSlot n

/-- A queued request names the slot. -/
def State.slotQueued (s : State) (n : Nat) : Bool := s.cip.queues.any (fun e => e.2.any (fun q => q.slot == n))

/-- The end of a zeroize: key, SALT, counters and KCV become zeros and the slot is EMPTY (R325). -/
def State.zeroizeEnd (s : State) (n : Nat) : State :=
  ((({ s with cip := { s.cip with slots := tdel s.cip.slots n, hwmReq := s.cip.hwmReq.filter (fun x => x != n) } }.setReg (CIP_KS_STAT n) 0).ksResult n 0).syncHwmReq).mirrorSlot n

/-- Apply a zeroize (R325): the slot refuses new requests, and ends at once where none is queued. On an EMPTY slot it has no effect. -/
def State.zeroizeSlot (s : State) (n : Nat) : State :=
  if !s.slotLive n then s else
  let s1 := (s.setFld (CIP_KS_STAT_STATE n) 3).mirrorSlot n
  if s1.slotQueued n then s1 else s1.zeroizeEnd n

/-- Bind a volume to a slot (R326). -/
def State.bindVol (s : State) (v n : Nat) (en : Bool) : State :=
  ((s.setFld (CIP_VOL_KEY_SLOT v) n).setFlag (CIP_VOL_KEY_EN v) en).metaSend [.keyBind v n en]

/-- Why a write-kind command to a volume is refused with 0xC0: no key (R326), or an EXHAUSTED slot (R318). -/
inductive KeyRefusal where
  | none | noKey | exhausted
  deriving DecidableEq, Repr

/-- Judge a volume's binding for a write-kind command (R318, R326). -/
def State.keyRefusal (s : State) (v : Nat) : KeyRefusal :=
  let n := s.fld (CIP_VOL_KEY_SLOT v)
  let st := s.fld (CIP_KS_STAT_STATE n)
  let xts := match tget? s.red.vols v with
    | some x => (match tget? s.red.sets x.set with
      | some p => p.xts
      | none => false)
    | none => false
  if !s.flag (CIP_VOL_KEY_EN v) || st == 0 || st == 3 || (s.fld (CIP_KS_STAT_MODE n) == 1) != xts then .noKey
  else if st = 2 then .exhausted else .none

end Sys2Proof.Machine
end

