-- ==== Sys2Proof/Machine/ModeBase.lean ====
section
/-! DEFINITION. Changes of mode (R42, R54, R60), and on-chip SRAM errors (R53, R446, R449). -/

namespace Sys2Proof.Machine

/-- No change is pending any more. -/
def State.dropChange (s : State) : State :=
  (({ s with prot := { s.prot with change := none } }.setFlag PROT_CMT_STAT_PENDING false).setFld PROT_CMT_STAT_LEFT 0)

/-- The pending change lapses (R382, R384). -/
def State.lapse (s : State) : State := if s.prot.change.isNone then s else s.dropChange.bump CNT_PROT_LAPSED

/-- Change mode: PREV, CUR and CAUSE (R60); MSI-X vector 5 of PF0 signals a change of CUR (R409). -/
def State.enterMode (s : State) (m cause : Nat) : State :=
  (((s.setFld SYS_MODE_PREV s.mode).setFld SYS_MODE_CUR m).setFld SYS_MODE_CAUSE cause).cond (s.mode != m) (fun t => t.msix0 5)

/-- In a serving mode, CUR follows DEGRADED and CLAMP (R40, R42). -/
def State.syncServing (s : State) : State :=
  if !s.serving then s else
  let m := if s.flag SYS_MODE_DEGRADED then 5 else if s.flag SYS_MODE_CLAMP then 4 else 3
  if m = s.mode then s else s.enterMode m 8

/-- MIDNIGHT begins (R42, R54): a pending NIGHT entry and a pause end with it, the part ceases to mirror, and a pending change lapses (R384). -/
def State.midnight (s : State) (cause : Nat) : State :=
  if s.mode = 0 || s.mode = 7 then s else
  let s1 := { s with sys := { s.sys with midnightFromDawn := s.mode == 1 }, nzl := { s.nzl with pause := .none, leaving := false } }
  (((s1.enterMode 7 cause).setFlag SYS_MODE_NIGHT_PEND false).setFlag SYS_MODE_PARTNER false).lapse

/-- An error in an on-chip SRAM unit is recorded (R446, R452). -/
def State.sramError (s : State) (unit : Nat) (ue : Bool) : State :=
  if !s.powered then s else
  let s1 := (((s.setFld MON_SRAM_LAST_UNIT unit).setFlag MON_SRAM_LAST_UE ue).setFlag MON_SRAM_LAST_VALID true)
  if !ue then s1.health 0 else if 1 ≤ unit && unit ≤ 9 then s1 else s1.health 1

/-- An uncorrectable error in a critical SRAM enters MIDNIGHT, with the unit of the first error (R53, R62, R449). -/
def State.criticalUe (s : State) (unit : Nat) : State :=
  if s.mode = 0 || s.mode = 7 || s.sys.hold != .none then s else
  let s1 := s.sramError unit true
  let s2 := if s1.flag SYS_MIDNIGHT_CAUSE_SRAM_UE then s1 else s1.setFld SYS_MIDNIGHT_CAUSE_UNIT unit
  (s2.setFlag SYS_MIDNIGHT_CAUSE_SRAM_UE true).midnight 11

end Sys2Proof.Machine
end

