-- ==== Sys2Proof/Machine/Prot.lean ====
section
/-! DEFINITION. The protection setup: change records, staging, confirming, cancelling and lapsing, the sealed copies, the access-list read and the
JTAG window (R373–R390). -/

namespace Sys2Proof.Machine

/-! ### Change records (R379, R380) -/

/-- An octet of item `i`. -/
def itemB (r : List (BitVec 8)) (i k : Nat) : Nat := octet r (64 + 128 * i + k)
/-- Octets of item `i`, least significant first. -/
def itemN (r : List (BitVec 8)) (i k n : Nat) : Nat := leNat r (64 + 128 * i + k) n
/-- TYPE of item `i`. -/
def itemType (r : List (BitVec 8)) (i : Nat) : Nat := itemB r i 0
/-- COUNT. -/
def recCount (r : List (BitVec 8)) : Nat := leNat r 6 2

/-- The octets of an item that its type lists. -/
def listedOctets (t : Nat) : List Nat :=
  match t with
  | 1 => [0, 1, 2]
  | 2 => [0, 2, 3, 4, 8, 9, 10, 11, 12, 13, 14, 15, 16, 17, 18, 19, 20, 21, 22, 23, 24]
  | 3 => [0, 2, 3, 8, 9, 10, 11, 12, 13, 14, 15]
  | 4 => [0, 8, 9, 10, 11, 12, 13, 14, 15]
  | 5 => [0, 8, 9, 10, 11, 12, 13, 14, 15]
  | 6 => [0, 2, 3] ++ (List.range 96).map (fun k => 32 + k)
  | 7 => [0, 2, 3]
  | 8 => [0, 2, 3, 4, 5, 6]
  | 9 => [0, 2, 3]
  | 10 => [0, 1]
  | _ => [0]

/-- A load record is well formed: MODE 0 or 1, its zero fields zero (R324). -/
def loadRecOk (r : Nat) : Bool :=
  recMode r ≤ 1 && r / 2 ^ 8 % 2 ^ 24 == 0 && r / 2 ^ 704 == 0
    && (if recMode r = 1 then recSalt r == 0 && recBase r == 0 else r / 2 ^ 448 % 2 ^ 256 == 0)

/-- Item `i` has a known TYPE, zero reserved octets, and fields in range (R380, R381 order 2). -/
def itemFormOk (r : List (BitVec 8)) (i : Nat) : Bool :=
  let t := itemType r i
  decide (1 ≤ t ∧ t ≤ 10) && (List.range 128).all (fun k => (listedOctets t).contains k || itemB r i k == 0)
    && (match t with
      | 1 => decide (itemB r i 1 ≤ 70) && decide (itemB r i 2 ≤ 3)
      | 2 => decide (itemN r i 2 2 < 4096) && decide (itemB r i 4 < 4) && decide (itemB r i 24 < 2)
      | 3 => decide (itemN r i 2 2 < 4096)
      | 6 => decide (itemN r i 2 2 < 4096) && loadRecOk (itemN r i 32 96)
      | 7 => decide (itemN r i 2 2 < 4096)
      | 8 => decide (itemN r i 2 2 < 4096) && decide (itemN r i 4 2 < 4096) && decide (itemB r i 6 < 2)
      | _ => true)

/-- What an item changes: two items with the same target are inconsistent (R381 order 4). -/
def itemTarget (r : List (BitVec 8)) (i : Nat) : Nat × Nat × Nat :=
  match itemType r i with
  | 1 => (1, itemB r i 1, 0)
  | 2 => (2, itemN r i 2 2, itemN r i 8 8)
  | 3 => (2, itemN r i 2 2, itemN r i 8 8)
  | 4 => (4, itemN r i 8 8, 0)
  | 5 => (4, itemN r i 8 8, 0)
  | 6 => (6, itemN r i 2 2, 0)
  | 7 => (6, itemN r i 2 2, 0)
  | 8 => (8, itemN r i 2 2, 0)
  | 9 => (9, 0, 0)
  | t => (t, 0, 0)

/-! ### Classes -/

/-- The class of a port code (R373). -/
def State.classCode (s : State) (c : Nat) : Nat := if c < 64 then s.fld (NET_PRIV_CLASS c) else fieldOf (s.reg PROT_PRIV_LOCAL) (2 * (c - 64)) 2

/-- Set the class of a port code; a network port that becomes NONE resets the associations that came in on it (R375). -/
def State.setClass (s : State) (c v : Nat) : State :=
  if c < 64 then
    let s1 := s.setFld (NET_PRIV_CLASS c) v
    if v = 0 && s.fld (NET_PRIV_CLASS c) != 0 then (s1.cmdq.assocs.filter (fun e => e.2.port == c && !e.2.isLocal)).foldl (fun t e => t.assocReset e.1) s1 else s1
  else s.setReg PROT_PRIV_LOCAL (withField (s.reg PROT_PRIV_LOCAL) (2 * (c - 64)) 2 v)

/-- The steward list after the items of a record. -/
def stewardsAfter (l : List Nat) (r : List (BitVec 8)) : List Nat :=
  (List.range (recCount r)).foldl (fun m i => match itemType r i with
    | 4 => if m.contains (itemN r i 8 8) then m else m ++ [itemN r i 8 8]
    | 5 => m.filter (fun x => x != itemN r i 8 8)
    | _ => m) l

/-- The class of a port code after the items of a record. -/
def State.classAfter (s : State) (r : List (BitVec 8)) (c : Nat) : Nat :=
  (List.range (recCount r)).foldl (fun v i => match itemType r i with
    | 1 => if itemB r i 1 = c then itemB r i 2 else v
    | 10 => if c = 71 then (if itemB r i 1 = 0 then 0 else 3) else v
    | _ => v) (s.classCode c)

/-- Steward ports that remain: network ports count only with a steward list that is not empty (R381). -/
def State.stewardPorts (s : State) (r : List (BitVec 8)) : Nat :=
  let net := if (stewardsAfter s.prot.stewards r).isEmpty then 0 else ((List.range 64).filter (fun c => s.classAfter r c == 3)).length
  net + ([68, 69, 70, 71].filter (fun c => s.classAfter r c == 3)).length

/-- Access-list entries that the record adds beyond those in place. -/
def State.aclAfter (s : State) (r : List (BitVec 8)) : Nat :=
  (List.range (recCount r)).foldl (fun n i =>
    let here := s.prot.acl.any (fun e => e.2.vol == itemN r i 2 2 && e.2.digest == itemN r i 8 8)
    match itemType r i with
    | 2 => if here then n else n + 1
    | 3 => if here then n - 1 else n
    | _ => n) s.prot.acl.length

/-- The checks of order 4 in R381: none passes, or the failing item (0 where the failure names none). -/
def State.itemsFail (s : State) (r : List (BitVec 8)) : Option Nat :=
  let n := recCount r
  let bad (i : Nat) : Bool :=
    (List.range i).any (fun j => itemTarget r j == itemTarget r i)
      || (itemType r i == 1 && decide (64 ≤ itemB r i 1 ∧ itemB r i 1 ≤ 67) && itemB r i 2 == 3)
      || (itemType r i == 6 && s.loadCheck (itemN r i 2 2) (itemN r i 32 96) != 0)
  match (List.range n).find? bad with
  | some i => some i
  | none => if s.cip.kek.isNone || s.stewardPorts r < 2 || 16384 < s.aclAfter r || 8 < (stewardsAfter s.prot.stewards r).length then some 0 else none

/-- The mode accepts a stage: MORNING, NOON, AFTERNOON or DUSK (R381). -/
def State.stageMode (s : State) : Bool := s.mode == 2 || s.serving

/-- The record checks of R381, orders 1–4: RESULT and the failing item; 0 where all pass. -/
def State.stageCheck (s : State) (r : List (BitVec 8)) : Nat × Nat :=
  let n := recCount r
  if !s.stageMode then (1, 0)
  else if s.prot.change.isSome then (2, 0)
  else if leNat r 0 4 != 0x47484350 || leNat r 4 2 != 1 || n = 0 || 31 < n || r.length < 64 + 128 * n || (List.range 48).any (fun k => octet r (16 + k) != 0) then (3, 0)
  else match (List.range n).find? (fun i => !itemFormOk r i) with
    | some i => (3, i)
    | none =>
      if leNat r 8 8 != s.prot.gen then (4, 0)
      else match s.itemsFail r with
        | some i => (5, i)
        | none => (0, 0)

/-- The digest of a record: the first 32 bits of its SHA-384 (R381). -/
def recDigest (r : List (BitVec 8)) : Nat :=
  beNat (toLe 4 (Config.sha384 r.length (leNat r 0 r.length))) 0 4

/-- Show RESULT and ITEM, and count by RESULT (R390). -/
def State.cmtResult (s : State) (r i : Nat) : State :=
  let s1 := (s.setFld PROT_CMT_STAT_RESULT r).setFld PROT_CMT_STAT_ITEM i
  if 1 ≤ r && r ≤ 6 then s1.bump CNT_PROT_REFUSED else if r = 7 then s1.bump CNT_PROT_DIGEST_FAIL else if r = 8 then s1.bump CNT_PROT_PRIV_REFUSED else s1

/-- Stage a record that arrives on a steward port (R381). Answers RESULT and the failing item. -/
def State.stage (s : State) (r0 : List (BitVec 8)) (port : Nat) : State × Nat × Nat :=
  let r := r0.take (64 + 128 * recCount r0)
  match s.stageCheck r with
  | (0, _) =>
    let d := recDigest r
    let s1 := { s with prot := { s.prot with change := some { record := r, stager := port, digest := d, start := s.clock.nowNs } } }
    let s2 := ((s1.setReg PROT_CMT_DIGEST (BitVec.ofNat 32 d)).setFld PROT_CMT_STAT_STAGER port).setFlag PROT_CMT_STAT_PENDING true
    (((s2.setFld PROT_CMT_STAT_LEFT 120).cmtResult 0 0).bump CNT_PROT_STAGED, 0, 0)
  | (e, i) => (s.cmtResult e i, e, i)

/-! ### The sealed setup (R377) -/

/-- The protection setup in force. -/
def State.setupNow (s : State) : Setup :=
  { gen := s.prot.gen, classes := (List.range 71).map (fun c => (c, s.classCode c)), acl := s.prot.acl, stewards := s.prot.stewards, records := s.prot.records,
    binds := (s.regs.filter (fun e => decide (0xB20000 ≤ e.1 ∧ e.1 < 0xB24000))).map (fun e => ((e.1 - 0xB20000) / 4, (fieldOf e.2 0 12, fieldOf e.2 12 1 == 1))),
    minSvn := s.fld PROT_BOOT_POLICY_MIN_SVN }

/-- Seal the setup into the copy that is not the one with the higher GEN. -/
def State.sealSetup (s : State) : State :=
  let x := s.setupNow
  let older := match s.prot.copy0, s.prot.copy1 with
    | none, _ => 0
    | some _, none => 1
    | some a, some b => if b.gen < a.gen then 1 else 0
  if older = 0 then { s with prot := { s.prot with copy0 := some x } } else { s with prot := { s.prot with copy1 := some x } }

/-- The valid copy with the higher GEN (R377). -/
def State.bestCopy (s : State) : Option Setup := match s.prot.copy0, s.prot.copy1 with
  | some a, some b => some (if a.gen < b.gen then b else a)
  | some a, none => some a
  | none, x => x

/-- Send the setup to a present partner as CFG (R367, R383). -/
def State.sendSetup (s : State) : State := if s.partnered then s.nzlSend (.cfg [.setup s.setupNow, .commitEnd s.prot.gen]) else s

/-! ### Applying a change (R383) -/

/-- Replace or add an access-list entry, at the lowest free index. -/
def State.aclSet (s : State) (e : AclEntry) : State :=
  match s.prot.acl.find? (fun x => x.2.vol == e.vol && x.2.digest == e.digest) with
  | some (i, _) => { s with prot := { s.prot with acl := tput s.prot.acl i e } }
  | none =>
    let i := s.prot.acl.foldl (fun n x => if x.1 = n then n + 1 else n) 0
    { s with prot := { s.prot with acl := tput s.prot.acl i e } }

/-- One item that changes with the others in one cycle: classes, access list, steward list, and the boot policy and JTAG state. -/
def State.applySetupItem (s : State) (r : List (BitVec 8)) (i : Nat) : State :=
  match itemType r i with
  | 1 => s.setClass (itemB r i 1) (itemB r i 2)
  | 2 => s.aclSet { vol := itemN r i 2 2, digest := itemN r i 8 8, rd := bitOf (itemB r i 4) 0, wr := bitOf (itemB r i 4) 1, ports := itemN r i 16 8, pf1 := bitOf (itemB r i 24) 0 }
  | 3 => { s with prot := { s.prot with acl := s.prot.acl.filter (fun e => !(e.2.vol == itemN r i 2 2 && e.2.digest == itemN r i 8 8)) } }
  | 4 => { s with prot := { s.prot with stewards := if s.prot.stewards.contains (itemN r i 8 8) then s.prot.stewards else s.prot.stewards ++ [itemN r i 8 8] } }
  | 5 => { s with prot := { s.prot with stewards := s.prot.stewards.filter (fun x => x != itemN r i 8 8) } }
  | 9 => s.setFld PROT_BOOT_POLICY_MIN_SVN (itemN r i 2 2)
  | 10 => (s.setClass 71 (if itemB r i 1 = 0 then 0 else 3)).setFld PROT_STAT_JTAG_HOURS (itemB r i 1)
  | _ => s

/-- One key item, in record order (R325, R326). -/
def State.applyKeyItem (s : State) (r : List (BitVec 8)) (i : Nat) : State :=
  match itemType r i with
  | 6 => let x := itemN r i 32 96
         { s.loadSlot (itemN r i 2 2) x (recBase x) with prot := { s.prot with records := tput s.prot.records (itemN r i 2 2) x } }
  | 7 => { s.zeroizeSlot (itemN r i 2 2) with prot := { s.prot with records := tdel s.prot.records (itemN r i 2 2) } }
  | 8 => s.bindVol (itemN r i 2 2) (itemN r i 4 2) (itemB r i 6 == 1)
  | _ => s

/-- Apply the pending change: the first confirmed commit provisions the part (R378, R383). -/
def State.applyChange (s : State) (r : List (BitVec 8)) : State :=
  let n := recCount r
  let s1 := s.each (List.range n) (fun t i => t.applySetupItem r i)
  let s2 := s1.each (List.range n) (fun t i => t.applyKeyItem r i)
  let g := (s2.prot.gen + 1) % 2 ^ 64
  let s3 := (({ s2 with prot := { s2.prot with gen := g } }.setFld PROT_GEN_L_GEN g).setFlag PROT_STAT_PROV true).dropChange
  ((s3.sealSetup).sendSetup).bump CNT_PROT_CONFIRMED

/-- Confirm the pending change from a port (R382, R383). Answers RESULT and the failing item. -/
def State.confirm (s : State) (quote port : Nat) (steward : Bool) : State × Nat × Nat :=
  match s.prot.change with
  | none => (s.cmtResult 2 0, 2, 0)
  | some c =>
    if !steward || port = c.stager then (s.cmtResult 6 0, 6, 0)
    else if quote != c.digest then
      if 2 ≤ c.wrong then ((s.cmtResult 7 0).lapse, 7, 0)
      else ({ s with prot := { s.prot with change := some { c with wrong := c.wrong + 1 } } }.cmtResult 7 0, 7, 0)
    else match s.itemsFail c.record with
      | some i => ((s.cmtResult 5 i).dropChange, 5, i)
      | none => ((s.applyChange c.record).cmtResult 0 0, 0, 0)

/-! ### The commit registers (R381, R382, R390) -/

/-- A write of GO to PROT_CMT_CMD: the management cores may not, a class below STEWARD gets RESULT 8 (R374, R390). -/
def State.cmtCmd (s : State) (req : Requester) (op : Nat) (f : State → State) : State :=
  if !s.reachable req then s
  else if s.mode = 7 then s.malformed
  else match req with
    | .mc _ => s.malformed
    | .pf1 => s
    | _ => if s.classOf req < 3 then s.cmtResult 8 0 else f (s.setFld PROT_CMT_CMD_OP op)

/-- The octets of PROT_CMT_BUF, with those that COUNT says (R390). -/
def State.bufOctets (s : State) : List (BitVec 8) :=
  let w (k : Nat) : List (BitVec 8) := toLe 4 (tget s.prot.buf k 0).toNat
  let n := leNat (w 0 ++ w 1) 6 2
  (List.range (cdiv (64 + 128 * (if n ≤ 31 then n else 0)) 4)).flatMap w

/-- CMT_STAGE (R381). -/
def execCmtStage (req : Requester) (s : State) : Host.Outcome State Fault Refusal :=
  .next (s.cmtCmd req 1 (fun t => (t.stage t.bufOctets (reqCode req)).1))

/-- CMT_CONFIRM (R382). -/
def execCmtConfirm (req : Requester) (s : State) : Host.Outcome State Fault Refusal :=
  .next (s.cmtCmd req 2 (fun t => (t.confirm t.prot.quote (reqCode req) true).1))

/-- CANCEL from a port: from the stager's own port it discards the change (R382). -/
def State.cancelBy (s : State) (port : Nat) : State := match s.prot.change with
  | none => s.cmtResult 2 0
  | some c => if c.stager = port then (s.dropChange.bump CNT_PROT_CANCELLED).cmtResult 0 0 else s.cmtResult 6 0

/-- CMT_CANCEL (R382). -/
def execCmtCancel (req : Requester) (s : State) : Host.Outcome State Fault Refusal :=
  .next (s.cmtCmd req 3 (fun t => t.cancelBy (reqCode req)))

/-- COMMIT_WINDOW_LAPSE (R381, R384). -/
def execCommitWindowLapse (s : State) : Host.Outcome State Fault Refusal := .next (s.cond s.powered State.lapse)

/-- Load one access-list entry into the data registers (R390). -/
def State.aclRead (s : State) (i : Nat) : State :=
  let s0 := ((s.setFld PROT_ACL_RD_INDEX i).setReg PROT_ACL_DATA0 0)
  match tget? s0.prot.acl i with
  | none => (s0.set64 PROT_ACL_DATA1 0).set64 PROT_ACL_DATA3 0
  | some e =>
    let s1 := (((s0.setFld PROT_ACL_DATA0_VOLUME e.vol).setFlag PROT_ACL_DATA0_RD e.rd).setFlag PROT_ACL_DATA0_WR e.wr).setFlag PROT_ACL_DATA0_VALID true
    ((s1.setFlag PROT_ACL_DATA0_PF1 e.pf1).set64 PROT_ACL_DATA1 e.digest).set64 PROT_ACL_DATA3 e.ports

/-- ACL_READ (R390). -/
def execAclRead (req : Requester) (index : Fin 16384) (s : State) : Host.Outcome State Fault Refusal :=
  .next (s.accessWrite req PROT_ACL_RD (fun t => t.aclRead index))

/-- JTAG_CLOSE (R388). -/
def execJtagClose (s : State) : Host.Outcome State Fault Refusal :=
  .next (s.cond (s.fld PROT_STAT_JTAG_HOURS != 0) (fun t => (t.setClass 71 0).setFld PROT_STAT_JTAG_HOURS 0))

end Sys2Proof.Machine
end

