-- ==== Sys2Proof/Machine/Rdma.lean ====
section
/-! DEFINITION. The RDMA transport: queue-pair contexts, requests received, acknowledgements and NAKs, requests sent, congestion, and
flash-backed windows (R136–R168, R476). -/

namespace Sys2Proof.Machine

/-! ### Contexts as words (R138) -/

/-- The 16 words of a context. -/
def Qp.words (q : Qp) : List Nat :=
  [ q.state + q.pmtu * 2 ^ 4 + q.t * 2 ^ 7 + q.retryCnt * 2 ^ 12 + q.rnrRetry * 2 ^ 15 + q.minRnr * 2 ^ 18 + q.peer.toNat * 2 ^ 23 + q.maxRd * 2 ^ 24 + q.maxDestRd * 2 ^ 28,
    q.kind + q.assoc * 2 ^ 3 + q.gen * 2 ^ 13 + q.port * 2 ^ 23 + q.lag.toNat * 2 ^ 30,
    q.destQpn + q.dscp * 2 ^ 24 + q.ect.toNat * 2 ^ 30,
    q.sqPsn,
    q.unaPsn + q.expStep * 2 ^ 24 + q.retryLeft * 2 ^ 27,
    q.epsn + q.rnrLeft * 2 ^ 24,
    q.msn,
    q.pKey + q.sport * 2 ^ 16,
    q.rateBase,
    q.vid + q.pcp * 2 ^ 12 + q.tagged.toNat * 2 ^ 15 + q.ipv6.toNat * 2 ^ 16 + q.srcIdx * 2 ^ 17,
    q.destMac % 2 ^ 32, q.destMac / 2 ^ 32,
    q.destIp / 2 ^ 96 % 2 ^ 32, q.destIp / 2 ^ 64 % 2 ^ 32, q.destIp / 2 ^ 32 % 2 ^ 32, q.destIp % 2 ^ 32 ]

/-- Bits of a data-register word. -/
def State.qd (s : State) (k lo wd : Nat) : Nat := fieldOf (s.reg (RDM_QPC_DATA k)) lo wd

/-- The context with the fields that RESET to INIT takes from the data registers (R140). -/
def State.loadQp (s : State) (q : Qp) : Qp :=
  { q with
    pmtu := s.qd 0 4 3, t := s.qd 0 7 5, retryCnt := s.qd 0 12 3, rnrRetry := s.qd 0 15 3, minRnr := s.qd 0 18 5, peer := s.qd 0 23 1 == 1,
    maxRd := s.qd 0 24 4, maxDestRd := s.qd 0 28 4, kind := s.qd 1 0 3, assoc := s.qd 1 3 10, gen := s.qd 1 13 10, port := s.qd 1 23 7,
    lag := s.qd 1 30 1 == 1, destQpn := s.qd 2 0 24, dscp := s.qd 2 24 6, ect := s.qd 2 30 1 == 1, pKey := s.qd 7 0 16, sport := s.qd 7 16 16,
    rateBase := s.qd 8 0 20, vid := s.qd 9 0 12, pcp := s.qd 9 12 3, tagged := s.qd 9 15 1 == 1, ipv6 := s.qd 9 16 1 == 1, srcIdx := s.qd 9 17 6,
    destMac := s.qd 10 0 32 + s.qd 11 0 16 * 2 ^ 32,
    destIp := s.qd 12 0 32 * 2 ^ 96 + s.qd 13 0 32 * 2 ^ 64 + s.qd 14 0 32 * 2 ^ 32 + s.qd 15 0 32 }

/-- The fields of a context are in range (R140). -/
def State.qpFieldsOk (s : State) (q : Qp) : Bool :=
  decide (3 ≤ q.pmtu ∧ q.pmtu ≤ 5) && decide (1 ≤ q.kind ∧ q.kind ≤ 3)
    && (if q.lag then decide (q.port ≤ 31) else decide (q.port < 64) && s.pageActive q.port && s.flag (NET_PORT_CFG_EN q.port))
    && s.flag (RDM_SRCADDR_MAC_H_VALID q.srcIdx) && s.flag (RDM_SRCADDR_MAC_H_IPV6 q.srcIdx) == q.ipv6

/-- Finish a context command. -/
def State.qpcResult (s : State) (r : Nat) : State := s.setFld RDM_QPC_STAT_RESULT r

/-- MODIFY (R139, R140). -/
def State.qpcModify (s : State) (i st : Nat) : State :=
  let q := s.qp i
  match q.state, st with
  | 0, 1 => let q' := s.loadQp q
            if s.qpFieldsOk q' then (s.setQp i { q' with state := 1 }).qpcResult 0 else s.qpcResult 3
  | 1, 2 => let e := s.qd 5 0 24
            (s.setQp i { q with state := 2, epsn := e, msn := 0, ackedTo := e }).qpcResult 0
  | 2, 3 => let p := s.qd 3 0 24
            (s.setQp i { q with state := 3, sqPsn := p, unaPsn := p, retryLeft := q.retryCnt, rnrLeft := q.rnrRetry, expStep := 0 }).qpcResult 0
  | 3, 3 => (s.setQp i { q with t := s.qd 0 7 5, retryCnt := s.qd 0 12 3, rnrRetry := s.qd 0 15 3, dscp := s.qd 2 24 6, ect := s.qd 2 30 1 == 1, rateBase := s.qd 8 0 20 }).qpcResult 0
  | 4, 0 => if q.flushing then s.qpcResult 4 else (s.setQp i q.cleared).qpcResult 0
  | 4, _ => s.qpcResult 1
  | _, 4 => (s.qpError i 9).qpcResult 0
  | _, _ => s.qpcResult 1

/-- A write of RDM_QPC_CMD with GO. -/
def State.qpcCmd (s : State) (op st i : Nat) (f : State → State) : State :=
  f (((s.setFld RDM_QPC_CMD_OP op).setFld RDM_QPC_CMD_TO st).setFld RDM_QPC_CMD_INDEX i)

/-- QPC_MODIFY (R140). -/
def execQpcModify (req : Requester) (target : Fin 8) (index : Fin 16384) (s : State) : Host.Outcome State Fault Refusal :=
  .next (s.accessWrite req RDM_QPC_CMD (fun t => if t.flag RDM_QPC_STAT_BUSY then t.malformed else t.qpcCmd 2 target index (fun u => u.qpcModify index target)))

/-- READ (R168): the context's words into the data registers. -/
def State.qpcRead (s : State) (i : Nat) : State :=
  (s.each (s.qp i).words.zipIdx (fun t e => t.setReg (RDM_QPC_DATA e.2) (BitVec.ofNat 32 e.1))).qpcResult 0

/-- QPC_READ (R168). -/
def execQpcRead (req : Requester) (index : Fin 16384) (s : State) : Host.Outcome State Fault Refusal :=
  .next (s.accessWrite req RDM_QPC_CMD (fun t => if t.flag RDM_QPC_STAT_BUSY then t.malformed else t.qpcCmd 1 0 index (fun u => u.qpcRead index)))

/-- QP_FLUSH_COMPLETE (R141). -/
def execQpFlushComplete (qp : Fin 16384) (s : State) : Host.Outcome State Fault Refusal :=
  .next (s.cond (s.powered && (s.qp qp).state == 4) (fun t => t.modQp qp (fun q => { q with flushing := false })))

/-! ### Acknowledgements (R147, R155) -/

/-- The AETH credit code of a number of messages: the largest of the InfiniBand encoding not above it. -/
def creditCode (n : Nat) : Nat :=
  let tab := [0, 1, 2, 3, 4, 6, 8, 12, 16, 24, 32, 48, 64, 96, 128, 192, 256, 384, 512, 768, 1024, 1536, 2048, 3072, 4096, 6144, 8192, 12288, 16384, 24576, 32768]
  (tab.filter (fun v => decide (v ≤ n))).length - 1

/-- The messages a credit code stands for. -/
def creditOf (c : Nat) : Nat :=
  [0, 1, 2, 3, 4, 6, 8, 12, 16, 24, 32, 48, 64, 96, 128, 192, 256, 384, 512, 768, 1024, 1536, 2048, 3072, 4096, 6144, 8192, 12288, 16384, 24576, 32768].getD c 0

/-- The AETH syndrome of an ACK: no credit, or the device-wide free staging credit on a PEER QP (R147, R155). -/
def State.ackSyndrome (s : State) (q : Qp) : Nat :=
  if q.peer then creditCode ((s.stgWriteFree * 4096) / (pmtuBytes q.pmtu * 16)) else 0x1F

/-- PSN distance modulo 2^24. -/
def psnDist (a b : Nat) : Nat := (a + 2 ^ 24 - b % 2 ^ 24) % 2 ^ 24

/-- The first PSN that may not be acknowledged yet: EPSN, or the oldest held WRITE or unserved READ (R147, R162). -/
def Qp.ackable (q : Qp) : Nat :=
  let ds := (q.epsn :: q.ackHeld ++ (q.reads.filter (fun r => !r.done)).map (fun r => r.psn)).map (fun p => psnDist p q.ackedTo)
  (q.ackedTo + (ds.filter (fun d => decide (d < 2 ^ 23))).foldl min (psnDist q.epsn q.ackedTo)) % 2 ^ 24

/-- Build an ACK for every PSN that may be acknowledged; where some are held, an ACK stays wanted (R147). -/
def State.sendAck (s : State) (i : Nat) : State :=
  let q := s.qp i
  if q.state != 2 && q.state != 3 then s else
  let a := q.ackable
  if a = q.ackedTo then s.setQp i { q with ackWant := decide (a ≠ q.epsn), ackTimer := false, unacked := 0 } else
  let q' := { q with ackedTo := a, unacked := 0, ackTimer := false, ackWant := decide (a ≠ q.epsn) }
  (s.setQp i q').qpFrame i 4 0 (psnDist a 1) (.ack (s.ackSyndrome q) q.msn) none

/-- An ACK that was held back leaves as far as it may (R147, R162). -/
def State.ackRetry (s : State) (i : Nat) : State := if (s.qp i).ackWant then s.sendAck i else s

/-- The ACK of a duplicate carries the current acknowledged PSN (R145). -/
def State.ackAgain (s : State) (i : Nat) : State :=
  let q := s.qp i
  s.qpFrame i 4 0 (psnDist q.ackedTo 1) (.ack (s.ackSyndrome q) q.msn) none

/-- Send a NAK (R148): later requests are discarded until its PSN arrives again; 0x61–0x63 move the QP to ERROR. -/
def State.sendNak (s : State) (i syndrome psn : Nat) : State :=
  let cnt := if syndrome = 0x60 then CNT_RDM_NAK_SEQ_TX else if syndrome = 0x61 then CNT_RDM_NAK_INV_TX
    else if syndrome = 0x62 then CNT_RDM_NAK_ACC_TX else if syndrome = 0x63 then CNT_RDM_NAK_OP_TX else CNT_RDM_NAK_RNR_TX
  let s1 := (s.bump cnt).qpFrame i 4 0 psn (.ack syndrome (s.qp i).msn) none
  if 0x61 ≤ syndrome && syndrome ≤ 0x63 then s1.qpError i (syndrome - 0x61 + 6)
  else s1.modQp i (fun q => { q with nakWait := some psn })

/-- Send a CNP where the QP has sent none for CNP_INT µs (R156). -/
def State.sendCnp (s : State) (i : Nat) : State :=
  let q := s.qp i
  let now := s.clock.nowNs
  let ok := match q.lastCnp with
    | none => true
    | some t => decide (t + 1000 * max 1 (s.fld RDM_CTL_CNP_INT) ≤ now)
  if s.flag RDM_CTL_NP_EN && (q.state == 2 || q.state == 3) && ok then
    ((s.setQp i { q with lastCnp := some now }).bump CNT_RDM_CNP_TX).qpFrame i 16 0 0 .cnp none
  else s

/-! ### Windows: checks and requests (R158–R165) -/

/-- The window check of a request: 0, or the syndrome of its NAK (R149 check 6, R159, R164). A REVOKING window is named by its rkey. -/
def State.winCheck (s : State) (q : Qp) (p : RoPkt) (isRead : Bool) : Nat :=
  let w := s.win (p.rkey % 4096)
  if w.state != 1 || w.tag != p.rkey / 4096 then 0x62
  else if !s.aclOk q.assoc p.port w.vol (if isRead then 0 else 1) then 0x62
  else if !(if isRead then w.rdEn else w.wrEn) then 0x62
  else if p.va < w.baseVa || w.baseVa + w.length < p.va + p.dmaLen || 2 ^ 64 < p.va + p.dmaLen then 0x62
  else if !isRead && (p.va % 4096 != 0 || p.dmaLen % 4096 != 0) then 0x61
  else 0

/-- The rkey names a window that is REVOKING (R165). -/
def State.revokeHit (s : State) (rkey : Nat) : Bool := (s.win (rkey % 4096)).state == 2 && (s.win (rkey % 4096)).tag == rkey / 4096

/-- NAK a window request; on a REVOKING window it is counted (R165). -/
def State.winNak (s : State) (i syndrome psn rkey : Nat) : State :=
  let s1 := if syndrome = 0x62 && s.revokeHit rkey then
      (s.setWin (rkey % 4096) { s.win (rkey % 4096) with naks := (s.win (rkey % 4096)).naks + 1 }).bump CNT_RDM_WIN_REVOKE_NAK
    else s
  s1.sendNak i syndrome psn

/-- A request passes its rkey check: it is in flight (R160). -/
def State.winEnter (s : State) (i w : Nat) : State :=
  (s.setWin w { s.win w with inFlight := (s.win w).inFlight + 1 }).modQp i (fun q => { q with inWin := q.inWin ++ [w] })

/-- Remove one element from a list. -/
def dropOne (l : List Nat) (x : Nat) : List Nat := l.erase x

/-- Place a window request if its shards have room, and dispatch it; otherwise it waits for an arbiter pass (R207, R211). -/
def State.placeWin (s : State) (h : Nat) : State :=
  match s.cmd? h with
  | none => s
  | some c =>
    if s.placeable h c && !(s.pushable c.cluster).isEmpty then ((s.setCmd h { c with state := .placed }).placeLocks h c).dispatch c.cluster h else s

/-- A window READ or WRITE becomes a request of the stripe engines (R159, R164, R186). -/
def State.newWinReq (s : State) (i : Nat) (kind : CmdKind) (rkey va len data psn stamp port : Nat) : State × Nat :=
  let w := s.win (rkey % 4096)
  let off := w.volLba * 4096 + (va - w.baseVa)
  let first := off / 4096
  let h := s.cmdq.winNext
  let c : Cmd := { kind := kind, assoc := (s.qp i).assoc, data := data, vol := w.vol, ranges := [(first, (off + len - 1) / 4096 - first + 1)], bytes := (off, len), stamp := stamp, port := port, cluster := s.homeOf w.vol first, qpn := i, psn := psn, win := rkey % 4096 }
  let s1 := { s with cmdq := { s.cmdq with winNext := h + 1, cmds := tput s.cmdq.cmds h c } }
  ((s1.modQp i (fun q => { q with inWin := dropOne q.inWin (rkey % 4096) })).placeWin h, h)

/-! ### Responses in PSN order (R162) -/

/-- The response packets of a READ record. -/
def readPackets (pm len : Nat) : Nat := max 1 (cdiv len pm)

/-- Hand the response frames of a READ to the egress port; the last carries the request's handle (R28, R136). -/
def State.sendResponses (s : State) (i : Nat) (r : ReadRec) : State :=
  let pm := pmtuBytes (s.qp i).pmtu
  let n := readPackets pm r.len
  let dat := match r.req.bind s.cmd? with
    | some c => c.data
    | none => 0
  s.each (List.range n) (fun t k =>
    let ext := if k = 0 || k + 1 = n then 4 else 0
    let len := min pm (r.len - k * pm)
    t.qpFrame i ext len ((r.psn + k) % 2 ^ 24) (.readResp len (dat / 2 ^ (8 * (k * pm)) % 2 ^ (8 * len))) (if k + 1 = n then r.req else none))

/-- A READ record's data is ready to leave. -/
def State.readReady (s : State) (r : ReadRec) : Bool := match r.req with
  | none => true
  | some h => match s.cmd? h with
    | some c => c.state == .done && !c.dropped
    | none => false

/-- Send the responses that may leave, oldest READ first, up to the first that is not ready or was dropped (R162). -/
def State.respondGo (s : State) (i : Nat) : Nat → State
  | 0 => s
  | fuel + 1 =>
    match (s.qp i).reads.find? (fun r => !r.done) with
    | none => s
    | some r =>
      if r.dropped || !s.readReady r then s else
      let s1 := match r.req with
        | some h => (s.sendResponses i r).modCmd h (fun c => { c with sent := true })
        | none => s.sendResponses i r
      (s1.modQp i (fun q => { q with reads := q.reads.map (fun x => if x.psn = r.psn && !x.done then { x with done := true, started := true } else x) })).respondGo i fuel

/-- Responses that may leave, then the ACK that waited for them. -/
def State.respond (s : State) (i : Nat) : State := (s.respondGo i 17).ackRetry i

/-! ### Requests received (R142–R149) -/

/-- PSNs a request consumes (R142). -/
def Qp.psns (q : Qp) (p : RoPkt) : Nat := if p.opcode = 0x0C then readPackets (pmtuBytes q.pmtu) p.dmaLen else 1

/-- The queue that a QP's capsules reach: an admin or I/O capsule queue on it. -/
def State.capsuleQueue (s : State) (i : Nat) : Option (Nat × Queue) :=
  s.cmdq.queues.find? (fun e => decide (e.2.type ≤ 1) && e.2.qpn % 16384 == i % 16384)

/-- Slots of a submission queue in use: entries waiting, and slots held for messages being received (R149). -/
def Queue.occupied (q : Queue) : Nat := q.inbox.length + q.waiting.length + q.slotsHeld

/-- A capsule has arrived whole (R146): it takes its slot, or waits for firmware where the QP has no queue yet. -/
def State.acceptCapsule (s : State) (i data stamp port : Nat) : State :=
  let c : Capsule := { sqe := data % 2 ^ 512, data := data / 2 ^ 512, stamp := stamp, port := port }
  let s1 := s.bump CNT_CMDQ_CAPSULES
  match s1.capsuleQueue i with
  | none => { s1 with cmdq := { s1.cmdq with connects := s1.cmdq.connects ++ [(i % 16384, c)] } }
  | some (qi, q) => s1.setQueue qi { q with inbox := q.inbox ++ [c], slotsHeld := q.slotsHeld - 1, sqTail := (q.sqTail + 1) % (q.entriesM1 + 1) }

/-- Position of a packet in its message: begins it, ends it. -/
def opFirst (op : Nat) : Bool := op == 0 || op == 4 || op == 5 || op == 6 || op == 0x0A || op == 0x0B || op == 0x0C
/-- The packet ends its message. -/
def opLast (op : Nat) : Bool := op == 2 || op == 3 || op == 4 || op == 5 || op == 8 || op == 9 || op == 0x0A || op == 0x0B || op == 0x0C
/-- A SEND, with or without Immediate. -/
def opSend (op : Nat) : Bool := op ≤ 5
/-- An RDMA WRITE, with or without Immediate. -/
def opWrite (op : Nat) : Bool := 6 ≤ op && op ≤ 0x0B
/-- An RDMA WRITE with Immediate. -/
def opWriteImm (op : Nat) : Bool := op == 9 || op == 0x0B

/-- The operation is one the responder refuses, or is out of message sequence, or has a bad length (R136, R148, R149 checks 4 and 5). -/
def Qp.badOp (q : Qp) (p : RoPkt) : Bool :=
  let pm := pmtuBytes q.pmtu
  let seqBad := if opFirst p.opcode then q.cur.isSome else match q.cur with
    | none => true
    | some c => c.isSend != opSend p.opcode
  let lenBad := decide (pm < p.len) || (!opLast p.opcode && p.len != pm)
  if 0x0C < p.opcode then true
  else if p.opcode = 0x0C then
    q.kind == 2 || q.cur.isSome || decide (2 ^ 31 < p.dmaLen) || decide (q.maxDestRd + 1 ≤ (q.reads.filter (fun r => !r.done)).length)
  else if opSend p.opcode then q.kind == 3 || seqBad || lenBad
  else if opWriteImm p.opcode then !(q.kind == 3 && p.opcode == 0x0B && p.len == 0 && p.dmaLen == 0) || seqBad
  else q.kind == 2 || seqBad || lenBad ||
    (let got := (match q.cur with
      | some c => c.got
      | none => 0) + p.len
     let tot := match q.cur with
      | some c => c.len
      | none => p.dmaLen
     if opLast p.opcode then got != tot else decide (tot ≤ got))

/-- The window verdict a packet needs: only the first packet of a window message with a length has one. -/
def State.verdictOf (s : State) (q : Qp) (p : RoPkt) : Nat :=
  if (p.opcode = 0x0C || p.opcode = 6 || p.opcode = 0x0A) && p.dmaLen != 0 && q.kind != 2 then s.winCheck q p (p.opcode == 0x0C) else 0

/-- The packet opens a window message that passed its check. -/
def opensWin (p : RoPkt) : Bool := (p.opcode = 0x0C || p.opcode = 6 || p.opcode = 0x0A) && p.dmaLen != 0

/-- EPSN passes a packet. -/
def State.passPsn (s : State) (i n : Nat) (msg : Bool) : State :=
  s.modQp i (fun q => { q with epsn := (q.epsn + n) % 2 ^ 24, seqNaked := false, msn := if msg then (q.msn + 1) % 2 ^ 24 else q.msn })

/-- Apply the packet at EPSN: `mover` is the stamp of the packet whose arrival moved EPSN (R146); `counted` says that its window was already
entered when it arrived out of order. Answers whether EPSN moved past it. -/
def State.applyPkt (s : State) (i : Nat) (p : RoPkt) (verdict : Nat) (counted : Bool) (mover : Nat) : State × Bool :=
  let q := s.qp i
  let st := max (mkStamp p.stamp p.port 0) mover
  if q.badOp p then (s.sendNak i 0x61 p.psn, false)
  else if verdict != 0 then (s.winNak i verdict p.psn p.rkey, false)
  else if p.opcode = 0x0C then
    let n := q.psns p
    let keep := (q.reads.filter (fun r => !r.done)) 
    let old := (q.reads.filter (fun r => r.done)).drop ((q.reads.filter (fun r => r.done)).length + keep.length + 1 - (q.maxDestRd + 1))
    let s0 := if counted || p.dmaLen = 0 then s else s.winEnter i (p.rkey % 4096)
    let (s1, h) := if p.dmaLen = 0 then (s0, none) else
      let (u, x) := s0.newWinReq i .winRead p.rkey p.va p.dmaLen 0 p.psn st p.port
      (u, some x)
    let rec1 : ReadRec := { psn := p.psn, va := p.va, len := p.dmaLen, rkey := p.rkey, port := p.port, req := h }
    let s2 := s1.modQp i (fun x => { x with reads := old ++ keep ++ [rec1] })
    ((s2.passPsn i n true).respond i, true)
  else if opWriteImm p.opcode then ((s.passPsn i 1 true).nudge q.assoc (p.imm % 2 ^ 16), true)
  else if opSend p.opcode then
    let full := match s.capsuleQueue i with
      | some (_, x) => decide (x.entriesM1 + 1 ≤ x.occupied)
      | none => false
    if opFirst p.opcode && full then (((s.sendNak i (0x20 + q.minRnr) p.psn).modQp i (fun x => { x with skipMsg := true })), false)
    else
      let s1 := if opFirst p.opcode then match s.capsuleQueue i with
          | some (qi, x) => s.setQueue qi { x with slotsHeld := x.slotsHeld + 1 }
          | none => s
        else s
      let c := match q.cur with
        | some c => c
        | none => { isSend := true, first := p.psn, stamp := mkStamp p.stamp p.port 0, port := p.port }
      let c' := { c with data := c.data + p.payload * 2 ^ (8 * c.got), got := c.got + p.len }
      if opLast p.opcode then
        (((s1.modQp i (fun x => { x with cur := none, skipMsg := false })).passPsn i 1 true).acceptCapsule i c'.data (max c'.stamp mover) c'.port, true)
      else ((s1.modQp i (fun x => { x with cur := some c' })).passPsn i 1 false, true)
  else
    let s0 := if opensWin p && !counted then s.winEnter i (p.rkey % 4096) else s
    let c := match q.cur with
      | some c => c
      | none => { isSend := false, first := p.psn, va := p.va, len := p.dmaLen, rkey := p.rkey, stamp := mkStamp p.stamp p.port 0, port := p.port }
    let c' := { c with data := c.data + p.payload * 2 ^ (8 * c.got), got := c.got + p.len }
    if opLast p.opcode then
      let s1 := (s0.modQp i (fun x => { x with cur := none })).passPsn i 1 true
      if c'.len = 0 then (s1, true) else
      let s2 := s1.modQp i (fun x => { x with ackHeld := x.ackHeld ++ [p.psn] })
      ((s2.newWinReq i .winWrite c'.rkey c'.va c'.len c'.data p.psn (max c'.stamp mover) c'.port).1, true)
    else ((s0.modQp i (fun x => { x with cur := some c' })).passPsn i 1 false, true)

/-- The tracker of the packets placed out of order, relative to EPSN (R143). -/
def Qp.bitmap (q : Qp) : Nat :=
  q.placed.foldl (fun m e =>
    (List.range (q.psns e.2.1)).foldl (fun k j => let d := psnDist e.1 q.epsn + j; if d < 256 then k ||| 2 ^ d else k) m) 0

/-- After EPSN has moved: shift the bitmap, give the tracker back when it empties, restart or stop the reorder timer (R143, R144). -/
def State.retrack (s : State) (i : Nat) : State :=
  let q := s.qp i
  let b := q.bitmap
  (s.setQp i { q with tracker := if b = 0 then none else some b, reorder := b != 0 }).syncTrackers

/-- Apply the in-order packet and every placed packet that follows without a gap (R143). Answers the state, how many packets EPSN passed, and whether
one of them asked for an ACK. -/
def State.applyRun (s : State) (i : Nat) (mover : Nat) : Nat → Nat → Bool → State × Nat × Bool
  | 0, n, a => (s, n, a)
  | fuel + 1, n, a =>
    let q := s.qp i
    match q.placed.find? (fun e => e.1 == q.epsn) with
    | none => (s, n, a)
    | some (psn, p, v) =>
      let s0 := s.setQp i { q with placed := q.placed.filter (fun e => e.1 != psn) }
      match s0.applyPkt i p v (v == 0 && opensWin p) mover with
      | (s1, true) => s1.applyRun i mover fuel (n + 1) (a || p.ackReq)
      | (s1, false) => (s1, n, a)

/-- Acknowledge what EPSN has passed, when AckReq or COAL calls for it; otherwise the delay timer runs (R147). -/
def State.ackAfter (s : State) (i n : Nat) (req : Bool) : State :=
  let q := s.qp i
  let u := q.unacked + n
  let s1 := s.setQp i { q with unacked := u, ackTimer := true, ackWant := q.ackWant || req }
  if req || max 1 (s.fld RDM_ACK_CFG_COAL) ≤ u then s1.sendAck i else s1

/-- A packet in order (R142, R143). -/
def State.rxInOrder (s : State) (i : Nat) (p : RoPkt) : State :=
  let s0 := s.modQp i (fun q => { q with nakWait := none })
  let mover := mkStamp p.stamp p.port 0
  match s0.applyPkt i p (s0.verdictOf (s0.qp i) p) false mover with
  | (s1, false) => s1
  | (s1, true) =>
    match s1.applyRun i mover 256 1 p.ackReq with
    | (s2, n, a) => if (s2.qp i).state = 2 || (s2.qp i).state = 3 then (s2.retrack i).ackAfter i n a else s2

/-- A packet out of order (R143): placed under a tracker, or discarded with a sequence NAK when none is free. -/
def State.rxOutOfOrder (s : State) (i : Nat) (p : RoPkt) (d : Nat) : State :=
  let q := s.qp i
  if bitOf (q.tracker.getD 0) d then s.bump CNT_RDM_DUP_REQ
  else if q.tracker.isNone && 2048 ≤ s.trackersUsed then
    let s1 := s.bump CNT_RDM_OOO_NO_TRACKER
    if q.seqNaked then s1 else (s1.modQp i (fun x => { x with seqNaked := true })).sendNak i 0x60 q.epsn
  else
    let v := s.verdictOf q p
    let s1 := if v = 0 && opensWin p && q.kind != 2 then s.winEnter i (p.rkey % 4096) else s
    let s2 := (s1.bump CNT_RDM_OOO_PLACED).modQp i (fun x => { x with placed := x.placed ++ [(p.psn, p, v)], reorder := true })
    (s2.modQp i (fun x => { x with tracker := some x.bitmap })).syncTrackers

/-- A duplicate READ inside a record (R145): it replaces a pending request, or is carried out again; the window checks are repeated. -/
def State.rxDupRead (s : State) (i : Nat) (p : RoPkt) : State :=
  let q := s.qp i
  match q.reads.find? (fun r => decide (psnDist p.psn r.psn < readPackets (pmtuBytes q.pmtu) r.len)) with
  | none => s.bump CNT_RDM_DUP_READ_LOST
  | some r =>
    let v := s.verdictOf q p
    if v != 0 then s.winNak i v p.psn p.rkey
    else
      let upd (h : Option Nat) (x : ReadRec) : ReadRec :=
        if x.psn = r.psn then { x with psn := p.psn, va := p.va, len := p.dmaLen, rkey := p.rkey, port := p.port, req := h, done := false, dropped := false } else x
      if !r.done && !r.dropped then
        let s1 := match r.req with
          | some h => s.modCmd h (fun c => { c with psn := p.psn, bytes := ((s.win (p.rkey % 4096)).volLba * 4096 + (p.va - (s.win (p.rkey % 4096)).baseVa), p.dmaLen) })
          | none => s
        (s1.modQp i (fun x => { x with reads := x.reads.map (upd r.req) })).respond i
      else if p.dmaLen = 0 then (s.modQp i (fun x => { x with reads := x.reads.map (upd none) })).respond i
      else
        let st := mkStamp p.stamp p.port 0
        let (s1, h) := (s.winEnter i (p.rkey % 4096)).newWinReq i .winRead p.rkey p.va p.dmaLen 0 p.psn st p.port
        (s1.modQp i (fun x => { x with reads := x.reads.map (upd (some h)) })).respond i

/-- A request packet discarded while its QP waits for a NAKed PSN (R148); the rest of a message that found no slot is not counted (R149). -/
def State.rxNakDiscard (s : State) (i : Nat) (p : RoPkt) : State :=
  let q := s.qp i
  if q.skipMsg && (1 ≤ p.opcode && p.opcode ≤ 3) then s.setQp i { q with skipMsg := !opLast p.opcode }
  else (s.setQp i { q with skipMsg := false }).bump CNT_RDM_NAK_DISCARD

/-- Checks 1 and 2 of R149, common to every packet (R137–R139): answers the context index where the packet passes. -/
def State.rxChecks (s : State) (p : RoPkt) : State × Option Nat :=
  let s1 := s.bump CNT_RDM_RX_PKTS
  let i := p.qpn % 16384
  let q := s.qp i
  if !p.icrcOk then (s1.bump CNT_RDM_ICRC_ERR, none)
  else if !(q.state == 2 || q.state == 3) || q.gen != p.qpn / 16384 || q.pKey % 2 ^ 15 != p.pKey % 2 ^ 15 then (s1.bump CNT_RDM_BAD_QP, none)
  else (s1, some i)

/-- RDMA_REQUEST_RX (R142). -/
def execRdmaRequestRx (pkt : RoPkt) (dt : Nat) (s : State) : Host.Outcome State Fault Refusal :=
  let s0 := s.pass dt
  .next (if !s0.running then s0 else
    match s0.rxChecks pkt with
    | (s1, none) => s1
    | (s1, some i) =>
      let s2 := if pkt.ecn = 3 then s1.sendCnp i else s1
      let q := s2.qp i
      let d := psnDist pkt.psn q.epsn
      if 2 ^ 23 ≤ d then
        if pkt.opcode = 0x0C then s2.rxDupRead i pkt else (s2.bump CNT_RDM_DUP_REQ).ackAgain i
      else if q.nakWait.any (fun w => w != pkt.psn) then s2.rxNakDiscard i pkt
      else if d = 0 then s2.rxInOrder i pkt
      else if d < 256 then s2.rxOutOfOrder i pkt d
      else (s2.bump CNT_RDM_OOO_BEYOND).modQp i (fun x => { x with reorder := true }))

/-- REORDER_TIMER_EXPIRY (R144): one sequence NAK for EPSN. -/
def execReorderTimerExpiry (qp : Fin 16384) (s : State) : Host.Outcome State Fault Refusal :=
  let q := s.qp qp
  .next (s.cond (s.running && q.reorder && (q.state == 2 || q.state == 3)) (fun t =>
    let u := t.setQp qp { q with reorder := false, seqNaked := true }
    if q.seqNaked then u else u.sendNak qp 0x60 q.epsn))

/-- ACK_DELAY_EXPIRY (R147). -/
def execAckDelayExpiry (qp : Fin 16384) (s : State) : Host.Outcome State Fault Refusal :=
  .next (s.cond (s.running && (s.qp qp).ackTimer) (fun t => (t.modQp qp (fun q => { q with ackWant := true })).sendAck qp))

/-! ### Requests sent (R150–R154, R476) -/

/-- Octets of the retransmission hold of a QP (R153). -/
def Qp.hold (q : Qp) : Nat := q.outst.foldl (fun n o => match o.msg.kind with
  | .read _ _ _ => n
  | _ => n + o.msg.bytes) 0

/-- A message is a READ. -/
def MsgKind.isRead (k : MsgKind) : Bool := match k with
  | .read _ _ _ => true
  | _ => false

/-- A READ that still lacks responses; a complete one is kept until UNA_PSN passes it, so that a late response is known for one (R154). -/
def OutMsg.openRead (o : OutMsg) : Bool := o.msg.kind.isRead && o.have' != 2 ^ o.count - 1

/-- READs outstanding as requester. -/
def Qp.readsOut (q : Qp) : Nat := (q.outst.filter OutMsg.openRead).length

/-- A response is present above one that is missing (R154). -/
def Qp.gapped (q : Qp) : Bool :=
  let rd := q.outst.filter (fun o => o.msg.kind.isRead)
  rd.any (fun o => o.have' != 0 && (rd.any (fun x => x.openRead && decide (psnDist x.first q.unaPsn < psnDist o.first q.unaPsn))
    || (List.range o.count).any (fun j => !bitOf o.have' j && decide (2 ^ j ≤ o.have'))))

/-- What a frame of a message carries. -/
def MsgKind.pkt (k : MsgKind) (off len : Nat) : PktKind := match k with
  | .cqe _ w _ => .sendCqe (w / 2 ^ 96 % 2 ^ 16) (w / 2 ^ 113 % 2 ^ 15) (w / 2 ^ 64 % 2 ^ 16) (w / 2 ^ 80 % 2 ^ 16) (w % 2 ^ 32)
  | .event w => .sendEvent w
  | .data _ rkey va pay => .writeData rkey (va + off) len (pay / 2 ^ (8 * off) % 2 ^ (8 * len))
  | .ringCqe w rkey va => .writeData rkey (va + off) len w
  | .read _ rkey va => .readReq rkey (va + off) len

/-- The command a message carries the data of. -/
def MsgKind.tag (k : MsgKind) : Option Nat := match k with
  | .data t _ _ _ => some t
  | _ => none

/-- Hand the frames of a message to the egress port from its `from`-th packet on (R136, R153). A WRITE's first frame carries a RETH, a READ request is one
frame; the last data frame carries the command's tag (R28). -/
def State.sendMsg (s : State) (i : Nat) (o : OutMsg) (skip : Nat) : State :=
  let pm := pmtuBytes (s.qp i).pmtu
  match o.msg.kind with
  | .read _ _ _ => s.qpFrame i 16 0 ((o.first + skip) % 2 ^ 24) (o.msg.kind.pkt (skip * pm) (o.msg.bytes - skip * pm)) none
  | _ => s.each ((List.range o.count).drop skip) (fun t k =>
      let len := min pm (o.msg.bytes - k * pm)
      let ext := match o.msg.kind with
        | .cqe _ _ inval => if inval.isSome && k + 1 == o.count then 4 else 0
        | .event _ => 0
        | _ => if k = 0 then 16 else 0
      t.qpFrame i ext len ((o.first + k) % 2 ^ 24) (o.msg.kind.pkt (k * pm) len) (if k + 1 = o.count then o.msg.kind.tag else none))

/-- The per-QP limiter allows a message to start (R126). -/
def State.qpLimAllows (s : State) (i : Nat) : Bool :=
  s.fld (EGS_QP_RATE_RATE (i % 16384)) == 0 || decide (cdiv (tget s.egs.qpLim (i % 16384) {}).t16 1024 * 1024 ≤ 16 * s.clock.nowNs / 1024 * 1024)

/-- The credit of a PEER QP lets no further message start (R155). -/
def Qp.noCredit (q : Qp) : Bool :=
  q.peer && (match q.credit with
    | none => false
    | some c => decide (c ≤ q.sentSince))

/-- Nothing holds the head message back (R155, R476). -/
def State.msgFree (s : State) (i : Nat) (m : Msg) : Bool :=
  let q := s.qp i
  q.state == 3 && !q.rnrWait && s.qpLimAllows i
    && (if m.kind.isRead then decide (q.readsOut < q.maxRd + 1)
        else decide (q.hold ≤ max 1 (s.fld RDM_CTL_HOLD_MAX) * 1024) && !q.noCredit)

/-- REQUESTER_MESSAGE_START (R476): the head message takes its PSNs and its frames go to the egress port. -/
def execRequesterMessageStart (qp : Fin 16384) (dt : Nat) (s : State) : Host.Outcome State Fault Refusal :=
  let s0 := s.pass dt
  .next (match (s0.qp qp).sendq with
    | [] => s0
    | m :: rest =>
      if s0.running && s0.msgFree qp m then
        let q := s0.qp qp
        let o : OutMsg := { msg := m, first := q.sqPsn, count := readPackets (pmtuBytes q.pmtu) m.bytes }
        let s1 := s0.setQp qp { q with sendq := rest, sqPsn := (q.sqPsn + o.count) % 2 ^ 24, outst := q.outst ++ [o], sentSince := if m.kind.isRead then q.sentSince else q.sentSince + 1, lastOut := if m.kind.isRead then q.lastOut else some o }
        (s1.sendMsg qp o 0).syncStg
      else s0)

/-- Resend everything from a PSN (R150, R151, R153): a hold that cannot be resent intact moves the QP to ERROR with cause 10. -/
def State.resend (s : State) (i psn : Nat) : State :=
  let q := s.qp i
  let todo := q.outst.filter (fun o => decide (psnDist (o.first + o.count - 1) psn < 2 ^ 23) && (o.openRead || !o.msg.kind.isRead))
  if todo.any (fun o => o.lost) then s.qpError i 10 else
  s.each todo (fun t o =>
    let k := if psnDist psn o.first < o.count then psnDist psn o.first else 0
    (t.sendMsg i o k).bumpBy CNT_RDM_RETRANSMITS (if o.msg.kind.isRead then 1 else o.count - k))

/-- The last packet is sent again although everything is acknowledged: a message waits and the credit is used up (R155). -/
def State.drawAck (s : State) (i : Nat) : State :=
  match (s.qp i).lastOut with
  | some o => if (s.qp i).noCredit && !(s.qp i).sendq.isEmpty then (s.sendMsg i o (o.count - 1)).bump CNT_RDM_RETRANSMITS else s
  | none => s

/-- ACK_TIMEOUT (R150, R155). -/
def execAckTimeout (qp : Fin 16384) (s : State) : Host.Outcome State Fault Refusal :=
  let q := s.qp qp
  .next (s.cond (s.running && q.state == 3 && !q.rnrWait && q.t != 0) (fun t =>
    if q.unaPsn = q.sqPsn then t.drawAck qp else
    let u := t.bump CNT_RDM_TIMEOUTS
    if q.retryLeft = 0 then u.qpError qp 1
    else (u.setQp qp { q with retryLeft := q.retryLeft - 1, expStep := min (q.expStep + 1) 6 }).resend qp q.unaPsn))

/-- UNA_PSN advances to a PSN (R150): the retry state starts afresh and acknowledged messages are released. READs leave by their responses. -/
def State.advanceUna (s : State) (i una : Nat) : State :=
  let q := s.qp i
  if una = q.unaPsn then s else
  let keep := q.outst.filter (fun o => !(decide (psnDist una (o.first + o.count) < 2 ^ 23)))
  (s.setQp i { q with unaPsn := una, expStep := 0, retryLeft := q.retryCnt, rnrLeft := q.rnrRetry, outst := keep }).syncStg

/-- The PSN below which everything is acknowledged by an ACK of `psn`: it may not pass a READ whose responses are missing (R154). -/
def Qp.ackTo (q : Qp) (psn : Nat) : Nat :=
  let rd := (q.outst.filter OutMsg.openRead).map (fun o => psnDist o.first q.unaPsn)
  (q.unaPsn + (rd.filter (fun d => decide (d < 2 ^ 23))).foldl min (psnDist (psn + 1) q.unaPsn)) % 2 ^ 24

/-- What a response to the part's requests must pass: a context in RTS, and PSNs within UNA_PSN − 1 to SQ_PSN − 1 (R139, R151). -/
inductive RspClass where
  | ok | old | bad
  deriving DecidableEq, Repr

/-- Classify an acknowledgement's PSN (R139, R151). -/
def Qp.rspClass (q : Qp) (psn : Nat) : RspClass :=
  if q.state = 2 then .bad
  else if psnDist psn q.sqPsn < 2 ^ 23 then .bad
  else if psnDist psn (q.unaPsn + 2 ^ 24 - 1) < 2 ^ 23 then .ok else .old

/-- ACK_RX (R151, R155). -/
def execAckRx (pkt : RoPkt) (dt : Nat) (s : State) : Host.Outcome State Fault Refusal :=
  let s0 := s.pass dt
  .next (if !s0.running then s0 else match s0.rxChecks pkt with
    | (s1, none) => s1
    | (s1, some i) =>
      let s2 := if pkt.ecn = 3 then s1.sendCnp i else s1
      let q := s2.qp i
      match q.rspClass pkt.psn with
      | .bad => s2.bump CNT_RDM_BAD_ACK
      | .old => s2
      | .ok =>
        let s3 := if q.peer then s2.setQp i { q with credit := if pkt.syndrome % 32 = 31 then none else some (creditOf (pkt.syndrome % 32)), sentSince := 0 } else s2
        s3.advanceUna i (q.ackTo pkt.psn))

/-- NAK_RX (R151). -/
def execNakRx (pkt : RoPkt) (dt : Nat) (s : State) : Host.Outcome State Fault Refusal :=
  let s0 := s.pass dt
  .next (if !s0.running then s0 else match s0.rxChecks pkt with
    | (s1, none) => s1
    | (s1, some i) =>
      let s2 := if pkt.ecn = 3 then s1.sendCnp i else s1
      match (s2.qp i).rspClass pkt.psn with
      | .bad => s2.bump CNT_RDM_BAD_ACK
      | .old => s2
      | .ok =>
        let s3 := (s2.bump CNT_RDM_NAK_RX).advanceUna i ((s2.qp i).ackTo (psnDist pkt.psn 1))
        let q := s3.qp i
        if pkt.syndrome = 0x60 then
          if q.retryLeft = 0 then s3.qpError i 1 else (s3.setQp i { q with retryLeft := q.retryLeft - 1 }).resend i pkt.psn
        else if pkt.syndrome / 32 = 1 then
          if q.rnrRetry != 7 && q.rnrLeft == 0 then s3.qpError i 2
          else s3.setQp i { q with rnrWait := true, rnrPsn := pkt.psn, rnrLeft := if q.rnrRetry = 7 then q.rnrLeft else q.rnrLeft - 1 }
        else if pkt.syndrome = 0x61 then s3.qpError i 3
        else if pkt.syndrome = 0x62 then s3.qpError i 4
        else if pkt.syndrome = 0x63 then s3.qpError i 5
        else s3)

/-- RNR_WAIT_EXPIRY (R151): resend from the NAKed PSN. -/
def execRnrWaitExpiry (qp : Fin 16384) (s : State) : Host.Outcome State Fault Refusal :=
  let q := s.qp qp
  .next (s.cond (s.running && q.rnrWait) (fun t => (t.setQp qp { q with rnrWait := false }).resend qp q.rnrPsn))

/-- Hand on the chunks of a ring whose turn has come (R186). -/
def Queue.handOn (q : Queue) : Nat → Queue
  | 0 => q
  | fuel + 1 => match q.toFetch with
    | [] => q
    | (slot, n) :: rest => match tget? q.early slot with
      | none => q
      | some e => ({ q with toFetch := rest, early := tdel q.early slot, entryIn := q.entryIn ++ [(n, e)] }).handOn fuel

/-- A READ of the part has all its responses: what it fetched goes where it belongs (R154, R180, R186). -/
def State.readDone (s : State) (purpose : ReadPurpose) (data port stamp : Nat) : State :=
  match purpose with
  | .writeData tag => s.modCmd tag (fun c => { c with data := data, arrived := true })
  | .doorbell q => s.modQueue q (fun x => { x with dbWord := some data })
  | .entries q slot _ => s.modQueue q (fun x => ({ x with early := tput x.early slot (data, stamp, port) }).handOn (x.toFetch.length + 1))

/-- READ_RESPONSE_RX (R154). -/
def execReadResponseRx (pkt : RoPkt) (dt : Nat) (s : State) : Host.Outcome State Fault Refusal :=
  let s0 := s.pass dt
  .next (if !s0.running then s0 else match s0.rxChecks pkt with
    | (s1, none) => s1
    | (s1, some i) =>
      let s2 := if pkt.ecn = 3 then s1.sendCnp i else s1
      let q := s2.qp i
      if q.state = 2 then s2.bump CNT_RDM_BAD_ACK
      else match q.outst.find? (fun o => o.msg.kind.isRead && decide (psnDist pkt.psn o.first < o.count)) with
      | none => if psnDist pkt.psn q.unaPsn < 2 ^ 23 then s2.bump CNT_RDM_BAD_ACK else s2.bump CNT_RDM_DUP_RESP
      | some o =>
        let k := psnDist pkt.psn o.first
        if bitOf o.have' k then s2.bump CNT_RDM_DUP_RESP else
        let o' := { o with have' := o.have' + 2 ^ k, data := o.data + pkt.payload * 2 ^ (8 * (k * pmtuBytes q.pmtu)) }
        let q1 : Qp := { q with outst := q.outst.map (fun (x : OutMsg) => if x.first = o.first then o' else x) }
        let far := ((q1.outst.filter (fun (x : OutMsg) => x.msg.kind.isRead && !x.openRead)).map (fun (x : OutMsg) => psnDist (x.first + x.count) q.unaPsn)).foldl max 0
        let s3 := s2.setQp i { q1 with respGap := q1.gapped }
        if o'.openRead then s3 else
        let s4 := s3.advanceUna i (q1.ackTo ((q.unaPsn + far + 2 ^ 24 - 1) % 2 ^ 24))
        match o.msg.kind with
        | .read p _ _ => s4.readDone p o'.data pkt.port (mkStamp pkt.stamp pkt.port 0)
        | _ => s4)

/-- READ_GAP_TIMEOUT (R154): the READ is sent again from its first missing PSN, counted like a sequence NAK. -/
def execReadGapTimeout (qp : Fin 16384) (s : State) : Host.Outcome State Fault Refusal :=
  let q := s.qp qp
  .next (s.cond (s.running && q.state == 3 && q.respGap) (fun t =>
    match q.outst.find? OutMsg.openRead with
    | none => t
    | some o =>
      let k := ((List.range o.count).find? (fun j => !bitOf o.have' j)).getD 0
      if q.retryLeft = 0 then t.qpError qp 1
      else ((t.setQp qp { q with retryLeft := q.retryLeft - 1, respGap := false }).sendMsg qp o k).bump CNT_RDM_RETRANSMITS))

/-! ### Congestion (R157) -/

/-- The rate ceiling of a QP in Mbit/s. -/
def State.rateCeiling (s : State) (q : Qp) : Nat := if q.rateBase = 0 then s.portGbps (s.qpPort q) * 1000 else q.rateBase

/-- CNP_RX (R157). -/
def execCnpRx (pkt : RoPkt) (dt : Nat) (s : State) : Host.Outcome State Fault Refusal :=
  let s0 := s.pass dt
  .next (if !s0.running then s0 else match s0.rxChecks pkt with
    | (s1, none) => s1
    | (s1, some i) =>
      let q := s1.qp i
      if !(s1.flag RDM_CTL_RP_EN && q.state == 3) then s1 else
      let s2 := s1.bump CNT_RDM_CNP_RX
      let now := s2.clock.nowNs
      let due := match q.lastCut with
        | none => true
        | some t => decide (s2.fld RDM_CC_CFG0_GUARD_US * 1000 ≤ now - t)
      if !due then s2 else
      let cur := max (q.ccCur.getD (s2.rateCeiling q) * max 1 (s2.fld RDM_CC_CFG0_CUT) / 256) (max 1 (s2.fld RDM_CC_CFG1_RATE_MIN))
      (s2.setQp i { q with ccCur := some cur, lastCut := some now, recovering := true }).setFld (EGS_QP_RATE_RATE i) cur)

/-- CC_RECOVER_STEP (R157). -/
def execCcRecoverStep (qp : Fin 16384) (s : State) : Host.Outcome State Fault Refusal :=
  let q := s.qp qp
  .next (s.cond (s.running && q.state == 3 && q.recovering && s.flag RDM_CTL_RP_EN) (fun t =>
    let top := t.rateCeiling q
    let cur := min (q.ccCur.getD top + t.fld RDM_CC_CFG1_STEP) top
    if cur = top then (t.setQp qp { q with ccCur := some cur, recovering := false }).setFld (EGS_QP_RATE_RATE qp) q.rateBase
    else (t.setQp qp { q with ccCur := some cur }).setFld (EGS_QP_RATE_RATE qp) cur))

/-! ### Window commands (R158, R165, R168) -/

/-- The 16 words of a window descriptor. -/
def Win.words (w : Win) : List Nat :=
  [ w.state + w.policy * 2 ^ 2 + w.rdEn.toNat * 2 ^ 4 + w.wrEn.toNat * 2 ^ 5 + w.stall * 2 ^ 7 + w.vol * 2 ^ 20,
    w.tag, w.baseVa % 2 ^ 32, w.baseVa / 2 ^ 32, w.length % 2 ^ 32, w.length / 2 ^ 32, w.volLba % 2 ^ 32, w.volLba / 2 ^ 32, w.inFlight,
    0, 0, 0, 0, 0, 0, 0 ]

/-- A descriptor from words 0–7, ACTIVE with nothing in flight (R168). -/
def winOf (d : Nat → Nat) : Win :=
  { state := 1, policy := d 0 / 4 % 4, rdEn := d 0 / 16 % 2 == 1, wrEn := d 0 / 32 % 2 == 1, stall := d 0 / 128 % 2 ^ 13, vol := d 0 / 2 ^ 20 % 4096,
    tag := d 1 % 2 ^ 20, baseVa := d 2 + d 3 * 2 ^ 32, length := d 4 + d 5 * 2 ^ 32, volLba := d 6 + d 7 * 2 ^ 32 }

/-- The fields of a descriptor are in range (R158). -/
def winFieldsOk (w : Win) : Bool :=
  decide (w.policy < 3) && w.baseVa % 4096 == 0 && w.length % 4096 == 0 && decide (4096 ≤ w.length ∧ w.length ≤ 2 ^ 44)

/-- STALL_LIMIT in µs: 0 is taken as 500, above 8,000 as 8,000 (R158). -/
def Win.stallUs (w : Win) : Nat := if w.stall = 0 then 500 else min w.stall 8000

/-- Finish a window command. -/
def State.winResult (s : State) (r : Nat) : State := s.setFld RDM_WIN_STAT_RESULT r

/-- A write of RDM_WIN_CMD with GO; discarded while BUSY (R168). -/
def State.winCmd (s : State) (op w : Nat) (f : State → State) : State :=
  if s.flag RDM_WIN_STAT_BUSY then s.malformed else f ((s.setFld RDM_WIN_CMD_OP op).setFld RDM_WIN_CMD_INDEX w)

/-- MAP a FREE window from a descriptor: 0 done, 1 wrong state, 2 field out of range (R168). -/
def State.winMapOp (s : State) (w : Nat) (x : Win) : State × Nat :=
  if (s.win w).state != 0 then (s, 1) else if !winFieldsOk x then (s, 2) else (s.setWin w x, 0)

/-- MAP from the data registers. -/
def State.winMapReg (s : State) (w : Nat) : State :=
  let r := s.winMapOp w (winOf (fun k => (s.reg (RDM_WIN_DATA k)).toNat))
  r.1.winResult r.2

/-- WIN_MAP (R168). -/
def execWinMap (req : Requester) (index : Fin 4096) (s : State) : Host.Outcome State Fault Refusal :=
  .next (s.accessWrite req RDM_WIN_CMD (fun t => t.winCmd 2 index (fun u => u.winMapReg index)))

/-- REVOKING ends when nothing is in flight: the window is FREE, a waiting Window Revoke learns it, and a notice goes to MB0 (R165). -/
def State.winFree (s : State) (w : Nat) : State :=
  let x := s.win w
  if x.state != 2 || x.inFlight != 0 then s else
  let s1 := { s with rdm := { s.rdm with wins := tdel s.rdm.wins w } }.notice [0x01010003, w, x.tag * 4096 + w, x.finished, x.naks, 0, 0, 0]
  match x.waiter with
  | none => s1
  | some h => s1.modCmd h (fun c => { c with result := x.finished, state := .done })

/-- REVOKE an ACTIVE window (R165). -/
def State.winRevokeOp (s : State) (w : Nat) (waiter : Option Nat) : State × Nat :=
  let x := s.win w
  if x.state != 1 then (s, 1) else
  ((s.setWin w { x with state := 2, finished := 0, naks := 0, waiter := waiter }).winFree w, 0)

/-- REVOKE by the command registers. -/
def State.winRevokeReg (s : State) (w : Nat) : State := (s.winRevokeOp w none).1.winResult (s.winRevokeOp w none).2

/-- WIN_REVOKE (R165). -/
def execWinRevoke (req : Requester) (index : Fin 4096) (s : State) : Host.Outcome State Fault Refusal :=
  .next (s.accessWrite req RDM_WIN_CMD (fun t => t.winCmd 3 index (fun u => u.winRevokeReg index)))

/-- MODIFY: POLICY and STALL_LIMIT of an ACTIVE window (R168). -/
def State.winModifyOp (s : State) (w : Nat) : State :=
  let x := s.win w
  let d := (s.reg (RDM_WIN_DATA 0)).toNat
  if x.state != 1 then s.winResult 1
  else if d / 4 % 4 = 3 then s.winResult 2
  else (s.setWin w { x with policy := d / 4 % 4, stall := d / 128 % 2 ^ 13 }).winResult 0

/-- WIN_MODIFY (R168). -/
def execWinModify (req : Requester) (index : Fin 4096) (s : State) : Host.Outcome State Fault Refusal :=
  .next (s.accessWrite req RDM_WIN_CMD (fun t => t.winCmd 4 index (fun u => u.winModifyOp index)))

/-- READ: the descriptor's words into the data registers (R168). -/
def State.winReadOp (s : State) (w : Nat) : State :=
  (s.each (s.win w).words.zipIdx (fun v e => v.setReg (RDM_WIN_DATA e.2) (BitVec.ofNat 32 e.1))).winResult 0

/-- WIN_READ (R168). -/
def execWinRead (req : Requester) (index : Fin 4096) (s : State) : Host.Outcome State Fault Refusal :=
  .next (s.accessWrite req RDM_WIN_CMD (fun t => t.winCmd 1 index (fun u => u.winReadOp index)))

/-- WIN_FREE (R165). -/
def execWinFree (w : Fin 4096) (s : State) : Host.Outcome State Fault Refusal :=
  .next (s.cond s.powered (fun t => t.winFree w))

/-- A window READ is dropped (R161, R162): its locks and its place in flight are free, and later responses and ACKs wait for its duplicate. -/
def State.dropRead (s : State) (h : Nat) (c : Cmd) : State :=
  let mark (r : ReadRec) : ReadRec := if r.req = some h then { r with dropped := true, req := none } else r
  let s1 := (s.modQp c.qpn (fun q => { q with reads := q.reads.map mark })).winDone c.win
  ((s1.unlock h).modCmd h (fun x => { x with dropped := true, orphan := true })).syncCmds

/-- WIN_STALL_LIMIT (R161): the stall limit of a faulted window READ passes before its data is ready. -/
def execWinStallLimit (handle : Nat) (s : State) : Host.Outcome State Fault Refusal :=
  .next (match s.cmd? handle with
    | none => s
    | some c =>
      if s.running && c.kind == .winRead && c.fault && !c.dropped && c.state != .done then
        match (s.win c.win).policy with
        | 0 => (s.dropRead handle c).bump CNT_RDM_WIN_STALL_DROP
        | 1 => s.sendNak c.qpn 0x63 c.psn
        | _ => s
      else s)

end Sys2Proof.Machine
end

