-- ==== Sys2Proof/Machine/Admin.lean ====
section
/-! DEFINITION. Fabrics and admin commands (R169–R179, R184, R192, R193, R381, R382, R445). Each takes the entry at the head of its admin queue, in one step. -/

namespace Sys2Proof.Machine

/-! ### The counter image (R445) -/

/-- A word of a live group page (R451), as software reads it with VIEW = 0. -/
def State.monLive (s : State) (g r : Nat) : Nat :=
  if r = 4 then tget s.mon.ovf g 0
  else if r = 8 then groupCycles g (tget s.mon.ran g 0) % 2 ^ 32
  else if r = 0xC then groupCycles g (tget s.mon.ran g 0) / 2 ^ 32 % 2 ^ 32
  else if 0x40 ≤ r && r < 0x80 then
    let v := tget s.mon.pc (8 * g + (r - 0x40) / 8) 0
    if r % 8 = 0 then v % 2 ^ 32 else v / 2 ^ 32
  else (s.reg (0xE10000 + 0x80 * g + r)).toNat

/-- The 64 KiB counter image, or the part of it that a scoped remote reader on `port` sees. -/
def State.counterImage (s : State) (port : Option Nat) : Nat :=
  let groups := match port with
    | some p => [p]
    | none => List.range 129
  let nps := match port with
    | some p => [p]
    | none => List.range 64
  let g := groups.foldl (fun n k => (List.range 32).foldl (fun m w => m + s.monLive k (4 * w) * 2 ^ (8 * (0x80 * k + 4 * w))) n) 0
  let b := nps.foldl (fun n p => n + s.get64 (MON_BW_RX p) * 2 ^ (8 * (0x8000 + 0x10 * p)) + s.get64 (MON_BW_TX p) * 2 ^ (8 * (0x8008 + 0x10 * p))) g
  if port.isSome then b else b + (s.reg MON_BW_SEQ).toNat * 2 ^ (8 * 0x8400)

/-! ### Entries -/

/-- FCTYPE of a Fabrics entry (NVMe over Fabrics). -/
def sqeFct (sqe : Nat) : Nat := sqe / 2 ^ 32 % 256
/-- Octets of an entry. -/
def sqeOct (sqe k n : Nat) : Nat := sqe / 2 ^ (8 * k) % 2 ^ (8 * n)

/-- The lowest free tag, or none (R191). -/
def State.freeTag (s : State) : Option Nat :=
  let t := s.cmdq.cmds.foldl (fun n e => if e.1 = n then n + 1 else n) 0
  if t < 65536 then some t else none

/-- A command may take a tag: one is free, and more than TAG_RESERVE are, or it stands at its volume's horizon (R191, R211). -/
def State.tagOk (s : State) (atHorizon : Bool) : Bool :=
  decide (s.tagsUsed < 65536) && (atHorizon || decide (max 1 (s.fld ENG_LOCK_CFG_TAG_RESERVE) < 65536 - s.tagsUsed))

/-- The class with which a command passes step 4 of R175: its port's, and at least ADMIN for the local association. -/
def State.cmdClass (s : State) (a port : Nat) : Nat := match s.assoc? a with
  | some x => if x.isLocal then max 2 (s.portClass port) else s.portClass port
  | none => s.portClass port

/-- The keep-alive timer restarts on an admitted command while TBKAS is set (R171). -/
def State.kaTouch (s : State) (a : Nat) (always : Bool) : State := match s.assoc? a with
  | some x => if always || s.flag CMDQ_CTL_TBKAS then s.setAssoc a { x with kaAt := s.clock.nowNs } else s
  | none => s

/-- The queue's head entry leaves it: the SQ head advances (R183). -/
def Queue.popped (q : Queue) (rest : List Capsule) : Queue := { q with inbox := rest, sqHead := if q.type ≤ 1 then (q.sqHead + 1) % (q.entriesM1 + 1) else q.sqHead }

/-- Take the entry at the head of an admin queue whose opcode fits, through steps 1–4 of R175. A failed check posts its status; otherwise the
entry is answered for the command's effect. -/
def State.adminTake (s : State) (qi cls : Nat) (want : Nat → Bool) : State × Option (Queue × Capsule) :=
  match s.queue? qi with
  | none => (s, none)
  | some q => match q.inbox with
    | [] => (s, none)
    | c :: rest =>
      if !(s.inService && q.isAdmin && want c.sqe && s.tagOk false) then (s, none) else
      let s1 := (s.setQueue qi (q.popped rest)).kaTouch q.assoc false
      if c.sqe / 256 % 4 != 0 then (s1.postCqe qi (sqeCid c.sqe) 0x002 0 c.sqe, none)
      else if s.cmdq.cmds.any (fun e => e.2.queue == some qi && e.2.cid == sqeCid c.sqe) then ((s1.bump CNT_CMDQ_CID_CONFLICT).postCqe qi (sqeCid c.sqe) 0x003 0 c.sqe, none)
      else if s.cmdClass q.assoc c.port < cls then
        let s2 := if cls = 3 then s1.bump CNT_PROT_PRIV_REFUSED else s1
        (s2.postCqe qi (sqeCid c.sqe) 0x7C6 0 c.sqe, none)
      else (s1, some (q, c))

/-- Run an admin command that completes in the same step: `f` answers the state, the status and the result. -/
def State.admin (s : State) (qi cls : Nat) (want : Nat → Bool) (f : State → Queue → Capsule → State × Nat × Nat) : State :=
  match s.adminTake qi cls want with
  | (s1, none) => s1
  | (s1, some (q, c)) =>
    let (s2, st, r) := f s1 q c
    s2.postCqe qi (sqeCid c.sqe) st r c.sqe

/-- An admin opcode. -/
def isOpc (o : Nat) (sqe : Nat) : Bool := sqeOpc sqe == o
/-- A Fabrics type. -/
def isFct (f : Nat) (sqe : Nat) : Bool := sqeOpc sqe == 0x7F && sqeFct sqe == f

/-- An admin command held in the command table takes the lowest free tag. -/
def State.holdAdmin (s : State) (qi opc : Nat) (st : CmdState) (q : Queue) (c : Capsule) : State × Nat :=
  let h := s.freeTag.getD 0
  ((s.setCmd h { kind := .admin opc, queue := some qi, assoc := q.assoc, cid := sqeCid c.sqe, sqe := c.sqe, stamp := c.stamp, port := c.port, state := st }).syncCmds, h)

/-- In-capsule data of an entry, or, for the local association, the data that PF1 reads (R176): valid descriptor forms only. -/
def adminDataOk (q : Queue) (isLocal : Bool) (sqe : Nat) : Bool :=
  let psdt := sqe / 2 ^ 14 % 4
  let t := sqeOct sqe 39 1
  if isLocal then psdt == 0 || (psdt == 1 && (t == 0x00 || t / 16 == 3)) else q.isAdmin && t == 0x01

/-- The association is PF1's. -/
def State.isLocalAssoc (s : State) (a : Nat) : Bool := match s.assoc? a with
  | some x => x.isLocal
  | none => false

/-- Send a data structure to the host of an admin command: by RDMA WRITE under its keyed descriptor, or by PF1's posted writes (R176). -/
def State.adminReply (s : State) (qi : Nat) (q : Queue) (c : Capsule) (bytes data : Nat) : State :=
  let d := data % 2 ^ (8 * bytes)
  let s1 := s.emit (.adminData qi (sqeCid c.sqe) d)
  if s.isLocalAssoc q.assoc then
    let a := sqeOct c.sqe 24 8
    let n := if c.sqe / 2 ^ 14 % 4 = 0 then min bytes (4096 - a % 4096) else bytes
    let s2 := s1.pf1Write a n (d % 2 ^ (8 * n))
    if n < bytes then s2.pf1Write (sqeOct c.sqe 32 8) (bytes - n) (d / 2 ^ (8 * n)) else s2
  else s1.qpSend q.qpn ⟨.data (2 ^ 32 + qi) (sqeOct c.sqe 35 4) (sqeOct c.sqe 24 8) d, bytes⟩

/-- The data pointer of a command that returns data is one of R176's forms. -/
def State.replyOk (s : State) (q : Queue) (sqe : Nat) : Bool :=
  let t := sqeOct sqe 39 1
  let psdt := sqe / 2 ^ 14 % 4
  if s.isLocalAssoc q.assoc then psdt == 0 || (psdt == 1 && (t == 0x00 || t / 16 == 3)) else t == 0x40 || t == 0x4F

/-! ### Connect and Disconnect (R169–R172) -/

/-- Octets of a Connect's data as a list. -/
def nqnNat (d off : Nat) : Nat := d / 2 ^ (8 * off) % 2 ^ (8 * 256)

/-- Length of a NUL-terminated string held as a number, octet 0 least significant. -/
def strLen (d : Nat) : Nat := ((List.range 256).find? (fun k => d / 2 ^ (8 * k) % 256 == 0)).getD 256

/-- The name of the discovery subsystem. -/
def discNqn : Nat := leNat ("nqn.2014-08.org.nvmexpress.discovery".toList.map (fun c => BitVec.ofNat 8 c.toNat)) 0 36

/-- The NQN digest of an association: the first 8 bytes of SHA-384 over the host NQN (R374). -/
def nqnDigest (nqn : Nat) : Nat := Config.sha384 (strLen nqn) (nqn % 2 ^ (8 * strLen nqn)) % 2 ^ 64

/-- The response of a refused Connect: it creates no state (R170). -/
def State.connectRefuse (s : State) (qp : Nat) (c : Capsule) (status : Nat) : State :=
  (s.bump CNT_CMDQ_CQE_POSTED).qpSend qp ⟨.cqe none (cqeWord 0 0 (sqeOct c.sqe 42 2) (sqeCid c.sqe) status false) none, 16⟩

/-- The lowest free I/O queue of the pool. -/
def State.freeIoq (s : State) : Option Nat :=
  let t := s.cmdq.queues.foldl (fun n e => if e.1 = n then n + 1 else n) 0
  if t < 16384 then some t else none

/-- A new I/O queue leaves the pool and counts for its association. -/
def State.takeIoq (s : State) (i a : Nat) (q : Queue) : State :=
  ((s.setQueue i q).setFld CMDQ_QUEUES_IOQ_FREE (s.fld CMDQ_QUEUES_IOQ_FREE - 1)).setFld (CMDQ_ASSOC_IOQ a) (s.fld (CMDQ_ASSOC_IOQ a) + 1)

/-- An association opens (R169, R198). -/
def State.openAssoc (s : State) (a : Nat) (x : Assoc) : State :=
  let s1 := (s.setAssoc a x).setReg (CMDQ_ASSOC a) 0
  let s2 := (((s1.setFlag (CMDQ_ASSOC_VALID a) true).setFlag (CMDQ_ASSOC_DISC a) x.disc).setFlag (CMDQ_ASSOC_LOCAL a) x.isLocal).setFld (CMDQ_ASSOC_KATO a) x.kato
  s2.setFld CMDQ_STAT_ASSOC s2.cmdq.assocs.length

/-- CONNECT (R170): the Connect that waits on a queue pair creates an association or an I/O queue. -/
def execConnect (qp : Fin 16384) (s : State) : Host.Outcome State Fault Refusal :=
  .next (match s.cmdq.connects.find? (fun e => e.1 == qp.val) with
    | none => s
    | some (_, c) =>
      if !(s.inService && isFct 1 c.sqe) then s else
      let s0 := { s with cmdq := { s.cmdq with connects := s.cmdq.connects.erase (qp.val, c) } }
      let q := s.qp qp
      let qid := sqeOct c.sqe 42 2
      let size := sqeOct c.sqe 44 2
      let kato := cdiv (sqeOct c.sqe 48 4) 100
      let a := q.assoc
      let sizeOk := if qid = 0 then decide (1 ≤ size ∧ size ≤ 31) else decide (1 ≤ size ∧ size ≤ 1023)
      if 64 < qid || !sizeOk || sqeOct c.sqe 46 1 / 4 % 2 = 1 then s0.connectRefuse qp c 0x182
      else if qid = 0 then
        let disc := nqnNat c.data 256 == discNqn
        if (s0.assoc? a).isSome then s0.connectRefuse qp c 0x181
        else if disc && !s0.flag CMDQ_CTL_DISC_EN then s0.connectRefuse qp c 0x184
        else
          let s1 := s0.openAssoc a { disc := disc, kato := kato, nqn := nqnDigest (nqnNat c.data 512), port := c.port, kaAt := s0.clock.nowNs }
          let s2 := s1.setQueue (16384 + a) { type := 0, cls := 0, assoc := a, qid := 0, entriesM1 := size, sqHead := 1, sqTail := 1, qpn := q.number qp }
          (s2.useFree).postCqe (16384 + a) (sqeCid c.sqe) 0 (Config.freeNat s2.free % 2 ^ 16) c.sqe
      else
        match s0.assoc? a, s0.freeIoq with
        | some x, some i =>
          if x.disc || s0.cmdq.queues.any (fun e => e.2.assoc == a && e.2.qid == qid) then s0.connectRefuse qp c 0x182
          else
            let s1 := s0.takeIoq i a { type := 1, cls := 2, assoc := a, qid := qid, entriesM1 := size, sqHead := 1 % (size + 1), sqTail := 1 % (size + 1), qpn := q.number qp }
            (s1.useFree).postCqe i (sqeCid c.sqe) 0 (Config.freeNat s1.free % 2 ^ 16) c.sqe
        | none, _ => s0.connectRefuse qp c 0x182
        | _, none => s0.connectRefuse qp c 0x181)

/-- DISCONNECT (R172, R174): of the admin queue it resets the association; of an I/O capsule queue it ends that queue. -/
def execDisconnect (queue : Fin 17408) (s : State) : Host.Outcome State Fault Refusal :=
  .next (match s.queue? queue with
    | none => s
    | some q =>
      if q.isAdmin then match s.adminTake queue 1 (isFct 8) with
        | (s1, none) => s1
        | (s1, some (_, c)) => ((s1.postCqe queue (sqeCid c.sqe) 0 0 c.sqe).assocReset q.assoc).syncCmds
      else match q.inbox with
        | c :: rest =>
          if s.inService && q.type == 1 && isFct 8 c.sqe then
            let s1 := (s.setQueue queue (q.popped rest)).postCqe queue (sqeCid c.sqe) 0 0 c.sqe
            let s2 := s1.each (s1.cmdq.cmds.filter (fun e => e.2.queue == some queue.val)) (fun t e => if e.2.state.past then t.modCmd e.1 (fun x => { x with orphan := true })
              else (t.endCmd e.1).bump CNT_CMDQ_RESET_ENDED)
            ((s2.freeQueue queue).setFld (CMDQ_ASSOC_IOQ q.assoc) (s2.fld (CMDQ_ASSOC_IOQ q.assoc) - 1)).syncCmds
          else s
        | [] => s)

/-! ### Properties and authentication (R174) -/

/-- CSTS: RDY, and SHST complete after a shutdown notification. -/
def Assoc.csts (x : Assoc) : Nat := x.ready.toNat + (if x.cc / 2 ^ 14 % 4 != 0 then 8 else 0)

/-- PROPERTY_GET (R174): CAP shows MQES (R169), CC and CSTS are the association's; what the spec states no value for is free. -/
def execPropertyGet (queue : Fin 17408) (s : State) : Host.Outcome State Fault Refusal :=
  .next (s.admin queue 1 (isFct 4) (fun t q c =>
    let x := (t.assoc? q.assoc).getD {}
    match sqeOct c.sqe 44 4 with
    | 0x00 => let v := Config.freeNat t.free % 2 ^ 48 * 2 ^ 16 + 1023
              ((t.useFree).emit (.adminData queue (sqeCid c.sqe) v), 0, v)
    | 0x08 => let v := Config.freeNat t.free % 2 ^ 32
              ((t.useFree).emit (.adminData queue (sqeCid c.sqe) v), 0, v)
    | 0x14 => (t.emit (.adminData queue (sqeCid c.sqe) x.cc), 0, x.cc)
    | 0x1C => (t.emit (.adminData queue (sqeCid c.sqe) x.csts), 0, x.csts)
    | _ => (t, 0x002, 0)))

/-- PROPERTY_SET (R174): CC, whose EN makes the controller ready. -/
def execPropertySet (queue : Fin 17408) (s : State) : Host.Outcome State Fault Refusal :=
  .next (s.admin queue 1 (isFct 0) (fun t q c =>
    match t.assoc? q.assoc with
    | none => (t, 0, 0)
    | some x =>
      if sqeOct c.sqe 44 4 = 0x14 then
        let v := sqeOct c.sqe 48 4
        (t.setAssoc q.assoc { x with cc := v, ready := v % 2 == 1 }, 0, 0)
      else (t, 0x002, 0)))

/-- AUTHENTICATION_SEND (R174). -/
def execAuthenticationSend (queue : Fin 17408) (s : State) : Host.Outcome State Fault Refusal :=
  .next (s.admin queue 1 (isFct 5) (fun t _ _ => (t, 0x002, 0)))

/-- AUTHENTICATION_RECEIVE (R174). -/
def execAuthenticationReceive (queue : Fin 17408) (s : State) : Host.Outcome State Fault Refusal :=
  .next (s.admin queue 1 (isFct 6) (fun t _ _ => (t, 0x002, 0)))

/-! ### Data structures -/

/-- Lay fields over a number: (octet offset, octets, value). -/
def overlay (base : Nat) (fs : List (Nat × Nat × Nat)) : Nat :=
  fs.foldl (fun n f =>
    let old := n / 2 ^ (8 * f.1) % 2 ^ (8 * f.2.1)
    n - old * 2 ^ (8 * f.1) + f.2.2 % 2 ^ (8 * f.2.1) * 2 ^ (8 * f.1)) base

/-- NSIDs above one whose volume exists and stands on the association's access list. -/
def State.nsids (s : State) (a port above : Nat) : List Nat :=
  (s.red.vols.filter (fun e => decide (above < e.1 + 1) && s.aclOk a port e.1 2)).map (fun e => e.1 + 1)

/-- The ANA log page (R177): one group descriptor, for group 1, with every namespace on the association's access list. -/
def State.anaPage (s : State) (a port : Nat) : Nat × Nat :=
  let ns := s.nsids a port 0
  let n := s.cmdq.anaCount
  (16 + 32 + 4 * ns.length,
    overlay 0 ([(0, 8, n), (8, 2, 1), (16, 4, 1), (20, 4, ns.length), (24, 8, n), (32, 1, s.fld CMDQ_STAT_ANA)] ++ ns.zipIdx.map (fun e => (48 + 4 * e.2, 4, e.1))))

/-- Send `len` bytes of a page from an offset; the page reads 0 beyond its end. -/
def State.sendPage (s : State) (qi : Nat) (q : Queue) (c : Capsule) (page off len : Nat) : State × Nat × Nat :=
  if !s.replyOk q c.sqe then (s, 0x011, 0) else (s.adminReply qi q c len (page / 2 ^ (8 * off)), 0, 0)

/-- GET_LOG_PAGE (R174, R177, R189, R445). -/
def execGetLogPage (queue : Fin 17408) (s : State) : Host.Outcome State Fault Refusal :=
  .next (s.admin queue 1 (isOpc 0x02) (fun t q c =>
    let lid := sqeDw c.sqe 10 % 256
    let len := (sqeDw c.sqe 10 / 2 ^ 16 + sqeDw c.sqe 11 % 2 ^ 16 * 2 ^ 16 + 1) * 4
    let off := sqeDw c.sqe 12 + sqeDw c.sqe 13 * 2 ^ 32
    let disc := match t.assoc? q.assoc with
      | some x => x.disc
      | none => false
    if lid = 0x01 || lid = 0x02 || (lid = 0x70 && disc) then (t.useFree).sendPage queue q c (Config.freeNat t.free) off len
    else if lid = 0x0C then t.sendPage queue q c (t.anaPage q.assoc c.port).2 off len
    else if lid = 0xC0 then t.sendPage queue q c (t.fld CMDQ_STAT_WCE) off len
    else if lid = 0xC1 && t.flag MON_CTL_REMOTE_EN then
      t.sendPage queue q c (t.counterImage (if t.flag MON_CTL_REMOTE_SCOPE then some c.port else none)) off len
    else (t, 0x109, 0)))

/-- IDENTIFY (R169, R174): the limits the spec states over octets it states nothing of. -/
def execIdentify (queue : Fin 17408) (s : State) : Host.Outcome State Fault Refusal :=
  .next (s.admin queue 1 (isOpc 0x06) (fun t q c =>
    let nsid := sqeNsid c.sqe
    let base := Config.freeNat t.free % 2 ^ (8 * 4096)
    let u := t.useFree
    let disc := match t.assoc? q.assoc with
      | some x => x.disc
      | none => false
    let nsOk := decide (1 ≤ nsid ∧ nsid ≤ 4096)
    match sqeDw c.sqe 10 % 256 with
    | 0x00 =>
      if !nsOk then (t, 0x00B, 0) else if !t.aclOk q.assoc c.port (nsid - 1) 2 then (t, 0x7C6, 0) else
      let n := match tget? t.red.vols (nsid - 1) with
        | some v => v.maxSlabs * 262144
        | none => 0
      u.sendPage queue q c (overlay base [(0, 8, n), (8, 8, n), (33, 1, 0x09), (25, 1, 0), (26, 1, 0), (128, 2, 0), (130, 1, 12)]) 0 4096
    | 0x01 =>
      u.sendPage queue q c (overlay base [(77, 1, 8), (111, 1, if disc then 2 else 1), (258, 1, 15), (259, 1, 3), (263, 1, 0), (265, 1, 0), (320, 2, 1), (344, 4, 1), (348, 4, 1), (516, 4, 4096), (525, 1, 1), (526, 2, 0), (528, 2, 0), (1792, 4, 4)]) 0 4096
    | 0x02 => t.sendPage queue q c (overlay 0 (((t.nsids q.assoc c.port nsid).take 1024).zipIdx.map (fun e => (4 * e.2, 4, e.1)))) 0 4096
    | 0x03 => if !nsOk then (t, 0x00B, 0) else if !t.aclOk q.assoc c.port (nsid - 1) 2 then (t, 0x7C6, 0) else u.sendPage queue q c base 0 4096
    | _ => (t, 0x002, 0)))

/-! ### Abort (R192) -/

/-- ABORT (R192): the target is abortable until it is granted its range lock; its CQE is posted before the Abort's. -/
def execAbort (queue : Fin 17408) (s : State) : Host.Outcome State Fault Refusal :=
  .next (s.admin queue 1 (isOpc 0x08) (fun t q c =>
    let sqid := sqeDw c.sqe 10 % 2 ^ 16
    let cid := sqeDw c.sqe 10 / 2 ^ 16
    match t.cmdq.queues.find? (fun e => e.2.assoc == q.assoc && e.2.qid == sqid) with
    | none => (t.bump CNT_CMDQ_ABORT_MISSED, 0, 1)
    | some (qi, tq) =>
      match t.cmdq.cmds.find? (fun e => e.2.queue == some qi && e.2.cid == cid) with
      | some (h, x) =>
        if x.state == .waiting || x.state == .placed then
          let t1 := match t.assoc? q.assoc with
            | some y => t.setAssoc q.assoc { y with aers := y.aers.erase h }
            | none => t
          (((t1.postCqe qi x.cid 0x007 0 x.sqe).endCmd h).bump CNT_CMDQ_ABORT_DONE, 0, 0)
        else (t.bump CNT_CMDQ_ABORT_MISSED, 0, 1)
      | none =>
        match tq.waiting.find? (fun x => x.cid == cid && x.status == 0) with
        | some x =>
          let tq' := { tq with waiting := tq.waiting.erase x, sqHead := if tq.type ≤ 1 then (tq.sqHead + 1) % (tq.entriesM1 + 1) else tq.sqHead }
          (((t.setQueue qi tq').postCqe qi x.cid 0x007 0 x.sqe).bump CNT_CMDQ_ABORT_DONE, 0, 0)
        | none => (t.bump CNT_CMDQ_ABORT_MISSED, 0, 1)))

/-! ### Features (R174, R184) -/

/-- The capsule queue or ring of an association with a QID. -/
def State.queueOf (s : State) (a qid : Nat) : Option (Nat × Queue) := s.cmdq.queues.find? (fun e => e.2.assoc == a && e.2.qid == qid && !e.2.isAdmin)

/-- SET_FEATURES (R174, R184). -/
def execSetFeatures (queue : Fin 17408) (s : State) : Host.Outcome State Fault Refusal :=
  .next (s.admin queue 2 (isOpc 0x09) (fun t q c =>
    let v := sqeDw c.sqe 11
    match sqeDw c.sqe 10 % 256 with
    | 0x0B => (match t.assoc? q.assoc with
      | some x => t.setAssoc q.assoc { x with aenCfg := v }
      | none => t, 0, 0)
    | 0xC0 => match t.queueOf q.assoc (v % 2 ^ 16) with
      | some (i, x) =>
        if x.type != 1 then (t, 0x002, 0)
        else if v / 2 ^ 16 % 4 = 0 && t.cmdClass q.assoc c.port < 2 then (t, 0x7C6, 0)
        else (t.setQueue i { x with cls := v / 2 ^ 16 % 4 }, 0, 0)
      | none => (t, 0x002, 0)
    | 0x01 => (t, 0x10E, 0)
    | 0x02 => (t, 0x10E, 0)
    | 0x06 => (t, 0x10E, 0)
    | _ => (t, 0x002, 0)))

/-- GET_FEATURES (R174, R184, R189). -/
def execGetFeatures (queue : Fin 17408) (s : State) : Host.Outcome State Fault Refusal :=
  .next (s.admin queue 1 (isOpc 0x0A) (fun t q c =>
    let x := (t.assoc? q.assoc).getD {}
    match sqeDw c.sqe 10 % 256 with
    | 0x01 => (t, 0, (t.reg CMDQ_ARB).toNat)
    | 0x02 => (t, 0, 0)
    | 0x06 => (t, 0, t.fld CMDQ_STAT_WCE)
    | 0x0B => (t, 0, x.aenCfg)
    | 0x0F => (t, 0, x.kato * 100)
    | 0xC0 => match t.queueOf q.assoc (sqeDw c.sqe 11 % 2 ^ 16) with
      | some (_, y) => (t, 0, y.qid + y.cls * 2 ^ 16)
      | none => (t, 0x002, 0)
    | _ => (t, 0x002, 0)))

/-! ### Asynchronous events and keep-alive (R171, R174) -/

/-- ASYNC_EVENT_REQUEST (R174): held until an event completes it; an event held for the association completes it at once; a fifth is refused. -/
def execAsyncEventRequest (queue : Fin 17408) (s : State) : Host.Outcome State Fault Refusal :=
  .next (match s.adminTake queue 1 (isOpc 0x0C) with
    | (s1, none) => s1
    | (s1, some (q, c)) => match s1.assoc? q.assoc with
      | none => s1
      | some x =>
        if 4 ≤ x.aers.length then s1.postCqe queue (sqeCid c.sqe) 0x105 0 c.sqe
        else match x.events with
          | (typ, info) :: rest => (s1.setAssoc q.assoc { x with events := rest }).postCqe queue (sqeCid c.sqe) 0 (typ + info * 256 + eventPage typ * 65536) c.sqe
          | [] =>
            let (s2, h) := s1.holdAdmin queue 0x0C .waiting q c
            s2.setAssoc q.assoc { x with aers := x.aers ++ [h] })

/-- KEEP_ALIVE (R171). -/
def execKeepAlive (queue : Fin 17408) (s : State) : Host.Outcome State Fault Refusal :=
  .next (s.admin queue 1 (isOpc 0x18) (fun t q _ => (t.kaTouch q.assoc true, 0, 0)))

/-- KEEP_ALIVE_EXPIRY (R171): the timeout has passed without a restart. -/
def execKeepAliveExpiry (assoc : Fin 1024) (dt : Nat) (s : State) : Host.Outcome State Fault Refusal :=
  let s0 := s.pass dt
  .next (match s0.assoc? assoc with
    | none => s0
    | some x => s0.cond (s0.running && x.kato != 0 && decide (x.kaAt + x.kato * 100000000 ≤ s0.clock.nowNs)) (fun t => ((t.bump CNT_CMDQ_KA_EXPIRED).assocReset assoc).syncCmds))

/-! ### Windows (R158, R165, R174) -/

/-- WINDOW_MAP_CMD (R174): `data` is what PF1 reads for the local association; other associations carry it in the capsule. -/
def execWindowMapCmd (queue : Fin 17408) (data : Nat) (s : State) : Host.Outcome State Fault Refusal :=
  .next (s.admin queue 2 (isOpc 0xC1) (fun t q c =>
    let isLoc := t.isLocalAssoc q.assoc
    if !adminDataOk q isLoc c.sqe then (t, 0x011, 0) else
    let d := if isLoc then data else c.data
    let w := sqeDw c.sqe 10 % 4096
    let x := winOf (fun k => d / 2 ^ (32 * k) % 2 ^ 32)
    if !t.aclOk q.assoc c.port x.vol 2 then (t, 0x7C6, 0) else
    match t.winMapOp w x with
    | (u, 0) => (u, 0, x.tag * 4096 + w)
    | (u, 1) => (u, 0x7C2, 0)
    | (u, _) => (u, 0x002, 0)))

/-- WINDOW_REVOKE_CMD (R174): it completes when the window is FREE. -/
def execWindowRevokeCmd (queue : Fin 17408) (s : State) : Host.Outcome State Fault Refusal :=
  .next (match s.adminTake queue 2 (isOpc 0xC4) with
    | (s1, none) => s1
    | (s1, some (q, c)) =>
      let w := sqeDw c.sqe 10 % 4096
      if (s1.win w).state != 1 then s1.postCqe queue (sqeCid c.sqe) 0x7C2 0 c.sqe
      else
        let (s2, h) := s1.holdAdmin queue 0xC4 .running q c
        (s2.winRevokeOp w (some h)).1)

/-! ### Ring Attach (R179) -/

/-- A ring's outstanding commands have all completed. -/
def State.ringQuiet (s : State) (qi : Nat) (q : Queue) : Bool :=
  q.inbox.isEmpty && q.waiting.isEmpty && q.entryIn.isEmpty && q.fetching == 0 && !s.cmdq.cmds.any (fun e => e.2.queue == some qi)

/-- A detach or re-epoch acts once the ring's outstanding commands have completed (R179). -/
def State.ringAction (s : State) (qi : Nat) : State := match s.queue? qi with
  | none => s
  | some q =>
    if !s.ringQuiet qi q then s else
    match q.action with
    | none => s
    | some (.detach t) => (((s.freeQueue qi).setFld (CMDQ_ASSOC_IOQ q.assoc) (s.fld (CMDQ_ASSOC_IOQ q.assoc) - 1)).syncLtr).modCmd t (fun c => { c with state := .done })
    | some (.reepoch t e) =>
      (s.setQueue qi { q with epoch := e, sqHead := 0, sqTail := 0, cqTail := 0, phase := true, stopped := false, action := none }).modCmd t (fun c => { c with state := .done })

/-- The descriptor of a Ring Attach. -/
def State.ringData (s : State) (q : Queue) (c : Capsule) (data : Nat) : Nat := if s.isLocalAssoc q.assoc then data else c.data % 2 ^ 512

/-- A Ring Attach with a given OP. -/
def isRingOp (op : Nat) (sqe : Nat) : Bool := sqeOpc sqe == 0xC5 && sqeDw sqe 10 / 2 ^ 16 % 4 == op

/-- RING_ATTACH (R179). -/
def execRingAttach (queue : Fin 17408) (data : Nat) (s : State) : Host.Outcome State Fault Refusal :=
  .next (s.admin queue 2 (isRingOp 0) (fun t q c =>
    let isLoc := t.isLocalAssoc q.assoc
    if !adminDataOk q isLoc c.sqe then (t, 0x011, 0) else
    let d := t.ringData q c data
    let o (k n : Nat) : Nat := d / 2 ^ (8 * k) % 2 ^ (8 * n)
    let qid := sqeDw c.sqe 10 % 2 ^ 16
    let qpn := o 32 3
    let path := o 35 1
    let qp := t.qp qpn
    if qid = 0 || 64 < qid || (t.cmdq.queues.any (fun e => e.2.assoc == q.assoc && e.2.qid == qid)) then (t, 0x101, 0)
    else if o 28 2 < 63 || 1023 < o 28 2 then (t, 0x102, 0)
    else if 1 < path || (path = 1) != isLoc || 3 < o 36 1 || o 0 8 % 64 != 0 || o 8 8 % 64 != 0 || o 16 8 % 8 != 0 then (t, 0x002, 0)
    else if path = 0 && !(qp.kind == 3 && qp.assoc == q.assoc && (qp.state == 2 || qp.state == 3) && qp.number qpn == qpn) then (t, 0x002, 0)
    else if path = 0 && decide (16 ≤ (t.cmdq.queues.filter (fun e => e.2.type == 2 && e.2.qpn == qpn)).length) then (t, 0x002, 0)
    else if o 36 1 = 0 && t.cmdClass q.assoc c.port < 2 then (t, 0x7C6, 0)
    else match t.freeIoq with
      | none => (t, 0x181, 0)
      | some i => (t.takeIoq i q.assoc { type := 2 + path, cls := o 36 1, assoc := q.assoc, qid := qid, entriesM1 := o 28 2, epoch := o 30 2, qpn := if path = 0 then qpn else 0, vector := o 38 2 % 2048, ien := o 37 1 % 2 == 1, rkey := o 24 4, sqBase := o 0 8, cqBase := o 8 8, dbAddr := o 16 8 }, 0, 0)))

/-- Stop a ring for a detach or re-epoch, which acts once it is quiet (R179). -/
def State.ringStop (s : State) (qi : Nat) (op : Nat) (act : Nat → Nat → RingAction) (data : Nat) : State :=
  match s.adminTake qi 2 (isRingOp op) with
  | (s1, none) => s1
  | (s1, some (q, c)) =>
    match s1.cmdq.queues.find? (fun e => e.2.assoc == q.assoc && e.2.qid == sqeDw c.sqe 10 % 2 ^ 16 && decide (2 ≤ e.2.type)) with
    | none => s1.postCqe qi (sqeCid c.sqe) 0x101 0 c.sqe
    | some (i, x) =>
      let (s2, h) := s1.holdAdmin qi 0xC5 .running q c
      (s2.setQueue i { x with stopped := true, dbDue := false, action := some (act h (s2.ringData q c data / 2 ^ 240 % 2 ^ 16)) }).ringAction i

/-- RING_DETACH (R179). -/
def execRingDetach (queue : Fin 17408) (s : State) : Host.Outcome State Fault Refusal := .next (s.ringStop queue 1 (fun h _ => .detach h) 0)

/-- RING_REEPOCH (R179): `data` is the descriptor that PF1 reads for the local association. -/
def execRingReepoch (queue : Fin 17408) (data : Nat) (s : State) : Host.Outcome State Fault Refusal := .next (s.ringStop queue 2 (fun h e => .reepoch h e) data)

/-! ### Commit Stage and Commit Confirm (R374, R381, R382) -/

/-- On a network port the association's digest must be on the steward list (R374). -/
def State.stewardHost (s : State) (a port : Nat) : Bool := port == 84 || (match s.assoc? a with
  | some x => s.prot.stewards.contains x.nqn
  | none => false)

/-- COMMIT_STAGE (R381): `data` is the record that PF1 reads for the local association. -/
def execCommitStage (queue : Fin 17408) (data : Nat) (s : State) : Host.Outcome State Fault Refusal :=
  .next (s.admin queue 3 (isOpc 0xC9) (fun t q c =>
    let isLoc := t.isLocalAssoc q.assoc
    if !t.stewardHost q.assoc c.port then (t.bump CNT_PROT_PRIV_REFUSED, 0x7C6, 0)
    else if !adminDataOk q isLoc c.sqe then (t, 0x011, 0) else
    let len := if isLoc && c.sqe / 2 ^ 14 % 4 == 0 then 4096 else sqeOct c.sqe 32 4
    let r := toLe (min len 8192) (if isLoc then data else c.data)
    match t.stage r (portCode c.port) with
    | (u, 0, _) => (u, 0, match u.prot.change with
      | some x => x.digest
      | none => 0)
    | (u, e, i) => (u, 0x002, e + i * 256)))

/-- COMMIT_CONFIRM (R382). -/
def execCommitConfirm (queue : Fin 17408) (s : State) : Host.Outcome State Fault Refusal :=
  .next (s.admin queue 3 (isOpc 0xC8) (fun t q c =>
    if !t.stewardHost q.assoc c.port then (t.bump CNT_PROT_PRIV_REFUSED, 0x7C6, 0) else
    match t.confirm (sqeDw c.sqe 10) (portCode c.port) true with
    | (u, 0, _) => (u, 0, 0)
    | (u, e, i) => (u, 0x002, e + i * 256)))

/-! ### Unsupported opcodes (R173, R174) -/

/-- The admin opcode or Fabrics type is one of R174. -/
def adminKnown (sqe : Nat) : Bool :=
  [0x02, 0x06, 0x08, 0x09, 0x0A, 0x0C, 0x18, 0xC1, 0xC4, 0xC8, 0xC9].contains (sqeOpc sqe)
    || (sqeOpc sqe == 0xC5 && decide (sqeDw sqe 10 / 2 ^ 16 % 4 ≤ 2)) || (sqeOpc sqe == 0x7F && [0, 1, 4, 5, 6, 8].contains (sqeFct sqe))

/-- UNSUPPORTED_COMMAND (R173, R174): on an admin queue it completes at once, on an I/O queue it takes its turn at the arbiter (R175). A Ring Attach
with OP 3 names no action and completes with Invalid Field; so does a Connect on a queue that already exists. -/
def execUnsupportedCommand (queue : Fin 17408) (s : State) : Host.Outcome State Fault Refusal :=
  .next (match s.queue? queue with
    | none => s
    | some q =>
      if q.isAdmin then
        s.admin queue 0 (fun e => !adminKnown e || isFct 1 e) (fun t _ c => (t, if sqeOpc c.sqe = 0xC5 || isFct 1 c.sqe then 0x002 else 0x001, 0))
      else match q.inbox with
        | c :: rest =>
          if s.inService && (ioKind (sqeOpc c.sqe)).isNone && !(q.type == 1 && isFct 8 c.sqe) then
            s.setQueue queue { q with inbox := rest, waiting := q.waiting ++ [{ kind := .flush, queue := some queue.val, assoc := q.assoc, cid := sqeCid c.sqe, sqe := c.sqe, stamp := c.stamp, port := c.port, status := 0x001, vol := 4097 }] }
          else s
        | [] => s)

end Sys2Proof.Machine
end

