-- ==== Sys2Proof/Machine/Queues.lean ====
section
/-! DEFINITION. I/O commands, pull rings, arbitration, lock grants, retirement (R173–R193, R202–R213). -/

namespace Sys2Proof.Machine

/-! ### Checks of an I/O command (R175, R176) -/

/-- NLB of an entry: its 0's based count plus 1. -/
def sqeNlb (sqe : Nat) : Nat := sqeDw sqe 12 % 2 ^ 16 + 1
/-- SLBA. -/
def sqeSlba (sqe : Nat) : Nat := sqeDw sqe 10 + sqeDw sqe 11 * 2 ^ 32

/-- Blocks of a volume (R254). -/
def State.volBlocks (s : State) (v : Nat) : Nat := match tget? s.red.vols v with
  | some x => x.maxSlabs * 262144
  | none => 0

/-- The transfer length that a data pointer states, where it states one: SGL Data Blocks do (R176). -/
def State.ptrLength (s : State) (q : Queue) (sqe : Nat) : Option Nat :=
  let t := sqeOct sqe 39 1
  if s.isLocalAssoc q.assoc then (if sqe / 2 ^ 14 % 4 = 1 && t = 0x00 then some (sqeOct sqe 32 4) else none) else some (sqeOct sqe 32 3)

/-- The host ranges of a command's data: its one descriptor, or what its PRP list or last segment names, given as `sgl` where it lies in host memory (R176). -/
def State.hostRanges (s : State) (q : Queue) (sqe len : Nat) (sgl : List (Nat × Nat)) : List (Nat × Nat) :=
  let a := sqeOct sqe 24 8
  if !s.isLocalAssoc q.assoc then [(a, len)]
  else if sqe / 2 ^ 14 % 4 = 0 then
    let n := min len (4096 - a % 4096)
    if len ≤ n then [(a, n)] else if len - n ≤ 4096 then [(a, n), (sqeOct sqe 32 8, len - n)] else (a, n) :: sgl
  else if sqeOct sqe 39 1 = 0x00 then [(a, len)] else sgl

/-- A volume is the TARGET of a snapshot, which is read-only (R216). -/
def State.isTarget (s : State) (v : Nat) : Bool := match tget? s.red.vols v with
  | some x => x.imageOf.isSome
  | none => false

/-- Steps 1–9 of R175 for an I/O command; the first failure as SCT·256 + SC, 0 where all pass. Step 3 is judged apart. -/
def State.ioCheck (s : State) (q : Queue) (c : Capsule) (k : CmdKind) (ranges : List (Nat × Nat)) : Nat :=
  let nsid := sqeNsid c.sqe
  let v := nsid - 1
  let all := k == .flush && nsid == 0xFFFFFFFF
  let write := k.isWrite
  let moves := k == .write || k == .read || k == .compare
  if c.sqe / 256 % 4 != 0 then 0x002
  else if s.cmdClass q.assoc c.port < 1 then 0x7C6
  else if !(decide (1 ≤ nsid ∧ nsid ≤ 4096) || all) then 0x00B
  else if !all && !s.aclOk q.assoc c.port v (if k = .flush then 2 else if write then 1 else 0) then 0x7C6
  else if s.fld CMDQ_STAT_ANA = 0xF then 0x303
  else if s.fld CMDQ_STAT_ANA != 1 then 0x302
  else if (moves || k == .dealloc) && !s.replyOk q c.sqe then 0x011
  else if moves && (match s.ptrLength q c.sqe with
      | some n => n != sqeNlb c.sqe * 4096
      | none => false) then 0x00F
  else if moves && decide (256 < sqeNlb c.sqe) then 0x7C5
  else if ranges.any (fun r => decide (s.volBlocks v < r.1 + r.2)) then 0x080
  else if write && s.isTarget v then 0x020
  else if write && !ranges.isEmpty && s.keyRefusal v != .none then 0x7C0
  else 0

/-- An I/O command at the head of its queue is checked and waits for its arbiter (R175, R184). -/
def State.ioArrive (s : State) (qi opc : Nat) (k : CmdKind) (dsm sgl : List (Nat × Nat)) : State :=
  match s.queue? qi with
  | none => s
  | some q => match q.inbox with
    | [] => s
    | c :: rest =>
      if !(s.inService && !q.isAdmin && sqeOpc c.sqe == opc) then s else
      let ranges : List (Nat × Nat) := match k with
        | .flush => []
        | .dealloc => if sqeDw c.sqe 11 / 4 % 2 = 1 then (dsm.take (sqeDw c.sqe 10 % 256 + 1)).filter (fun r => r.2 != 0) else []
        | _ => [(sqeSlba c.sqe, sqeNlb c.sqe)]
      let busy := s.cmdq.cmds.any (fun e => e.2.queue == some qi && e.2.cid == sqeCid c.sqe) || q.waiting.any (fun x => x.cid == sqeCid c.sqe)
      let chk := s.ioCheck q c k ranges
      let st := if chk = 0x002 then 0x002 else if busy then 0x003 else chk
      let v := if sqeNsid c.sqe = 0xFFFFFFFF then 4096 else sqeNsid c.sqe - 1
      let home := s.homeOf v (match ranges with
        | r :: _ => r.1
        | [] => 0)
      let moves := k == .write || k == .read || k == .compare
      let x : Cmd := { kind := k, queue := some qi, assoc := q.assoc, cid := sqeCid c.sqe, sqe := c.sqe, vol := v, ranges := ranges, stamp := c.stamp, port := c.port, cluster := home, status := st, host := if moves then s.hostRanges q c.sqe (sqeNlb c.sqe * 4096) sgl else [], rkey := sqeOct c.sqe 35 4 }
      let s1 := s.setQueue qi { q with inbox := rest, waiting := q.waiting ++ [x] }
      let s2 := if st = 0x003 then s1.bump CNT_CMDQ_CID_CONFLICT else s1
      let s3 := if st = 0x302 || st = 0x303 then s2.bump CNT_CMDQ_ANA_REFUSED else s2
      if st = 0x7C0 && s3.keyRefusal v == .noKey then s3.bump CNT_CIP_NO_KEY else s3

/-- IO_FLUSH (R173, R188). -/
def execIoFlush (queue : Fin 17408) (s : State) : Host.Outcome State Fault Refusal := .next (s.ioArrive queue 0x00 .flush [] [])
/-- IO_WRITE (R173): `sgl` is what the entry's PRP list or last segment names. -/
def execIoWrite (queue : Fin 17408) (sgl : List (Nat × Nat)) (s : State) : Host.Outcome State Fault Refusal := .next (s.ioArrive queue 0x01 .write [] sgl)
/-- IO_READ (R173). -/
def execIoRead (queue : Fin 17408) (sgl : List (Nat × Nat)) (s : State) : Host.Outcome State Fault Refusal := .next (s.ioArrive queue 0x02 .read [] sgl)
/-- IO_COMPARE (R173). -/
def execIoCompare (queue : Fin 17408) (sgl : List (Nat × Nat)) (s : State) : Host.Outcome State Fault Refusal := .next (s.ioArrive queue 0x05 .compare [] sgl)
/-- IO_WRITE_ZEROES (R173). -/
def execIoWriteZeroes (queue : Fin 17408) (s : State) : Host.Outcome State Fault Refusal := .next (s.ioArrive queue 0x08 .zeroes [] [])
/-- IO_DATASET_MANAGEMENT (R173): `ranges` are the command's ranges (first block, blocks), as its data holds them. -/
def execIoDatasetManagement (queue : Fin 17408) (ranges : List (Nat × Nat)) (s : State) : Host.Outcome State Fault Refusal := .next (s.ioArrive queue 0x09 .dealloc ranges [])

/-! ### Doorbells and nudges (R180–R182) -/

/-- The local association. -/
def State.localAssoc (s : State) : Option Nat := (s.cmdq.assocs.find? (fun e => e.2.isLocal)).map (fun e => e.1)

/-- Show the level of the nudge FIFO. -/
def State.syncNudge (s : State) : State := s.setFld CMDQ_NUDGE_STAT_LEVEL s.cmdq.nudges.length

/-- The nudges in the FIFO are handled in order (R182); they wait while Bus Master Enable is 0 (R407). -/
def State.drainNudges (s : State) : State :=
  if !s.hep.pf1.bme then s.syncNudge else
  let l := s.cmdq.nudges
  let s1 := { s with cmdq := { s.cmdq with nudges := [] } }
  (s1.each l (fun t qid => match t.localAssoc with
    | some a => t.nudge a qid
    | none => t.bump CNT_CMDQ_NUDGE_BAD)).syncNudge

/-- A nudge is pushed (R182); `held` says that the FIFO's head is not handled yet. -/
def State.pushNudge (s : State) (word : Word) (held : Bool) : State :=
  if 256 ≤ s.cmdq.nudges.length then
    let t1 := (s.setFlag CMDQ_NUDGE_STAT_OVF true).bump CNT_CMDQ_NUDGE_OVF
    t1.each (t1.cmdq.queues.filter (fun e => e.2.type == 3)) (fun u e => u.readDoorbell e.1)
  else
    let t1 := { s with cmdq := { s.cmdq with nudges := s.cmdq.nudges ++ [fieldOf word 0 16] } }
    if held then t1.syncNudge else t1.drainNudges

/-- LOCAL_NUDGE (R182): a 4-byte write to PF1's nudge page. -/
def execLocalNudge (word : Word) (held : Bool) (s : State) : Host.Outcome State Fault Refusal :=
  .next (s.pf1Access (fun t => t.pushNudge word held))

/-- DOORBELL_READ_DUE (R181): `late` says that the aggregate cap stretched the interval. -/
def execDoorbellReadDue (queue : Fin 17408) (late : Bool) (s : State) : Host.Outcome State Fault Refusal :=
  .next (s.cond s.inService (fun t =>
    let t1 := t.drainNudges
    match t1.queue? queue with
    | none => t1
    | some q => if q.dbOut then t1 else (t1.readDoorbell queue).cond (late && decide (2 ≤ q.type) && !q.stopped) (fun u => u.bump CNT_CMDQ_POLL_LATE)))

/-- Chunks of at most `m` entries from a slot (R181). -/
def entryChunks (m : Nat) : Nat → Nat → Nat → List (Nat × Nat)
  | 0, _, _ => []
  | fuel + 1, slot, n => if n = 0 then [] else (slot, min m n) :: entryChunks m fuel (slot + min m n) (n - min m n)

/-- Fetch new entries: up to the ring's end, then from slot 0, in reads of at most 64 entries (R181). -/
def State.fetchEntries (s : State) (qi : Nat) (q : Queue) (n : Nat) : State :=
  let size := q.entriesM1 + 1
  let from' := (q.sqHead + q.fetching) % size
  let first := min n (size - from')
  let m := if q.type = 3 then max 1 (min 64 (s.hep.pf1.mrrs / 64)) else 64
  let chunks := entryChunks m 1025 from' first ++ entryChunks m 1025 0 (n - first)
  let s1 := s.setQueue qi { q with fetching := q.fetching + n, toFetch := q.toFetch ++ chunks }
  s1.each chunks (fun t e => if q.type = 2 then t.qpSend q.qpn ⟨.read (.entries qi e.1 e.2) q.rkey (q.sqBase + 64 * e.1), 64 * e.2⟩
    else t.pf1Read (.entries qi e.1 e.2) (q.sqBase + 64 * e.1) (64 * e.2) 0)

/-- Judge a doorbell word (R180). -/
def State.judgeDoorbell (s : State) (qi : Nat) (q : Queue) (w : Nat) : State :=
  let tail := w % 2 ^ 16
  let epoch := w / 2 ^ 16 % 2 ^ 16
  if q.stopped then s
  else if epoch != q.epoch then s.bump CNT_CMDQ_DB_EPOCH
  else if q.entriesM1 < tail then
    let s1 := s.bump CNT_CMDQ_DB_BAD
    if q.dbBad then s1 else (s1.setQueue qi { q with dbBad := true }).aen q.assoc 0 1 0x01
  else
    let size := q.entriesM1 + 1
    let n := (tail + 2 * size - q.sqHead - q.fetching) % size
    if n = 0 then s else
    let q1 := { q with active := true, sqTail := tail }
    (((s.setQueue qi q1).syncLtr).kaTouch q.assoc false).fetchEntries qi q1 (min n (65536 - s.tagsUsed))

/-- DOORBELL_READ_RETURN (R180, R181): the word that has come back is judged, and a read that a nudge made due is issued. -/
def execDoorbellReadReturn (queue : Fin 17408) (s : State) : Host.Outcome State Fault Refusal :=
  .next (match s.queue? queue with
    | none => s
    | some q => match q.dbWord with
      | none => s
      | some w =>
        if !s.inService then s else
        let q1 := { q with dbWord := none, dbOut := false, dbDue := false }
        let s1 := (s.setQueue queue q1).judgeDoorbell queue q1 w
        if q.dbDue then s1.readDoorbell queue else s1)

/-- Entries of a fetched chunk, stamped in ring order (R186). -/
def ringCapsules (port : Nat) (data stamp : Nat) : Nat → Nat → Nat → List Capsule
  | 0, _, _ => []
  | n + 1, k, last =>
    let st := max (stamp + k) (last + 1)
    { sqe := data / 2 ^ (512 * k) % 2 ^ 512, stamp := st, port := port } :: ringCapsules port data stamp n (k + 1) st

/-- RING_ENTRY_RETURN (R181, R186): the oldest chunk that has come back joins the ring's waiting entries, and the SQ head passes it. -/
def execRingEntryReturn (queue : Fin 17408) (s : State) : Host.Outcome State Fault Refusal :=
  .next (match s.queue? queue with
    | none => s
    | some q => match q.entryIn with
      | [] => s
      | (n, data, stamp, port) :: rest =>
        if !s.inService then s else
        let cs := ringCapsules port data stamp n 0 q.lastStamp
        let last := cs.foldl (fun _ c => c.stamp) q.lastStamp
        let q1 := { q with entryIn := rest, fetching := q.fetching - n, inbox := q.inbox ++ cs, sqHead := (q.sqHead + n) % (q.entriesM1 + 1), lastStamp := last }
        (s.setQueue queue q1).bumpBy CNT_CMDQ_RING_ENTRIES n)

/-- RING_IDLE_TIMEOUT (R181, R399). -/
def execRingIdleTimeout (queue : Fin 17408) (s : State) : Host.Outcome State Fault Refusal :=
  .next (s.cond s.inService (fun t => (t.modQueue queue (fun q => if 2 ≤ q.type then { q with active := false } else q)).syncLtr))

/-! ### Arbitration (R184, R185, R210, R211) -/

/-- Why a queue's head may not be admitted now. -/
inductive Skip where
  | no
  /-- It would be the 17th behind overlapping commands (R185). -/
  | stall
  /-- No lock room beyond the reserve (R211). -/
  | lockFull
  /-- Only commands at their horizon may take a tag (R211). -/
  | tagHold
  deriving DecidableEq, Repr

/-- Judge the head command of a queue. -/
def State.skipOf (s : State) (c : Cmd) : Skip :=
  let touches := c.status == 0 && c.kind.touches
  if touches && decide (16 ≤ s.overlapDepth 65536 c) then .stall
  else if !s.tagOk (touches && s.atHorizon c) then .tagHold
  else if touches && !s.placeable 65536 c then .lockFull
  else .no

/-- Queues whose head command is for a cluster. -/
def State.heads (s : State) (c : Nat) : List (Nat × Queue × Cmd) :=
  s.cmdq.queues.filterMap (fun e => match e.2.waiting with
    | x :: _ => if !e.2.isAdmin && x.cluster % 16 == c then some (e.1, e.2, x) else none
    | [] => none)

/-- Bring the skip marks of the queues up to date, counting each skip that starts (R185, R211). -/
def State.markSkips (s : State) (c : Nat) : State :=
  s.each (s.heads c) (fun t e =>
    let k := s.skipOf e.2.2
    let t1 := t.modQueue e.1 (fun q => { q with stalled := k != .no, held := k == .lockFull || k == .tagHold })
    match k with
    | .no => t1
    | .stall => if e.2.1.stalled && !e.2.1.held then t1 else t1.bump CNT_CMDQ_LOCK_STALLS
    | .lockFull => if e.2.1.held then t1 else (t1.bumpC c CNT_ENG_LOCK_FULL).bumpC c CNT_ENG_HORIZON_HOLD
    | .tagHold => if e.2.1.held then t1 else t1.bumpC c CNT_ENG_HORIZON_HOLD)

/-- The WRR credits at the start of a round (R184). -/
def State.arbRefill (s : State) (a : Arb) : Arb :=
  { a with high := s.fld CMDQ_ARB_HPW + 1, medium := s.fld CMDQ_ARB_MPW + 1, low := s.fld CMDQ_ARB_LPW + 1 }

/-- Credit of a class. -/
def Arb.credit (a : Arb) (k : Nat) : Nat := match k with
  | 1 => a.high
  | 2 => a.medium
  | _ => a.low

/-- Take one credit. -/
def Arb.spend (a : Arb) (k : Nat) : Arb := match k with
  | 1 => { a with high := a.high - 1 }
  | 2 => { a with medium := a.medium - 1 }
  | 3 => { a with low := a.low - 1 }
  | _ => a

/-- The class served next among those with a waiting command that may be admitted: Urgent first, then High, Medium, Low with credit; a new
round starts when none of them has credit (R184). -/
def State.pickClass (s : State) (a : Arb) (cands : List (Nat × Queue × Cmd)) : Option (Nat × Arb) :=
  let has (k : Nat) : Bool := cands.any (fun e => e.2.1.cls == k)
  if has 0 then some (0, a) else
  match [1, 2, 3].find? (fun k => has k && a.credit k != 0) with
  | some k => some (k, a)
  | none => match [1, 2, 3].find? has with
    | some k => some (k, s.arbRefill a)
    | none => none

/-- Burst limit of a turn; none with AB = 7 (R184). -/
def State.burst (s : State) : Option Nat := if s.fld CMDQ_ARB_AB = 7 then none else some (2 ^ s.fld CMDQ_ARB_AB)

/-- The queue served within a class: the one whose turn it is while its turn lasts, else the next in rotation (R114, R184). -/
def State.pickQueue (s : State) (a : Arb) (k : Nat) (qs : List (Nat × Queue × Cmd)) : Option (Nat × Queue × Cmd) :=
  let ptr := tget a.ptr k 0
  let go := match qs.find? (fun e => e.1 == ptr) with
    | some e => (match s.burst with
      | none => some e
      | some b => if e.2.1.turn < b then some e else none)
    | none => none
  match go with
  | some e => some e
  | none => (rotPick (qs.map (fun e => e.1)) (ptr + 1)).bind (fun i => qs.find? (fun e => e.1 == i))

/-- Admit one command of a queue: it takes a tag; a failed one is done at once, another places its locks and is pushed to an engine (R191, R202, R207). -/
def State.letIn (s : State) (c qi : Nat) (q : Queue) (x : Cmd) : State :=
  let h := s.freeTag.getD 0
  let q1 := { q with waiting := q.waiting.drop 1, stalled := false, held := false, sqHead := if q.type = 1 then (q.sqHead + 1) % (q.entriesM1 + 1) else q.sqHead }
  let s1 := (s.setQueue qi q1).kaTouch q.assoc false
  if x.status != 0 then (s1.setCmd h { x with state := .done }).syncCmds
  else
    let s2 := ((s1.setCmd h { x with state := .placed }).placeLocks h x).dispatch c h
    (if 1 < (segsOf x.ranges).length then s2.bumpC c CNT_ENG_SEGMENTS else s2).syncCmds

/-- ARBITER_ADMIT (R184): window requests that waited for lock room are placed first; then one command is admitted. -/
def execArbiterAdmit (cluster : Fin 16) (s : State) : Host.Outcome State Fault Refusal :=
  .next (s.cond s.inService (fun t0 =>
    let wins := t0.cmdq.cmds.filter (fun e => decide (65536 ≤ e.1) && e.2.state == .waiting && e.2.seg == 0 && e.2.cluster % 16 == cluster.val)
    let t := (t0.each wins (fun u e => if u.placeable e.1 e.2 && !(u.pushable cluster).isEmpty then
      ((u.setCmd e.1 { e.2 with state := .placed }).placeLocks e.1 e.2).dispatch cluster e.1 else u)).markSkips cluster
    let cands := (t.heads cluster).filter (fun e => t.skipOf e.2.2 == .no && (e.2.2.status != 0 || !(t.pushable cluster).isEmpty))
    let a := tget t.cmdq.arbs cluster {}
    match t.pickClass a cands with
    | none => t
    | some (k, a1) =>
      let qs := cands.filter (fun e => e.2.1.cls == k)
      match t.pickQueue a1 k qs with
      | none => t
      | some (qi, q, x) =>
        let same := tget a1.ptr k 0 == qi
        let turn := if same && (match t.burst with
            | none => true
            | some b => decide (q.turn < b)) then q.turn + 1 else 1
        let a2 := { (a1.spend k) with ptr := tput a1.ptr k qi }
        { t with cmdq := { t.cmdq with arbs := tput t.cmdq.arbs cluster a2 } }.letIn cluster qi { q with turn := turn } x))

/-! ### Grants (R209) -/

/-- LOCK_GRANT (R209): every entry of a placed command that may be granted is; the command proceeds once all are. -/
def execLockGrant (handle : Nat) (s : State) : Host.Outcome State Fault Refusal :=
  .next (match s.cmd? handle with
    | none => s
    | some c =>
      if !(s.inService && c.state == .placed) then s else
      let new := s.eng.locks.filter (fun e => e.owner == handle && !e.granted && s.grantable e)
      let s1 := { s with eng := { s.eng with locks := s.eng.locks.map (fun e => if new.contains e then { e with granted := true } else e) } }
      let s2 := s1.remoteOps handle c.cluster new
      if s2.eng.locks.all (fun e => e.owner != handle || e.granted) then s2.modCmd handle (fun x => { x with state := .granted }) else s2)

/-! ### Flush, last frame and retirement (R28, R183, R188, R189, R191, R213) -/

/-- Volumes a Flush covers: its namespace's, or every one on the access list for the association and port (R188). -/
def State.flushCovers (s : State) (c : Cmd) (v : Nat) : Bool := if c.vol = 4096 then s.aclOk c.assoc c.port v 2 else c.vol == v

/-- A Flush may complete: no write-kind command stamped before it is unfinished, and without a partner none is undestaged (R188, R189). -/
def State.flushOk (s : State) (c : Cmd) : Bool :=
  let late (v st : Nat) : Bool := s.flushCovers c v && decide (st < c.stamp)
  !(s.cmdq.cmds.any (fun e => e.2.kind.isWrite && e.2.status == 0 && e.2.state != .done && late e.2.vol e.2.stamp))
    && !(s.cmdq.queues.any (fun e => e.2.waiting.any (fun x => x.kind.isWrite && x.status == 0 && late x.vol x.stamp)
        || (!e.2.isAdmin && e.2.inbox.any (fun x => match ioKind (sqeOpc x.sqe) with
          | some k => k.isWrite && decide (1 ≤ sqeNsid x.sqe) && late (sqeNsid x.sqe - 1) x.stamp
          | none => false))))
    && (s.partnered || !(s.red.journal.any (fun r => !r.dirty.isEmpty && late r.vol r.stamp)))

/-- A frame or message that carries a command's last data is still on its way to the MAC (R28). -/
def State.dataQueued (s : State) (h : Nat) : Bool :=
  let f (x : Frame) : Bool := x.tag == some h
  s.swc.voq.any (fun (e : Nat × List (Frame × Nat)) => e.2.any (fun x => f x.1)) || s.swc.outq.any (fun (e : Nat × List Frame) => e.2.any f)
    || s.rdm.qps.any (fun e => e.2.sendq.any (fun m => m.kind.tag == some h))

/-- A read's segment has ended: the next segment waits for its place, or the command is done (R212). -/
def State.readSegDone (s : State) (h : Nat) : State := match s.cmd? h with
  | none => s
  | some c =>
    if c.seg + 1 < (segsOf c.ranges).length && c.status == 0 then
      (((s.unlock h).setCmd h { c with seg := c.seg + 1, state := .waiting, pieces := [], sent := false, lastSent := false, credit := 0 }).offEngines h).syncCmds
    else s.setCmd h { c with state := .done }

/-- LAST_FRAME_TRANSMITTED (R28): the MAC reports the last data frame of a read, or the last response of a window READ (R160, R213). -/
def execLastFrameTransmitted (handle : Nat) (s : State) : Host.Outcome State Fault Refusal :=
  .next (match s.cmd? handle with
    | none => s
    | some c =>
      if !s.running || s.dataQueued handle then s
      else if c.kind = .winRead then
        if c.state == .done && c.sent then ((s.winDone c.win).endCmd handle).winFree c.win else s
      else if c.kind = .read && c.sent && !c.lastSent && c.state == .running then (s.setCmd handle { c with lastSent := true }).readSegDone handle
      else s)

/-- A completed command leaves: its CQE is posted, its locks, tag and staging are free; a ring that waited for it acts (R183, R191, R213). -/
def State.retire (s : State) (h : Nat) (c : Cmd) : State :=
  let s1 := if c.orphan then s.bump CNT_CMDQ_RESET_ENDED else match c.queue with
    | some qi => if s.hep.pf1.bme && s.hep.affected.contains h then (s.postCqe qi c.cid 0x007 0 c.sqe).bump CNT_HEP_BME_ABORTS
      else s.postCqe qi c.cid c.status c.result c.sqe
    | none => s
  let s2 := if c.status = 0x7C4 then s1.bump CNT_CMDQ_DEFER_TIMEOUT else s1
  let s3 := (s2.endCmd h).monEvent (64 + c.cluster % 16) 0x080 1
  match c.queue with
  | some qi => s3.ringAction qi
  | none => s3

/-- COMMAND_RETIRE (R183): a done command, or a Flush whose earlier writes are durable. -/
def execCommandRetire (handle : Nat) (s : State) : Host.Outcome State Fault Refusal :=
  .next (match s.cmd? handle with
    | none => s
    | some c =>
      if s.inService && decide (handle < 65536) && (c.state == .done || (c.kind == .flush && (c.state == .granted || c.state == .admitted) && s.flushOk c)) then s.retire handle c else s)

end Sys2Proof.Machine
end

