-- ==== Sys2Proof/Machine/Stripe.lean ====
section
/-! DEFINITION. Protection sets: the field of R249 and its code, declustered placement (R252, R253), slabs and their layers (R254, R255, R257), lost ranges
(R274), reconstruction (R258). -/

namespace Sys2Proof.Machine

/-! ### GF(2^8) with the polynomial 0x11D, on every octet of a stored sector at once (R249) -/

/-- A one in each of 4,160 octets. -/
def octOnes : Nat := (256 ^ 4160 - 1) / 255

/-- Each octet times x. -/
def xtimeW (w : Nat) : Nat := ((w &&& (octOnes * 0x7F)) * 2) ^^^ (((w / 128) &&& octOnes) * 0x1D)

/-- Each octet times x^n. -/
def xpowW : Nat → Nat → Nat
  | 0, w => w
  | n + 1, w => xpowW n (xtimeW w)

/-- Each octet of a sector times a field element. -/
def gmulW (c w : Nat) : Nat := (List.range 8).foldl (fun acc i => if bitOf c i then acc ^^^ xpowW i w else acc) 0

/-- The product of two field elements. -/
def gmul (a b : Nat) : Nat := gmulW a (b % 256)

/-- The inverse of a field element. -/
def ginv (a : Nat) : Nat := ((List.range 256).find? (fun b => gmul a b == 1)).getD 0

/-- The coefficient of data strip `j` in parity strip `i` (R249). -/
def parityCoef (i j : Nat) : Nat := gmul (j + 4) (ginv (i ^^^ (j + 4)))

/-! ### Geometry (R248, R252) -/

/-- Data strips of a stripe; a mirror has one. -/
def PSet.dataK (p : PSet) : Nat := if p.layout = 1 then 1 else p.k
/-- Stripe width W. -/
def PSet.width (p : PSet) : Nat := if p.layout = 1 then p.k else p.k + p.m
/-- Strips a stripe may lose. -/
def PSet.redund (p : PSet) : Nat := if p.layout = 1 then p.k - 1 else p.m
/-- Stripes of a band, G. -/
def PSet.groups (p : PSet) : Nat := (p.n - p.spare) / max 1 p.width
/-- Stripes of a slab, S (R253). -/
def PSet.perSlab (p : PSet) : Nat := cdiv 16384 (max 1 p.dataK)
/-- Slabs of the set (R285). -/
def PSet.totalSlabs (p : PSet) : Nat := p.bands * p.groups / max 1 p.perSlab
/-- Band of a stripe. -/
def PSet.band (p : PSet) (t : Nat) : Nat := t / max 1 p.groups

/-- Swap two places of a list. -/
def swapAt (l : List Nat) (i j : Nat) : List Nat := (l.set i (l.getD j 0)).set j (l.getD i 0)

/-- The steps of R252 from place `i` down to 1. -/
def permSteps (seed r : Nat) : Nat → List Nat → List Nat
  | 0, l => l
  | i + 1, l => permSteps seed r i (swapAt l (i + 1) (crc32c (toLe 2 seed ++ toBe 2 r ++ toBe 1 (i + 1)) % (i + 2)))

/-- A permutation row (R252). -/
def permRow (seed r n : Nat) : List Nat := permSteps seed r (n - 1) (List.range n)

/-- The permutation row of a band. -/
def PSet.row (p : PSet) (b : Nat) : List Nat := permRow p.seed (b % 1024) p.n

/-- The slot of a strip position, before relocation (R252). -/
def PSet.slotOf (p : PSet) (t pos : Nat) : Nat := (p.row (p.band t)).getD (t % max 1 p.groups * p.width + pos) 0

/-- The slot that holds a strip: its own, or the one its relocation names (R253, R271). -/
def PSet.holder (p : PSet) (t pos : Nat) : Nat := let sl := p.slotOf t pos; tget p.reloc (p.band t * 32 + sl) sl

/-- Slots of a band's spare strips, lowest position first (R252). -/
def PSet.spareSlots (p : PSet) (b : Nat) : List Nat := (p.row b).drop (p.groups * p.width)

/-- First member block of a band (R250). -/
def bandBlock (b : Nat) : Nat := 8192 + 16 * b

/-- The coefficients of a strip position over the data strips: a data strip, a mirror copy, or a parity strip. -/
def PSet.coefs (p : PSet) (pos : Nat) : List Nat :=
  if p.layout = 1 then [1] else if pos < p.k then (List.range p.k).map (fun j => if j = pos then 1 else 0) else (List.range p.k).map (fun j => parityCoef (pos - p.k) j)

/-- The sector at a strip position, from the sectors of every data strip in one row (R249). -/
def PSet.encodeAt (p : PSet) (data : List Nat) (pos : Nat) : Nat := ((p.coefs pos).zip data).foldl (fun acc e => acc ^^^ gmulW e.1 e.2) 0

/-- An equation: coefficients over the data strips, and their sum. -/
abbrev GfRow := List Nat × Nat

/-- Add `c` times one equation to another. -/
def GfRow.addMul (a : GfRow) (c : Nat) (b : GfRow) : GfRow := ((a.1.zip b.1).map (fun e => e.1 ^^^ gmul c e.2), a.2 ^^^ gmulW c b.2)

/-- Eliminate the unknowns in order from `c`; none where the equations do not suffice. -/
def gfSolve : Nat → Nat → List GfRow → List GfRow → Option (List GfRow)
  | 0, _, used, _ => some used
  | n + 1, c, used, rest =>
    match rest.find? (fun r => r.1.getD c 0 != 0) with
    | none => none
    | some r =>
      let i := ginv (r.1.getD c 0)
      let r' : GfRow := (r.1.map (gmul i), gmulW i r.2)
      let elim (x : GfRow) : GfRow := GfRow.addMul x (x.1.getD c 0) r'
      gfSolve n (c + 1) (used.map elim ++ [r']) ((rest.erase r).map elim)

/-- The data sectors of a row, from the sectors known at some positions (R249): any `k` suffice. -/
def PSet.recover (p : PSet) (known : List (Nat × Nat)) : Option (List Nat) :=
  (gfSolve p.dataK 0 [] (known.map (fun e => (p.coefs e.1, e.2)))).map (fun l => l.map (fun r => r.2))

/-! ### Members -/

/-- A member's DPT state (R247): 1 ONLINE, 2 SUSPECT, 3 FAILED, 4 REBUILDING, 5 SPARE_SPACE, 6 MISSING, 7 UNQUALIFIED. -/
def State.memState (s : State) (m : Nat) : Nat := s.fld (DPT_MEM_STAT_STATE m)

/-- Member in a slot. -/
def PSet.member (p : PSet) (slot : Nat) : Option Nat := tget? p.slots slot

/-- The bands of a filling slot that are done (R276, R278). -/
def PSet.filled (p : PSet) (slot b : Nat) : Bool := p.filling.any (fun e => e.1 == slot && decide (b < e.2.1))

/-- A slot's member can be read for a band: ONLINE, or REBUILDING with the band done (R258, R278). -/
def State.slotReads (s : State) (p : PSet) (slot b : Nat) : Bool := match p.member slot with
  | none => false
  | some m => s.memState m == 1 || (s.memState m == 4 && p.filled slot b)

/-- A strip can be read where it lies (R258). -/
def State.stripReads (s : State) (p : PSet) (t pos : Nat) : Bool := s.slotReads p (p.holder t pos) (p.band t)

/-- A strip's member is SUSPECT: it may come back (R239). -/
def State.stripWaits (s : State) (p : PSet) (t pos : Nat) : Bool := match p.member (p.holder t pos) with
  | none => false
  | some m => s.memState m == 2

/-- A strip is unrecovered: neither on an ONLINE (or SUSPECT) member nor relocated (R270, R272). -/
def State.stripGone (s : State) (p : PSet) (t pos : Nat) : Bool := !s.stripReads p t pos && !s.stripWaits p t pos

/-- Unrecovered strips of a stripe. -/
def State.goneStrips (s : State) (p : PSet) (t : Nat) : List Nat := (List.range p.width).filter (s.stripGone p t)

/-- Remaining redundancy of a stripe (R272). -/
def State.redundLeft (s : State) (p : PSet) (t : Nat) : Nat := p.redund - (s.goneStrips p t).length

/-- The free spare strip of a band (R271): lowest position, member ONLINE, no relocation in it. -/
def State.freeSpare (s : State) (p : PSet) (b : Nat) : Option Nat := (p.spareSlots b).find? (fun sl => (match p.member sl with
  | some m => s.memState m == 1
  | none => false) && !p.reloc.any (fun e => e.1 / 32 == b && e.2 == sl))

/-! ### Slabs -/

/-- The stripe that holds an offset of a slab: none where it is UNINIT (R255, R257). -/
def stripeIn : List (Nat × List (Nat × Bool)) → Nat → Option Nat
  | [], _ => none
  | (t0, l) :: rest, o => match tget? l o with
    | some w => if w then some (t0 + o) else none
    | none => stripeIn rest o

/-- First stripe of the newest layer. -/
def Slab.top (x : Slab) : Nat := match x.layers with
  | (t0, _) :: _ => t0
  | [] => 0

/-- Offsets the newest layer lists. -/
def Slab.inTop (x : Slab) (o : Nat) : Bool := match x.layers with
  | (_, l) :: _ => (tget? l o).isSome
  | [] => false

/-- Mark an offset of the newest layer as written, or as returned to UNINIT; older layers are dropped once every stripe is in the newest (R257). -/
def Slab.mark (x : Slab) (per o : Nat) (w : Bool) : Slab := match x.layers with
  | (t0, l) :: rest =>
    let l1 := if rest.isEmpty && !w then tdel l o else tput l o w
    { x with layers := (t0, l1) :: (if l1.length = per then [] else rest) }
  | [] => x

/-- First stripes in use in a set, one for each run (R254, R257). -/
def State.runsUsed (s : State) (p : Nat) : List Nat :=
  ((s.red.vols.filter (fun e => e.2.set == p)).flatMap (fun e => e.2.slabs.flatMap (fun x => x.2.layers.map (fun l => l.1)))).eraseDups

/-- The lowest free run of stripes, at a multiple of S (R254). -/
def State.freeRun (s : State) (pi : Nat) (p : PSet) : Option Nat :=
  let used := s.runsUsed pi
  ((List.range (used.length + 1)).map (fun i => i * p.perSlab)).find? (fun t => !used.contains t && decide (t / max 1 p.perSlab < p.totalSlabs))

/-- Another volume uses the newest run of a slab (R257). -/
def State.sharedSlab (s : State) (v : Nat) (x : Slab) (set : Nat) : Bool :=
  s.red.vols.any (fun e => e.1 != v && e.2.set == set && e.2.slabs.any (fun y => y.2.layers.any (fun l => l.1 == x.top)))

/-- Bring the slab and volume registers of a set and volume up to date (R285). -/
def State.syncSet (s : State) (pi : Nat) : State := match tget? s.red.sets pi with
  | none => s
  | some p => (s.setFld (RED_SET_SLABS_TOTAL pi) p.totalSlabs).setFld (RED_SET_FREE_FREE pi) (p.totalSlabs - (s.runsUsed pi).length)

/-- Bring a volume's registers up to date. -/
def State.syncVol (s : State) (v : Nat) : State := match tget? s.red.vols v with
  | none => (s.setReg (RED_VOL0 v) 0).setReg (RED_VOL1 v) 0
  | some x =>
    let s1 := (((s.setFlag (RED_VOL0_EN v) true).setFld (RED_VOL0_SET v) x.set).setFld (RED_VOL0_MAX_SLABS v) x.maxSlabs).setFlag (RED_VOL0_LOST v) (x.slabs.any (fun e => e.2.lost))
    ((s1.setFld (RED_VOL1_ALLOC v) x.slabs.length).setFlag (RED_VOL1_SHARED v) (x.slabs.any (fun e => s.sharedSlab v e.2 x.set))).syncSet x.set

/-! ### Where a volume block lies (R253, R255, R257, R274) -/

/-- A block's place. -/
inductive Place' where
  /-- No such volume or block. -/
  | none
  /-- Unallocated or UNINIT: zeros. -/
  | zero
  /-- In a slab marked lost. -/
  | lostSlab
  /-- In a set: stripe, data position, sector row, and the volume that allocated the slab. -/
  | strip (set t pos row owner : Nat)
  deriving DecidableEq, Repr

/-- Locate a block of a volume. -/
def State.locate (s : State) (v l : Nat) : Place' :=
  match tget? s.red.vols v with
  | none => .none
  | some x => match tget? s.red.sets x.set, tget? x.slabs (l / 2 ^ 18) with
    | some p, some sl =>
      let d := l % 2 ^ 18 / 16
      if sl.lost then .lostSlab else
      match stripeIn sl.layers (d / max 1 p.dataK) with
      | none => .zero
      | some t => .strip x.set t (d % max 1 p.dataK) (l % 16) sl.owner
    | _, _ => .zero

/-- A position and row of a stripe lie in a lost range (R274). -/
def State.lostAt (s : State) (set t pos row : Nat) : Bool :=
  s.red.lost.any (fun e => e.2.set == set && e.2.stripe == t && bitOf e.2.mask pos && decide (e.2.first ≤ row && row < e.2.first + e.2.rows))

/-- A stripe holds a lost range. -/
def State.lostStripe (s : State) (set t : Nat) : Bool := s.red.lost.any (fun e => e.2.set == set && e.2.stripe == t)

/-- A block is lost (R274). -/
def State.lostBlock (s : State) (v l : Nat) : Bool := match s.locate v l with
  | .lostSlab => true
  | .strip set t pos row _ => s.lostAt set t pos row
  | _ => false

/-- The volumes, slab numbers and offsets whose stripe a set's stripe is (any layer). -/
def State.stripeUsers (s : State) (set t : Nat) : List (Nat × Nat × Nat) :=
  match tget? s.red.sets set with
  | none => []
  | some p => (s.red.vols.filter (fun e => e.2.set == set)).flatMap (fun e => e.2.slabs.filterMap (fun x =>
      match x.2.layers.find? (fun l => decide (l.1 ≤ t && t < l.1 + p.perSlab)) with
      | some l => if stripeIn x.2.layers (t - l.1) = some t then some (e.1, x.1, t - l.1) else none
      | none => none))

/-! ### Events, losses, and the state of a set (R270, R274, R281) -/

/-- Show the oldest entry of the event log, with OVF where one was lost since the last read (R281, R283). -/
def State.syncEvlog (s : State) : State := match s.red.evlog with
  | (a, b, c, d) :: _ =>
    (((s.setReg RED_EVLOG0 (BitVec.ofNat 32 (a + if s.red.evOvf then 2 ^ 30 else 0))).setReg RED_EVLOG1 (BitVec.ofNat 32 b)).setReg RED_EVLOG2 (BitVec.ofNat 32 c)).setReg RED_EVLOG3 (BitVec.ofNat 32 d)
  | [] => (((s.setReg RED_EVLOG0 0).setReg RED_EVLOG1 0).setReg RED_EVLOG2 0).setReg RED_EVLOG3 0

/-- Log an event (R281): a full log loses it and remembers that. An entry added is health source 5 (R446). -/
def State.logRed (s : State) (typ set pos first rows member stripe : Nat) : State :=
  if 256 ≤ s.red.evlog.length then { s with red := { s.red with evOvf := true } }.syncEvlog else
  let w0 := typ + set * 2 ^ 8 + pos * 2 ^ 11 + first * 2 ^ 16 + member * 2 ^ 20 + 2 ^ 31
  let e := (w0, stripe % 2 ^ 32, stripe / 2 ^ 32 % 256 + (rows - 1) * 256, s.devNs / 1000000000 % 2 ^ 32)
  (({ s with red := { s.red with evlog := s.red.evlog ++ [e] } }.health 5).syncEvlog)

/-- Written stripes of a set: the newest place of every offset its slabs list as written. -/
def State.writtenStripes (s : State) (set : Nat) : List Nat :=
  ((s.red.vols.filter (fun e => e.2.set == set)).flatMap (fun e => e.2.slabs.flatMap (fun x =>
    x.2.layers.flatMap (fun l => l.2.filterMap (fun o => if o.2 then some (l.1 + o.1) else none))))).eraseDups

/-- Bring the state of every set up to date (R270, R285), and DEGRADED with it. -/
def State.syncRed (s : State) : State :=
  let s1 := s.each s.red.sets (fun t e =>
    let ws := t.writtenStripes e.1
    let left := ws.map (fun x => (t.goneStrips e.2 x).length)
    let gone := left.any (fun n => decide (0 < n))
    let crit := left.any (fun n => decide (0 < n ∧ e.2.redund ≤ n))
    let lost := t.red.lost.any (fun l => l.2.set == e.1)
    let st := if t.flag RED_JRN_STAT_REPLAY then 5 else if crit then 3 else if gone then 2 else if lost then 4 else 1
    let left' := (ws.filter (fun x => !(t.goneStrips e.2 x).isEmpty)).length
    let t1 := ((t.setFld (RED_SET_STAT_STATE e.1) st).setFlag (RED_SET_STAT_SPARE_LOW e.1) ((ws.map e.2.band).eraseDups.any (fun b => (t.freeSpare e.2 b).isNone))).setFlag (RED_SET_STAT_REBUILDING e.1) (gone || !e.2.filling.isEmpty)
    ((t1.setFld (RED_SET_STAT_GEN e.1) e.2.gen).set64 (RED_SET_REB e.1) left').set64 (RED_SET_PAT e.1) e.2.patrol)
  let deg := s1.red.sets.any (fun e => let st := s1.fld (RED_SET_STAT_STATE e.1); st == 2 || st == 3 || st == 4)
  (s1.setFlag SYS_MODE_DEGRADED deg).syncServing

/-- Show the count of bad-range entries. -/
def State.syncLost (s : State) : State := s.setFld RED_LOST_STAT_COUNT s.red.lost.length

/-- Record a lost range (R274): the bad-range table, or with it full the whole slab. -/
def State.recordLoss (s : State) (set t mask first rows : Nat) : State :=
  let users := s.stripeUsers set t
  let vol := match users with
    | (v, _, _) :: _ => v
    | [] => 0
  match (List.range 8192).find? (fun i => (tget? s.red.lost i).isNone) with
  | some i =>
    let e : Lost := { set := set, stripe := t, mask := mask, first := first, rows := rows, vol := vol }
    ((((s.putLost i (some e)).bump CNT_RED_RANGE_LOST)).logRed 6 set ((List.range 32).find? (bitOf mask) |>.getD 0) first rows 0 t).syncLost.syncRed
  | none =>
    let s1 := (s.bump CNT_RED_LOST_OVF).logRed 7 set 0 first rows 0 t
    (s1.each users (fun u e => match tget? u.red.vols e.1 with
      | some x => match tget? x.slabs e.2.1 with
        | some sl => (u.putVol e.1 (some { x with slabs := tput x.slabs e.2.1 { sl with lost := true } })).syncVol e.1
        | none => u
      | none => u)).syncRed

end Sys2Proof.Machine
end

