-- ==== Sys2Proof/Machine/Engines.lean ====
section
/-! DEFINITION. Stripe engines: dispatch, contexts, stealing, segments, global operations, microcode banks (R58, R199–R220). -/

namespace Sys2Proof.Machine

/-! ### Contexts (R200) -/

/-- A command waits, so its context is parked: for its locks, the governor, host data, drives, the cipher, the mirror, or its retirement. -/
def Cmd.waits (c : Cmd) : Bool := match c.state with
  | .waiting => true
  | .placed => true
  | .granted => c.deferred.isSome
  | .done => true
  | _ => c.cipher || c.mirror.isSome || (c.credit != 0 && c.kind.isWrite && !c.arrived) || c.pieces.any (fun p => p.stored.isNone && p.src == .member)

/-- Park a command's context where it waits. -/
def State.settle (s : State) (h : Nat) : State := match s.cmd? h with
  | some c => if c.waits then s.park h else s
  | none => s

/-- An engine carries the command in a context that is not parked. -/
def State.canAct (s : State) (h : Nat) : Bool := s.eng.engines.any (fun e => e.2.ctxs.contains (h, false))

/-- CONTEXT_RESUME (R200): the command's wait has ended. -/
def execContextResume (handle : Nat) (s : State) : Host.Outcome State Fault Refusal :=
  .next (match s.cmd? handle with
    | none => s
    | some c =>
      if !s.running || c.waits then s else
      let f (e : Nat × Engine) : Nat × Engine := (e.1, { e.2 with ctxs := e.2.ctxs.map (fun x => if x.1 = handle then (handle, false) else x) })
      { s with eng := { s.eng with engines := s.eng.engines.map f } })

/-- An engine runs: its cluster is awake and it is not retired. -/
def State.engineRuns (s : State) (e : Nat) : Bool := s.running && s.gate (e / 16) == .awake && !s.retired e

/-- An engine holds a free context (R200). -/
def State.ctxFree (s : State) (e : Nat) : Bool := decide ((s.engine e).ctxs.length < 17)

/-- An entry passes into a context; the engine stops looking for work elsewhere. -/
def State.takeInto (s : State) (e h : Nat) : State :=
  let parked := match s.cmd? h with
    | some c => c.waits
    | none => true
  (s.modEngine e (fun x => { x with ctxs := x.ctxs ++ [(h, parked)], remote := false, asleep := false })).syncCmds

/-- ENGINE_TAKE (R203). -/
def execEngineTake (engine : Fin 256) (s : State) : Host.Outcome State Fault Refusal :=
  .next (if !(s.engineRuns engine && s.ctxFree engine) then s else
    match (s.engine engine).deque with
    | [] => s
    | h :: rest => (s.modEngine engine (fun x => { x with deque := rest })).takeInto engine h)

/-! ### Stealing (R204–R206) -/

/-- An engine is idle: a free context and an empty deque (R204). -/
def State.idle (s : State) (e : Nat) : Bool := s.engineRuns e && s.ctxFree e && (s.engine e).deque.isEmpty && !(s.engine e).asleep && s.flag ENG_CTL_STEAL_EN

/-- The first of the numbers 0–15 from `k` on, with wrap-around, that satisfies a test. -/
def rot16 (k : Nat) (f : Nat → Bool) : Option Nat := ((List.range 16).map (fun i => (k + i) % 16)).find? f

/-- Take the tail of a victim's deque, counted under a counter; an empty one is a failed probe (R204, R205). -/
def State.stealFrom (s : State) (e v cnt : Nat) : State :=
  match (s.engine v).deque.getLast? with
  | none => s.bumpC (e / 16) CNT_ENG_PROBE_FAIL
  | some h => ((s.modEngine v (fun x => { x with deque := x.deque.dropLast })).takeInto e h).bumpC (e / 16) cnt

/-- STEAL_PROBE (R204). -/
def execStealProbe (engine : Fin 256) (s : State) : Host.Outcome State Fault Refusal :=
  .next (if !s.idle engine || (s.engine engine).remote then s else
    let c := engine.val / 16
    match rot16 ((s.engine engine).lastVictim + 1) (fun i => i != engine.val % 16 && !s.retired (16 * c + i)) with
    | none => s
    | some i => (s.modEngine engine (fun x => { x with lastVictim := i })).stealFrom engine (16 * c + i) CNT_ENG_STEAL_LOCAL)

/-- LOCAL_PROBE_TIMEOUT (R205). -/
def execLocalProbeTimeout (engine : Fin 256) (s : State) : Host.Outcome State Fault Refusal :=
  .next (if s.idle engine && s.flag ENG_CTL_XC_EN then s.modEngine engine (fun x => { x with remote := true }) else s)

/-- REMOTE_STEAL_PROBE (R205): one engine of the next other running cluster. -/
def execRemoteStealProbe (engine : Fin 256) (s : State) : Host.Outcome State Fault Refusal :=
  .next (if !(s.idle engine && (s.engine engine).remote && s.flag ENG_CTL_XC_EN) then s else
    match rot16 ((s.engine engine).lastCluster + 1) (fun c => c != engine.val / 16 && s.gate c == .awake) with
    | none => s
    | some c =>
      let s1 := s.modEngine engine (fun x => { x with lastCluster := c })
      match rot16 (tget s.eng.probeIx c 0) (fun i => !s.retired (16 * c + i)) with
      | none => s1
      | some i => { s1 with eng := { s1.eng with probeIx := tput s1.eng.probeIx c ((i + 1) % 16) } }.stealFrom engine (16 * c + i) CNT_ENG_STEAL_REMOTE)

/-- PROBE_SLEEP_TIMEOUT (R205). -/
def execProbeSleepTimeout (engine : Fin 256) (s : State) : Host.Outcome State Fault Refusal :=
  .next (if s.idle engine then s.modEngine engine (fun x => { x with asleep := true }) else s)

/-- HELP_SIGNAL (R205): a cluster whose deques hold more than HELP entries; every waiting engine of a running cluster resumes probing. -/
def execHelpSignal (cluster : Fin 16) (s : State) : Host.Outcome State Fault Refusal :=
  .next (if !s.running || s.fld (ENG_CL_STAT_DEQ cluster) ≤ max 1 (s.fld ENG_CTL_HELP) then s else
    let f (e : Nat × Engine) : Nat × Engine := if s.gate (e.1 / 16) == .awake then (e.1, { e.2 with asleep := false }) else e
    { s with eng := { s.eng with engines := s.eng.engines.map f } }.setFlag (ENG_CL_STAT_HELP cluster) true)

/-! ### Segments (R212) -/

/-- SEGMENT_PLACE (R212): the segment before has released its entries. -/
def execSegmentPlace (handle : Nat) (s : State) : Host.Outcome State Fault Refusal :=
  .next (match s.cmd? handle with
    | none => s
    | some c =>
      let cl := c.cluster % 16
      if s.serving && c.state == .waiting && c.seg != 0 && s.placeable handle c && !(s.pushable cl).isEmpty then
        ((((s.setCmd handle { c with state := .placed }).placeLocks handle c).dispatch cl handle).bumpC cl CNT_ENG_SEGMENTS).syncCmds
      else s)

/-! ### Epochs and global operations (R214–R219) -/

/-- Stamp count of a stamp (R186). -/
def stampCount (st : Nat) : Nat := st / 2 ^ 24

/-- Open an epoch at a stamp count (R215): commands stamped below it that hold a tag are the ones that drain. -/
def State.openEpoch (s : State) (op b : Nat) : State :=
  let mark (e : Nat × Cmd) : Nat × Cmd := (e.1, { e.2 with oldEpoch := decide (e.1 < 65536 ∧ stampCount e.2.stamp < b) })
  let s1 := { s with eng := { s.eng with globalOp := op }, cmdq := { s.cmdq with cmds := s.cmdq.cmds.map mark } }
  let s2 := ((s1.setFld ENG_EPOCH_EPOCH (s1.fld ENG_EPOCH_EPOCH + 1)).set64 ENG_EPOCH_B b).bump CNT_ENG_BARRIERS
  ((s2.setFlag ENG_GLOBAL_STAT_BUSY true).setFld ENG_GLOBAL_STAT_PHASE 1).syncCmds

/-- A global operation ends with a result. -/
def State.globalResult (s : State) (r : Nat) : State :=
  (({ s with eng := { s.eng with globalOp := 0 } }.setFlag ENG_GLOBAL_STAT_BUSY false).setFld ENG_GLOBAL_STAT_PHASE 0).setFld ENG_GLOBAL_STAT_RESULT r

/-- Activate the inactive microcode bank (R58, R217): an epoch barrier; refused where no verified code is in it. -/
def State.activate (s : State) (b : Nat) : State :=
  if !s.flag ENG_UC_STAT_INACT_VALID then s.setFld SYS_UCODE_STATUS 3 else
  let s1 := (s.openEpoch 5 b).setFld SYS_UCODE_STATUS 1
  s1.setFld SYS_UCODE_EPOCH (s1.fld ENG_EPOCH_EPOCH)

/-- A global operation is done; an activation that waited for it starts (R218). -/
def State.globalDone (s : State) (r : Nat) : State :=
  let s1 := s.globalResult r
  match s1.eng.ucWait with
  | none => s1
  | some b => { s1 with eng := { s1.eng with ucWait := none } }.activate b

/-- A GO of ENG_GLOBAL_CMD (R218): discarded while another runs; refused with RESULT 1 outside its modes. -/
def State.globalGo (s : State) (op : Nat) (modes : Bool) (f : State → State) : State :=
  if s.flag ENG_GLOBAL_STAT_BUSY then s.malformed else
  let s1 := s.setFld ENG_GLOBAL_CMD_OP op
  if modes then f s1 else s1.setFld ENG_GLOBAL_STAT_RESULT 1

/-- BROADCAST (R214): delivered and gathered within 160 ns, here in one step. -/
def State.goBroadcast (s : State) : State := s.globalGo 1 s.powered (fun t => (t.emit (.broadcast (t.reg ENG_GLOBAL_ARG))).globalResult 0)

/-- BARRIER (R215). -/
def State.goBarrier (s : State) (b : Nat) : State := s.globalGo 2 s.serving (fun t => t.openEpoch 2 b)

/-- The entries of ENG_SNAP_MAP with EN = 1: source and TARGET. -/
def State.snapPairs (s : State) : List (Nat × Nat) :=
  ((s.regs.filter (fun e => decide (0x710000 ≤ e.1 ∧ e.1 < 0x714000) && fieldOf e.2 12 1 == 1)).map (fun e => ((e.1 - 0x710000) / 4, fieldOf e.2 0 12)))

/-- SNAPSHOT (R216): the map is checked, then a barrier runs. -/
def State.goSnapshot (s : State) (b : Nat) : State := s.globalGo 3 s.serving (fun t =>
  let ps := t.snapPairs
  let slabs (v : Nat) : Bool := match tget? t.red.vols v with
    | some x => !x.slabs.isEmpty
    | none => false
  if ps.any (fun p => slabs p.2 || ps.any (fun q => q.1 == p.2)) then t.setFld ENG_GLOBAL_STAT_RESULT 2 else
  let u := ((t.setFlag ENG_GLOBAL_STAT_ARMED false).setFld ENG_GLOBAL_STAT_RESULT 0).openEpoch 3 b
  { u with eng := { u.eng with snap := ps, armSent := false } })

/-- RESET of ENG (R219): contexts, deques, lock entries, ENG_DRAIN and the retired marks are cleared; commands held end without a CQE. -/
def State.engReset (s : State) : State :=
  let s1 := s.each (s.cmdq.cmds.filter (fun e => (e.2.state != .waiting || 0 < e.2.seg) && (match e.2.kind with
    | .admin _ => false
    | _ => true))) (fun t e => (t.endCmd e.1).bump CNT_CMDQ_RESET_ENDED)
  let s2 := s1.each (List.range 16) (fun t c => (t.setReg (ENG_CL_RETIRED c) 0).setFlag (ENG_CL_STAT_HELP c) false)
  let mark (e : Nat × Cmd) : Nat × Cmd := (e.1, { e.2 with oldEpoch := false })
  let bank (e : Nat × Engine) : Nat × Engine := (e.1, { bank := e.2.bank })
  ({ s2 with eng := { s2.eng with engines := s2.eng.engines.map bank, locks := [], dispPtr := [], probeIx := [] }, cmdq := { s2.cmdq with cmds := s2.cmdq.cmds.map mark } }).syncCmds

/-- RESET as a global operation: accepted in MORNING and MIDNIGHT. -/
def State.goReset (s : State) : State := s.globalGo 4 (s.mode == 2 || s.mode == 7) (fun t => t.engReset.globalResult 0)

/-- GLOBAL_BROADCAST (R214). -/
def execGlobalBroadcast (req : Requester) (s : State) : Host.Outcome State Fault Refusal := .next (s.accessWrite req ENG_GLOBAL_CMD (fun t => t.goBroadcast))
/-- GLOBAL_BARRIER (R215): `stamp` is the FCLK count of its issue, B. -/
def execGlobalBarrier (req : Requester) (stamp : Nat) (s : State) : Host.Outcome State Fault Refusal := .next (s.accessWrite req ENG_GLOBAL_CMD (fun t => t.goBarrier stamp))
/-- GLOBAL_SNAPSHOT (R216). -/
def execGlobalSnapshot (req : Requester) (stamp : Nat) (s : State) : Host.Outcome State Fault Refusal := .next (s.accessWrite req ENG_GLOBAL_CMD (fun t => t.goSnapshot stamp))
/-- GLOBAL_RESET (R219). -/
def execGlobalReset (req : Requester) (s : State) : Host.Outcome State Fault Refusal := .next (s.accessWrite req ENG_GLOBAL_CMD (fun t => t.goReset))

/-- BARRIER_ARRIVED (R215): every engine has acknowledged; a snapshot arms, another barrier drains, an activation's engines wait to switch (R217). -/
def execBarrierArrived (s : State) : Host.Outcome State Fault Refusal :=
  .next (if !(s.powered && s.fld ENG_GLOBAL_STAT_PHASE == 1) then s
    else if s.eng.globalOp = 3 then s.setFld ENG_GLOBAL_STAT_PHASE 2
    else
      let s1 := if s.eng.globalOp = 5 then s.each (List.range 256) (fun t e => t.modEngine e (fun x => { x with switching := true })) else s
      s1.setFld ENG_GLOBAL_STAT_PHASE 3)

/-- Mark the maps of the sources copy-on-write as of a stamp count, and give each TARGET its image (R216, R257). -/
def State.armMaps (s : State) (b : Nat) (ps : List (Nat × Nat)) : State :=
  s.each ps (fun t p => match tget? t.red.vols p.1 with
    | none => t
    | some x =>
      let y : Vol := { x with imageOf := some p.1, imageB := b, imageWait := true }
      let j := t.red.journal.map (fun r => if r.vol = p.1 then { r with img := r.img ++ r.dirty.map (fun x => (p.2, x)) } else r)
      (({ t with red := { t.red with vols := tput t.red.vols p.2 y, journal := j } }.syncVol p.1).syncVol p.2))

/-- ARMED is set, and the snapshot drains (R216). -/
def State.snapArmed (s : State) : State := (s.setFlag ENG_GLOBAL_STAT_ARMED true).setFld ENG_GLOBAL_STAT_PHASE 3

/-- SNAPSHOT_LOCAL_ARM (R216): the partner is asked to arm its mirrored maps; without one the snapshot is armed. -/
def execSnapshotLocalArm (s : State) : Host.Outcome State Fault Refusal :=
  .next (if !(s.powered && s.eng.globalOp == 3 && s.fld ENG_GLOBAL_STAT_PHASE == 2 && !s.eng.armSent) then s else
    let b := s.get64 ENG_EPOCH_B
    let s1 := s.armMaps b s.eng.snap
    let s2 := { s1 with eng := { s1.eng with armSent := true } }
    if s2.partnered then s2.nzlSend (.snapArm (s2.fld ENG_EPOCH_EPOCH) b s2.eng.snap) else s2.snapArmed)

/-- A volume's horizons are at or above a stamp count (R216). -/
def State.horizonsPast (s : State) (v b : Nat) : Bool :=
  (s.unplaced v true).all (fun x => decide (b ≤ stampCount x)) && (s.unplaced v false).all (fun x => decide (b ≤ stampCount x))

/-- BARRIER_DRAIN_DONE (R215, R216): no old-epoch command is left, and for a snapshot every source's horizons have passed B. An activation is done when
every engine has switched (R58). -/
def execBarrierDrainDone (s : State) : Host.Outcome State Fault Refusal :=
  .next (if !(s.powered && s.fld ENG_GLOBAL_STAT_PHASE == 3) || s.cmdq.cmds.any (fun e => e.2.oldEpoch) then s
    else if s.eng.globalOp = 2 then s.globalDone 0
    else if s.eng.globalOp = 3 then
      if !s.eng.snap.all (fun p => s.horizonsPast p.1 (s.get64 ENG_EPOCH_B)) then s else
      let s1 := s.each s.eng.snap (fun t p => match tget? t.red.vols p.2 with
        | some x => t.putVol p.2 (some { x with imageWait := false })
        | none => t)
      (s1.bump CNT_ENG_SNAPSHOTS).globalDone (if s1.fld ENG_GLOBAL_STAT_RESULT = 4 then 4 else 0)
    else s)

/-! ### Microcode (R58, R217, R218) -/

/-- UCODE_ACTIVATE (R58, R218): it waits for a global operation in progress; a second one is discarded. -/
def State.ucodeActivate (s : State) (b : Nat) : State :=
  if s.eng.ucWait.isSome || s.eng.globalOp == 5 then s
  else if s.flag ENG_GLOBAL_STAT_BUSY then { s with eng := { s.eng with ucWait := some b } }.setFld SYS_UCODE_STATUS 1
  else s.activate b

/-- UCODE_ACTIVATE: `stamp` is the FCLK count of the write. -/
def execUcodeActivate (req : Requester) (stamp : Nat) (s : State) : Host.Outcome State Fault Refusal := .next (s.accessWrite req SYS_UCODE (fun t => t.ucodeActivate stamp))

/-- An engine holds an old-epoch command. -/
def State.holdsOld (s : State) (e : Nat) : Bool :=
  let x := s.engine e
  (x.deque ++ x.ctxs.map (fun c => c.1)).any (fun h => match s.cmd? h with
    | some c => c.oldEpoch
    | none => false)

/-- ENGINE_BANK_SWITCH (R58, R217): every old-epoch command of the engine has drained. When the last engine has switched, STATUS reads 2. -/
def execEngineBankSwitch (engine : Fin 256) (s : State) : Host.Outcome State Fault Refusal :=
  .next (if !(s.powered && s.eng.globalOp == 5 && (s.engine engine).switching && !s.holdsOld engine) then s else
    let s1 := s.modEngine engine (fun x => { x with switching := false, bank := 1 - x.bank })
    if s1.eng.engines.any (fun e => e.2.switching) then s1 else
    let s2 := ((s1.setFld SYS_UCODE_STATUS 2).setFlag SYS_UCODE_BANK (!s1.flag SYS_UCODE_BANK)).setFld ENG_UC_STAT_ACT_VER s1.eng.inactVer
    (s2.setFlag ENG_UC_STAT_INACT_VALID false).globalDone (s2.fld ENG_GLOBAL_STAT_RESULT))

/-- UCODE_BANK_LOAD (R217): firmware has written a bank and verified it, or found it wrong. In DAWN, and in MORNING with no version shown yet, it is bank 0,
the active one; otherwise the inactive bank. Only management cores reach the port. -/
def execUcodeBankLoad (req : Requester) (version : Fin 65536) (valid : Bool) (s : State) : Host.Outcome State Fault Refusal :=
  .next (match req with
    | .mc _ =>
      if s.mode = 1 && s.sys.hold == .none && s.sys.imageRunning then s.cond valid (fun t => t.setFld ENG_UC_STAT_ACT_VER version)
      else if !s.powered then s
      else if s.mode = 2 && s.fld ENG_UC_STAT_ACT_VER = 0 then s.cond valid (fun t => t.setFld ENG_UC_STAT_ACT_VER version)
      else if s.eng.globalOp = 5 then s
      else { s with eng := { s.eng with inactVer := version } }.setFlag ENG_UC_STAT_INACT_VALID valid
    | _ => s)

end Sys2Proof.Machine
end

