-- ==== Sys2Proof/Machine/Flow.lean ====
section
/-! DEFINITION. A host command from its grant to its end: the governor's tests, the lookup of a read, member reads and reconstruction, the cipher, the journal
append (R27–R33, R258–R261, R288–R297, R311–R323, R335–R339). -/

namespace Sys2Proof.Machine

/-! ### The governor's tests (R336–R338). Levels are in 1/2048 µJ, so 1 W over a budget interval is 2,000,000 units -/

/-- PMAX in W, held to 40–120 (R347). -/
def State.pmax (s : State) : Nat := min 120 (max 40 (s.fld GOV_PMAX_PMAX))

/-- LOW_MARK of a credit per interval. -/
def State.lowMark (s : State) (credit : Nat) : Int := ((credit * min 100 (s.fld GOV_CTL_LOW_MARK) / 100 : Nat) : Int)

/-- Credit of the chip bucket in one interval: LIMIT is in 0.25 W. -/
def State.chipCredit (s : State) : Nat := s.fld GOV_LIMIT_LIMIT * 500000
/-- Credit of the drive bucket in one interval. -/
def State.drvCredit (s : State) : Nat := s.fld GOV_SHELF_SHELF_W * 2000000

/-- Both buckets pass a test; the drive bucket only where it is enforced (R338). The reserve R is kept in 1/64 µJ. -/
def State.levels (s : State) (chip drv : Int) : Bool := decide (chip ≤ s.gov.chip) && (!s.drvEnforced || decide (drv ≤ s.gov.drv))

/-- Order 2: Urgent. -/
def State.urgentOk (s : State) : Bool := s.levels 0 0
/-- Order 3: High, Medium, Low. -/
def State.sharedOk (s : State) : Bool := s.levels ((32 * s.gov.resChip : Nat) : Int) ((32 * s.gov.resDrv : Nat) : Int)
/-- Order 4: rebuild up to the floor. -/
def State.floorOk (s : State) : Bool := s.levels 0 0 && !s.flag GOV_STAT_EMERG
/-- Orders 5 and 6: background work, behind every deferred host item. -/
def State.backOk (s : State) : Bool :=
  s.levels (((32 * s.gov.resChip : Nat) : Int) + s.lowMark s.chipCredit) (((32 * s.gov.resDrv : Nat) : Int) + s.lowMark s.drvCredit)
    && !s.flag GOV_STAT_EMERG && s.gov.urgent.isEmpty && s.gov.shared.isEmpty

/-- A background item of an order is held: its deferral is counted once while it lasts (R339). -/
def State.deferBack (s : State) (order : Nat) : State :=
  if bitOf s.gov.bgDefer order then s else { s with gov := { s.gov with bgDefer := s.gov.bgDefer ||| 2 ^ order } }.bump CNT_GOV_DEFER_BG

/-- A background item of an order is admitted. -/
def State.admitBack (s : State) (order : Nat) : State := { s with gov := { s.gov with bgDefer := s.gov.bgDefer - (s.gov.bgDefer &&& 2 ^ order) } }

/-! ### Journal lookups (R258, R260) -/

/-- A record covers a block by a list of ranges. -/
def inRanges (l : List (Nat × Nat)) (b : Nat) : Bool := l.any (fun x => decide (x.1 ≤ b && b < x.1 + x.2))

/-- Take a block out of a list of ranges. -/
def cutRanges (l : List (Nat × Nat)) (b : Nat) : List (Nat × Nat) :=
  l.flatMap (fun x => if x.1 ≤ b && b < x.1 + x.2 then ([(x.1, b - x.1), (b + 1, x.1 + x.2 - (b + 1))]).filter (fun y => y.2 != 0) else [x])

/-- The newest of a list of records, in SEQ order. -/
def newest (l : List JRec) : Option JRec := l.getLast?

/-- The record that holds a block of a volume: for an image, the records its source had not destaged at B (R216, R258). -/
def State.jrec (s : State) (v b : Nat) : Option JRec :=
  match (tget? s.red.vols v).bind (fun x => x.imageOf) with
  | some src => newest (s.red.journal.filter (fun r => r.vol == src && r.img.any (fun x => x.1 == v && inRanges [x.2] b)))
  | none => newest (s.red.journal.filter (fun r => r.vol == v && inRanges r.dirty b))

/-- The stored sector a record holds for a block; none for ZEROES and DEALLOC. -/
def JRec.sector (r : JRec) (b : Nat) : Option Nat := if r.typ = 1 then r.data[b - r.slba]? else none

/-- A record still holds a block: not destaged or superseded, or needed by an image. -/
def JRec.holds (r : JRec) (b : Nat) : Bool := inRanges r.dirty b || r.img.any (fun x => inRanges [x.2] b)

/-- Undestaged bytes of the journal: 4,160 for each sector of a WRITE record. -/
def State.dirtyBytes (s : State) : Nat :=
  s.red.journal.foldl (fun n r => if r.typ = 1 then n + 4160 * ((List.range r.nlb).filter (fun k => r.holds (r.slba + k))).length else n) 0

/-- Show the dirty MiB (R283). -/
def State.syncJrn (s : State) : State := s.setFld RED_JRN_STAT_DIRTY (cdiv s.dirtyBytes (2 ^ 20))

/-! ### Member reads of a command (R258, R259) -/

/-- Strip positions to read for a reconstruction, in the order of R258: data strips before parity, ONLINE members before REBUILDING ones. -/
def State.reconOrder (s : State) (p : PSet) (t pos : Nat) (bad : List Nat) : List Nat :=
  let ok := (List.range p.width).filter (fun i => i != pos && !bad.contains i && s.stripReads p t i)
  let online (i : Nat) : Bool := match p.member (p.holder t i) with
    | some m => s.memState m == 1
    | none => false
  let key (i : Nat) : Nat := (if online i then 0 else 2) + (if i < p.dataK then 0 else 1)
  [0, 1, 2, 3].flatMap (fun k => ok.filter (fun i => key i == k))

/-- What a piece needs from the members. -/
inductive Need where
  /-- Sectors: member, member block. -/
  | read (l : List (Nat × Nat)) (recon : Bool)
  /-- A SUSPECT member must come back first (R239). -/
  | wait
  /-- The erasures exceed the redundancy. -/
  | lost (set t pos row : Nat)
  deriving DecidableEq, Repr

/-- Judge a piece that has no sector yet. -/
def State.needOf (s : State) (v : Nat) (x : Piece) : Need :=
  match s.locate v x.block with
  | .strip set t pos row _ => match tget? s.red.sets set with
    | none => .wait
    | some p =>
      let blk := bandBlock (p.band t) + row
      let at' (i : Nat) : List (Nat × Nat) := match p.member (p.holder t i) with
        | some m => [(m, blk)]
        | none => []
      if s.stripReads p t pos && !x.bad.contains pos then .read (at' pos) false else
      let l := s.reconOrder p t pos x.bad
      if p.dataK ≤ l.length then .read ((l.take p.dataK).flatMap at') true
      else if (List.range p.width).any (fun i => !x.bad.contains i && s.stripWaits p t i) then .wait
      else .lost set t pos row
  | _ => .wait

/-- A sector of a member is on its way for a use. -/
def State.onItsWay (s : State) (u : DrvUse) (m b : Nat) : Bool :=
  let hit (r : DrvReq) : Bool := r.use == u && r.member == m && !r.write && decide (r.block ≤ b && b < r.block + r.count)
  s.dpt.todo.any hit || s.dpt.cmds.any (fun e => hit e.2.req)

/-- Gather (member, block) pairs in member and block order into reads of at most one strip (R230). -/
def gatherRuns (u : DrvUse) (cluster : Nat) : List (Nat × Unit) → List DrvReq
  | [] => []
  | (k, _) :: rest =>
    let m := k / 2 ^ 40
    let b := k % 2 ^ 40
    match gatherRuns u cluster rest with
    | r :: l => if r.member = m && r.block = b + 1 && r.block % 16 != 0 then { r with block := b, count := r.count + 1 } :: l else { member := m, cluster := cluster, write := false, block := b, count := 1, use := u } :: r :: l
    | [] => [{ member := m, cluster := cluster, write := false, block := b, count := 1, use := u }]

/-- Queue reads of member sectors that are not on their way yet. -/
def State.pushReads (s : State) (u : DrvUse) (cluster : Nat) (l : List (Nat × Nat)) : State :=
  let new := l.filter (fun e => !s.onItsWay u e.1 e.2)
  let keyed := new.foldl (fun (t : List (Nat × Unit)) (e : Nat × Nat) => tput t (e.1 * 2 ^ 40 + e.2) ()) []
  { s with dpt := { s.dpt with todo := s.dpt.todo ++ gatherRuns u cluster keyed } }

/-- Remove a command's requests from the pipelines. -/
def State.uncipher (s : State) (h : Nat) : State :=
  let s1 := { s with cip := { s.cip with queues := s.cip.queues.map (fun (e : Nat × List CipReq) => (e.1, e.2.filter (fun q => q.owner != h))) } }
  s1.each (List.range 32) (fun t p => t.setFld (CIP_PIPE_STAT_QUEUED p) (tget t.cip.queues p []).length)

/-- A command that moves no more data is done; a window request ends, with NAK 0x63 where it failed (R148). -/
def State.finish (s : State) (h status : Nat) : State :=
  let s0 := s.uncipher h
  match s0.cmd? h with
  | none => s0
  | some c =>
    let c1 : Cmd := { c with status := if c.status = 0 then status else c.status, state := .done, cipher := false, pieces := [], credit := 0, mirror := none, deferred := none }
    if h < 65536 then
      let s1 := s0.setCmd h c1
      ((if c.kind.isWrite then s1.unlock h else s1).park h).syncCmds
    else if c.orphan || c.dropped then s0.endCmd h
    else if c1.status != 0 then ((s0.endCmd h).winDone c.win).sendNak c.qpn 0x63 c.psn
    else s0.setCmd h c1

/-- Ask the members for what a command's pieces still need; erasures beyond the redundancy make a lost range and end it (R258, R259, R274). -/
def State.needReads (s : State) (h : Nat) : State := match s.cmd? h with
  | none => s
  | some c =>
    let todo := c.pieces.filter (fun x => x.stored.isNone && x.src == .member)
    let needs := todo.map (fun x => s.needOf c.vol x)
    let losses := needs.filterMap (fun n => match n with
      | .lost set t pos row => some (set, t, pos, row)
      | _ => none)
    match losses with
    | (set, t, pos, row) :: _ => (s.recordLoss set t (2 ^ pos) row 1).finish h 0x7C3
    | [] =>
      let l := needs.flatMap (fun n => match n with
        | .read l _ => l
        | _ => [])
      let extra := needs.flatMap (fun n => match n with
        | .read l true => l.filter (fun e => !s.onItsWay (.host h) e.1 e.2)
        | _ => [])
      let s1 := s.pushReads (.host h) c.cluster l
      if extra.isEmpty then s1 else (s1.charge 10 extra.length).bump CNT_RED_READ_RECON

/-- Give a piece a sector that a member holds at a block: its own, or one of its reconstruction; none is an erasure (R259). -/
def State.feedPiece (s : State) (v m b : Nat) (w : Option Nat) (x : Piece) : Piece :=
  if x.stored.isSome || x.src != .member then x else
  match s.locate v x.block with
  | .strip set t pos row _ => match tget? s.red.sets set with
    | none => x
    | some p =>
      if b != bandBlock (p.band t) + row then x else
      match (List.range p.width).find? (fun i => p.member (p.holder t i) == some m) with
      | none => x
      | some i => match w with
        | none => { x with bad := i :: x.bad }
        | some y =>
          if i = pos && !x.bad.contains pos then { x with stored := some y } else
          let hv := tput x.have' i y
          if hv.length < p.dataK then { x with have' := hv }
          else match p.recover hv with
            | some d => { x with have' := hv, stored := some (p.encodeAt d pos), recon := true }
            | none => { x with have' := hv }
  | _ => x

/-! ### The lookup of a read (R258, R288) -/

/-- Blocks of a command's segment. -/
def Cmd.blocks (c : Cmd) : List Nat := match (segsOf c.ranges)[c.seg]? with
  | some (a, n) => (List.range n).map (fun k => a + k)
  | none => []

/-- Find the source of every block of a read's segment: journal, cache, members, or zeros. -/
def State.lookupPieces (s : State) (c : Cmd) : State × List Piece :=
  let inJrn : List (Nat × JRec) := c.blocks.filterMap (fun b => (s.jrec c.vol b).map (fun r => (b, r)))
  let rest := c.blocks.filter (fun b => !inJrn.any (fun e => e.1 == b))
  let lines := (rest.map (fun b => b / 16)).eraseDups
  let (s1, got) := lines.foldl (fun (acc : State × List (Nat × Nat)) st =>
    let mask := (rest.filter (fun b => b / 16 == st)).foldl (fun m b => m + 2 ^ (b % 16)) 0
    let (t, l) := acc.1.demandLookup c.vol st mask
    (t, acc.2 ++ l.map (fun e => (16 * st + e.1, e.2)))) (s, [])
  (s1, c.blocks.map (fun b => match inJrn.find? (fun e => e.1 == b) with
    | some (_, r) => (match r.sector b with
      | some w => { block := b, src := .journal r.seq, stored := some w }
      | none => { block := b, src := .zero, plain := some 0 })
    | none => match got.find? (fun e => e.1 == b) with
      | some (_, w) => { block := b, src := .cache, stored := some w }
      | none => (match s.locate c.vol b with
        | .strip _ _ _ _ _ => { block := b, src := .member }
        | _ => { block := b, src := .zero, plain := some 0 })))

/-! ### Prefetch (R295) -/

/-- Fetch a line ahead, unless it is cached anywhere, being filled, lost, or holds nothing to fetch. -/
def State.fetchLine (s : State) (v st kind : Nat) : State :=
  if (s.mainLine v st).isSome || (s.evbLine v st).isSome || (s.sideLine v st).isSome || (s.fillOn v st).isSome then s else
  let want := (List.range 16).foldl (fun m i => match s.locate v (16 * st + i) with
    | .strip set t pos row _ => if s.lostAt set t pos row then m else m + 2 ^ i
    | _ => m) 0
  if want = 0 then s else { s with cch := { s.cch with fills := s.cch.fills ++ [{ vol := v, stripe := st, kind := kind, want := want, admitted := false }] } }

/-- Start the drive reads of an admitted fill: one sector each from its own strip, where that can be read (R292, R299). -/
def State.startFill (s : State) (f : Fill) : State :=
  let l := (List.range 16).filterMap (fun i => if !bitOf f.want i then none else match s.needOf f.vol { block := 16 * f.stripe + i } with
    | .read [e] false => some (i, e)
    | _ => none)
  let f1 := { f with want := l.foldl (fun m e => m + 2 ^ e.1) 0, admitted := true }
  let s1 := { s with cch := { s.cch with fills := s.cch.fills.map (fun x => if x = f then f1 else x) } }
  ((s1.charge 7 l.length).cond (f.kind == 1) (fun t => t.bump CNT_CCH_PF_ISSUED)).pushReads (.fill f.vol f.stripe) 0 (l.map (fun e => e.2))

/-- Judge the fetches that wait for the governor, in order (R338 order 6). -/
def State.admitFetches (s : State) : State :=
  match s.cch.fills.find? (fun f => !f.admitted && !f.cancelled) with
  | none => s.admitBack 6
  | some f => if s.backOk then (s.startFill f).admitBack 6 else s.deferBack 6

/-- The sequential detector sees a demand read (R295). -/
def State.detect (s : State) (v first last : Nat) : State :=
  if s.cchSets = 0 || !(s.policy v first).2 then s else
  let ts := s.cch.trackers
  if ts.contains (v, first) then
    let s1 := { s with cch := { s.cch with trackers := ts.erase (v, first) ++ [(v, last + 1)] } }
    let depth := max 1 (s.fld CCH_CTL_PF_DEPTH)
    let s2 := s1.each (List.range depth) (fun t k => if 16 * (last + 1 + k) < t.volBlocks v then t.fetchLine v (last + 1 + k) 1 else t)
    s2.each (List.range depth) (fun t _ => t.admitFetches)
  else
    let ts1 := if ts.length < 256 then ts else ts.drop 1
    { s with cch := { s.cch with trackers := ts1 ++ [(v, last + 1)] } }

/-! ### Admission (R336, R337) -/

/-- Sectors a command will move from memory and from flash, and that it writes. -/
def State.chargeHost (s : State) (c : Cmd) : State :=
  match c.kind with
  | .write => s.charge 2 c.blocks.length
  | .winWrite => s.charge 2 c.blocks.length
  | .read => (s.charge 0 (c.pieces.filter (fun x => x.src != .member)).length).charge 1 (c.pieces.filter (fun x => x.src == .member)).length
  | .compare => (s.charge 0 (c.pieces.filter (fun x => x.src != .member)).length).charge 1 (c.pieces.filter (fun x => x.src == .member)).length
  | .winRead => (s.charge 0 (c.pieces.filter (fun x => x.src != .member)).length).charge 1 (c.pieces.filter (fun x => x.src == .member)).length
  | _ => s

/-- A kind that reads the members. -/
def CmdKind.isRead (k : CmdKind) : Bool := k == .read || k == .compare || k == .winRead

/-- A demand fill starts on each line that the read takes from the members and whose policy allows it (R290, R292). -/
def State.startDemandFills (s : State) (h : Nat) (c : Cmd) : State :=
  let ms := c.pieces.filter (fun x => x.src == .member)
  s.each ((ms.map (fun x => x.block / 16)).eraseDups) (fun t st =>
    if t.cchSets = 0 || 1 < (t.policy c.vol st).1 then t
    else if (t.fillOn c.vol st).isSome then t.bump CNT_CCH_INSTALL_SKIP
    else
      let mine := ms.filter (fun x => x.block / 16 == st)
      let f : Fill := { vol := c.vol, stripe := st, kind := 0, owner := h, want := mine.foldl (fun m x => m + 2 ^ (x.block % 16)) 0 }
      { t with cch := { t.cch with fills := t.cch.fills ++ [f] } }.charge 6 mine.length)

/-- An admitted command starts its work: a read asks the members for what it lacks; a window READ of policy DROP that misses is dropped (R161). -/
def State.startWork (s : State) (h : Nat) : State := match s.cmd? h with
  | none => s
  | some c =>
    if !c.kind.isRead then (s.setCmd h { c with state := .admitted, deferred := none }) else
    let miss := c.pieces.any (fun x => x.src == .member)
    let c1 : Cmd := { c with state := .running, deferred := none, fault := c.kind == .winRead && miss }
    let s1 := (s.setCmd h c1).startDemandFills h c1
    let s2 := match c.blocks, c.blocks.getLast? with
      | b :: _, some e => s1.detect c.vol (b / 16) (e / 16)
      | _, _ => s1
    let s3 := s2.needReads h
    if c.kind == .winRead && miss then
      let s4 := s3.bump CNT_RDM_WIN_STALL
      if (s4.win c.win).policy = 2 then (s4.dropRead h c1).bump CNT_RDM_WIN_DROP else s4
    else s3

/-- Class order of a command: Urgent, or the shared queue (R337, R338). -/
def State.isUrgent (s : State) (c : Cmd) : Bool := match c.queue.bind s.queue? with
  | some q => q.cls == 0
  | none => false

/-- GOV_ADMIT (R337–R339): a granted command on its engine is looked up, then admitted and charged, or deferred behind what waits in its class. -/
def State.govAdmit (s : State) (h : Nat) : State := match s.cmd? h with
  | none => s
  | some c =>
    if !(s.serving && c.state == .granted && c.deferred.isNone && s.canAct h) then s
    else if (match tget? s.red.vols c.vol with
      | some x => x.imageWait && c.kind.isRead
      | none => false) then s
    else if c.kind.touches && c.blocks.any (fun b => s.lostBlock c.vol b) then s.finish h 0x7C3
    else
      let (s1, ps) := if c.kind.isRead then s.lookupPieces c else (s, [])
      let c1 := { c with pieces := ps }
      let s2 := s1.setCmd h c1
      let u := s2.isUrgent c
      let ahead := if u then s2.gov.urgent else s2.gov.shared
      if ahead.isEmpty && (if u then s2.urgentOk else s2.sharedOk) then ((s2.chargeHost c1).startWork h).settle h
      else
        let s3 := s2.setCmd h { c1 with deferred := some 0 }
        let g := s3.gov
        let s4 := { s3 with gov := if u then { g with urgent := g.urgent ++ [h], deferredNow := true } else { g with shared := g.shared ++ [h], deferredNow := true } }
        (s4.bump CNT_GOV_DEFER_HOST).settle h

/-- GOV_ADMIT. -/
def execGovAdmit (handle : Nat) (s : State) : Host.Outcome State Fault Refusal := .next (s.govAdmit handle)

/-! ### Pulling write data (R32, R261, R304) -/

/-- Journal bytes promised to writes whose data is being pulled. -/
def State.jrnReserved (s : State) : Nat := s.cmdq.cmds.foldl (fun n e => if e.2.kind == .write && e.2.state == .admitted then n + 4160 * e.2.credit else n) 0

/-- Show whether a write waits for journal room. -/
def State.syncJrnWait (s : State) : State := s.setFlag RED_JRN_STAT_WAIT (s.cmdq.cmds.any (fun e => e.2.jrnWait && e.2.credit == 0 && e.2.state == .admitted))

/-- WRITE_DATA_READ_ISSUE (R32): with staging credit and, for a write, journal room, the data is read from the host. -/
def execWriteDataReadIssue (handle : Nat) (s : State) : Host.Outcome State Fault Refusal :=
  .next (match s.cmd? handle with
    | none => s
    | some c =>
      let n := c.blocks.length
      if !(s.serving && s.canAct handle && c.credit == 0 && !c.arrived && ((c.kind == .write && c.state == .admitted) || (c.kind == .compare && c.state == .running))) then s
      else if c.kind == .write && decide (s.fld RED_JRN_CAP_CAP * 2 ^ 20 < s.dirtyBytes + s.jrnReserved + 4160 * n) then
        if c.jrnWait then s else (((s.setCmd handle { c with jrnWait := true }).bump CNT_RED_JRN_WAIT).syncJrnWait)
      else if s.stgWriteFree < n then
        if c.stgWait then s else (s.setCmd handle { c with stgWait := true }).bump CNT_CCH_STG_WAIT
      else
        let s1 := ((s.setCmd handle { c with credit := n, jrnWait := false }).syncJrnWait).syncStg
        let s2 := match c.queue.bind s1.queue? with
          | none => s1
          | some q =>
            s1.readHost handle c q
        s2.settle handle)

/-! ### Reads that end (R27–R29, R160) -/

/-- The plaintext of pieces in order, block 0 least significant. -/
def plainOf (l : List Piece) : Nat := l.foldr (fun x n => x.plain.getD 0 + n * 2 ^ 32768) 0

/-- Every block of a read's segment is plaintext: its data goes to the host, or is compared. -/
def State.readFinish (s : State) (h : Nat) : State := match s.cmd? h with
  | none => s
  | some c =>
    let d := plainOf c.pieces
    match c.kind with
    | .winRead =>
      let done := (c.blocks.head?.getD 0) - (match c.ranges with
        | r :: _ => r.1
        | [] => 0)
      let data := c.data + d * 2 ^ (32768 * done)
      let last := (segsOf c.ranges).length ≤ c.seg + 1
      if last then
        let c1 : Cmd := { c with data := data / 2 ^ (8 * (c.bytes.1 % 4096)) % 2 ^ (8 * c.bytes.2), state := .done, pieces := [], credit := 0 }
        if c.orphan then s.endCmd h else ((s.setCmd h c1).park h).respond c.qpn
      else (s.setCmd h { c with data := data }).readSegDone h
    | .compare => if !c.arrived then s else s.finish h (if d = c.data % 2 ^ (32768 * c.blocks.length) then 0 else 0x285)
    | _ =>
      let s1 := s.setCmd h { c with sent := true }
      match c.queue.bind s1.queue? with
      | none => s1.finish h 0
      | some q =>
        if q.type = 3 then
          let (s2, _) := c.host.foldl (fun (acc : State × Nat) r => (acc.1.pf1Write r.1 r.2 (d / 2 ^ (8 * acc.2) % 2 ^ (8 * r.2)), acc.2 + r.2)) (s1, 0)
          (s2.setCmd h { c with sent := true, lastSent := true }).readSegDone h
        else (s1.each c.host (fun t r => t.qpSend q.qpn ⟨.data h c.rkey r.1 (d % 2 ^ (8 * r.2)), r.2⟩)).park h

/-! ### The cipher (R311–R323) -/

/-- Requests queued on a pipeline. -/
def State.pipe (s : State) (p : Nat) : List CipReq := tget s.cip.queues p []

/-- Replace a pipeline's queue. -/
def State.setPipe (s : State) (p : Nat) (l : List CipReq) : State :=
  { s with cip := { s.cip with queues := tput s.cip.queues p l } }.setFld (CIP_PIPE_STAT_QUEUED p) l.length

/-- The live pipeline with the fewest queued bytes, ties under R114; none where every live queue is full (R311, R313). -/
def State.choosePipe (s : State) : Option Nat :=
  let load (p : Nat) : Nat := (s.pipe p).foldl (fun n q => n + q.blocks.length) 0
  let ok := (List.range 32).filter (fun p => !s.flag (CIP_PIPE_STAT_RETIRED p) && decide ((s.pipe p).length < 64) && s.cip.kat.head? != some p)
  let best := ok.foldl (fun m p => min m (load p)) 1000000000
  rotPick (ok.filter (fun p => load p == best)) s.cip.ptr

/-- Queue a request; a pipeline that slept wakes (R19), and another key slot than the last is expanded (R311). -/
def State.pushCipher (s : State) (p : Nat) (r : CipReq) : State :=
  let s1 := ({ s with cip := { s.cip with ptr := (p + 1) % 32, last := tput s.cip.last p r.slot } }.setPipe p (s.pipe p ++ [r])).setFlag (CIP_PIPE_STAT_GATED p) false
  if tget? s.cip.last p = some r.slot then s1 else s1.bump CNT_CIP_KEY_SWITCH

/-- The set of a volume is an XTS set. -/
def State.volXts (s : State) (v : Nat) : Bool := match (tget? s.red.vols v).bind (fun x => tget? s.red.sets x.set) with
  | some p => p.xts
  | none => false

/-- Key slot of a piece's sector: what its metadata names; for XTS the record's, or the volume's binding (R322, R323). -/
def State.pieceKey (s : State) (v : Nat) (x : Piece) : Nat :=
  if !s.volXts v then sectorKey (x.stored.getD 0) else match x.src with
  | .journal q => (match s.red.journal.find? (fun r => r.seq == q) with
    | some r => r.key
    | none => s.fld (CIP_VOL_KEY_SLOT v))
  | _ => s.fld (CIP_VOL_KEY_SLOT v)

/-- The volume that allocated a block's slab (R316); for an unallocated one, the volume itself. -/
def State.ownerOf (s : State) (v b : Nat) : Nat := match (tget? s.red.vols v).bind (fun x => tget? x.slabs (b / 2 ^ 18)) with
  | some sl => sl.owner
  | none => v

/-- What verification finds of a piece. -/
def State.openPiece (s : State) (v : Nat) (x : Piece) : Verdict :=
  s.openSector (s.volXts v) (s.pieceKey v x) (x.stored.getD 0) (s.ownerOf v x.block) x.block

/-- Leading pieces still to be decrypted that share a key slot. -/
def State.keyRun (s : State) (c : Cmd) : List Piece :=
  let l := c.pieces.filter (fun x => x.plain.isNone)
  match l with
  | [] => []
  | x :: _ => l.takeWhile (fun y => s.pieceKey c.vol y == s.pieceKey c.vol x)

/-- A cipher request of a command (R311, R317, R318, R322). -/
def State.cmdCipher (s : State) (h : Nat) : State := match s.cmd? h with
  | none => s
  | some c =>
    if !(s.serving && s.canAct h) || c.cipher then s else
    match c.state, c.kind.isRead with
    | .running, true =>
      if c.pieces.any (fun x => x.stored.isNone && x.src == .member) || (c.kind == .compare && !c.arrived) then s else
      match s.keyRun c with
      | [] => s.readFinish h
      | x :: rest =>
        if (x :: rest).any (fun y => s.openPiece c.vol y == .absent) then (s.bump CNT_CIP_KEY_ABSENT).finish h 0x7C1 else
        match s.choosePipe with
        | none => s
        | some p =>
          let r : CipReq := { owner := h, slot := s.pieceKey c.vol x, enc := false, xts := s.volXts c.vol, blocks := (x :: rest).map (fun y => y.block) }
          ((s.pushCipher p r).setCmd h { c with cipher := true }).settle h
    | .admitted, _ =>
      if !(c.kind == .winWrite || (c.kind == .write && c.arrived)) then s else
      let slot := s.fld (CIP_VOL_KEY_SLOT c.vol)
      let n := c.blocks.length
      match s.keyRefusal c.vol with
      | .noKey => (s.bump CNT_CIP_NO_KEY).finish h 0x7C0
      | k =>
        let xts := s.volXts c.vol
        let judge := if xts then .ok else if k = .exhausted then .exhausted else s.reserveOk slot n false
        match judge with
        | .exhausted => (((s.bump CNT_CIP_EXH_REFUSE).setFld (CIP_KS_STAT_STATE slot) 2).mirrorSlot slot).finish h 0x7C0
        | .wait => if c.ctrWait then s else (s.setCmd h { c with ctrWait := true }).bump CNT_CIP_CTR_WAIT
        | .ok => match s.choosePipe with
          | none => s
          | some p =>
            let r : CipReq := { owner := h, slot := slot, enc := true, xts := xts, blocks := c.blocks, base := (s.slot slot).ctr }
            (((if xts then s else s.reserve slot n).pushCipher p r).setCmd h { c with cipher := true, ctrWait := false }).settle h
    | _, _ => s

/-- CIPHER_REQUEST (R311, R312): of a command, or of a management core, whose length is checked. -/
def execCipherRequest (who : CipWho) (s : State) : Host.Outcome State Fault Refusal :=
  .next (match who with
    | .cmd h => s.cmdCipher h
    | .core n slot enc xts bytes =>
      if !s.powered then s
      else if decide (bytes < 512) || decide ((if xts then 4096 else 2 ^ 20) < bytes) || (xts && bytes % 16 != 0) then (s.bump CNT_CIP_LEN_REJECT).health 3
      else if !s.slotLive slot || (s.fld (CIP_KS_STAT_MODE slot) == 1) != xts then s
      else if enc && !xts && (s.fld (CIP_KS_STAT_STATE slot) == 2 || s.reserveOk slot 1 false != .ok) then s
      else match s.choosePipe with
        | none => s
        | some p => (if enc && !xts then s.reserve slot 1 else s).pushCipher p { owner := 2 ^ 32 + n.val, slot := slot, enc := enc, xts := xts, base := if enc && !xts then (s.slot slot).ctr else 0, blocks := List.replicate (cdiv bytes 4096) 0 })

/-- The first request of a pipeline that still has sectors to release to a reader. -/
def State.decHead (s : State) (p : Nat) : Option CipReq := (s.pipe p).find? (fun q => !q.enc && !q.blocks.isEmpty)

/-- Write a recovered sector back to its own strip where that was erased, and log the repair (R259). -/
def State.writeBack (s : State) (v : Nat) (x : Piece) : State :=
  if !x.recon then s else match s.locate v x.block with
  | .strip set t pos row _ => match tget? s.red.sets set with
    | some p =>
      if !(x.bad.contains pos && s.stripReads p t pos) then s else
      let m := (p.member (p.holder t pos)).getD 0
      ((s.emit (.memberWrite m (bandBlock (p.band t) + row) [x.stored.getD 0])).bump CNT_RED_READ_REPAIR).logRed 2 set pos row 1 m t
    | none => s
  | _ => s

/-- SECTOR_VERIFIED (R320): the next sector of the pipeline's request verifies and is released; the last one ends the request. -/
def execSectorVerified (pipe : Fin 32) (s : State) : Host.Outcome State Fault Refusal :=
  .next (match s.decHead pipe with
    | none => match s.pipe pipe with
      | q :: rest => if s.powered && q.enc && 2 ^ 32 ≤ q.owner then ((s.setPipe pipe rest).bumpBy CNT_CIP_ENC_SECTORS q.blocks.length).monEvent 126 (0x80 + pipe) q.blocks.length else s
      | [] => s
    | some q =>
      if !s.powered then s else
      let q' := { q with blocks := q.blocks.drop 1 }
      let left := (s.pipe pipe).flatMap (fun y => if y = q then (if q'.blocks.isEmpty then [] else [q']) else [y])
      if 2 ^ 32 ≤ q.owner then ((s.setPipe pipe left).bump CNT_CIP_DEC_SECTORS).monEvent 126 (0x80 + pipe) 1 else
      match s.cmd? q.owner with
      | none => s.setPipe pipe left
      | some c =>
        let b := q.blocks.head?.getD 0
        match c.pieces.find? (fun x => x.block == b) with
        | none => s.setPipe pipe left
        | some x => match s.openPiece c.vol x with
          | .ok w =>
            let s1 := ((((s.setPipe pipe left).bump CNT_CIP_DEC_SECTORS).monEvent 126 (0x80 + pipe) 1).writeBack c.vol x)
            let c1 : Cmd := { c with cipher := !q'.blocks.isEmpty, pieces := c.pieces.map (fun y => if y.block = b then { y with plain := some w } else y) }
            let s2 := s1.setCmd q.owner c1
            if c1.pieces.all (fun y => y.plain.isSome) then s2.readFinish q.owner else s2
          | _ => s)

/-- Forget a sector of a fill that failed its tag (R292). -/
def State.dropFillSector (s : State) (v b : Nat) : State :=
  let f (x : Fill) : Fill := if x.vol = v && x.stripe = b / 16 then { x with want := x.want - (x.want &&& 2 ^ (b % 16)), sectors := tdel x.sectors (b % 16) } else x
  { s with cch := { s.cch with fills := s.cch.fills.map f } }

/-- Every block that a journal record alone holds becomes a lost range, and the record leaves the journal (R302, R321). -/
def State.loseRecord (s : State) (r : JRec) : State :=
  let bs := (r.dirty.flatMap (fun x => (List.range x.2).map (fun k => x.1 + k)))
  let s1 := { s with red := { s.red with journal := s.red.journal.filter (fun y => y.seq != r.seq) } }
  s1.each bs (fun t b => match t.locate r.vol b with
    | .strip set st pos row _ => t.recordLoss set st (2 ^ pos) row 1
    | _ => t)

/-- AUTH_FAILURE (R301, R321): the next sector of the pipeline's request fails; what follows depends on where it came from. `partner` is the sector as
the partner's copy of the journal gives it. -/
def execAuthFailure (pipe : Fin 32) (partner : Option Nat) (s : State) : Host.Outcome State Fault Refusal :=
  .next (match s.decHead pipe with
    | none => s
    | some q => match s.cmd? q.owner with
      | none => s
      | some c =>
        let h := q.owner
        let b := q.blocks.head?.getD 0
        match c.pieces.find? (fun x => x.block == b) with
        | none => s
        | some x =>
          if !s.powered || s.openPiece c.vol x != .fail then s else
          let s0 := ((s.bump CNT_CIP_AUTH_FAIL).monEvent 126 (0x80 + pipe) 1).uncipher h
          let put (y : Piece) : Cmd := { c with cipher := false, pieces := c.pieces.map (fun z => if z.block = b then y else z) }
          match x.src with
          | .journal seq =>
            let r := s.red.journal.find? (fun y => y.seq == seq)
            match s.partnered, partner, r with
            | true, some w, some r =>
              let fix (y : JRec) : JRec := if y.seq = seq then { y with data := y.data.set (b - r.slba) w } else y
              { s0 with red := { s0.red with journal := s0.red.journal.map fix } }.setCmd h (put { x with stored := some w })
            | _, _, some r => (s0.loseRecord r).finish h 0x7C1
            | _, _, none => s0.finish h 0x7C1
          | .cache => ((((s0.dropCached c.vol b).bump CNT_CCH_HIT_AUTH_FAIL).setCmd h (put { x with src := .member, stored := none })).needReads h).settle h
          | _ => match s0.locate c.vol b with
            | .strip set t pos row _ =>
              let s1 := s0.dropFillSector c.vol b
              if x.recon then (s1.recordLoss set t (2 ^ pos) row 1).finish h 0x7C1
              else ((s1.setCmd h (put { x with stored := none, bad := pos :: x.bad })).needReads h).settle h
            | _ => s0.finish h 0x7C1)

/-! ### The journal append (R32, R216, R254, R257, R260, R291) -/

/-- A write of a volume is held by the arming of a snapshot (R216 step 4), or by the power-fail warning (R269). -/
def State.writeHeld (s : State) (c : Cmd) : Bool :=
  s.flag RED_JRN_STAT_PFAIL ||
    (s.eng.globalOp == 3 && !s.flag ENG_GLOBAL_STAT_ARMED && s.eng.snap.any (fun p => p.1 == c.vol) && decide (s.get64 ENG_EPOCH_B ≤ stampCount c.stamp))

/-- Give a slab of a volume what a write needs: an allocation (R254), or after a snapshot a newest layer of its own (R257). None where no run is free. -/
def State.slabFor (s : State) (v n stamp : Nat) : Option State := match tget? s.red.vols v with
  | none => none
  | some x => match tget? s.red.sets x.set with
    | none => none
    | some p =>
      let images := s.red.vols.filter (fun e => e.2.imageOf == some v)
      let after := images.all (fun e => decide (e.2.imageB ≤ stampCount stamp))
      match tget? x.slabs n with
      | none => (s.freeRun x.set p).map (fun t => (s.putVol v (some { x with slabs := tput x.slabs n { layers := [(t, [])], owner := v } })).syncVol v)
      | some sl =>
        if s.sharedSlab v sl x.set && after then
          (s.freeRun x.set p).map (fun t => (s.putVol v (some { x with slabs := tput x.slabs n { sl with layers := (t, []) :: sl.layers } })).syncVol v)
        else some s

/-- The slabs that a range touches. -/
def slabsOf (a n : Nat) : List Nat := if n = 0 then [] else (List.range ((a + n - 1) / 2 ^ 18 - a / 2 ^ 18 + 1)).map (fun k => a / 2 ^ 18 + k)

/-- A later record supersedes earlier ones in its blocks; an image keeps what it needs (R216, R260). -/
def State.supersede (s : State) (v a n : Nat) : State :=
  let cut (r : JRec) : JRec := if r.vol = v then { r with dirty := (List.range n).foldl (fun l k => cutRanges l (a + k)) r.dirty } else r
  { s with red := { s.red with journal := (s.red.journal.map cut).filter (fun r => !(r.dirty.isEmpty && r.img.isEmpty)) } }

/-- A write-kind command is durable: its locks are free, and it is done, goes on to its next segment, or is acknowledged (R164, R212, R213). -/
def State.writeDone (s : State) (h : Nat) : State := match s.cmd? h with
  | none => s
  | some c =>
    if 65536 ≤ h then
      let s1 := s.unlock h
      if c.status != 0 then s1.finish h c.status
      else if c.seg + 1 < (segsOf c.ranges).length then
        ((s1.setCmd h { c with seg := c.seg + 1, state := .waiting, mirror := none, cipher := false, pieces := [] }).offEngines h).syncCmds
      else
        let s2 := (s1.endCmd h)
        if c.orphan then s2 else ((s2.modQp c.qpn (fun q => { q with ackHeld := q.ackHeld.erase c.psn })).winDone c.win).ackRetry c.qpn
    else
      let c1 : Cmd := { c with mirror := none, cipher := false, durable := true }
      if c.status = 0 && c.seg + 1 < (segsOf c.ranges).length then (((s.unlock h).setCmd h { c1 with seg := c.seg + 1, state := .waiting, durable := false }).offEngines h).syncCmds
      else (((s.unlock h).setCmd h { c1 with state := .done }).park h).syncCmds

/-- The data of one segment of a window WRITE or a write. -/
def Cmd.plainBlock (c : Cmd) (b : Nat) : Nat :=
  let first := match c.ranges with
    | r :: _ => r.1
    | [] => 0
  c.data / 2 ^ (32768 * (b - first)) % 2 ^ 32768

/-- JOURNAL_APPEND (R260): an encrypted write, or a ZEROES or DEALLOC record. -/
def execJournalAppend (handle : Nat) (s : State) : Host.Outcome State Fault Refusal :=
  .next (match s.cmd? handle with
    | none => s
    | some c =>
      let moves := c.kind == .write || c.kind == .winWrite
      let req := (s.cip.queues.flatMap (fun e => e.2)).find? (fun q => q.owner == handle && q.enc)
      let ready := c.state == .admitted && c.mirror.isNone && (if moves then req.isSome else (c.kind == .zeroes || c.kind == .dealloc) && s.canAct handle)
      if !(s.serving && ready) || s.writeHeld c then s
      else if c.blocks.isEmpty then s.finish handle 0
      else if c.blocks.any (fun b => s.lostBlock c.vol b) then s.finish handle 0x7C3
      else
        let a := c.blocks.head?.getD 0
        let n := c.blocks.length
        let fit := (slabsOf a n).foldl (fun (o : Option State) k => o.bind (fun t => t.slabFor c.vol k c.stamp)) (some s)
        match fit with
        | none => (s.bump CNT_RED_CAP_FULL).finish handle 0x081
        | some s1 =>
          let sealed := match req with
            | some q => if moves then (List.range n).map (fun k => s1.sealSector q.slot (s1.ownerOf c.vol (a + k)) (a + k) (q.base + k) (c.plainBlock (a + k))) else []
            | none => []
          let img := (s1.red.vols.filter (fun e => e.2.imageOf == some c.vol && decide (stampCount c.stamp < e.2.imageB))).map (fun e => (e.1, a, n))
          let r : JRec := { seq := s1.red.jseq, typ := if moves then 1 else if c.kind == .zeroes then 2 else 3, stamp := c.stamp, vol := c.vol, key := (match req with
            | some q => q.slot
            | none => s1.fld (CIP_VOL_KEY_SLOT c.vol)), slba := a, nlb := n, tag := handle % 65536, data := sealed, dirty := [(a, n)], img := img, born := s1.clock.nowNs }
          let s2 := (s1.uncipher handle).supersede c.vol a n
          let s3 := { s2 with red := { s2.red with journal := s2.red.journal ++ [r], jseq := s2.red.jseq + 1 } }
          let s4 := (List.range n).foldl (fun t k => t.appendBlock c.vol (a + k) r.seq (sealed[k]?)) (if moves then (s3.bumpBy CNT_CIP_ENC_SECTORS n).each ((s1.cip.queues.filter (fun e => e.2.any (fun q => q.owner == handle && q.enc))).take 1) (fun u e => u.monEvent 126 (0x80 + e.1) n) else s3)
          let s5 := ((s4.modCmd handle (fun x => { x with credit := 0, cipher := false, state := .running })).syncJrn).syncStg
          if s5.partnered then (((s5.mirrorRecord r).modCmd handle (fun x => { x with mirror := some r.seq }))).settle handle
          else (s5.cond s5.mirroring (fun t => t.mirrorRecord r)).writeDone handle)

/-! ### Fills that end (R292, R295, R299, R300) -/

/-- FILL_INSTALL (R292): a demand fill whose drive reads are complete. -/
def execFillInstall (vol : Fin 4096) (stripe : Nat) (s : State) : Host.Outcome State Fault Refusal :=
  .next (match s.cch.fills.find? (fun f => f.vol == vol.val && f.stripe == stripe && f.kind == 0) with
    | none => s
    | some f => if s.powered && f.complete then s.endDemand f else s)

end Sys2Proof.Machine
end

