-- ==== Sys2Proof/Machine/RedBase.lean ====
section
/-! DEFINITION. Members in their sets: labels (R251), leaving and returning (R270–R278), intent replicas (R264, R267), replacement (R277). -/

namespace Sys2Proof.Machine

/-- A member beside its registers. -/
def State.mem (s : State) (m : Nat) : MemSt := tget s.dpt.mems m {}
/-- Change it. -/
def State.modMem (s : State) (m : Nat) (f : MemSt → MemSt) : State := { s with dpt := { s.dpt with mems := tmod s.dpt.mems m {} f } }
/-- Move a member to a DPT state. -/
def State.setMem (s : State) (m st : Nat) : State := s.setFld (DPT_MEM_STAT_STATE m) st

/-- The set and slot of a member. -/
def State.placeOf (s : State) (m : Nat) : Option (Nat × PSet × Nat) :=
  s.red.sets.findSome? (fun e => (e.2.slots.find? (fun x => x.2 == m)).map (fun x => (e.1, e.2, x.1)))

/-- The configuration word of a set, as RED_SET_CFG (R285). -/
def PSet.cfg (p : PSet) : Nat :=
  p.layout + p.k * 2 ^ 2 + p.m * 2 ^ 7 + p.n * 2 ^ 10 + p.spare * 2 ^ 16 + p.xts.toNat * 2 ^ 19 + p.seed % 2 ^ 12 * 2 ^ 20

/-- Bring RED_MEM of every member of a set, and of one that left it, up to date (R285). -/
def State.syncMem (s : State) (m : Nat) : State := match s.placeOf m with
  | some (pi, p, slot) =>
    ((((s.setFld (RED_MEM_SET m) pi).setFlag (RED_MEM_INSET m) true).setFld (RED_MEM_SLOT m) slot).setFlag (RED_MEM_FOREIGN m) false).setFlag (RED_MEM_STALE m) (p.stale.any (fun x => x % 32 == slot))
  | none => (((s.setFld (RED_MEM_SET m) 0).setFlag (RED_MEM_INSET m) false).setFld (RED_MEM_SLOT m) 0).setFlag (RED_MEM_STALE m) false

/-- The octets of a label, as one 4,096-byte block (R251). -/
def Label.octets (l : Label) : List (BitVec 8) :=
  let body := [0x4F, 0x58, 0x4C, 0x42] ++ toLe 2 1 ++ toLe 1 l.set ++ toLe 1 l.slot ++ toLe 8 l.setId ++ toLe 4 l.gen ++ toLe 1 l.member ++ toLe 3 0 ++ toLe 4 l.cfg ++ toLe 4 l.slotMask ++ toLe 8 l.bands ++ toLe 84 0
  body ++ toLe 4 (crc32c body)

/-- The block as a number. -/
def Label.block (l : Label) : Nat := l.octets.foldr (fun b n => b.toNat + n * 256) 0

/-- The label of a member of a set. -/
def State.labelOf (s : State) (pi : Nat) (p : PSet) (slot m : Nat) : Label :=
  let mask := (p.slots.filter (fun e => s.memState e.2 == 1)).foldl (fun n e => n + 2 ^ e.1) 0
  { set := pi, slot := slot, setId := p.setId, gen := p.gen, member := m, cfg := p.cfg, slotMask := mask, bands := p.bands }

/-- Write both copies of the label of every member that can be written (R251). -/
def State.writeLabels (s : State) (pi : Nat) : State := match tget? s.red.sets pi with
  | none => s
  | some p => s.each (p.slots.filter (fun e => s.memState e.2 == 1 || s.memState e.2 == 4)) (fun t e =>
      let l := t.labelOf pi p e.1 e.2
      { ((t.emit (.memberWrite e.2 0 [l.block])).emit (.memberWrite e.2 1 [l.block])) with red := { t.red with labels := tput t.red.labels e.2 l } })

/-- A set's generation rises, and its labels are written (R251, R278). -/
def State.bumpGen (s : State) (pi : Nat) : State := match tget? s.red.sets pi with
  | none => s
  | some p => (s.putSet pi (some { p with gen := (p.gen + 1) % 2 ^ 32 })).writeLabels pi

/-- Replicas of an intent: the first three ONLINE members from slot b mod N (R264). -/
def State.replicaSlots (s : State) (p : PSet) (t : Nat) : List Nat :=
  let b := p.band t
  (((List.range p.n).map (fun i => (b + i) % max 1 p.n)).filter (fun i => match p.member i with
    | some m => s.memState m == 1
    | none => false)).take 3

/-- The 64 octets of an intent record (R265), as a number. -/
def intentWord (isOpen : Bool) (set gen : Nat) (i : Intent) : Nat :=
  let body := [0x49, 0x4E] ++ toLe 1 (if isOpen then 1 else 2) ++ toLe 1 set ++ toLe 4 gen ++ toLe 8 i.seq ++ toLe 8 i.stripe ++ toLe 4 i.mask ++ toLe 4 0 ++ toLe 8 i.jseq ++ toLe 20 0
  (body ++ toLe 4 (crc32c body)).foldr (fun b n => b.toNat + n * 256) 0

/-- Gather an intent record for the members in some slots (R264). -/
def State.queueIntent (s : State) (set : Nat) (p : PSet) (i : Intent) (isOpen : Bool) (slots : List Nat) : State :=
  s.each (slots.filterMap p.member) (fun t m => { t with red := { t.red with iq := tput t.red.iq m (tget t.red.iq m [] ++ [{ set := set, stripe := i.stripe, seq := i.seq, isOpen := isOpen, word := intentWord isOpen set p.gen i }]) } })

/-- A member leaves ONLINE: every open intent with a replica on it gets another on the next ONLINE member that holds none (R267). -/
def State.rereplicate (s : State) (m : Nat) : State := match s.placeOf m with
  | none => s
  | some (pi, p, slot) =>
    let fix (acc : State × List Intent) (i : Intent) : State × List Intent :=
      if !i.replicas.contains slot then (acc.1, acc.2 ++ [i]) else
      let b := p.band i.stripe
      let keep := i.replicas.filter (fun x => x != slot)
      match ((List.range p.n).map (fun k => (b + k) % max 1 p.n)).find? (fun x => x != slot && !keep.contains x && (match p.member x with
        | some y => s.memState y == 1
        | none => false)) with
      | none => (acc.1, acc.2 ++ [{ i with replicas := keep }])
      | some x => (((acc.1.queueIntent pi p i true [x]).bump CNT_RED_INTENT_REREP).logRed 10 pi 0 0 1 m i.stripe, acc.2 ++ [{ i with replicas := keep ++ [x] }])
    let (s1, l) := p.intents.foldl fix (s, [])
    s1.putSet pi (some { p with intents := l })

/-- A set member is lost to its set: rebuild into spare strips begins (R271). -/
def State.rebuildStart (s : State) (m : Nat) : State := match s.placeOf m with
  | none => s
  | some (pi, p, slot) => (s.putSet pi (some { p with lostSlots := if p.lostSlots.contains slot then p.lostSlots else p.lostSlots ++ [slot] })).syncRed

/-- A member may be put into a slot of a set by REPLACE or automatic replacement (R277). -/
def State.replaceOk (s : State) (p : PSet) (m : Nat) (foreign : Bool) : Bool :=
  s.memState m == 5 && (s.placeOf m).isNone && decide (p.bands ≤ (s.mem m).bands) && (p.xts || s.flag (DPT_MEM_STAT_FMT m)) && (foreign || !s.flag (RED_MEM_FOREIGN m))

/-- Put a SPARE_SPACE member into a slot (R277): the old member leaves the set, the generation rises, and the slot is filled. -/
def State.replaceSlot (s : State) (pi slot m : Nat) : State := match tget? s.red.sets pi with
  | none => s
  | some p =>
    let old := p.member slot
    let p1 := { p with slots := tput p.slots slot m, stale := p.stale.filter (fun x => x % 32 != slot), lostSlots := p.lostSlots.filter (fun x => x != slot), filling := tput p.filling slot (0, true) }
    let s1 := ((s.putSet pi (some p1)).setMem m 4).bumpGen pi
    let s2 := match old with
      | some o => s1.syncMem o
      | none => s1
    (((s2.syncMem m).logRed 11 pi 0 0 1 m 0)).syncRed

/-- Automatic replacement of a slot's member (R277): the lowest eligible SPARE_SPACE member. -/
def State.autoReplace (s : State) (m : Nat) : State :=
  if !s.flag RED_CTL_AUTO_REPLACE then s else match s.placeOf m with
  | none => s
  | some (pi, p, slot) => match (List.range 128).find? (fun x => s.replaceOk p x false) with
    | none => s
    | some x => s.replaceSlot pi slot x

/-- A member returns to its slot, which its set still holds for it (R276): its bands are gone over from the first. -/
def State.memberReturns (s : State) (m : Nat) (whole : Bool) : State := match s.placeOf m with
  | none => s
  | some (pi, p, slot) =>
    (({ (s.setMem m 4) with red := { s.red with holding := s.red.holding.filter (fun x => x != m) } }.putSet pi (some { p with filling := tput p.filling slot (0, whole), lostSlots := p.lostSlots.filter (fun x => x != slot) })).syncMem m).syncRed

/-- The last band of a filling slot is done (R276, R278): the member is ONLINE, its stale map is cleared, the generation rises. -/
def State.fillDone (s : State) (pi slot : Nat) : State := match tget? s.red.sets pi with
  | none => s
  | some p => match p.member slot with
    | none => s
    | some m => ((((s.putSet pi (some { p with filling := tdel p.filling slot, stale := p.stale.filter (fun x => x % 32 != slot) })).setMem m 1).bumpGen pi).syncMem m).syncRed

end Sys2Proof.Machine
end

