-- ==== Sys2Proof/Machine/Drives.lean ====
section
/-! DEFINITION. Drive and expansion ports: commands to drives, the windows drives see, qualification, removal, the timeout ladder, member states (R224–R247). -/

namespace Sys2Proof.Machine

/-! ### The pool (R229, R230) -/

/-- A command needs a PRP list: its data spans more than two pages (R230). -/
def DrvReq.prp (r : DrvReq) : Bool := 2 < r.count

/-- Show the free pool entries and PRP lists (R245). -/
def State.syncPool (s : State) : State :=
  (s.setFld DPT_POOL_STAT_SQE_FREE (32768 - s.dpt.cmds.length)).setFld DPT_POOL_STAT_PRP_FREE (16384 - (s.dpt.cmds.filter (fun e => e.2.req.prp)).length)

/-- A queue pair of a member. -/
def State.drvQueue (s : State) (m q : Nat) : DrvQueue := tget (s.mem m).queues q {}
/-- Replace it. -/
def State.setDrvQueue (s : State) (m q : Nat) (x : DrvQueue) : State := s.modMem m (fun y => { y with queues := tput y.queues q x })
/-- Outstanding commands on a queue of a member. -/
def State.onQueue (s : State) (m q : Nat) : Nat := (s.dpt.cmds.filter (fun e => e.2.req.member == m && e.2.queue == q)).length

/-- Drive port of a member: 32 and above for an expansion port. -/
def State.memPort (s : State) (m : Nat) : Nat := if s.fld (DPT_MEM_LOC_TYPE m) = 4 then 32 + s.fld (DPT_MEM_LOC_PORT m) else s.fld (DPT_MEM_LOC_PORT m)

/-- The queue of a command: the admin queue, or that of its cluster (R229). -/
def State.queueFor (s : State) (m cluster : Nat) : Nat := cluster % 16 % max 1 (s.fld (DPT_MEM_STAT_IOQ m)) + 1

/-- An event code of the drive port that a member is on (R440, R441). -/
def State.portEvent (s : State) (m code n : Nat) : State := s.cond (decide (s.memPort m < 32)) (fun t => t.monEvent (80 + s.memPort m) code n)

/-- Sectors that a completed command has read or written, for its drive port and for the redundancy group (R441). -/
def State.sectorEvents (s : State) (r : DrvReq) : State :=
  (s.portEvent r.member (if r.write then 0x082 else 0x081) r.count).monEvent 127 (if r.write then 0x081 else 0x080) r.count

/-- Write an entry to a queue and ring its doorbell under a pool entry (R230): the entry is posted, or reposted. -/
def State.post (s : State) (cid q : Nat) (c : DrvCmd) : State :=
  let m := c.req.member
  let x := s.drvQueue m q
  let tail := (x.tail + 1) % max 1 x.depth
  let s1 := s.setDrvQueue m q { x with tail := tail }
  let s2 := (s1.modMem m (fun y => { y with active := true })).emit (.drvTail m q tail)
  ({ s2 with dpt := { s2.dpt with cmds := tput s2.dpt.cmds cid { c with queue := q, slot := x.tail, born := s2.clock.nowNs, held := false, waiting := false, got := [] } } }.syncPool).portEvent m 0x080 1

/-- The lowest free pool entry. -/
def State.freeCid (s : State) : Option Nat := (List.range 32768).find? (fun i => (tget? s.dpt.cmds i).isNone)

/-- Issue an admin command of the part to a member (R226, R238, R239). -/
def State.drvAdmin (s : State) (m arg : Nat) (u : DrvUse) : State := match s.freeCid with
  | none => s
  | some cid => { s with dpt := { s.dpt with next := s.dpt.next + 1 } }.post cid 0 { req := { member := m, cluster := 0, write := false, block := arg, count := 0, use := u }, queue := 0, slot := 0, born := 0, nth := s.dpt.next }

/-- An admin command of a kind is outstanding on a member. -/
def State.adminOut (s : State) (m : Nat) (u : DrvUse) : Bool := s.dpt.cmds.any (fun e => e.2.req.member == m && e.2.req.use == u)

/-- Mark a request's wait as counted. -/
def State.markWaited (s : State) (r : DrvReq) (cnt : Nat) : State :=
  if r.waited then s else { s with dpt := { s.dpt with todo := s.dpt.todo.map (fun x => if x = r then { x with waited := true } else x) } }.bump cnt

/-- The part may issue I/O to a member: it serves, the member is ONLINE or REBUILDING, and a takeover's acquire has completed (R238, R239). -/
def State.memIo (s : State) (m : Nat) : Bool := s.serving && (s.memState m == 1 || s.memState m == 4) && !(s.mem m).acquiring

/-- DRIVE_COMMAND_ISSUE (R229, R230, R304): the command at an index of those that wait. A member in its low power state is ordered to PS0 first (R342). -/
def execDriveCommandIssue (index : Nat) (s : State) : Host.Outcome State Fault Refusal :=
  .next (match s.dpt.todo[index]? with
    | none => s
    | some r =>
      let q := s.queueFor r.member r.cluster
      if !s.memIo r.member || s.fld (DPT_MEM_STAT_IOQ r.member) = 0 then s
      else if (s.mem r.member).lowPower || s.adminOut r.member (.admin 1) then
        if s.adminOut r.member (.admin 1) then s else s.drvAdmin r.member 0 (.admin 1)
      else if !r.write && decide (s.stgReadFree < r.count) then s.markWaited r CNT_CCH_STG_WAIT
      else match s.freeCid with
        | none => (s.markWaited r CNT_DPT_POOL_WAIT)
        | some cid =>
          if (s.drvQueue r.member q).depth ≤ s.onQueue r.member q + 1 then
            if r.waited then s else { s with dpt := { s.dpt with todo := s.dpt.todo.map (fun x => if x = r then { x with waited := true } else x) } }.bumpD (s.memPort r.member) CNT_DPT_POOL_WAIT
          else
            let s1 := { s with dpt := { s.dpt with todo := s.dpt.todo.eraseIdx index, next := s.dpt.next + 1 } }
            let s2 := s1.post cid q { req := r, queue := q, slot := 0, born := 0, nth := s.dpt.next }
            match r.use with
            | .host h => (s2.modCmd h (fun c => if c.kind.isRead && c.kind != .compare then { c with credit := c.credit + r.count } else c)).syncStg
            | _ => s2)

/-! ### The drive's view (R227, R228) -/

/-- DRIVE_SQ_READ (R228): the posted entry of a slot, or zeros. -/
def execDriveSqRead (member : Member) (queue : Fin 17) (slot : Nat) (s : State) : Host.Outcome State Fault Refusal :=
  .next (if !s.powered then s else
    s.emit (.drvEntry member queue slot ((s.dpt.cmds.find? (fun e => e.2.req.member == member.val && e.2.queue == queue.val && e.2.slot == slot && !e.2.held && !e.2.waiting)).map (fun e => e.2.req))))

/-- Commands that read a member through a SUSPECT or lost strip look for other strips (R239, R258). -/
def State.reroute (s : State) : State :=
  s.each (s.cmdq.cmds.filter (fun e => e.2.state == .running && e.2.pieces.any (fun x => x.stored.isNone && x.src == .member))) (fun t e => t.needReads e.1)

/-- A member enters SUSPECT (R242). -/
def State.suspect (s : State) (m : Nat) : State :=
  let st := s.memState m
  if st = 1 || st = 4 || st = 5 then
    let s1 := (s.modMem m (fun x => { x with prev := st, abortDone := false })).setMem m 2
    let s2 := { s1 with dpt := { s1.dpt with todo := s1.dpt.todo.filter (fun r => !(r.member == m && !r.write)) } }
    ((s2.rereplicate m).syncRed).reroute
  else s

/-- Step 2 of the ladder (R239): every outstanding command is held for reissue, and CC.EN is cleared. -/
def State.ctrlReset (s : State) (m : Nat) : State :=
  let hold (e : Nat × DrvCmd) : Nat × DrvCmd := if e.2.req.member = m then (e.1, { e.2 with held := true, waiting := false }) else e
  let keep (e : Nat × DrvCmd) : Bool := !(e.2.req.member == m && e.2.queue == 0)
  let s1 := { s with dpt := { s.dpt with cmds := (s.dpt.cmds.filter keep).map hold } }.syncPool
  (((s1.setFld (DPT_MEM_STAT_LADDER m) 2).modMem m (fun x => { x with disabled := false, ladder := none, acquiring := x.acquiring })).bumpD (s.memPort m) CNT_DPT_CTRL_RESETS).emit (.drvEnable m false)

/-- A drive access that R228 refuses: counted, and the member goes to step 2 of its ladder at once (R240). -/
def State.dmaFault (s : State) (m : Nat) : State :=
  let s1 := (s.bumpD (s.memPort m) CNT_DPT_DMA_FAULT).emit (.drvRefused m)
  let st := s.memState m
  if st = 1 || st = 4 || st = 5 then (s1.suspect m).ctrlReset m else s1

/-- DRIVE_DMA_ACCESS (R228). -/
def execDriveDmaAccess (member : Member) (access : DmaAccess) (s : State) : Host.Outcome State Fault Refusal :=
  .next (if !s.powered || s.memState member = 0 || s.memState member = 6 then s else
    match access with
    | .writeBuf cid i data => (match tget? s.dpt.cmds cid with
      | some c => if c.req.member == member.val && !c.req.write && decide (i < c.req.count) then
          { s with dpt := { s.dpt with cmds := tput s.dpt.cmds cid { c with got := tput c.got i (data % 2 ^ 33280) } } } else s.dmaFault member
      | none => s.dmaFault member)
    | .readBuf cid i => (match tget? s.dpt.cmds cid with
      | some c => (match c.req.write, c.req.data[i]? with
        | true, some w => if c.req.member == member.val then s.emit (.drvData member cid w) else s.dmaFault member
        | _, _ => s.dmaFault member)
      | none => s.dmaFault member)
    | _ => s.dmaFault member)

/-! ### Completions (R231, R240, R241) -/

/-- A sector of a member reaches the command that reads it, and the demand fills of that command. -/
def State.feed (s : State) (u : DrvUse) (m b : Nat) (w : Option Nat) : State := match u with
  | .host h => (match s.cmd? h with
    | none => s
    | some c =>
      let c1 := { c with pieces := c.pieces.map (s.feedPiece c.vol m b w) }
      let got (f : Fill) (l : List (Nat × Nat)) (x : Piece) : List (Nat × Nat) := match x.stored, x.src with
        | some y, .member => if x.block / 16 = f.stripe && bitOf f.want (x.block % 16) then tput l (x.block % 16) y else l
        | _, _ => l
      let fill (f : Fill) : Fill := if f.kind = 0 && f.owner = h then { f with sectors := c1.pieces.foldl (got f) f.sectors } else f
      let s1 := s.setCmd h c1
      { s1 with cch := { s1.cch with fills := s1.cch.fills.map fill } })
  | .fill v st =>
    let fill (f : Fill) : Fill := (if f.vol = v && f.stripe = st && f.kind != 0 then
      (match (List.range 16).find? (fun i => match s.needOf v { block := 16 * st + i } with
        | .read l false => l.contains (m, b)
        | _ => false) with
      | some i => (match w with
        | some y => { f with sectors := tput f.sectors i y }
        | none => { f with want := f.want - (f.want &&& 2 ^ i) })
      | none => f) else f)
    { s with cch := { s.cch with fills := s.cch.fills.map fill } }
  | _ => s

/-- A dropped window READ has all its data: its lines go to the side buffer, whatever the policy (R161, R295). -/
def State.droppedDone (s : State) (h : Nat) : State := match s.cmd? h with
  | none => s
  | some c =>
    if !(c.dropped && c.pieces.all (fun x => x.stored.isSome || x.plain.isSome)) then s else
    let ls := ((c.pieces.filter (fun x => x.src == .member)).map (fun x => x.block / 16)).eraseDups
    let s1 := s.each ls (fun t st =>
      let secs := c.pieces.foldl (fun (l : List (Nat × Nat)) x => match x.stored, x.src with
        | some y, .member => if x.block / 16 = st && !t.journalHolds c.vol x.block then tput l (x.block % 16) y else l
        | _, _ => l) []
      if t.cchSets = 0 || secs.isEmpty then t else t.putSide { vol := c.vol, stripe := st, key := sectorsKey secs, sectors := secs })
    (s1.endFillsOf h).endCmd h

/-- A command of the part to a drive is over: its pool entry is free and what waited for it goes on. `ok` is false for a media error. -/
def State.drvDone (s : State) (cid : Nat) (c : DrvCmd) (ok : Bool) : State :=
  let r := c.req
  let s1 := { s with dpt := { s.dpt with cmds := tdel s.dpt.cmds cid } }.syncPool.cond ok (fun t => t.sectorEvents r)
  let lost (n : Nat) : Nat := Config.freeNat n % 2 ^ 33280
  let missing := (List.range r.count).any (fun i => (tget? c.got i).isNone)
  let s2 := if r.write || r.count = 0 then s1 else
    (s1.each (List.range r.count) (fun t i => t.feed r.use r.member (r.block + i) (if ok then some ((tget? c.got i).getD (lost (s.free + i))) else none))).cond (ok && missing) (fun t => { t with free := t.free + r.count })
  match r.use with
  | .host h => (s2.needReads h).droppedDone h
  | .destage d => { s2 with red := { s2.red with destages := s2.red.destages.map (fun (e : Nat × Destage) => if e.1 = d then (e.1, { e.2 with left := e.2.left - 1 }) else e) } }
  | .abort _ => s2.modMem r.member (fun x => { x with abortDone := true })
  | .admin 1 => (s2.modMem r.member (fun x => { x with lowPower := r.block != 0 })).setFlag (GOV_DRV_IN_LOW r.member) (r.block != 0)
  | _ => s2

/-- The ladder of a member ends and it returns to the state before SUSPECT (R239, R240). -/
def State.ladderEnd (s : State) (m : Nat) : State :=
  if s.memState m != 2 then s else
  let s1 := ((s.setMem m (s.mem m).prev).setFld (DPT_MEM_STAT_LADDER m) 0).modMem m (fun x => { x with ladder := none, abortDone := false })
  (s1.syncRed).reroute

/-- A timeout of a command (R239), or a status treated as one (R241): SUSPECT, and an Abort starts the ladder; a further one joins it. -/
def State.timeout (s : State) (cid : Nat) (c : DrvCmd) : State :=
  let m := c.req.member
  let s1 := s.bumpD (s.memPort m) CNT_DPT_TIMEOUTS
  let st := s1.memState m
  if st = 1 || st = 4 || st = 5 then
    let s2 := ((s1.suspect m).setFld (DPT_MEM_STAT_LADDER m) 1).modMem m (fun x => { x with ladder := some cid, abortDone := false })
    (s2.drvAdmin m cid (.abort cid)).bumpD (s.memPort m) CNT_DPT_ABORTS_SENT
  else if st = 2 && s1.fld (DPT_MEM_STAT_LADDER m) = 1 && (s1.mem m).abortDone then s1.ctrlReset m
  else s1

/-- A status of media error (R241): SCT 0x2. -/
def mediaStatus (st : Nat) : Bool := st / 256 % 8 == 2
/-- Namespace Not Ready, or Command Interrupted (NVM Express). -/
def retryStatus (st : Nat) : Bool := st == 0x082 || st == 0x021

/-- DRIVE_CQE_WRITE (R231, R240, R241): phase and CID are checked, then the command ends, is reissued after 10 ms, or is treated as timed out. -/
def execDriveCqeWrite (member : Member) (queue : Fin 17) (slot : Nat) (phase : Bool) (cid status : Nat) (s : State) : Host.Outcome State Fault Refusal :=
  .next (
    let m := member.val
    let st := s.memState m
    if !s.powered || st = 0 || st = 6 || st = 7 then s else
    let port := s.memPort m
    let x := s.drvQueue m queue
    let expect := if slot < x.head then !x.phase else x.phase
    if phase != expect then s.bumpD port CNT_DPT_LATE_CQE else
    let wrap := decide (x.depth ≤ slot + 1)
    let s1 := s.setDrvQueue m queue { x with head := if wrap then 0 else slot + 1, phase := if wrap then !expect else expect, taken := x.taken + 1 }
    match tget? s1.dpt.cmds cid with
    | none => s1.bumpD port CNT_DPT_LATE_CQE
    | some c =>
      if c.req.member != m || c.queue != queue.val || c.held || c.waiting then s1.bumpD port CNT_DPT_LATE_CQE
      else
        let mine := (s1.mem m).ladder == some cid && s1.fld (DPT_MEM_STAT_LADDER m) == 1
        let s2 := if mine then (s1.ladderEnd m).bumpD port CNT_DPT_ABORT_HITS else s1
        if c.queue = 0 then s2.drvDone cid c (status == 0)
        else if status = 0 then s2.drvDone cid c true
        else if mediaStatus status then (s2.bumpD port CNT_DPT_MEDIA_ERR).drvDone cid c false
        else if retryStatus status && !c.retried then
          { s2 with dpt := { s2.dpt with cmds := tput s2.dpt.cmds cid { c with waiting := true, retried := true, got := [] } } }
        else if mine then
          { s2 with dpt := { s2.dpt with cmds := tput s2.dpt.cmds cid { c with waiting := true, got := [] } } }
        else ({ s1 with dpt := { s1.dpt with cmds := tput s1.dpt.cmds cid { c with waiting := true, got := [] } } }.timeout cid c))

/-- CQ_HEAD_DOORBELL (R231). -/
def execCqHeadDoorbell (member : Member) (queue : Fin 17) (s : State) : Host.Outcome State Fault Refusal :=
  .next (let x := s.drvQueue member queue
    if s.powered && x.taken != 0 then (s.setDrvQueue member queue { x with taken := 0 }).emit (.drvHead member queue x.head) else s)

/-- DRIVE_REISSUE_TIMER (R241): the command is issued once more in its queue. -/
def execDriveReissueTimer (cid : Nat) (s : State) : Host.Outcome State Fault Refusal :=
  .next (match tget? s.dpt.cmds cid with
    | some c => if c.waiting && s.memIo c.req.member then s.post cid c.queue c else s
    | none => s)

/-! ### The ladder (R239, R240) -/

/-- Every outstanding and waiting command of a member ends (R236, R242): host reads look for other strips, destages go on without it. -/
def State.endDrvCmds (s : State) (m : Nat) : State :=
  let gone := s.dpt.cmds.filter (fun e => e.2.req.member == m)
  let waiting := s.dpt.todo.filter (fun r => r.member == m)
  let s1 := { s with dpt := { s.dpt with cmds := s.dpt.cmds.filter (fun e => e.2.req.member != m), todo := s.dpt.todo.filter (fun r => r.member != m) } }.syncPool
  let ds := (gone.map (fun e => e.2.req) ++ waiting).filterMap (fun r => match r.use with
    | .destage d => some d
    | _ => none)
  let s2 := { s1 with red := { s1.red with destages := s1.red.destages.map (fun (e : Nat × Destage) => (e.1, { e.2 with left := e.2.left - (ds.filter (fun d => d == e.1)).length })) } }
  let fs := (gone.map (fun e => e.2.req) ++ waiting).filter (fun r => match r.use with
    | .fill _ _ => true
    | _ => false)
  (s2.each fs (fun t r => t.each (List.range r.count) (fun u i => u.feed r.use m (r.block + i) none))).reroute

/-- A member leaves its set's service in FAILED or MISSING (R242, R251, R267, R270, R271). -/
def State.memberLeaves (s : State) (m st : Nat) : State :=
  let s1 := (((s.setMem m st).setFld (DPT_MEM_STAT_LADDER m) 0).modMem m (fun x => { x with ladder := none, disabled := false, acquiring := false, lowPower := false, queues := [] })).setFlag (GOV_DRV_IN_LOW m) false
  let s2 := (s1.rereplicate m)
  let s3 := match s2.placeOf m with
    | some (pi, _, _) => s2.bumpGen pi
    | none => s2
  let s4 := if st = 3 then s3.rebuildStart m
    else if s3.fld RED_CTL_MISSING_HOLD = 0 then (s3.rebuildStart m).autoReplace m
    else { s3 with red := { s3.red with holding := s3.red.holding ++ [m] } }
  ((s4.endDrvCmds m).syncRed).cond (st == 3) (fun t => t.autoReplace m)

/-- A member enters FAILED (R242): counted, health source 11. -/
def State.memberFails (s : State) (m : Nat) : State := ((s.bumpD (s.memPort m) CNT_DPT_MEMBERS_FAILED).health 11).memberLeaves m 3

/-- States of a member that can fail or be removed. -/
def State.isMember (s : State) (m : Nat) : Bool := let st := s.memState m; st == 1 || st == 2 || st == 4 || st == 5

/-- DRIVE_CMD_TIMEOUT (R239): a reissued command that times out again fails its member. -/
def execDriveCmdTimeout (cid : Nat) (s : State) : Host.Outcome State Fault Refusal :=
  .next (match tget? s.dpt.cmds cid with
    | none => s
    | some c =>
      if !s.powered || c.held || c.waiting || !s.isMember c.req.member then s
      else if c.reissue then (s.bumpD (s.memPort c.req.member) CNT_DPT_TIMEOUTS).memberFails c.req.member
      else s.timeout cid c)

/-- ABORT_WAIT_EXPIRY (R239 step 2): neither the command nor the Abort has completed. -/
def execAbortWaitExpiry (member : Member) (s : State) : Host.Outcome State Fault Refusal :=
  .next (if s.powered && s.memState member == 2 && s.fld (DPT_MEM_STAT_LADDER member) == 1 && !(s.mem member).abortDone then s.ctrlReset member else s)

/-- CTRL_DISABLED (R239 step 2): CSTS.RDY is 0, and CC.EN is set again. -/
def execCtrlDisabled (member : Member) (s : State) : Host.Outcome State Fault Refusal :=
  .next (if s.powered && s.fld (DPT_MEM_STAT_LADDER member) == 2 && !(s.mem member).disabled then
    (s.modMem member (fun x => { x with disabled := true, queues := x.queues.map (fun e => (e.1, { depth := e.2.depth })) })).emit (.drvEnable member true) else s)

/-- Insert a command by its issue number. -/
def byIssue (e : Nat × DrvCmd) : List (Nat × DrvCmd) → List (Nat × DrvCmd)
  | [] => [e]
  | x :: l => if e.2.nth ≤ x.2.nth then e :: x :: l else x :: byIssue e l

/-- CTRL_READY (R239 step 3): the held commands are reissued in their original order. -/
def execCtrlReady (member : Member) (s : State) : Host.Outcome State Fault Refusal :=
  .next (if s.powered && s.fld (DPT_MEM_STAT_LADDER member) == 2 && (s.mem member).disabled then
    let held := (s.dpt.cmds.filter (fun e => e.2.req.member == member.val && e.2.held)).foldr byIssue []
    (s.each held (fun t e => t.post e.1 e.2.queue { e.2 with reissue := true })).modMem member (fun x => { x with disabled := false })
  else s)

/-- CTRL_READY_TIMEOUT (R239 step 3): the member enters FAILED. -/
def execCtrlReadyTimeout (member : Member) (s : State) : Host.Outcome State Fault Refusal :=
  .next (if s.powered && s.memState member == 2 && s.fld (DPT_MEM_STAT_LADDER member) == 2 then s.memberFails member else s)

/-- CTRL_RESET_COMPLETE (R239 step 5): every reissued command has completed. -/
def execCtrlResetComplete (member : Member) (s : State) : Host.Outcome State Fault Refusal :=
  .next (if s.powered && s.fld (DPT_MEM_STAT_LADDER member) == 2 && !(s.mem member).disabled &&
      !s.dpt.cmds.any (fun e => e.2.req.member == member.val && (e.2.held || e.2.reissue)) then s.ladderEnd member else s)

/-- CONTROLLER_FATAL_STATUS (R239): CSTS.CFS = 1 enters step 2 directly. -/
def execControllerFatalStatus (member : Member) (s : State) : Host.Outcome State Fault Refusal :=
  .next (if !s.powered || !s.isMember member then s
    else if s.memState member = 2 then (if s.fld (DPT_MEM_STAT_LADDER member) = 2 then s else s.ctrlReset member)
    else (s.suspect member).ctrlReset member)

/-! ### Ports, insertion and qualification (R224–R226, R232–R237) -/

/-- Key of a place. -/
def DrvPlace.key (p : DrvPlace) : Nat := match p with
  | .half h => h.val
  | .xp x slot => 64 + 32 * x.val + slot.val

/-- The member number at a place. -/
def State.memAt (s : State) (p : DrvPlace) : Option Nat := (List.range 128).find? (fun m =>
  let ty := s.fld (DPT_MEM_LOC_TYPE m)
  match p with
  | .half h => ty != 0 && ty != 4 && s.fld (DPT_MEM_LOC_PORT m) == h.val / 2 && (ty == 3) == (h.val % 2 == 1)
  | .xp x slot => ty == 4 && s.fld (DPT_MEM_LOC_PORT m) == x.val && s.fld (DPT_MEM_LOC_SLOT m) == slot.val)

/-- A half-port exists: half B only on a split port. -/
def State.halfOk (s : State) (h : Nat) : Bool := s.flag (DPT_PORT_CFG_EN (h / 2)) && (h % 2 == 0 || s.flag (DPT_PORT_CFG_SPLIT (h / 2)))

/-- Record where a member number is (R247). -/
def State.setLoc (s : State) (m : Nat) (p : DrvPlace) (dual : Bool) : State :=
  let s1 := match p with
    | .half h => ((s.setFld (DPT_MEM_LOC_TYPE m) (if !s.flag (DPT_PORT_CFG_SPLIT (h.val / 2)) then 1 else if h.val % 2 = 0 then 2 else 3)).setFld (DPT_MEM_LOC_PORT m) (h.val / 2)).setFld (DPT_MEM_LOC_SLOT m) 0
    | .xp x slot => ((s.setFld (DPT_MEM_LOC_TYPE m) 4).setFld (DPT_MEM_LOC_PORT m) x).setFld (DPT_MEM_LOC_SLOT m) slot
  s1.setFlag (DPT_MEM_LOC_DUAL m) dual

/-- A member number becomes free (R242). -/
def State.freeMember (s : State) (m : Nat) : State :=
  let s1 := (((s.setReg (DPT_MEM_LOC m) 0).setReg (DPT_MEM_STAT m) 0).setReg (RED_MEM m) 0).setFlag (GOV_DRV_IN_LOW m) false
  { s1 with dpt := { s1.dpt with mems := tdel s1.dpt.mems m }, red := { s1.red with labels := tdel s1.red.labels m, holding := s1.red.holding.filter (fun x => x != m) } }

/-- A member number the part can give: NONE, and not kept by a set's slot. -/
def State.freeNumber (s : State) : Option Nat := (List.range 128).find? (fun m => s.memState m == 0 && (s.placeOf m).isNone)

/-- A drive is held out with a QUAL_ERR code (R232, R234). -/
def State.holdOut (s : State) (p : DrvPlace) (code : Nat) : State :=
  let port := match p with
    | .half h => h.val / 2
    | .xp x _ => 32 + x.val
  let s1 := s.bumpD port CNT_DPT_QUAL_FAIL
  match s1.freeNumber with
  | none => s1
  | some m => ((s1.setLoc m p false).setMem m 7).setFld (DPT_MEM_STAT_QUAL_ERR m) code

/-- Forget a place in the lists of drives on their way in. -/
def State.dropPlace (s : State) (k : Nat) : State :=
  { s with dpt := { s.dpt with linked := s.dpt.linked.filter (fun x => x != k), ready := s.dpt.ready.filter (fun x => x != k) } }

/-- SLOT_RESET_RELEASE (R235 step 3). -/
def execSlotResetRelease (half : Fin 64) (s : State) : Host.Outcome State Fault Refusal :=
  .next (if s.powered && s.halfOk half && s.flag DPT_CTL_HP_EN && s.fld (SLP_CH_STAT_STATE (half.val / 2)) == 2 && s.flag (SLP_CH_STAT_PG (half.val / 2)) && !s.dpt.contained.any (fun e => e.1 == half.val) && !s.dpt.released.contains half.val then
    { s with dpt := { s.dpt with released := s.dpt.released ++ [half.val] } } else s)

/-- DRIVE_LINK_UP (R235 step 4, R226): a drive's link trains, or with width 0 has not trained within 1 s; on an expansion port the place names the
port, and its slot is not used. -/
def execDriveLinkUp (place : DrvPlace) (width : Fin 5) (rate : Fin 4) (s : State) : Host.Outcome State Fault Refusal :=
  .next (if !s.powered then s else match place with
    | .xp x _ =>
      if !s.flag (DPT_XP_CFG_EN x) || width.val = 0 then s else
      (((s.setFlag (DPT_XP_STAT_UP x) true).setFld (DPT_XP_STAT_WIDTH x) width).setFld (DPT_XP_STAT_RATE x) rate).setFlag (DPT_XP_STAT_SWITCH x) true
    | .half h =>
      if !(s.halfOk h && s.dpt.released.contains h.val) || s.flag (DPT_PORT_STAT_UP (h.val / 2) (h.val % 2)) then s
      else if width.val = 0 then s.holdOut place 1
      else
        let s1 := ((s.setFlag (DPT_PORT_STAT_UP (h.val / 2) (h.val % 2)) true).setFld (DPT_PORT_STAT_WIDTH (h.val / 2) (h.val % 2)) (min 3 width.val)).setFld (DPT_PORT_STAT_RATE (h.val / 2) (h.val % 2)) rate
        { s1 with dpt := { s1.dpt with linked := s1.dpt.linked ++ [h.val] } })

/-- DRIVE_READY (R235 step 5): CSTS.RDY is reached. -/
def execDriveReady (place : DrvPlace) (s : State) : Host.Outcome State Fault Refusal :=
  .next (if s.powered && s.dpt.linked.contains place.key then { s with dpt := { s.dpt with linked := s.dpt.linked.filter (fun x => x != place.key), ready := s.dpt.ready ++ [place.key] } } else s)

/-- The checks of R232 in order: the code of the first failure, and whether the drive ends with 4,096 + 64. A drive without a label is reformatted (R233). -/
def State.qualCode (s : State) (ready : Bool) (f : DrvFacts) : Nat × Bool :=
  let reformat := s.flag DPT_CTL_AUTO_FORMAT && f.label.isNone
  if f.nested then (7, false)
  else if !ready || !f.ready then (2, false)
  else if !f.identify then (3, false)
  else match f.format with
    | some fmt => if f.dual && s.flag DPT_CTL_FENCE_EN && !f.resv then (5, fmt) else (0, fmt)
    | none =>
      if !reformat then (4, false)
      else if !f.reformat then (8, false)
      else if f.dual && s.flag DPT_CTL_FENCE_EN && !f.resv then (5, true) else (0, true)

/-- A qualified drive becomes a member under a number, in a state (R235 steps 6 and 7, R226, R238). -/
def State.admitMember (s : State) (m : Nat) (p : DrvPlace) (f : DrvFacts) (fmt : Bool) (st : Nat) : State :=
  let io := (List.range (min 16 f.ioq)).map (fun q => (q + 1, ({ depth := max 2 (min 1024 f.depth) } : DrvQueue)))
  let s1 := (((((s.setLoc m p f.dual).setMem m st).setFlag (DPT_MEM_STAT_FMT m) fmt).setFlag (DPT_MEM_STAT_LINK_DEG m) f.degraded).setFld (DPT_MEM_STAT_IOQ m) (min 16 f.ioq)).setFld (DPT_MEM_STAT_QUAL_ERR m) 0
  let s2 := s1.modMem m (fun _ => { queues := (0, { depth := 32 }) :: io, bands := f.bands })
  let s3 := s2.setFlag (DPT_MEM_STAT_RESV m) (f.dual && s.flag DPT_CTL_FENCE_EN && s.serving)
  if f.degraded then s3.bumpD (s3.memPort m) CNT_DPT_LINK_DEGRADE else s3

/-- DRIVE_QUALIFY (R232–R235, R242, R251, R276, R277): the drive at a place takes its number and state. -/
def execDriveQualify (place : DrvPlace) (facts : DrvFacts) (s : State) : Host.Outcome State Fault Refusal :=
  .next (
    let k := place.key
    let isReady := s.dpt.ready.contains k
    if !s.powered || !(isReady || s.dpt.linked.contains k) then s else
    let s0 := s.dropPlace k
    let s1 := match s0.memAt place with
      | some m => if s0.memState m = 7 then s0.freeMember m else s0
      | none => s0
    match s1.qualCode isReady facts with
    | (0, fmt) =>
      (match facts.label with
      | none => (match s1.freeNumber with
        | none => s1.holdOut place 6
        | some m => (s1.admitMember m place facts fmt 5).syncMem m)
      | some l =>
        let m := l.member % 128
        let here := s1.red.sets.find? (fun e => e.2.setId == l.setId)
        let own := match here with
          | some (_, p) => p.member l.slot == some m
          | none => false
        let returning := s1.memState m == 6 && own
        if !(s1.memState m == 0 || returning) then s1.holdOut place 6 else
        let s2 := { s1.admitMember m place facts fmt 5 with red := { s1.red with labels := tput s1.red.labels m l } }
        match here with
        | none => s2.setFlag (RED_MEM_FOREIGN m) true
        | some (_, p) =>
          if !own then ((s2.bump CNT_RED_STALE_RETURN).syncMem m)
          else s2.memberReturns m (decide (l.gen < p.gen) && !bitOf l.slotMask l.slot && !returning))
    | (code, _) =>
      let s2 := match code, place with
        | 7, .xp x _ => s1.setFlag (DPT_XP_STAT_NESTED x) true
        | _, _ => s1
      s2.holdOut place code)

/-- A member is removed, or its link is lost: MISSING, or for a number held out its slot is seen empty (R236, R237, R242). -/
def State.memberGone (s : State) (m : Nat) (empty : Bool) : State :=
  let st := s.memState m
  let s1 := if empty then s.modMem m (fun x => { x with gone := true }) else s
  if s1.isMember m then (s1.bumpD (s.memPort m) CNT_DPT_REMOVALS).memberLeaves m 6
  else if st = 7 && empty then s1.freeMember m
  else s1

/-- A half-port's link goes down. -/
def State.halfDown (s : State) (h : Nat) : State :=
  let s1 := ((s.setFlag (DPT_PORT_STAT_UP (h / 2) (h % 2)) false).setFld (DPT_PORT_STAT_WIDTH (h / 2) (h % 2)) 0).setFld (DPT_PORT_STAT_RATE (h / 2) (h % 2)) 0
  { (s1.dropPlace h) with dpt := { (s1.dropPlace h).dpt with released := s1.dpt.released.filter (fun x => x != h) } }

/-- DRIVE_REMOVAL (R236): a presence loss, or a link down with presence held, of a half-port. -/
def State.driveRemoval (s : State) (half : Fin 64) (presence : Bool) : State :=
  if !s.powered || (presence && !s.flag DPT_CTL_HP_EN) || s.dpt.contained.any (fun e => e.1 == half.val) then s else
  let up := s.flag (DPT_PORT_STAT_UP (half.val / 2) (half.val % 2))
  let m := s.memAt (.half half)
  if !up && !presence then s else
  let s1 := s.halfDown half
  if !s1.flag DPT_CTL_DPC_EN then (match m with
    | some x => if s1.memState x = 7 && presence then s1.freeMember x else s1
    | none => s1)
  else match m with
    | none => s1
    | some x =>
      if !s1.isMember x then s1.memberGone x presence else
      let s2 := ({ s1 with dpt := { s1.dpt with contained := tput s1.dpt.contained half.val presence } }.setFlag (DPT_PORT_STAT_DPC (half.val / 2) (half.val % 2)) true).bumpD (half.val / 2) CNT_DPT_DPC_EVENTS
      s2.memberGone x presence

/-- DRIVE_REMOVAL. -/
def execDriveRemoval (half : Fin 64) (presence : Bool) (s : State) : Host.Outcome State Fault Refusal := .next (s.driveRemoval half presence)

/-- DPC_LINK_RETRAIN (R236): containment of a link down with presence held is released, and the port goes on from step 3. -/
def execDpcLinkRetrain (half : Fin 64) (s : State) : Host.Outcome State Fault Refusal :=
  .next (match tget? s.dpt.contained half.val with
    | some false => if s.powered then { s with dpt := { s.dpt with contained := tdel s.dpt.contained half.val } } else s
    | _ => s)

/-- XP_HOTPLUG_EVENT (R237): a drive appears in or leaves a slot behind an expansion port; `dpc` says that the switch contained the removal. With HP_EN = 0
the change is only reported (R235). -/
def execXpHotplugEvent (xp : Fin 4) (slot : Fin 32) (insert dpc : Bool) (s : State) : Host.Outcome State Fault Refusal :=
  .next (
    let place := DrvPlace.xp xp slot
    let k := 32 * xp.val + slot.val
    if !(s.powered && s.flag (DPT_XP_STAT_UP xp)) then s
    else if !s.flag DPT_CTL_HP_EN then
      let xs := s.dpt.xdrives.filter (fun x => x != k)
      let s1 := { s with dpt := { s.dpt with xdrives := if insert && decide (slot.val < 24) then xs ++ [k] else xs } }
      s1.setFld (DPT_XP_STAT_DRIVES xp) (s1.dpt.xdrives.filter (fun x => x / 32 == xp.val)).length
    else if insert then
      if s.dpt.xdrives.contains k then s
      else if 24 ≤ slot.val || 24 ≤ (s.dpt.xdrives.filter (fun x => x / 32 == xp.val)).length then (s.setFlag (DPT_XP_STAT_NESTED xp) true).holdOut place 7
      else
        let s1 := { s with dpt := { s.dpt with xdrives := s.dpt.xdrives ++ [k], linked := s.dpt.linked ++ [place.key] } }
        s1.setFld (DPT_XP_STAT_DRIVES xp) (s1.dpt.xdrives.filter (fun x => x / 32 == xp.val)).length
    else
      let s1 := ({ s with dpt := { s.dpt with xdrives := s.dpt.xdrives.filter (fun x => x != k) } }.dropPlace place.key)
      let s2 := s1.setFld (DPT_XP_STAT_DRIVES xp) (s1.dpt.xdrives.filter (fun x => x / 32 == xp.val)).length
      let s3 := if dpc then s2.setFlag (DPT_XP_STAT_DPC xp) true else s2
      match s3.memAt place with
      | some m => s3.memberGone m true
      | none => s3)

/-- XP_LINK_DOWN (R237): every member behind the switch is MISSING. -/
def execXpLinkDown (xp : Fin 4) (s : State) : Host.Outcome State Fault Refusal :=
  .next (if !(s.powered && s.flag (DPT_XP_STAT_UP xp)) then s else
    let s1 := ((((s.setFlag (DPT_XP_STAT_UP xp) false).setFld (DPT_XP_STAT_WIDTH xp) 0).setFld (DPT_XP_STAT_RATE xp) 0).setFlag (DPT_XP_STAT_SWITCH xp) false).setFld (DPT_XP_STAT_DRIVES xp) 0
    let s2 := { s1 with dpt := { s1.dpt with xdrives := s1.dpt.xdrives.filter (fun x => x / 32 != xp.val), linked := s1.dpt.linked.filter (fun x => !(decide (64 ≤ x) && (x - 64) / 32 == xp.val)), ready := s1.dpt.ready.filter (fun x => !(decide (64 ≤ x) && (x - 64) / 32 == xp.val)) } }
    s2.each ((List.range 128).filter (fun m => s2.fld (DPT_MEM_LOC_TYPE m) == 4 && s2.fld (DPT_MEM_LOC_PORT m) == xp.val)) (fun t m => t.memberGone m true))

/-! ### Reservations (R238) -/

/-- RESERVATION_ACQUIRE_DONE (R238): the member's I/O may start. -/
def execReservationAcquireDone (member : Member) (s : State) : Host.Outcome State Fault Refusal :=
  .next (if s.powered && (s.mem member).acquiring then
    let s1 := (s.modMem member (fun x => { x with acquiring := false })).setFlag (DPT_MEM_STAT_RESV member) true
    { s1 with dpt := { s1.dpt with cmds := s1.dpt.cmds.filter (fun (e : Nat × DrvCmd) => !(e.2.req.member == member.val && e.2.req.use == DrvUse.admin 2)) } }.syncPool
  else s)

/-- ACQUIRE_TIMEOUT (R238): an acquire not complete 1 ms after the takeover began puts its member in SUSPECT, and the ladder starts (R242). -/
def execAcquireTimeout (member : Member) (s : State) : Host.Outcome State Fault Refusal :=
  .next (if !(s.powered && (s.mem member).acquiring && s.isMember member) then s else
    match s.dpt.cmds.find? (fun e => e.2.req.member == member.val && e.2.req.use == DrvUse.admin 2) with
    | some e =>
      let s1 := ((s.suspect member).setFld (DPT_MEM_STAT_LADDER member) 1).modMem member (fun x => { x with ladder := some e.1 })
      (s1.drvAdmin member e.1 (.abort e.1)).bumpD (s.memPort member) CNT_DPT_ABORTS_SENT
    | none => (s.suspect member).ctrlReset member)

/-! ### DPT_MEM_CMD (R243) -/

/-- A GO of DPT_MEM_CMD. -/
def State.memCmd (s : State) (op m : Nat) (f : State → State × Bool) : State :=
  if s.flag DPT_MEM_CMD_STAT_BUSY then s.malformed else
  let (t, ok) := f ((s.setFld DPT_MEM_CMD_OP op).setFld DPT_MEM_CMD_INDEX m)
  t.setFld DPT_MEM_CMD_STAT_RESULT (if ok then 0 else 1)

/-- FAIL (R242). -/
def State.goMemFail (s : State) (m : Nat) : State := s.memCmd 1 m (fun t => if t.isMember m then (t.memberFails m, true) else (t, false))

/-- RELEASE (R242): the number of an empty MISSING or FAILED member is freed, and its set's slot is vacant. -/
def State.goMemRelease (s : State) (m : Nat) : State := s.memCmd 2 m (fun t =>
  let st := t.memState m
  if !((st == 6 || st == 3) && ((t.mem m).gone)) then (t, false) else
  match t.placeOf m with
  | none => (t.freeMember m, true)
  | some (pi, p, slot) => ((((t.freeMember m).putSet pi (some { p with slots := tdel p.slots slot, lostSlots := if p.lostSlots.contains slot then p.lostSlots else p.lostSlots ++ [slot] })).bumpGen pi).syncRed, true))

/-- REQUALIFY: R235 again from step 5. -/
def State.goMemRequalify (s : State) (m : Nat) : State := s.memCmd 3 m (fun t =>
  if t.memState m != 7 then (t, false) else
  let k := if t.fld (DPT_MEM_LOC_TYPE m) = 4 then 64 + 32 * t.fld (DPT_MEM_LOC_PORT m) + t.fld (DPT_MEM_LOC_SLOT m) else 2 * t.fld (DPT_MEM_LOC_PORT m) + (if t.fld (DPT_MEM_LOC_TYPE m) = 3 then 1 else 0)
  ({ t with dpt := { t.dpt with linked := if t.dpt.linked.contains k then t.dpt.linked else t.dpt.linked ++ [k] } }, true))

/-- MEMBER_FAIL_CMD. -/
def execMemberFailCmd (req : Requester) (member : Member) (s : State) : Host.Outcome State Fault Refusal := .next (s.accessWrite req DPT_MEM_CMD (fun t => t.goMemFail member))
/-- MEMBER_RELEASE_CMD. -/
def execMemberReleaseCmd (req : Requester) (member : Member) (s : State) : Host.Outcome State Fault Refusal := .next (s.accessWrite req DPT_MEM_CMD (fun t => t.goMemRelease member))
/-- MEMBER_REQUALIFY_CMD. -/
def execMemberRequalifyCmd (req : Requester) (member : Member) (s : State) : Host.Outcome State Fault Refusal := .next (s.accessWrite req DPT_MEM_CMD (fun t => t.goMemRequalify member))

end Sys2Proof.Machine
end

