-- ==== Sys2Proof/Machine/Maint.lean ====
section
/-! DEFINITION. The cache's maintenance engine, and the ends of prefetch fills (R295, R297–R300, R308). -/

namespace Sys2Proof.Machine

/-- Show the engine's queue and its oldest completion (R308). -/
def State.syncMnt (s : State) : State :=
  let n := s.cch.mnt.length + s.cch.done.length
  let s1 := ((s.setFlag CCH_MNT_STAT_BUSY (!s.cch.mnt.isEmpty)).setFld CCH_MNT_STAT_LEVEL n).setFlag CCH_MNT_STAT_FULL (decide (16 ≤ n))
  match s.cch.done with
  | [] => ((s1.setReg CCH_MNT_DONE0 0).setReg CCH_MNT_DONE1 0).setReg CCH_MNT_DONE2 0
  | (id, st, lines, locks, skip) :: _ =>
    ((((((s1.setFld CCH_MNT_DONE0_ID id).setFld CCH_MNT_DONE0_STATUS st).setFlag CCH_MNT_DONE0_VALID true).setFld CCH_MNT_DONE1_LINES lines).setFld CCH_MNT_DONE2_LOCKS_BROKEN (min 0xFFFF locks)).setFld CCH_MNT_DONE2_SKIPPED (min 0xFFFF skip))

/-- The running operation posts its completion (R298). -/
def State.mntDone (s : State) (status lines locks skip : Nat) : State := match s.cch.mnt with
  | [] => s
  | o :: rest => (({ s with cch := { s.cch with mnt := rest, done := s.cch.done ++ [(o.id, status, lines, locks, skip)] } }.bump CNT_CCH_MNT_OPS).monEvent 125 0x080 (lines + skip)).syncMnt

/-- A line lies in the range of an operation. -/
def MntOp.covers (o : MntOp) (v st : Nat) : Bool := o.all || (o.vol == v && decide (o.start ≤ st) && (o.count == 0 || decide (st < o.start + o.count)))

/-- First line past the range, within the volume. -/
def State.mntEnd (s : State) (o : MntOp) : Nat :=
  let e := s.volBlocks o.vol / 16
  if o.count = 0 then e else min e (o.start + o.count)

/-- INVALIDATE (R299, R300): the lines leave every store, and fills on them are not installed. -/
def State.mntInvalidate (s : State) (o : MntOp) : State :=
  let hit (l : Line) : Bool := o.covers l.vol l.stripe
  let kept (l : Line) : Bool := !hit l || (o.respect && l.lock)
  let gone := (s.cch.main.filter (fun e => !kept e.2)).map (fun e => e.2)
  let broken := (gone.filter (fun l => l.lock)).length
  let skip := (s.cch.main.filter (fun e => hit e.2 && o.respect && e.2.lock)).length
  let side := s.cch.side.filter hit
  let fills := s.cch.fills.filter (fun f => o.covers f.vol f.stripe && !f.cancelled)
  let keys := ((gone ++ s.cch.evb.filter hit ++ side).map (fun l => (l.vol, l.stripe)) ++ fills.map (fun f => (f.vol, f.stripe))).eraseDups
  let cancel (f : Fill) : Fill := if o.covers f.vol f.stripe then { f with cancelled := true } else f
  let s1 := { s with cch := { s.cch with main := s.cch.main.filter (fun e => kept e.2), evb := s.cch.evb.filter (fun l => !hit l), side := s.cch.side.filter (fun l => !hit l), fills := s.cch.fills.map cancel } }
  ((((s1.bumpBy CNT_CCH_PF_UNUSED side.length).bumpBy CNT_CCH_LOCKS_BROKEN broken).syncLocks).mntDone 0 keys.length broken skip)

/-- UNLOCK (R299). -/
def State.mntUnlock (s : State) (o : MntOp) : State :=
  let n := (s.cch.main.filter (fun e => e.2.lock && o.covers e.2.vol e.2.stripe)).length
  let f (e : Nat × Line) : Nat × Line := if o.covers e.2.vol e.2.stripe then (e.1, { e.2 with lock := false }) else e
  ({ s with cch := { s.cch with main := s.cch.main.map f } }.syncLocks).mntDone 0 n 0 0

/-- The sectors of a line that PREFETCH and LOCK fetch: none where the line is skipped, for an unallocated slab or a lost range (R299). -/
def State.mntWant (s : State) (v st : Nat) : Option Nat :=
  let alloc := match tget? s.red.vols v with
    | some x => (tget? x.slabs (st / 2 ^ 14)).isSome
    | none => false
  if !alloc || (List.range 16).any (fun i => s.lostBlock v (16 * st + i)) then none else
  let held := match s.mainLine v st with
    | some (_, l) => l.sectors
    | none => []
  some ((List.range 16).foldl (fun m i => if (tget? held i).isSome || s.journalHolds v (16 * st + i) then m else match s.locate v (16 * st + i) with
    | .strip _ _ _ _ _ => m + 2 ^ i
    | _ => m) 0)

/-- LOCK a line that is in the cache (R297, R299): its state, whether it is locked, and whether that changed it. -/
def State.mntLockLine (s : State) (v st : Nat) : State × Bool × Bool :=
  let s1 := if (s.mainLine v st).isSome then s else s.install v st 0 [] false
  match s1.mainLine v st with
  | none => (s1, false, false)
  | some (k, l) =>
    if l.lock then (s1, true, false) else
    if (s1.cch.main.filter (fun e => e.1 / 16 == k / 16 && e.2.lock)).length < s1.fld CCH_CTL_LOCK_WAYS then (((s1.setLine k { l with lock := true }).syncLocks), true, true)
    else (s1, false, false)

/-- Update the running operation. -/
def State.modMnt (s : State) (f : MntOp → MntOp) : State := match s.cch.mnt with
  | [] => s
  | o :: rest => { s with cch := { s.cch with mnt := f o :: rest } }

/-- A journal record in the range of an operation is undestaged (R299). -/
def State.mntDirty (s : State) (o : MntOp) : Bool :=
  s.red.journal.any (fun r => if o.all then !r.dirty.isEmpty else r.vol == o.vol && r.dirty.any (fun x => decide (16 * o.start < x.1 + x.2) && (o.count == 0 || decide (x.1 < 16 * (o.start + o.count)))))

/-- The engine passes from one line of PREFETCH or LOCK to the next, with the line's outcome. -/
def MntOp.step (o : MntOp) (changed skip : Bool) : MntOp := { o with next := o.next + 1, lines := o.lines + changed.toNat, skipped := o.skipped + skip.toNat }

/-- The engine works until it must wait (R298, R299). -/
def State.mntLoop : Nat → State → State
  | 0, s => s
  | fuel + 1, s => match s.cch.mnt with
    | [] => s.syncMnt
    | o :: _ =>
      if !s.serving then mntLoop fuel (s.mntDone 1 0 0 0)
      else if 6 ≤ o.op || o.op = 0 || (o.all && (o.op == 3 || o.op == 4)) then mntLoop fuel (s.mntDone 2 0 0 0)
      else if !o.all && (tget? s.red.vols o.vol).isNone then mntLoop fuel (s.mntDone 3 0 0 0)
      else if o.op = 1 then mntLoop fuel (s.mntInvalidate o)
      else if o.op = 5 then mntLoop fuel (s.mntUnlock o)
      else if o.op = 2 then
        if !o.started then mntLoop fuel (s.modMnt (fun x => { x with started := true, lines := (s.cch.main.filter (fun e => e.2.dirty != 0 && o.covers e.2.vol e.2.stripe)).length }))
        else if s.mntDirty o then s.syncMnt
        else mntLoop fuel (s.mntDone 0 o.lines 0 0)
      else if !o.started then mntLoop fuel (s.modMnt (fun x => { x with started := true, next := x.start }))
      else if s.mntEnd o ≤ o.next then mntLoop fuel (s.mntDone 0 o.lines 0 o.skipped)
      else if s.cch.fills.any (fun f => f.vol == o.vol && f.stripe == o.next && decide (2 ≤ f.kind)) then s.syncMnt
      else match s.mntWant o.vol o.next with
        | none => mntLoop fuel (s.modMnt (fun x => x.step false true))
        | some 0 =>
          if o.op = 3 then mntLoop fuel (s.modMnt (fun x => x.step false false)) else
          let (t, ok, ch) := s.mntLockLine o.vol o.next
          mntLoop fuel (t.modMnt (fun x => x.step ch (!ok)))
        | some want =>
          let cancel (f : Fill) : Fill := if f.vol = o.vol && f.stripe = o.next then { f with cancelled := true } else f
          let f : Fill := { vol := o.vol, stripe := o.next, kind := if o.op = 3 then 2 else 3, want := want, admitted := false }
          ({ s with cch := { s.cch with fills := s.cch.fills.map cancel ++ [f] } }.admitFetches).syncMnt

/-- Run the engine as far as it goes. -/
def State.mntRun (s : State) : State := State.mntLoop (s.cch.mnt.foldl (fun n o => n + 3 + s.mntEnd o) 1) s

/-- A fill of the engine is complete: its line is installed in the main cache whatever the policy, unless an append made it stale (R292, R299). -/
def State.mntFill (s : State) (f : Fill) : State :=
  let s1 := s.dropFill f
  let mine := match s1.cch.mnt with
    | o :: _ => o.vol == f.vol && o.next == f.stripe && o.op == f.kind + 1
    | [] => false
  let step (t : State) (ch sk : Bool) : State := if mine then (t.modMnt (fun x => x.step ch sk)).mntRun else t
  if f.cancelled then step (s1.bump CNT_CCH_FILL_CANCEL) false false
  else if f.stale then step (s1.bump CNT_CCH_FILL_STALE) false false
  else
    let s2 := if f.sectors.isEmpty then s1 else s1.install f.vol f.stripe (sectorsKey f.sectors) f.sectors false
    if f.kind = 2 then step s2 (!f.sectors.isEmpty) false else
    let (t, ok, _) := s2.mntLockLine f.vol f.stripe
    step t true (!ok)

/-- PREFETCH_FILL_COMPLETE (R292, R295, R299): a detector fetch goes to the side buffer, unless an append made it stale or the engine took its line; a
fetch of PREFETCH or LOCK goes to the main cache. -/
def execPrefetchFillComplete (vol : Fin 4096) (stripe : Nat) (s : State) : Host.Outcome State Fault Refusal :=
  .next (match s.cch.fills.find? (fun f => f.vol == vol.val && f.stripe == stripe && f.kind != 0 && f.admitted && f.complete) with
    | none => s
    | some f =>
      if !s.powered then s else
      if 2 ≤ f.kind then s.mntFill f else
      let s1 := s.dropFill f
      if f.cancelled then s1.bump CNT_CCH_FILL_CANCEL
      else if f.stale then s1.bump CNT_CCH_FILL_STALE
      else if s1.cchSets = 0 || f.sectors.isEmpty then s1
      else s1.putSide { vol := f.vol, stripe := f.stripe, key := sectorsKey f.sectors, sectors := f.sectors })

/-- A GO of CCH_MNT_CMD (R298): the operation joins the queue. -/
def State.mntGo (s : State) (op : Nat) (respect : Bool) (id : Nat) : State :=
  if 16 ≤ s.cch.mnt.length + s.cch.done.length then s.malformed else
  let o : MntOp := { op := op, respect := respect, id := id, vol := s.fld CCH_MNT_ARG0_VOLUME, all := s.flag CCH_MNT_ARG0_ALL, start := s.fld CCH_MNT_ARG1_START, count := s.fld CCH_MNT_ARG2_COUNT }
  let s1 := ((s.setFld CCH_MNT_CMD_OP op).setFlag CCH_MNT_CMD_RESPECT_LOCKS respect).setFld CCH_MNT_CMD_ID id
  { s1 with cch := { s1.cch with mnt := s1.cch.mnt ++ [o] } }.mntRun

/-- MNT_INVALIDATE. -/
def execMntInvalidate (req : Requester) (respect : Bool) (id : Fin 256) (s : State) : Host.Outcome State Fault Refusal := .next (s.accessWrite req CCH_MNT_CMD (fun t => t.mntGo 1 respect id))
/-- MNT_CLEAN. -/
def execMntClean (req : Requester) (respect : Bool) (id : Fin 256) (s : State) : Host.Outcome State Fault Refusal := .next (s.accessWrite req CCH_MNT_CMD (fun t => t.mntGo 2 respect id))
/-- MNT_PREFETCH. -/
def execMntPrefetch (req : Requester) (respect : Bool) (id : Fin 256) (s : State) : Host.Outcome State Fault Refusal := .next (s.accessWrite req CCH_MNT_CMD (fun t => t.mntGo 3 respect id))
/-- MNT_LOCK. -/
def execMntLock (req : Requester) (respect : Bool) (id : Fin 256) (s : State) : Host.Outcome State Fault Refusal := .next (s.accessWrite req CCH_MNT_CMD (fun t => t.mntGo 4 respect id))
/-- MNT_UNLOCK. -/
def execMntUnlock (req : Requester) (respect : Bool) (id : Fin 256) (s : State) : Host.Outcome State Fault Refusal := .next (s.accessWrite req CCH_MNT_CMD (fun t => t.mntGo 5 respect id))

/-- A read of CCH_MNT_DONE0 pops the completion and latches its counts for the requester (R308). -/
def State.popMnt (s : State) (req : Requester) : State := match s.cch.done with
  | [] => s
  | (_, _, lines, locks, skip) :: rest => { s with cch := { s.cch with done := rest, doneLatch := tput s.cch.doneLatch (reqNum req) (lines % 2 ^ 30, min 0xFFFF locks + min 0xFFFF skip * 65536) } }.syncMnt

/-- MNT_DONE_POP. -/
def execMntDonePop (req : Requester) (s : State) : Host.Outcome State Fault Refusal := .next (s.accessRead req CCH_MNT_DONE0 (s.reg CCH_MNT_DONE0) (fun t => t.popMnt req))

/-- A write of CCH_CTL (R308): EN = 0 empties the cache, the eviction buffer and the side buffer. -/
def State.cchCtlWrite (s : State) (w : Word) : State :=
  let s1 := s.setReg CCH_CTL w
  if fieldOf w 0 1 = 1 then s1 else
  ({ s1 with cch := { s1.cch with main := [], evb := [], side := [] } }.bumpBy CNT_CCH_PF_UNUSED s1.cch.side.length).syncLocks

/-- CACHE_DISABLE. -/
def execCacheDisable (req : Requester) (s : State) : Host.Outcome State Fault Refusal := .next (s.accessWrite req CCH_CTL (fun t => t.cchCtlWrite (withField (t.reg CCH_CTL) 0 1 0)))

end Sys2Proof.Machine
end

