-- ==== Sys2Proof/Machine/Store.lean ====
section
/-! DEFINITION. Destage, stripe copies after a snapshot, intents and their resync, the hold-up cap (R216, R255–R257, R261–R269, R271). -/

namespace Sys2Proof.Machine

/-! ### What a destage of a stripe has to do (R255–R257, R263) -/

/-- A stripe as a place to destage into: the volume whose newest layer it lies in, that volume's records, the slab and offset, and where its old
content lies. -/
structure StripeJob where
  vol   : Nat
  image : Bool
  slab  : Nat
  off   : Nat
  run   : Nat
  owner : Nat
  old   : Option Nat
  deriving DecidableEq, Repr

/-- The job of a stripe: for the volume that writes it, or else for the image of a snapshot that holds it. -/
def State.stripeJob (s : State) (set t : Nat) : Option StripeJob := match tget? s.red.sets set with
  | none => none
  | some p =>
    let l := (s.red.vols.filter (fun e => e.2.set == set)).flatMap (fun e => e.2.slabs.filterMap (fun x =>
      if x.2.lost || x.2.layers.isEmpty || t < x.2.top || x.2.top + p.perSlab ≤ t then none
      else some ({ vol := e.1, image := e.2.imageOf.isSome, slab := x.1, off := t - x.2.top, run := x.2.top, owner := x.2.owner, old := stripeIn x.2.layers (t - x.2.top) } : StripeJob)))
    match l.find? (fun j => !j.image) with
    | some j => some j
    | none => l.head?

/-- The volume block at a data position and row; the positions past the slab's end hold none (R253). -/
def StripeJob.block (j : StripeJob) (p : PSet) (pos row : Nat) : Nat := j.slab * 2 ^ 18 + (j.off * p.dataK + pos) * 16 + row
/-- A data position lies within the slab. -/
def StripeJob.valid (j : StripeJob) (p : PSet) (pos : Nat) : Bool := decide (j.off * p.dataK + pos < 16384)

/-- Rows of a stripe that hold no lost range. -/
def State.liveRows (s : State) (set t : Nat) : List Nat :=
  (List.range 16).filter (fun r => !s.red.lost.any (fun e => e.2.set == set && e.2.stripe == t && decide (e.2.first ≤ r && r < e.2.first + e.2.rows)))

/-- The dirty blocks of a job: row, position, block, and the record that supplies it. -/
def State.jobDirty (s : State) (set t : Nat) (p : PSet) (j : StripeJob) : List (Nat × Nat × Nat × JRec) :=
  (s.liveRows set t).flatMap (fun row => (List.range p.dataK).filterMap (fun pos =>
    if !j.valid p pos then none else (s.jrec j.vol (j.block p pos row)).map (fun r => (row, pos, j.block p pos row, r))))

/-- Every valid block of the stripe is dirty. -/
def StripeJob.full (j : StripeJob) (p : PSet) (n : Nat) : Bool := decide (n = 16 * ((List.range p.dataK).filter (j.valid p)).length)

/-- A CLEAN in progress covers a line (R299). -/
def State.cleaning (s : State) (v st : Nat) : Bool := match s.cch.mnt with
  | o :: _ => o.op == 2 && (o.all || (o.vol == v && decide (o.start ≤ st) && (o.count == 0 || decide (st < o.start + o.count))))
  | [] => false

/-- Destage of a stripe may begin (R263): its dirty blocks fill it, its oldest record is old enough, the journal is over half its cap and this stripe
holds its oldest record, a WT line is touched (R290), a CLEAN covers it (R299), the NIGHT drain runs (R45), or power fails (R269). -/
def State.ripe (s : State) (p : PSet) (j : StripeJob) (d : List (Nat × Nat × Nat × JRec)) : Bool :=
  let age := max 1 (s.fld RED_CTL_DESTAGE_AGE) * 1000000
  let head := (s.red.journal.find? (fun r => !r.dirty.isEmpty || !r.img.isEmpty)).map (fun r => r.seq)
  !d.isEmpty && (j.full p d.length
    || d.any (fun e => decide (e.2.2.2.born + age ≤ s.clock.nowNs))
    || (decide (s.fld RED_JRN_CAP_CAP * 2 ^ 19 < s.dirtyBytes) && d.any (fun e => some e.2.2.2.seq == head))
    || d.any (fun e => (s.policy j.vol (e.2.2.1 / 16)).1 == 1 || s.cleaning j.vol (e.2.2.1 / 16))
    || s.flag SYS_MODE_NIGHT_PEND || s.flag RED_JRN_STAT_PFAIL)

/-! ### Rows -/

/-- The sectors read of a row, by position. -/
def rowKnown (rd : List StripRead) (row : Nat) : List (Nat × Nat) := rd.filterMap (fun e => if e.2.1 = row then e.2.2.map (fun w => (e.1, w)) else none)

/-- The data of a row: what is new, else what was read, else what the reads recover. -/
def PSet.rowData (p : PSet) (new known : List (Nat × Nat)) : Option (List Nat) :=
  let has (j : Nat) : Option Nat := match tget? new j with
    | some w => some w
    | none => tget? known j
  if (List.range p.dataK).all (fun j => (has j).isSome) then some ((List.range p.dataK).map (fun j => (has j).getD 0))
  else (p.recover known).map (fun d => (List.range p.dataK).map (fun j => (tget? new j).getD (d.getD j 0)))

/-- Positions that carry redundancy: parity, or every copy of a mirror. -/
def PSet.parityPos (p : PSet) : List Nat := if p.layout = 1 then List.range p.width else (List.range p.m).map (fun i => p.k + i)

/-- Every sector of a row from its data. -/
def PSet.rowWhole (p : PSet) (data : List Nat) : List (Nat × Nat) := (List.range p.width).map (fun i => (i, p.encodeAt data i))

/-- Reconstruct-write of a row: the new data and the new parity. -/
def PSet.rowRcw (p : PSet) (new known : List (Nat × Nat)) : Option (List (Nat × Nat)) :=
  (p.rowData new known).map (fun d => (p.rowWhole d).filter (fun e => p.parityPos.contains e.1 || (tget? new e.1).isSome))

/-- Read-modify-write of a row: the delta applied to the old parity. -/
def PSet.rowRmw (p : PSet) (new known : List (Nat × Nat)) : Option (List (Nat × Nat)) :=
  if !(new.all (fun e => (tget? known e.1).isSome) && p.parityPos.all (fun i => (tget? known i).isSome)) then none else
  some (new ++ p.parityPos.map (fun i => (i, new.foldl (fun acc e => acc ^^^ gmulW ((p.coefs i).getD e.1 0) (((tget? known e.1).getD 0) ^^^ e.2)) ((tget? known i).getD 0))))

/-- Runs of successive rows. -/
def rowRunsOf : List Nat → List (List Nat)
  | [] => []
  | r :: rest => match rowRunsOf rest with
    | (r2 :: l) :: t => if r2 = r + 1 then (r :: r2 :: l) :: t else [r] :: (r2 :: l) :: t
    | _ => [[r]]

/-- The method of a run of dirty rows (R263, R268): read-modify-write where it reads no more sectors, unless a strip of the stripe is gone. -/
def PSet.useRmw (p : PSet) (degraded : Bool) (counts : List Nat) : Bool :=
  !degraded && decide (counts.foldl (fun n c => n + c + p.m) 0 + (if p.layout = 1 then counts.length else 0) ≤ counts.foldl (fun n c => n + (p.dataK - c)) 0)

/-- What a destage writes: by row, the sectors at each position; the runs written by each method; the sectors it reads. -/
structure Plan where
  rows : List (Nat × List (Nat × Nat))
  full : Nat := 0
  rmw  : Nat := 0
  rcw  : Nat := 0
  reads : Nat := 0
  deriving DecidableEq, Repr

/-- Plan whole rows from their data. -/
def PSet.planWhole (p : PSet) (rows : List (Nat × List Nat)) (reads : Nat) : Plan := { rows := rows.map (fun e => (e.1, p.rowWhole e.2)), full := 1, reads := reads }

/-- Plan the dirty rows of a stripe from its new sectors and the reads; none where the reads do not suffice. -/
def PSet.planRows (p : PSet) (degraded : Bool) (new : List (Nat × List (Nat × Nat))) (rd : List StripRead) : Option Plan :=
  let run (o : Option Plan) (rows : List Nat) : Option Plan := o.bind (fun pl =>
    let dirty := rows.map (fun r => (r, tget new r []))
    let rmw := p.useRmw degraded (dirty.map (fun e => e.2.length))
    let ws := dirty.map (fun e => (e.1, if rmw then p.rowRmw e.2 (rowKnown rd e.1) else p.rowRcw e.2 (rowKnown rd e.1)))
    if ws.any (fun e => e.2.isNone) then none else
    let n := dirty.foldl (fun (n : Nat) (e : Nat × List (Nat × Nat)) => n + (if rmw then e.2.length + p.parityPos.length else p.dataK - e.2.length)) 0
    some { pl with rows := pl.rows ++ ws.map (fun e => (e.1, e.2.getD [])), rmw := pl.rmw + rmw.toNat, rcw := pl.rcw + (!rmw).toNat, reads := pl.reads + n })
  (rowRunsOf (new.map (fun e => e.1))).foldl run (some { rows := [] })

/-! ### Writing to the members -/

/-- Successive rows with their sectors. -/
def sectorRuns : List (Nat × Nat) → List (Nat × List Nat)
  | [] => []
  | (r, w) :: rest => match sectorRuns rest with
    | (r2, l) :: t => if r2 = r + 1 then (r, w :: l) :: t else (r, [w]) :: (r2, l) :: t
    | [] => [(r, [w])]

/-- The sectors of each position of a plan, by row. -/
def Plan.strip (pl : Plan) (pos : Nat) : List (Nat × Nat) := pl.rows.filterMap (fun e => (tget? e.2 pos).map (fun w => (e.1, w)))

/-- The member writes of a plan, for positions that can be written. -/
def State.planWrites (s : State) (p : PSet) (t : Nat) (pl : Plan) : List (Nat × Nat × List Nat) :=
  (List.range p.width).flatMap (fun pos => if !s.stripReads p t pos then [] else match p.member (p.holder t pos) with
    | none => []
    | some m => (sectorRuns (pl.strip pos)).map (fun e => (m, bandBlock (p.band t) + e.1, e.2)))

/-- Write at once to the members, outside the pool (rebuild, patrol, resync, clears). -/
def State.writeNow (s : State) (l : List (Nat × Nat × List Nat)) : State := s.each l (fun t e => t.emit (.memberWrite e.1 e.2.1 e.2.2))

/-- A strip that a write could not reach is stale on its member once that returns (R271, R276). -/
def State.markStale (s : State) (pi t : Nat) (poss : List Nat) : State := match tget? s.red.sets pi with
  | none => s
  | some p =>
    let b := p.band t
    let l := (poss.filter (fun pos => s.stripGone p t pos)).map (fun pos => b * 32 + p.holder t pos)
    let own := (poss.filter (fun pos => p.holder t pos != p.slotOf t pos)).map (fun pos => b * 32 + p.slotOf t pos)
    let new := (l ++ own).filter (fun x => !p.stale.contains x)
    if new.isEmpty then s else
    let s1 := s.putSet pi (some { p with stale := p.stale ++ new.eraseDups })
    s1.each (new.filterMap (fun x => p.member (x % 32))) (fun u m => u.syncMem m)

/-! ### Intents (R264, R265) -/

/-- Open an intent for a stripe. -/
def State.openIntent (s : State) (pi t mask jseq : Nat) : State := match tget? s.red.sets pi with
  | none => s
  | some p =>
    let reps := s.replicaSlots p t
    let i : Intent := { stripe := t, seq := p.iseq, mask := mask, jseq := jseq, replicas := reps }
    let s1 := (s.putSet pi (some { p with intents := p.intents ++ [i], iseq := p.iseq + 1 })).queueIntent pi p i true reps
    let s2 := if reps.length < 3 then s1.bump CNT_RED_INTENT_SHORT else s1
    s2.metaSend [.intent pi true t i.seq mask jseq p.gen]

/-- Close the intent of a stripe. -/
def State.closeIntent (s : State) (pi t : Nat) : State := match tget? s.red.sets pi with
  | none => s
  | some p => match p.intents.find? (fun i => i.stripe == t) with
    | none => s
    | some i =>
      let c : Intent := { i with seq := p.iseq }
      let s1 := (s.putSet pi (some { p with intents := p.intents.erase i, iseq := p.iseq + 1 })).queueIntent pi p c false i.replicas
      s1.metaSend [.intent pi false t c.seq i.mask i.jseq p.gen]

/-- One block write of gathered intent records to a member's ring: the OPEN records that the next block holds are appended again first (R264). -/
def State.intentBlock (s : State) (m : Nat) : State :=
  let q := tget s.red.iq m []
  if q.isEmpty then s else
  if s.memState m != 1 then { s with red := { s.red with iq := tdel s.red.iq m } } else
  let r := tget s.red.ring m (0, [])
  let next := (r.1 + 1) % 7936
  let live (x : IRec) : Bool := match tget? s.red.sets x.set with
    | some p => p.intents.any (fun i => i.stripe == x.stripe && i.seq == x.seq)
    | none => false
  let all := (tget r.2 next []).filter live ++ q
  let now := all.take 64
  let s1 := s.emit (.memberWrite m (256 + r.1) [(now.foldr (fun x n => x.word + n * 2 ^ 512) 0)])
  { s1 with red := { s1.red with iq := if all.length ≤ 64 then tdel s1.red.iq m else tput s1.red.iq m (all.drop 64), ring := tput s1.red.ring m (next, tput r.2 r.1 (now.filter (fun x => x.isOpen))) } }

/-- INTENT_BLOCK_WRITE (R264): every 5 µs. -/
def execIntentBlockWrite (s : State) : Host.Outcome State Fault Refusal :=
  .next (if s.powered then s.each (s.red.iq.map (fun e => e.1)) (fun t m => t.intentBlock m) else s)

/-! ### Destage (R255–R257, R263, R264, R268) -/

/-- A destage is at work on a stripe, or a host read reconstructs from it (R262). -/
def State.stripeBusy (s : State) (set t : Nat) : Bool :=
  s.red.destages.any (fun e => e.2.set == set && e.2.stripe == t) ||
    s.cmdq.cmds.any (fun e => e.2.state == .running && e.2.pieces.any (fun x => (x.stored.isNone && (!x.have'.isEmpty || !x.bad.isEmpty) || x.recon && x.plain.isNone) && (match s.locate e.2.vol x.block with
      | .strip a b _ _ _ => a == set && b == t
      | _ => false)))

/-- Replace a slab's layer mark in every volume that uses its run (R257). -/
def State.markRun (s : State) (set per run off : Nat) (w : Bool) : State :=
  s.each (s.red.vols.filter (fun e => e.2.set == set)) (fun t e => match tget? t.red.vols e.1 with
    | none => t
    | some x => match x.slabs.find? (fun y => y.2.layers.any (fun l => l.1 == run)) with
      | none => t
      | some (n, sl) =>
        let sl' := if sl.top = run then sl.mark per off w else { sl with layers := sl.layers.map (fun (l : Nat × List (Nat × Bool)) => if l.1 = run then (l.1, tput l.2 off w) else l) }
        (t.putVol e.1 (some { x with slabs := tput x.slabs n sl' })).syncVol e.1)

/-- A volume's block has the stripe as its place, or would be written there. -/
def State.homeAt (s : State) (v b set t : Nat) : Bool := match tget? s.red.vols v with
  | none => true
  | some x => match tget? s.red.sets x.set, tget? x.slabs (b / 2 ^ 18) with
    | some p, some sl =>
      let o := b % 2 ^ 18 / 16 / max 1 p.dataK
      x.set == set && (sl.top + o == t || stripeIn sl.layers o == some t)
    | _, _ => true

/-- Blocks of records that the members now hold leave the journal: for the writer and for every image that has its place there (R216, R260, R291). -/
def State.clearBlocks (s : State) (set t : Nat) (l : List (Nat × Nat)) : State :=
  let cut (r : JRec) : JRec := (l.filter (fun e => e.2 == r.seq)).foldl (fun (x : JRec) (e : Nat × Nat) =>
    { x with dirty := if s.homeAt x.vol e.1 set t then cutRanges x.dirty e.1 else x.dirty, img := x.img.flatMap (fun (y : Nat × Nat × Nat) => if s.homeAt y.1 e.1 set t then (cutRanges [y.2] e.1).map (fun z => (y.1, z)) else [y]) }) r
  let vs := ((s.red.journal.filter (fun r => l.any (fun e => e.2 == r.seq))).map (fun r => r.vol)).eraseDups
  let s1 := { s with red := { s.red with journal := (s.red.journal.map cut).filter (fun r => !(r.dirty.isEmpty && r.img.isEmpty)) } }
  (s1.each vs (fun t v => t.each l (fun u e => u.cleanBlock v e.1))).syncJrn.syncJrnWait

/-- Free a slab of a volume (R256, R257). -/
def State.dropSlab (s : State) (v n : Nat) : State := match tget? s.red.vols v with
  | none => s
  | some x => (s.putVol v (some { x with slabs := tdel x.slabs n })).syncVol v

/-- Every block of a slab is held by a ZEROES or DEALLOC record, newest (R256). -/
def State.slabZeroed (s : State) (v n : Nat) : Bool := (List.range (2 ^ 18)).all (fun i => match s.jrec v (n * 2 ^ 18 + i) with
  | some r => r.typ != 1
  | none => false)

/-- Blocks of a volume's slab with the records that supply them. -/
def State.slabRecs (s : State) (v n : Nat) : List (Nat × Nat) := (List.range (2 ^ 18)).filterMap (fun i => (s.jrec v (n * 2 ^ 18 + i)).map (fun r => (n * 2 ^ 18 + i, r.seq)))

/-- A whole slab of zeros is freed: its records have acted (R256). -/
def State.freeZeroed (s : State) (v n : Nat) : State :=
  let l := s.slabRecs v n
  let cut (r : JRec) : JRec := if r.vol = v then { r with dirty := l.foldl (fun x e => cutRanges x e.1) r.dirty } else r
  let s1 := { s with red := { s.red with journal := (s.red.journal.map cut).filter (fun r => !(r.dirty.isEmpty && r.img.isEmpty)) } }
  ((s1.each l (fun t e => t.cleanBlock v e.1)).syncJrn.syncJrnWait).dropSlab v n

/-- Count a destage's wait for zero-fill counters once while it lasts (R317). -/
def State.zeroWaits (s : State) (set t : Nat) : State :=
  if s.red.zeroWait.contains (set, t) then s else { s with red := { s.red with zeroWait := s.red.zeroWait ++ [(set, t)] } }.bump CNT_CIP_ZERO_WAIT

/-- Sectors of zeros pass through the pipeline that R311 chooses, in one step, counted as encrypted (R329, R441). -/
def State.zeroPass (s : State) (slot n : Nat) : State :=
  let s1 := s.bumpBy CNT_CIP_ENC_SECTORS n
  match s1.choosePipe with
  | none => s1
  | some p => ((s1.pushCipher p { owner := 2 ^ 33, slot := slot, enc := true, xts := false, blocks := [] }).setPipe p (s1.pipe p)).monEvent 126 (0x80 + p) n

/-- Seal the cells that need encrypted zeros, from successive counters (R253, R255, R256, R317): row, position, sector; none where the slot cannot
supply them. -/
def State.sealZeros (s : State) (p : PSet) (j : StripeJob) (cells : List (Nat × Nat)) : Option (State × List (Nat × Nat × Nat)) :=
  if cells.isEmpty then some (s, []) else
  let slot := s.fld (CIP_VOL_KEY_SLOT j.vol)
  let ctr := (s.slot slot).ctr
  if s.keyRefusal j.vol = .noKey || (!p.xts && s.reserveOk slot cells.length true != .ok) then none else
  some ((if p.xts then s else s.reserve slot cells.length).zeroPass slot cells.length, cells.mapIdx (fun i e => (e.1, e.2, s.sealSector slot j.owner (j.block p e.2 e.1) (ctr + i) 0)))

/-- The destage writes a plan under an intent (R264), its reads and writes charged under entry 3 (R335, R336). -/
def State.startDestage (s : State) (set t : Nat) (p : PSet) (j : StripeJob) (blocks : List (Nat × Nat)) (pl : Plan) : State :=
  let ws := s.planWrites p t pl
  let touched := (List.range p.width).filter (fun pos => !(pl.strip pos).isEmpty)
  let d := s.red.dnext
  let jseq := blocks.foldl (fun n e => min n e.2) (2 ^ 64 - 1)
  let reqs : List DrvReq := ws.map (fun e => { member := e.1, cluster := 0, write := true, block := e.2.1, count := e.2.2.length, use := .destage d, data := e.2.2 })
  let s1 := (s.openIntent set t (touched.foldl (fun n i => n + 2 ^ i) 0) jseq).markStale set t touched
  let s2 := { s1 with red := { s1.red with destages := tput s1.red.destages d { set := set, stripe := t, vol := j.vol, blocks := blocks, left := reqs.length }, dnext := d + 1, zeroWait := s1.red.zeroWait.erase (set, t) }, dpt := { s1.dpt with todo := s1.dpt.todo ++ reqs } }
  let n := ws.foldl (fun n e => n + e.2.2.length) 0
  (((((s2.charge 3 (pl.reads + n)).bumpBy CNT_RED_FULL_STRIPE pl.full).bumpBy CNT_RED_RMW pl.rmw).bumpBy CNT_RED_RCW pl.rcw).bumpBy CNT_RED_COW_STRIPES (if j.old.isSome && j.old != some t then 1 else 0)).markRun set p.perSlab j.run j.off true

/-- DESTAGE_START (R255–R257, R263, R264, R268): `rd` are the member sectors the destage reads, of the stripe's old content. -/
def State.destageStart (s : State) (set t : Nat) (rd : List StripRead) : State :=
  match tget? s.red.sets set, s.stripeJob set t with
  | some p, some j =>
    let d := s.jobDirty set t p j
    if !(s.serving && s.ripe p j d) || s.stripeBusy set t || decide (1024 ≤ p.intents.length) || p.intents.any (fun i => i.stripe == t) || (List.range p.width).any (s.stripWaits p t) then s else
    let zero := d.filter (fun e => e.2.2.2.typ != 1)
    let shared := match (tget? s.red.vols j.vol).bind (fun x => tget? x.slabs j.slab) with
      | some sl => s.sharedSlab j.vol sl set
      | none => true
    let blocks := d.map (fun e => (e.2.2.1, e.2.2.2.seq))
    if !zero.isEmpty && !j.image && !shared && s.slabZeroed j.vol j.slab then
      s.freeZeroed j.vol j.slab
    else if j.full p zero.length then (s.clearBlocks set t blocks).markRun set p.perSlab j.run j.off false
    else
      let whole := j.old != some t
      let sector (e : Nat × Nat × Nat × JRec) : Option Nat := e.2.2.2.sector e.2.2.1
      let kept (row pos : Nat) : Option Nat := match j.old with
        | some _ => if whole then (p.rowData [] (rowKnown rd row)).bind (fun l => l[pos]?) else none
        | none => none
      let cells := (List.range 16).flatMap (fun row => (List.range p.dataK).map (fun pos => (row, pos)))
      let bare (e : Nat × Nat) : Bool := !d.any (fun x => x.1 == e.1 && x.2.1 == e.2)
      let toZero := zero.map (fun e => (e.1, e.2.1)) ++ (if whole && j.old.isNone then cells.filter bare else [])
      if whole && j.old.isSome && cells.any (fun e => bare e && (kept e.1 e.2).isNone) then s else
      match s.sealZeros p j toZero with
      | none => s.zeroWaits set t
      | some (s1, zs) =>
        let fresh (row pos : Nat) : Option Nat := match zs.find? (fun z => z.1 == row && z.2.1 == pos) with
          | some z => some z.2.2
          | none => (d.find? (fun x => x.1 == row && x.2.1 == pos)).bind sector
        if whole || j.full p d.length then
          let rows := (List.range 16).map (fun row => (row, (List.range p.dataK).map (fun pos => match fresh row pos with
            | some w => w
            | none => (kept row pos).getD 0)))
          s1.startDestage set t p j blocks (p.planWhole rows (if j.old.isSome && whole then 16 * p.dataK else 0))
        else
          let new := (List.range 16).filterMap (fun row =>
            let l := (List.range p.dataK).filterMap (fun pos => (fresh row pos).map (fun w => (pos, w)))
            if l.isEmpty then none else some (row, l))
          match p.planRows (!(s.goneStrips p t).isEmpty) new rd with
          | none => s
          | some pl => s1.startDestage set t p j blocks pl
  | _, _ => s

/-- DESTAGE_START. -/
def execDestageStart (set : Fin 8) (stripe : Nat) (rd : List StripRead) (s : State) : Host.Outcome State Fault Refusal := .next (s.destageStart set stripe rd)

/-- DESTAGE_COMPLETE (R264): the last member write has completed. -/
def execDestageComplete (set : Fin 8) (stripe : Nat) (s : State) : Host.Outcome State Fault Refusal :=
  .next (match s.red.destages.find? (fun e => e.2.set == set.val && e.2.stripe == stripe && e.2.left == 0) with
    | none => s
    | some (d, x) =>
      if !s.powered then s else
      let s1 := ({ s with red := { s.red with destages := tdel s.red.destages d } }.closeIntent set stripe).clearBlocks set stripe x.blocks
      s1.syncRed.mntRun)

/-! ### Replay and resync (R266) -/

/-- Show REPLAY, while an intent waits for its resync. -/
def State.syncReplay (s : State) : State :=
  if s.flag RED_JRN_STAT_REPLAY && !s.red.sets.any (fun e => e.2.intents.any (fun i => i.resync)) then (s.setFlag RED_JRN_STAT_REPLAY false).syncRed else s

/-- INTENT_REPLAY (R266): in MORNING, with no serving partner, the newest record of each stripe that is OPEN in the members' intent regions: set, stripe, SEQ,
MASK, JSEQ. -/
def execIntentReplay (found : List (Nat × Nat × Nat × Nat × Nat)) (s : State) : Host.Outcome State Fault Refusal :=
  .next (if !(s.running && s.mode == 2) || s.partnered then s else
    let add (u : State) (e : Nat × Nat × Nat × Nat × Nat) : State := match tget? u.red.sets e.1 with
      | none => u
      | some p => if p.intents.any (fun i => i.stripe == e.2.1) then u else
        u.putSet e.1 (some { p with intents := p.intents ++ [{ stripe := e.2.1, seq := e.2.2.1, mask := e.2.2.2.1, jseq := e.2.2.2.2, replicas := u.replicaSlots p e.2.1, resync := true }], iseq := max p.iseq (e.2.2.1 + 1) })
    let mark (u : State) (e : Nat × PSet) : State := { u with red := { u.red with sets := tput u.red.sets e.1 { e.2 with intents := e.2.intents.map (fun i => { i with resync := true }) } } }
    let s1 := s.each found add
    ((s1.each s1.red.sets mark).setFlag RED_JRN_STAT_REPLAY true).syncRed.syncReplay)

/-- INTENT_RESYNC (R266): the journaled blocks of an open intent are written where MASK names them, and parity is computed afresh from every data strip,
as read; for a mirror the first copy read is the data. -/
def execIntentResync (set : Fin 8) (stripe : Nat) (rd : List StripRead) (s : State) : Host.Outcome State Fault Refusal :=
  .next (match tget? s.red.sets set.val with
    | none => s
    | some p => match p.intents.find? (fun i => i.stripe == stripe && i.resync) with
      | none => s
      | some i =>
        if !s.running || s.stripeBusy set stripe || (List.range p.width).any (s.stripWaits p stripe) then s else
        let recs : List (Nat × Nat × Nat × JRec) := match s.stripeJob set stripe with
          | some j => (s.jobDirty set stripe p j).filter (fun e => bitOf i.mask e.2.1)
          | none => []
        let new (row : Nat) : List (Nat × Nat) := recs.foldl (fun (l : List (Nat × Nat)) (e : Nat × Nat × Nat × JRec) => if e.1 = row then (match e.2.2.2.sector e.2.2.1 with
          | some w => tput l e.2.1 w
          | none => l) else l) []
        let known (row : Nat) : List (Nat × Nat) := if p.layout = 1 then ((rowKnown rd row).head?.map (fun e => [(0, e.2)])).getD [] else rowKnown rd row
        let rows := (List.range 16).map (fun row => (row, new row, p.rowData (new row) (known row)))
        if rows.any (fun e => e.2.2.isNone) then s else
        let pl : Plan := { rows := rows.map (fun e => (e.1, (p.rowWhole (e.2.2.getD [])).filter (fun x => p.parityPos.contains x.1 || (tget? e.2.1 x.1).isSome))) }
        let s1 := (((s.writeNow (s.planWrites p stripe pl)).closeIntent set stripe).bump CNT_RED_RESYNC).logRed 12 set 0 0 16 0 stripe
        s1.syncReplay)

/-! ### The hold-up cap (R261) and the hold of a MISSING member (R271) -/

/-- The dirty cap in MiB. -/
def State.dirtyCap (s : State) : Nat :=
  min (s.fld RED_JRN_CAP_SIZE * 1024) (min 1000 (s.fld RED_HOLDUP_HOLDUP_MS) * s.fld RED_HOLDUP_DSTG_GBPS * 1000000 / 2 / 2 ^ 20)

/-- A write of RED_HOLDUP. -/
def State.holdupWrite (s : State) (w : Word) : State :=
  let s1 := s.setReg RED_HOLDUP w
  s1.setFld RED_JRN_CAP_CAP s1.dirtyCap

/-- HOLDUP_WRITE. -/
def execHoldupWrite (req : Requester) (val : Word) (s : State) : Host.Outcome State Fault Refusal := .next (s.accessWrite req RED_HOLDUP (fun t => t.holdupWrite val))

/-- MISSING_HOLD_EXPIRY (R271, R277): the member's rebuild begins, and automatic replacement may run. -/
def execMissingHoldExpiry (member : Member) (s : State) : Host.Outcome State Fault Refusal :=
  .next (if !(s.powered && s.red.holding.contains member.val && s.memState member == 6) then s else
    (({ s with red := { s.red with holding := s.red.holding.filter (fun x => x != member.val) } }.rebuildStart member).autoReplace member))

end Sys2Proof.Machine
end

