-- ==== Sys2Proof/Machine/Sets.lean ====
section
/-! DEFINITION. Rebuild, fills, patrol, and the commands of sets, volumes, lost ranges and the event log (R254, R271–R281, R284). -/

namespace Sys2Proof.Machine

/-! ### The governor and rebuild (R273, R338) -/

/-- The floor of a member in one interval, in sectors (R273, R338). -/
def State.floorSectors (s : State) : Nat :=
  cdiv (min 50 (max 1 (s.fld RED_FLOOR_FLOOR)) * max 1 (s.fld RED_FLOOR_MEMBW) * 9765625) 4096000000

/-- A host command waits for a member. -/
def State.hostWaits (s : State) (m : Nat) : Bool := s.dpt.todo.any (fun r => r.member == m && (match r.use with
  | .host _ => true
  | _ => false))

/-- Judge a rebuild chunk that reads and writes so many sectors on members (R273, R338): the state charged and with its floor used, or none with the
deferral counted. -/
def State.rebuildAdmit (s : State) (use : List (Nat × Nat)) : State × Bool :=
  let n := use.foldl (fun n e => n + e.2) 0
  if use.all (fun e => decide (tget s.gov.floor e.1 0 < s.floorSectors)) then
    if !s.floorOk then (s.deferBack 4, false) else
    let s1 := (s.charge 4 n).admitBack 4
    let fl := use.foldl (fun (l : List (Nat × Nat)) (e : Nat × Nat) => tput l e.1 (tget l e.1 0 + e.2)) s1.gov.floor
    ({ s1 with gov := { s1.gov with floor := fl, resChip := s1.gov.resChip - n * s.fld (GOV_COST_CHIP 4), resDrv := s1.gov.resDrv - n * s.fld (GOV_COST_DRIVE 4) } }, true)
  else if s.backOk && !use.any (fun e => s.hostWaits e.1) then ((s.charge 4 n).admitBack 5, true)
  else (s.deferBack 5, false)

/-- Stored octets of a sector on a member. -/
def State.secBytes (s : State) (m : Nat) : Nat := if s.flag (DPT_MEM_STAT_FMT m) then 4160 else 4096

/-- What the reads say of a row whose lost positions are known. -/
inductive RowFate where
  | data (d : List Nat)
  /-- The erasures exceed the redundancy, at these positions. -/
  | lost (mask : Nat)
  /-- More sectors must be read. -/
  | wait
  deriving DecidableEq, Repr

/-- Positions that the reads report unreadable in a row. -/
def rowBad (rd : List StripRead) (row : Nat) : List Nat := (rd.filterMap (fun e => if e.2.1 = row && e.2.2.isNone then some e.1 else none)).eraseDups

/-- Judge a row (R259, R275). -/
def PSet.fate (p : PSet) (rd : List StripRead) (gone : List Nat) (row : Nat) : RowFate :=
  match p.rowData [] (rowKnown rd row) with
  | some d => .data d
  | none =>
    let er := (gone ++ rowBad rd row).eraseDups
    if p.redund < er.length then .lost (er.foldl (fun n i => n + 2 ^ i) 0) else .wait

/-- Record lost ranges for the lost rows of a stripe, one for each run. -/
def State.loseRows (s : State) (set t : Nat) (rows : List (Nat × Nat)) : State :=
  s.each (rowRunsOf (rows.map (fun e => e.1))) (fun u l =>
    let mask := (rows.filter (fun e => l.contains e.1)).foldl (fun n e => n ||| e.2) 0
    u.recordLoss set t mask (l.head?.getD 0) l.length)

/-- Sectors read from each member, by the strips they lie on. -/
def readUse (p : PSet) (t : Nat) (rd : List StripRead) : List (Nat × Nat) :=
  rd.foldl (fun (l : List (Nat × Nat)) (e : StripRead) => match p.member (p.holder t e.1) with
    | some m => tput l m (tget l m 0 + 1)
    | none => l) []

/-! ### Rebuild into spare space (R271, R272, R275) -/

/-- Stripes to rebuild: written, not lost, with a strip gone through a lost slot. -/
def State.rebuildWork (s : State) (set : Nat) (p : PSet) : List Nat :=
  (s.writtenStripes set).filter (fun t => !s.lostStripe set t && (s.goneStrips p t).any (fun i => p.lostSlots.contains (p.holder t i) || p.lostSlots.contains (p.slotOf t i)))

/-- The stripe taken next: least remaining redundancy, then least number (R272). Bands known to have no free spare are passed over. -/
def State.rebuildNext (s : State) (set : Nat) (p : PSet) : Option Nat :=
  let l := (s.rebuildWork set p).filter (fun t => !(p.noSpare.contains (p.band t) && (s.freeSpare p (p.band t)).isNone))
  let better (a b : Nat) : Bool := s.redundLeft p a < s.redundLeft p b || (s.redundLeft p a == s.redundLeft p b && decide (a < b))
  l.foldl (fun (o : Option Nat) t => match o with
    | none => some t
    | some x => if better t x then some t else some x) none

/-- Free spare strips of a band, in order. -/
def State.freeSpares (s : State) (p : PSet) (b : Nat) : List Nat := (p.spareSlots b).filter (fun sl => (match p.member sl with
  | some m => s.memState m == 1
  | none => false) && !p.reloc.any (fun e => e.1 / 32 == b && e.2 == sl))

/-- REBUILD_CHUNK (R271–R275): one stripe; `rd` are the surviving sectors it reads. -/
def State.rebuildChunk (s : State) (set stripe : Nat) (rd : List StripRead) : State := match tget? s.red.sets set with
  | none => s
  | some p =>
    let b := p.band stripe
    if !(s.serving && !s.flag RED_JRN_STAT_PFAIL && s.rebuildNext set p == some stripe) || s.stripeBusy set stripe then s else
    let gone := s.goneStrips p stripe
    if p.redund < gone.length then s.recordLoss set stripe (gone.foldl (fun n i => n + 2 ^ i) 0) 0 16 else
    let spares := s.freeSpares p b
    if spares.isEmpty then ((s.putSet set (some { p with noSpare := p.noSpare ++ [b] })).bump CNT_RED_SPARE_EXHAUSTED |>.logRed 9 set 0 0 16 0 stripe).syncRed else
    let rows := (List.range 16).map (fun r => (r, p.fate rd gone r))
    if rows.any (fun e => e.2 == .wait) then s else
    let place := gone.zip spares
    let sect (pos row : Nat) : Option Nat := match tget? rows row with
      | some (.data d) => some (p.encodeAt d pos)
      | _ => none
    let strips : List (Nat × Nat × List Nat) := place.flatMap (fun e => match p.member e.2 with
      | some m => (sectorRuns ((List.range 16).filterMap (fun r => (sect e.1 r).map (fun w => (r, w))))).map (fun x => (m, bandBlock b + x.1, x.2))
      | none => [])
    let fixes : List (Nat × Nat × List Nat) := (List.range 16).flatMap (fun r => (rowBad rd r).filterMap (fun pos => match sect pos r, p.member (p.holder stripe pos) with
      | some w, some m => some (m, bandBlock b + r, [w])
      | _, _ => none))
    let ws := strips ++ fixes
    let use := ws.foldl (fun (l : List (Nat × Nat)) (e : Nat × Nat × List Nat) => tput l e.1 (tget l e.1 0 + e.2.2.length)) (readUse p stripe rd)
    match s.rebuildAdmit use with
    | (t, false) => t
    | (t, true) =>
      let t1 := (t.writeNow ws).putSet set (some { p with reloc := place.foldl (fun (l : List (Nat × Nat)) (e : Nat × Nat) => tput l (b * 32 + p.slotOf stripe e.1) e.2) p.reloc })
      let lost := rows.filterMap (fun e => match e.2 with
        | .lost m => some (e.1, m)
        | _ => none)
      let t2 := ((t1.bump CNT_RED_REBUILD_STRIPES).bumpBy CNT_RED_REBUILD_BYTES (use.foldl (fun n e => n + e.2 * s.secBytes e.1) 0)).loseRows set stripe lost
      let t3 := t2.syncRed
      match tget? t3.red.sets set with
      | some q => if (t3.rebuildWork set q).isEmpty then t3.logRed 8 set 0 0 16 0 stripe else t3
      | none => t3

/-- REBUILD_CHUNK. -/
def execRebuildChunk (set : Fin 8) (stripe : Nat) (rd : List StripRead) (s : State) : Host.Outcome State Fault Refusal := .next (s.rebuildChunk set stripe rd)

/-! ### Fills of a slot (R276, R277) -/

/-- The strip that a slot holds in a band: its own, or a relocated one whose slot is lost. -/
def PSet.stripIn (p : PSet) (b sl : Nat) : Option (Nat × Nat) :=
  let row := p.row b
  let w := max 1 p.width
  match (List.range (p.groups * p.width)).find? (fun i => row.getD i 0 == sl) with
  | some i => some (b * p.groups + i / w, i % w)
  | none => match p.reloc.find? (fun e => e.1 / 32 == b && e.2 == sl) with
    | none => none
    | some e => ((List.range (p.groups * p.width)).find? (fun i => row.getD i 0 == e.1 % 32)).map (fun i => (b * p.groups + i / w, i % w))

/-- The next band of a fill in which there is something to do, with whether its strip must be written. -/
def State.fillNext (s : State) (set : Nat) (p : PSet) (sl n0 : Nat) (whole : Bool) : Option (Nat × Bool) :=
  let written := s.writtenStripes set
  let bands := ((written.map p.band) ++ p.reloc.map (fun (e : Nat × Nat) => e.1 / 32) ++ p.stale.map (fun x => x / 32)).eraseDups.filter (fun b => decide (n0 ≤ b))
  let act (b : Nat) : Option (Nat × Bool) := match p.stripIn b sl with
    | none => none
    | some (t, _) =>
      let stale := whole || p.stale.contains (b * 32 + sl)
      let own := (tget? p.reloc (b * 32 + sl)).isSome
      let write := stale && written.contains t && !s.lostStripe set t
      if own || write then some (b, write) else none
  (bands.filterMap act).foldl (fun (o : Option (Nat × Bool)) e => match o with
    | none => some e
    | some x => if e.1 < x.1 then some e else some x) none

/-- MEMBER_RETURN (R276, R277): the next band of the fill of a member's slot; `rd` are the sectors read for it, from its relocated strip or from the others.
With no band left the fill is over. -/
def State.fillStep (s : State) (m : Nat) (rd : List StripRead) : State := match s.placeOf m with
  | none => s
  | some (pi, p, sl) => match tget? p.filling sl with
    | none => s
    | some (n0, whole) =>
      if !(s.serving && s.memState m == 4 && !s.flag RED_JRN_STAT_PFAIL) then s else
      match s.fillNext pi p sl n0 whole with
      | none => s.fillDone pi sl
      | some (b, write) => match p.stripIn b sl with
        | none => s
        | some (t, pos) =>
          let p1 : PSet := { p with filling := tput p.filling sl (b + 1, whole), reloc := tdel p.reloc (b * 32 + sl), stale := p.stale.filter (fun x => x != b * 32 + sl) }
          if !write then (s.putSet pi (some p1)).syncRed else
          if s.stripeBusy pi t then s else
          let rows : List (Nat × Option Nat × RowFate) := (List.range 16).map (fun r => (r, match tget? (rowKnown rd r) pos with
            | some w => (some w, RowFate.wait)
            | none => (match p.fate rd (s.goneStrips p t) r with
              | .data d => (some (p.encodeAt d pos), RowFate.wait)
              | x => (none, x))))
          if rows.any (fun e => e.2.1.isNone && e.2.2 == .wait) then s else
          let ws := (sectorRuns (rows.filterMap (fun e => e.2.1.map (fun w => (e.1, w))))).map (fun x => (m, bandBlock b + x.1, x.2))
          let use := ws.foldl (fun (l : List (Nat × Nat)) (e : Nat × Nat × List Nat) => tput l e.1 (tget l e.1 0 + e.2.2.length)) (readUse p t rd)
          match s.rebuildAdmit use with
          | (u, false) => u
          | (u, true) =>
            let lost := rows.filterMap (fun e => match e.2.2 with
              | .lost k => some (e.1, k)
              | _ => none)
            (((((u.writeNow ws).putSet pi (some p1)).bump CNT_RED_REBUILD_STRIPES).bumpBy CNT_RED_REBUILD_BYTES (use.foldl (fun n e => n + e.2 * s.secBytes e.1) 0)).loseRows pi t lost).syncRed

/-- MEMBER_RETURN. -/
def execMemberReturn (member : Member) (rd : List StripRead) (s : State) : Host.Outcome State Fault Refusal := .next (s.fillStep member rd)

/-! ### Set commands (R277, R278, R284) -/

/-- A GO of RED_SET_CMD. -/
def State.setCmdGo (s : State) (op set slot m : Nat) (f : State → State × Nat) : State :=
  if s.flag RED_SET_CMD_STAT_BUSY then s.malformed else
  let s1 := (((s.setFld RED_SET_CMD_OP op).setFld RED_SET_CMD_SET set).setFld RED_SET_CMD_SLOT slot).setFld RED_SET_CMD_MEMBER m
  if !(s1.mode == 2 || s1.serving) then s1.setFld RED_SET_CMD_STAT_RESULT 1 else
  let (t, r) := f s1
  t.setFld RED_SET_CMD_STAT_RESULT r

/-- The layout rules of R248. -/
def PSet.valid (p : PSet) : Bool :=
  decide (4 ≤ p.n ∧ p.n ≤ 32 ∧ p.spare ≤ 4 ∧ p.width + p.spare ≤ p.n) && (match p.layout with
    | 1 => decide (2 ≤ p.k ∧ p.k ≤ 4)
    | 2 => decide (2 ≤ p.k ∧ p.k ≤ 28 ∧ 1 ≤ p.m ∧ p.m ≤ 4)
    | _ => false)

/-- Bring RED_SET_CFG up to date. -/
def State.syncCfg (s : State) (pi : Nat) : State := match tget? s.red.sets pi with
  | some p => s.setReg (RED_SET_CFG pi) (BitVec.ofNat 32 p.cfg)
  | none => ((((((s.setReg (RED_SET_CFG pi) 0).setReg (RED_SET_CFG pi + 4) 0).setReg (RED_SET_CFG pi + 8) 0).setReg (RED_SET_CFG pi + 12) 0).set64 (RED_SET_CFG pi + 16) 0).set64 (RED_SET_CFG pi + 24) 0)

/-- The members that RED_SET_DATA0–7 name for a CREATE, in slot order (R284). -/
def State.createMembers (s : State) : List Nat :=
  (List.range (fieldOf (s.reg RED_SET_DATA8) 10 6)).map (fun i => fieldOf (s.reg (RED_SET_DATA (i / 4))) (8 * (i % 4)) 7)

/-- The set that a CREATE would make (R248, R251, R284): M is 0 for a mirror, B the smallest of its members', SET_ID random. -/
def State.createSet (s : State) : PSet :=
  let c := s.reg RED_SET_DATA8
  let ms := s.createMembers
  { layout := fieldOf c 0 2, k := fieldOf c 2 5, m := if fieldOf c 0 2 = 1 then 0 else fieldOf c 7 3, n := fieldOf c 10 6, spare := fieldOf c 16 3, xts := fieldOf c 19 1 == 1, seed := fieldOf c 20 12, setId := Config.freeNat s.free % 2 ^ 64, gen := 1, bands := ms.foldl (fun a m => min a (s.mem m).bands) (2 ^ 64), slots := ms.mapIdx (fun i m => (i, m)), patrolAt := s.clock.nowNs }

/-- Every member named for a CREATE is eligible: distinct, SPARE_SPACE, in no set, of a format that suits the cipher (R248, R277). -/
def State.createOk (s : State) : Bool :=
  let ms := s.createMembers
  ms.eraseDups.length == ms.length && ms.all (fun m => s.memState m == 5 && (s.placeOf m).isNone && (s.createSet.xts || s.flag (DPT_MEM_STAT_FMT m)))

/-- CREATE. -/
def State.goSetCreate (s : State) (set : Nat) : State := s.setCmdGo 1 set (s.fld RED_SET_CMD_SLOT) (s.fld RED_SET_CMD_MEMBER) (fun t =>
  let p := t.createSet
  let ms := t.createMembers
  if (tget? t.red.sets set).isSome then (t, 4)
  else if !p.valid then (t, 3)
  else if !t.createOk then (t, 2)
  else
    let t1 := ms.foldl (fun (u : State) m => u.setMem m 1) (t.useFree.putSet set (some p))
    ((((ms.foldl (fun (u : State) m => u.syncMem m) (t1.writeLabels set)).syncCfg set).syncSet set).syncRed, 0))

/-- DELETE. -/
def State.goSetDelete (s : State) (set : Nat) : State := s.setCmdGo 2 set (s.fld RED_SET_CMD_SLOT) (s.fld RED_SET_CMD_MEMBER) (fun t => match tget? t.red.sets set with
  | none => (t, 7)
  | some p =>
    if t.red.vols.any (fun e => e.2.set == set) then (t, 4) else
    let ms := p.slots.map (fun e => e.2)
    let clear (u : State) (m : Nat) : State := if u.memState m != 1 then u else
      let v := (((u.emit (.memberWrite m 0 [0])).emit (.memberWrite m 1 [0])).setMem m 5)
      { v with red := { v.red with labels := tdel v.red.labels m } }
    let t1 := (ms.foldl clear t).putSet set none
    (((ms.foldl (fun (u : State) m => u.syncMem m) t1).syncCfg set).syncRed, 0))

/-- REPLACE (R277). -/
def State.goSetReplace (s : State) (set slot m : Nat) : State := s.setCmdGo 3 set slot m (fun t => match tget? t.red.sets set with
  | none => (t, 5)
  | some p =>
    let open' := decide (slot < p.n) && (match p.member slot with
      | none => true
      | some o => t.memState o == 3 || t.memState o == 6)
    if !open' then (t, 5)
    else if t.memState m != 5 || (t.placeOf m).isSome || !(p.xts || t.flag (DPT_MEM_STAT_FMT m)) then (t, 2)
    else if (t.mem m).bands < p.bands then (t, 6)
    else (t.replaceSlot set slot m, 0))

/-- PATROL_NOW (R279). -/
def State.goPatrolNow (s : State) (set : Nat) : State := s.setCmdGo 4 set (s.fld RED_SET_CMD_SLOT) (s.fld RED_SET_CMD_MEMBER) (fun t => match tget? t.red.sets set with
  | none => (t, 7)
  | some p => ((t.putSet set (some { p with patrol := 0, patrolled := 0, patrolAt := t.clock.nowNs })).syncRed, 0))

/-- SET_CREATE. -/
def execSetCreate (req : Requester) (set : Fin 8) (s : State) : Host.Outcome State Fault Refusal := .next (s.accessWrite req RED_SET_CMD (fun t => t.goSetCreate set))
/-- SET_DELETE. -/
def execSetDelete (req : Requester) (set : Fin 8) (s : State) : Host.Outcome State Fault Refusal := .next (s.accessWrite req RED_SET_CMD (fun t => t.goSetDelete set))
/-- SET_REPLACE. -/
def execSetReplace (req : Requester) (set : Fin 8) (slot : Fin 32) (member : Member) (s : State) : Host.Outcome State Fault Refusal := .next (s.accessWrite req RED_SET_CMD (fun t => t.goSetReplace set slot member))
/-- PATROL_NOW. -/
def execPatrolNow (req : Requester) (set : Fin 8) (s : State) : Host.Outcome State Fault Refusal := .next (s.accessWrite req RED_SET_CMD (fun t => t.goPatrolNow set))

/-! ### Patrol (R279, R280) -/

/-- The stripe patrol reads next: written, not lost, not awaiting rebuild. -/
def State.patrolNext (s : State) (set : Nat) (p : PSet) : Option Nat :=
  ((s.writtenStripes set).filter (fun t => decide (p.patrol ≤ t) && !s.lostStripe set t && (s.goneStrips p t).isEmpty)).foldl (fun (o : Option Nat) t => match o with
    | none => some t
    | some x => some (min x t)) none

/-- The volume block and allocating volume of a data cell of a stripe. -/
def State.cellOwner (s : State) (set : Nat) (p : PSet) (t pos row : Nat) : Nat × Nat := match s.stripeUsers set t with
  | (v, n, o) :: _ =>
    let own := match (tget? s.red.vols v).bind (fun x => tget? x.slabs n) with
      | some sl => sl.owner
      | none => v
    (own, n * 2 ^ 18 + (o * p.dataK + pos) * 16 + row)
  | [] => (0, 0)

/-- A stored data sector fails its tag; in an XTS set, and under an absent key, none does (R259, R280). -/
def State.tagFails (s : State) (set : Nat) (p : PSet) (t pos row w : Nat) : Bool :=
  let (own, blk) := s.cellOwner set p t pos row
  !p.xts && s.openSector false 0 w own blk == .fail

/-- The metadata position whose volume block a position carries: a mirror's copies all carry position 0. -/
def PSet.dataPos (p : PSet) (pos : Nat) : Nat := if p.layout = 1 then 0 else pos

/-- A finding of patrol in a row: what to write, and the log type; a lost row has type 6. -/
structure Finding where
  typ  : Nat
  mask : Nat
  writes : List (Nat × Nat)
  deriving DecidableEq, Repr

/-- The strip that an XTS row's syndromes point to: the one position whose replacement by what the others give makes the row agree (R280). -/
def PSet.pointed (p : PSet) (l : List (Nat × Nat)) : Option (Nat × Nat) :=
  let fit (pos : Nat) : Option (Nat × Nat) := match p.recover (l.filter (fun e => e.1 != pos)) with
    | none => none
    | some d => if l.all (fun e => e.1 == pos || p.encodeAt d e.1 == e.2) then some (pos, p.encodeAt d pos) else none
  match (List.range p.width).filterMap fit with
  | [x] => some x
  | _ => none

/-- Judge one row of a patrolled stripe by R280: none where nothing is wrong. -/
def State.patrolRow (s : State) (set : Nat) (p : PSet) (t : Nat) (rd : List StripRead) (row : Nat) : Option Finding :=
  let l := rowKnown rd row
  let isData (pos : Nat) : Bool := p.layout == 1 || decide (pos < p.k)
  let badTags := (l.filter (fun e => isData e.1 && s.tagFails set p t (p.dataPos e.1) row e.2)).map (fun e => e.1)
  let er := (rowBad rd row ++ badTags).eraseDups
  let mask := er.foldl (fun n i => n + 2 ^ i) 0
  let good := l.filter (fun e => !er.contains e.1)
  if p.redund < er.length then some ⟨6, mask, []⟩
  else if !er.isEmpty then match p.recover good with
    | none => some ⟨6, mask, []⟩
    | some d => if er.any (fun i => isData i && s.tagFails set p t (p.dataPos i) row (p.encodeAt d i)) then some ⟨6, mask, []⟩ else some ⟨1, mask, er.map (fun i => (i, p.encodeAt d i))⟩
  else
    let data := (List.range p.dataK).map (fun j => tget l j 0)
    let wrong := l.filter (fun e => p.encodeAt data e.1 != e.2)
    if wrong.isEmpty then none
    else if p.layout = 1 && !p.xts then
      let best := l.foldl (fun (b : Nat × Nat) (e : Nat × Nat) => if metaCtr (secMeta b.2) < metaCtr (secMeta e.2) then e else b) (l.head?.getD (0, 0))
      some ⟨5, 0, (l.filter (fun e => e.2 != best.2)).map (fun e => (e.1, best.2))⟩
    else if !p.xts then some ⟨3, 0, wrong.map (fun e => (e.1, p.encodeAt data e.1))⟩
    else match (if 2 ≤ p.m then p.pointed l else none) with
      | some (pos, w) => some ⟨1, 2 ^ pos, [(pos, w)]⟩
      | none => some ⟨4, 0, wrong.map (fun e => (e.1, p.encodeAt data e.1))⟩

/-- Act on a finding. -/
def State.patrolAct (s : State) (set : Nat) (p : PSet) (t row : Nat) (f : Finding) : State :=
  if f.typ = 6 then s.recordLoss set t f.mask row 1 else
  let ws := f.writes.filterMap (fun e => (p.member (p.holder t e.1)).map (fun m => (m, bandBlock (p.band t) + row, [e.2])))
  let pos := (f.writes.head?.map (fun e => e.1)).getD 0
  let s1 := (s.writeNow ws).bump (match f.typ with
    | 1 => CNT_RED_PATROL_REPAIR
    | 3 => CNT_RED_PARITY_REWRITE
    | 4 => CNT_RED_UNLOCATED
    | _ => CNT_RED_MIRROR_DIVERGE)
  s1.logRed f.typ set pos row 1 ((p.member (p.holder t pos)).getD 0) t

/-- PATROL_CHUNK (R279, R280): one stripe; `rd` gives every sector of it. -/
def execPatrolChunk (set : Fin 8) (stripe : Nat) (rd : List StripRead) (s : State) : Host.Outcome State Fault Refusal :=
  .next (match tget? s.red.sets set.val with
    | none => s
    | some p =>
      if !(s.serving && s.flag RED_CTL_PATROL_EN && !s.flag RED_JRN_STAT_PFAIL && s.patrolNext set p == some stripe) || s.stripeBusy set stripe || (List.range p.width).any (s.stripWaits p stripe) then s
      else if !s.backOk then s.deferBack 5
      else if !(List.range 16).all (fun r => (List.range p.width).all (fun i => rd.any (fun e => e.1 == i && e.2.1 == r))) then s
      else
        let s1 := (((s.admitBack 5).charge 5 (16 * p.width)).bump CNT_RED_PATROL_STRIPES).putSet set (some { p with patrol := stripe + 1, patrolled := p.patrolled + 1 })
        (s1.each (List.range 16) (fun t r => match s.patrolRow set p stripe rd r with
          | some f => t.patrolAct set p stripe r f
          | none => t)).syncRed)

/-! ### Volume commands (R254, R284) -/

/-- A GO of RED_VOL_CMD. -/
def State.volCmdGo (s : State) (op v set : Nat) (f : State → State × Nat) : State :=
  if s.flag RED_VOL_STAT_BUSY then s.malformed else
  let s1 := ((s.setFld RED_VOL_CMD_OP op).setFld RED_VOL_CMD_VOLUME v).setFld RED_VOL_CMD_SET set
  if !(s1.mode == 2 || s1.serving) then s1.setFld RED_VOL_STAT_RESULT 1 else
  let (t, r) := f s1
  t.setFld RED_VOL_STAT_RESULT r

/-- CREATE. -/
def State.goVolCreate (s : State) (v set : Nat) : State := s.volCmdGo 1 v set (fun t =>
  let n := t.fld RED_VOL_ARG_SLABS
  if (tget? t.red.vols v).isSome then (t, 1)
  else if (tget? t.red.sets set).isNone then (t, 2)
  else if n = 0 then (t, 5)
  else ((t.putVol v (some { set := set, maxSlabs := n })).syncVol v, 0))

/-- RESIZE. -/
def State.goVolResize (s : State) (v : Nat) : State := s.volCmdGo 2 v (s.fld RED_VOL_CMD_SET) (fun t =>
  let n := t.fld RED_VOL_ARG_SLABS
  match tget? t.red.vols v with
  | none => (t, 1)
  | some x =>
    if n = 0 then (t, 5)
    else if x.slabs.any (fun e => decide (n ≤ e.1)) then (t, 4)
    else ((t.putVol v (some { x with maxSlabs := n })).syncVol v, 0))

/-- DELETE: its unshared slabs are free, and its records leave the journal but for what images need (R257, R284). -/
def State.goVolDelete (s : State) (v : Nat) : State := s.volCmdGo 3 v (s.fld RED_VOL_CMD_SET) (fun t =>
  match tget? t.red.vols v with
  | none => (t, 1)
  | some x =>
    if t.rdm.wins.any (fun e => e.2.state != 0 && e.2.vol == v) || t.snapPairs.any (fun e => e.1 == v || e.2 == v) then (t, 3) else
    let drop (r : JRec) : JRec := { r with dirty := if r.vol = v then [] else r.dirty, img := r.img.filter (fun y => y.1 != v) }
    let t1 := { t with red := { t.red with journal := (t.red.journal.map drop).filter (fun r => !(r.dirty.isEmpty && r.img.isEmpty)) } }
    ((((t1.putVol v none).syncVol v).syncSet x.set).syncJrn.syncJrnWait.syncRed, 0))

/-- VOL_CREATE. -/
def execVolCreate (req : Requester) (vol : Fin 4096) (set : Fin 8) (s : State) : Host.Outcome State Fault Refusal := .next (s.accessWrite req RED_VOL_CMD (fun t => t.goVolCreate vol set))
/-- VOL_RESIZE. -/
def execVolResize (req : Requester) (vol : Fin 4096) (s : State) : Host.Outcome State Fault Refusal := .next (s.accessWrite req RED_VOL_CMD (fun t => t.goVolResize vol))
/-- VOL_DELETE. -/
def execVolDelete (req : Requester) (vol : Fin 4096) (s : State) : Host.Outcome State Fault Refusal := .next (s.accessWrite req RED_VOL_CMD (fun t => t.goVolDelete vol))

/-! ### Lost ranges and the event log (R274, R281, R284) -/

/-- A GO of RED_LOST_CMD. -/
def State.lostCmdGo (s : State) (op i : Nat) (f : State → State × Nat) : State :=
  if s.flag RED_LOST_STAT_BUSY then s.malformed else
  let s1 := (s.setFld RED_LOST_CMD_OP op).setFld RED_LOST_CMD_INDEX i
  if !(s1.mode == 2 || s1.serving) then s1.setFld RED_LOST_STAT_RESULT 1 else
  let (t, r) := f s1
  t.setFld RED_LOST_STAT_RESULT r

/-- READ. -/
def State.goLostRead (s : State) (i : Nat) : State := s.lostCmdGo 1 i (fun t => match tget? t.red.lost i with
  | none => ((((t.setReg RED_LOST_DATA0 0).setReg RED_LOST_DATA1 0).setReg RED_LOST_DATA2 0).setReg RED_LOST_DATA3 0, 1)
  | some e => (((((t.setReg RED_LOST_DATA0 (BitVec.ofNat 32 (1 + e.set * 2 + e.first * 16 + (e.rows - 1) * 256 + e.vol * 4096))).setReg RED_LOST_DATA1 (BitVec.ofNat 32 e.mask)).setReg RED_LOST_DATA2 (BitVec.ofNat 32 e.stripe)).setReg RED_LOST_DATA3 (BitVec.ofNat 32 (e.stripe / 2 ^ 32)), 0)))

/-- CLEAR: encrypted zeros in the lost positions and rows, and parity computed anew; a lost strip with no ONLINE member goes to a free spare, whole. -/
def State.goLostClear (s : State) (i : Nat) (rd : List StripRead) : State := s.lostCmdGo 2 i (fun t => match tget? t.red.lost i with
  | none => (t, 1)
  | some e => match tget? t.red.sets e.set with
    | none => (((t.putLost i none).syncLost).syncRed, 0)
    | some p => match t.stripeJob e.set e.stripe with
      | none => (((t.putLost i none).syncLost).syncRed, 0)
      | some j =>
        let lostPos := (List.range p.width).filter (fun k => bitOf e.mask k)
        let away := lostPos.filter (fun k => !t.stripReads p e.stripe k)
        let b := p.band e.stripe
        let spares := t.freeSpares p b
        if spares.length < away.length then (t, 2) else
        let p1 : PSet := { p with reloc := (away.zip spares).foldl (fun (l : List (Nat × Nat)) (x : Nat × Nat) => tput l (b * 32 + p.slotOf e.stripe x.1) x.2) p.reloc }
        let inRow (r : Nat) : Bool := decide (e.first ≤ r && r < e.first + e.rows)
        let cells := ((List.range 16).filter inRow).flatMap (fun r => (lostPos.filter (fun k => decide (k < p.dataK))).map (fun k => (r, k)))
        match t.sealZeros p j cells with
        | none => (t.zeroWaits e.set e.stripe, t.fld RED_LOST_STAT_RESULT)
        | some (t1, zs) =>
          let new (r : Nat) : List (Nat × Nat) := zs.foldl (fun (l : List (Nat × Nat)) (z : Nat × Nat × Nat) => if z.1 = r then tput l z.2.1 z.2.2 else l) []
          let rows := (List.range 16).filterMap (fun r => if inRow r || !away.isEmpty then some (r, p.rowData (new r) (rowKnown rd r ++ new r)) else none)
          if rows.any (fun x => inRow x.1 && x.2.isNone) then (t, t.fld RED_LOST_STAT_RESULT) else
          let pl : Plan := { rows := rows.filterMap (fun x => x.2.map (fun d => (x.1, (p.rowWhole d).filter (fun y => away.contains y.1 || (inRow x.1 && (lostPos.contains y.1 || p.parityPos.contains y.1)))))) }
          let t2 := t1.putSet e.set (some p1)
          (((((t2.writeNow (t2.planWrites p1 e.stripe pl)).putLost i none).syncLost).syncRed), 0))

/-- LOST_READ. -/
def execLostRead (req : Requester) (index : Fin 8192) (s : State) : Host.Outcome State Fault Refusal := .next (s.accessWrite req RED_LOST_CMD (fun t => t.goLostRead index))
/-- LOST_CLEAR. -/
def execLostClear (req : Requester) (index : Fin 8192) (rd : List StripRead) (s : State) : Host.Outcome State Fault Refusal := .next (s.accessWrite req RED_LOST_CMD (fun t => t.goLostClear index rd))

/-- A read of RED_EVLOG0 pops the entry shown and latches its other words for the requester (R281). -/
def State.popEvlog (s : State) (req : Requester) : State := match s.red.evlog with
  | [] => s
  | (_, b, c, d) :: rest => { s with red := { s.red with evlog := rest, evOvf := false, evLatch := tput s.red.evLatch (reqNum req) (b, c, d) } }.syncEvlog

/-- EVENT_LOG_POP. -/
def execEventLogPop (req : Requester) (s : State) : Host.Outcome State Fault Refusal := .next (s.accessRead req RED_EVLOG0 (s.reg RED_EVLOG0) (fun t => t.popEvlog req))

end Sys2Proof.Machine
end

