-- ==== Sys2Proof/Machine/Slots.lean ====
section
/-! DEFINITION. The power die's slot channels, feed channels, sideband and power-fail warning (R417–R434), with its lockout on VHV_PD (R466). Voltages are in mV. -/

namespace Sys2Proof.Machine

/-! ### Stages and conditions -/

/-- The power die is supplied and no PORn is held, so its slow-tick evaluations run. -/
def State.pdRuns (s : State) : Bool := !s.slp.vhvLow && s.sys.hold != .porn

/-- The shared outputs obey this part's commands: stage DRIVE, and not acting under R18. -/
def State.pdDrives (s : State) : Bool := s.pdRuns && s.nzl.stage == .drive && !s.flag SLP_STAT_HELD

/-- The stage is in DRIVE or HOLD, where the protection acts (R364). -/
def State.pdProtects (s : State) : Bool := s.pdRuns && s.nzl.stage != .watch

/-- STATE of a slot channel: 0 OFF, 1 RAMP, 2 ON, 3 RETRY_WAIT, 4 LATCHED, 5 DAMAGED. -/
def State.chState (s : State) (n : Nat) : Nat := s.fld (SLP_CH_STAT_STATE n)

/-- A slot's gate is on. -/
def State.gateOn (s : State) (n : Nat) : Bool := bitOf s.slp.gates n

/-- The power condition of a channel (R419). -/
def State.slotCond (s : State) (n : Nat) : Bool := match s.fld (SLP_CH_CFG_MODE n) with
  | 1 => s.flag DPT_CTL_HP_EN && s.flag (SLP_CH_STAT_PRESENT n)
  | 2 => true
  | _ => false

/-- ILIM in µV, held to its range (R439). -/
def State.ilim (s : State) (n : Nat) : Nat := 250 * min 200 (max 20 (s.fld (SLP_CH_CFG_ILIM n)))

/-- FT_MULT in halves. -/
def State.ftMult (s : State) (n : Nat) : Nat := 4 + min 4 (s.fld (SLP_CH_CFG_FT_MULT n))

/-- VGS_ON in mV. -/
def State.vgsOn (s : State) (n : Nat) : Nat := 100 * min 100 (max 40 (s.fld (SLP_CH_PG_VGS_ON n)))

/-- SPn_OUT is asserted in every state except ON (R418): the drive's reset is no longer released. -/
def State.assertReset (s : State) (n : Nat) : State := { s with dpt := { s.dpt with released := s.dpt.released.filter (fun h => h / 2 != n) } }

/-- A gate goes off; what waits on it ends. -/
def State.slotGateOff (s : State) (n : Nat) : State :=
  { s with slp := { s.slp with gates := s.slp.gates - (s.slp.gates &&& 2 ^ n), sagWait := s.slp.sagWait.filter (fun x => x != n), retry := s.slp.retry.filter (fun x => x != n) } }.setFlag (SLP_CH_STAT_LIMITING n) false

/-- A channel goes to OFF (R419). -/
def State.slotOff (s : State) (n : Nat) : State := ((s.slotGateOff n).setFld (SLP_CH_STAT_STATE n) 0).assertReset n

/-- A channel whose condition has ended goes to OFF, but for DAMAGED (R419, R425). -/
def State.slotJudge (s : State) (n : Nat) : State :=
  if s.pdDrives && !s.slotCond n && s.chState n != 0 && s.chState n != 5 then s.slotOff n else s

/-- Every channel is judged: after a write of HP_EN, or when the outputs are driven again. -/
def State.slotsJudge (s : State) : State := s.each (List.range 32) State.slotJudge

/-! ### Slot channels (R420–R427) -/

/-- The ramp of a channel begins, after its open-sense check (R420). -/
def State.ramp (s : State) (n : Nat) (openPin : Bool) : State :=
  if openPin then (((s.slotGateOff n).setFld (SLP_CH_STAT_STATE n) 5).setFld (SLP_CH_STAT_CAUSE n) 5).assertReset n
  else (({ s with slp := { s.slp with gates := s.slp.gates ||| 2 ^ n, sagWait := s.slp.sagWait.filter (fun x => x != n) } }).setFld (SLP_CH_STAT_STATE n) 1).assertReset n

/-- A fault of a channel turns its gate off; it retries or latches (R424). -/
def State.slotFault (s : State) (n cause : Nat) : State :=
  let st := s.chState n
  let s1 := ((s.slotGateOff n).setFld (SLP_CH_STAT_CAUSE n) cause).assertReset n
  if st != 1 && st != 2 then s1
  else if s.fld (SLP_CH_STAT_ATTEMPTS n) < s.fld (SLP_CH_CFG_RETRIES n) || s.flag (SLP_CH_CFG_UNLIM n) then s1.setFld (SLP_CH_STAT_STATE n) 3
  else (s1.setFld (SLP_CH_STAT_STATE n) 4).bump CNT_SLP_LATCHES

/-- SLOT_RAMP_START (R419, R420, R425): `openPin` is what the 10 µA bias finds. -/
def execSlotRampStart (ch : Fin 32) (openPin : Bool) (s : State) : Host.Outcome State Fault Refusal :=
  .next (if s.pdDrives && s.chState ch == 0 && s.slotCond ch then s.ramp ch openPin else s)

/-- SLOT_POWER_GOOD (R422): the output and VGS at a slow tick. -/
def execSlotPowerGood (ch : Fin 32) (vout vgs : Nat) (s : State) : Host.Outcome State Fault Refusal :=
  .next (if !(s.pdProtects && s.gateOn ch && decide (100 * s.fld (SLP_CH_PG_PG_HI ch) ≤ vout) && decide (s.vgsOn ch ≤ vgs)) then s else
    let s1 := s.setFlag (SLP_CH_STAT_PG ch) true
    if s1.chState ch = 1 then { s1 with slp := { s1.slp with retry := s1.slp.retry.filter (fun x => x != ch.val) } }.setFld (SLP_CH_STAT_STATE ch) 2 else s1)

/-- SLOT_PG_LOSS (R422): two samples of the output below PG_LO; a loss in ON with no fault is counted, and leaves the gate on. -/
def execSlotPgLoss (ch : Fin 32) (v1 v2 : Nat) (s : State) : Host.Outcome State Fault Refusal :=
  .next (
    let lo := 100 * min (s.fld (SLP_CH_PG_PG_HI ch)) (s.fld (SLP_CH_PG_PG_LO ch))
    if !(s.pdProtects && s.flag (SLP_CH_STAT_PG ch) && decide (v1 < lo) && decide (v2 < lo)) then s else
    (s.setFlag (SLP_CH_STAT_PG ch) false).cond (s.chState ch == 2) (fun t => t.bump CNT_SLP_PG_LOSS))

/-- GATE_NO_RISE (R420): VGS at TR + 2 ms. -/
def execGateNoRise (ch : Fin 32) (vgs : Nat) (s : State) : Host.Outcome State Fault Refusal :=
  .next (if !(s.pdProtects && s.chState ch == 1 && s.gateOn ch && !s.flag (SLP_CH_STAT_LIMITING ch) && decide (vgs < s.vgsOn ch)) then s else
    (((s.slotGateOff ch).setFld (SLP_CH_STAT_STATE ch) 5).setFld (SLP_CH_STAT_CAUSE ch) 4).bump CNT_SLP_GATE_NO_RISE)

/-- CURRENT_LIMIT (R421): the sense voltage in µV reaches ILIM, or falls below 90 % of it. -/
def execCurrentLimit (ch : Fin 32) (uv : Nat) (s : State) : Host.Outcome State Fault Refusal :=
  .next (if !(s.pdProtects && s.gateOn ch) then s
    else if s.ilim ch ≤ uv then s.setFlag (SLP_CH_STAT_LIMITING ch) true
    else if 10 * uv < 9 * s.ilim ch then s.setFlag (SLP_CH_STAT_LIMITING ch) false else s)

/-- FAULT_TIMER_EXPIRY (R421): the channel has limited for TIMER, or for the shorter time of a retry attempt. -/
def execFaultTimerExpiry (ch : Fin 32) (s : State) : Host.Outcome State Fault Refusal :=
  .next (if s.pdProtects && s.gateOn ch && s.flag (SLP_CH_STAT_LIMITING ch) then (s.slotFault ch 1).bump CNT_SLP_TIMER_FAULT else s)

/-- FAST_TRIP (R421): the sense voltage in µV. -/
def execFastTrip (ch : Fin 32) (uv : Nat) (s : State) : Host.Outcome State Fault Refusal :=
  .next (if s.pdProtects && s.gateOn ch && decide (s.ftMult ch * s.ilim ch ≤ 2 * uv) then
    (let s1 := (s.slotFault ch 2).bump CNT_SLP_FAST_TRIP
    { s1 with slp := { s1.slp with sagEvent := true } }) else s)

/-- SLOT_REVERSE_CURRENT (R423): `since` is the time in µs since the part's last slot fast trip or feed reverse turn-off. -/
def execSlotReverseCurrent (ch : Fin 32) (since : Nat) (s : State) : Host.Outcome State Fault Refusal :=
  .next (if !(s.pdProtects && s.gateOn ch) then s
    else if s.slp.sagEvent && decide (since ≤ 1000) then
      (let s1 := ((s.slotGateOff ch).setFld (SLP_CH_STAT_CAUSE ch) 3).bump CNT_SLP_SAG_REVERSE
      { s1 with slp := { s1.slp with sagWait := s1.slp.sagWait ++ [ch.val] } })
    else (s.slotFault ch 3).bump CNT_SLP_REVERSE)

/-- SAG_RERAMP (R423): 1 ms after the event, without an attempt. -/
def execSagReramp (ch : Fin 32) (openPin : Bool) (s : State) : Host.Outcome State Fault Refusal :=
  .next (if s.pdDrives && s.slp.sagWait.contains ch.val then s.ramp ch openPin else s)

/-- RETRY_WAIT_EXPIRY (R424, R432): an attempt starts, where the condition holds. -/
def execRetryWaitExpiry (ch : Fin 32) (openPin : Bool) (s : State) : Host.Outcome State Fault Refusal :=
  .next (if !(s.pdDrives && s.chState ch == 3) then s
    else if !s.slotCond ch then s.slotOff ch
    else
      let s1 := (s.setFld (SLP_CH_STAT_ATTEMPTS ch) (min 15 (s.fld (SLP_CH_STAT_ATTEMPTS ch) + 1))).bump CNT_SLP_RETRIES_RUN
      { s1 with slp := { s1.slp with retry := s1.slp.retry ++ [ch.val] } }.ramp ch openPin)

/-- ATTEMPTS_CLEAR (R424): PG held for 1 s. -/
def execAttemptsClear (ch : Fin 32) (s : State) : Host.Outcome State Fault Refusal :=
  .next (if s.pdProtects && s.flag (SLP_CH_STAT_PG ch) then s.setFld (SLP_CH_STAT_ATTEMPTS ch) 0 else s)

/-- A write of SLP_CH_CFG: CLEAR acts in LATCHED and DAMAGED only, and a new MODE is judged at once (R419, R425, R439). -/
def State.chCfgWrite (s : State) (n : Nat) (w : Word) : State :=
  let s1 := s.setReg (SLP_CH_CFG n) (w &&& 0x7FFFFFFF)
  let clr := fieldOf w 31 1 == 1 && (s.chState n == 4 || s.chState n == 5)
  (if clr then (s1.setFld (SLP_CH_STAT_STATE n) 0).setFld (SLP_CH_STAT_ATTEMPTS n) 0 else s1).slotJudge n

/-- SLOT_CLEAR (R425): CLEAR written with the channel's configuration as it stands. -/
def execSlotClear (req : Requester) (ch : Fin 32) (s : State) : Host.Outcome State Fault Refusal :=
  .next (s.accessWrite req (SLP_CH_CFG ch) (fun t => t.chCfgWrite ch (t.reg (SLP_CH_CFG ch) ||| 0x80000000)))

/-- SLOT_MODE_WRITE (R419): the other fields as they stand. -/
def execSlotModeWrite (req : Requester) (ch : Fin 32) (mode : Fin 4) (s : State) : Host.Outcome State Fault Refusal :=
  .next (s.accessWrite req (SLP_CH_CFG ch) (fun t => t.chCfgWrite ch (withField (t.reg (SLP_CH_CFG ch)) 0 2 mode)))

/-! ### Presence (R427, R433) -/

/-- A position exists: half A, or half B of a split port. -/
def State.posOk (s : State) (p : Nat) : Bool := p % 2 == 0 || s.flag (DPT_PORT_CFG_SPLIT (p / 2))

/-- Debounced presence of a position (R438). -/
def State.presAt (s : State) (p : Nat) : Bool := bitOf (s.fld (if p < 32 then SLP_PRES_L_PRES else SLP_PRES_H_PRES)) (p % 32)

/-- The drive ports see a presence change: PRESENT of the half, the end of containment, and a slot seen empty (R236, R242). -/
def State.drvPresence (s : State) (h : Nat) (present : Bool) : State :=
  if !s.powered then s else
  let s1 := s.setFlag (DPT_PORT_STAT_PRESENT (h / 2) (h % 2)) present
  if present then
    (match tget? s1.dpt.contained h with
      | some true => { s1 with dpt := { s1.dpt with contained := tdel s1.dpt.contained h } }.setFlag (DPT_PORT_STAT_DPC (h / 2) (h % 2)) false
      | _ => s1)
  else
    let s2 := match tget? s1.dpt.contained h with
      | some _ => { s1 with dpt := { s1.dpt with contained := tput s1.dpt.contained h true } }
      | none => s1
    (List.range 128).foldl (fun t m =>
      let ty := t.fld (DPT_MEM_LOC_TYPE m)
      if ty != 0 && ty != 4 && t.fld (DPT_MEM_LOC_PORT m) == h / 2 && (ty == 3) == (h % 2 == 1) then t.modMem m (fun x => { x with gone := true }) else t) s2

/-- PRESENCE_DEBOUNCED (R427): a position's new level has been stable for 50 ms. -/
def execPresenceDebounced (pos : Fin 64) (present : Bool) (s : State) : Host.Outcome State Fault Refusal :=
  .next (
    let p := pos.val
    let n := p / 2
    if !s.pdRuns || bitOf s.slp.presIn p != present || s.presAt p == present || !s.posOk p then s else
    let f := if p < 32 then SLP_PRES_L_PRES else SLP_PRES_H_PRES
    let s1 := if present then s.setBit f (p % 32) else s.clrBit f (p % 32)
    let here := s1.presAt (2 * n) || (s1.flag (DPT_PORT_CFG_SPLIT n) && s1.presAt (2 * n + 1))
    let was := s.flag (SLP_CH_STAT_PRESENT n)
    let s2 := (s1.setFlag (SLP_CH_STAT_PRESENT n) here).drvPresence p present
    if was && !here then
      let s3 := (s2.setFld (SLP_CH_STAT_ATTEMPTS n) 0).bump CNT_SLP_REMOVALS_SEEN
      (if s3.chState n = 4 then s3.setFld (SLP_CH_STAT_STATE n) 0 else s3).slotJudge n
    else s2)

/-- A write of SLP_CTL: without SGP_EN every position reads absent (R433). -/
def State.slpCtlWrite (s : State) (w : Word) : State :=
  let s1 := s.setReg SLP_CTL w
  if s1.flag SLP_CTL_SGP_EN then s1 else { s1 with slp := { s1.slp with presIn := 0 } }

/-- The member at a position is FAILED (R433). -/
def State.posMem (s : State) (p : Nat) : Option Nat := (List.range 128).find? (fun m =>
  let ty := s.fld (DPT_MEM_LOC_TYPE m)
  ty != 0 && ty != 4 && s.fld (DPT_MEM_LOC_PORT m) == p / 2 && (ty == 3) == (p % 2 == 1))

/-- A mask over the positions that exist. -/
def State.posMask (s : State) (f : Nat → Bool) : Nat := ((List.range 64).filter (fun p => s.posOk p && f p)).foldl (fun n p => n + 2 ^ p) 0

/-- Activity of a position through the frame. -/
def State.posActive (s : State) (p : Nat) : Bool := match s.posMem p with
  | some m => (s.mem m).active
  | none => false

/-- Fail of a position. -/
def State.posFail (s : State) (p : Nat) : Bool :=
  s.chState (p / 2) == 4 || s.chState (p / 2) == 5 || s.flag (SLP_CH_CFG_FAIL_LAMP (p / 2)) || (match s.posMem p with
    | some m => s.memState m == 3
    | none => false)

/-- SGPIO_FRAME (R433): the levels on SDataIn, position 0 least significant; the outputs are driven only in DRIVE. -/
def execSgpioFrame (inputs : Nat) (s : State) : Host.Outcome State Fault Refusal :=
  .next (if !(s.pdRuns && s.flag SLP_CTL_SGP_EN) then s else
    let s1 := if s.nzl.stage == .drive && !s.flag SLP_STAT_HELD then
        s.emit (.sgpio (s.posMask s.posActive) (s.posMask (fun p => bitOf (s.fld (if p < 32 then SLP_LOCATE_L_LOC else SLP_LOCATE_H_LOC)) (p % 32))) (s.posMask s.posFail))
      else s
    let busy (t : State) (m : Nat) : Bool := t.dpt.cmds.any (fun e => e.2.req.member == m)
    let s2 := { s1 with dpt := { s1.dpt with mems := s1.dpt.mems.map (fun (e : Nat × MemSt) => (e.1, { e.2 with active := busy s1 e.1 })) } }
    let pol := s2.flag SLP_CTL_PRES_POL
    { s2 with slp := { s2.slp with presIn := s2.posMask (fun p => bitOf inputs p != pol) } })

/-- SMBUS_STUCK (R434): a line is held low for 35 ms; `fresh` says that a transaction has ended well since the last recovery. -/
def execSmbusStuck (bus : Fin 4) (fresh : Bool) (s : State) : Host.Outcome State Fault Refusal :=
  .next (if !(s.powered && bitOf (s.fld SLP_SMB_CFG_EN) bus) then s else
    let n := (if fresh then 0 else tget s.slp.smbRec bus.val 0) + 1
    let s1 := { s with slp := { s.slp with smbRec := tput s.slp.smbRec bus.val (if n < 3 then n else 0) } }.emit (.smbRecover bus)
    if n < 3 then s1 else ((s1.clrBit SLP_SMB_CFG_EN bus).setBit SLP_SMB_CFG_STUCK bus).bump CNT_SLP_SMB_STUCK)

/-- A write of SLP_SMB_CFG: STUCK is cleared by ones; setting EN enables the master again. -/
def State.smbCfgWrite (s : State) (w : Word) : State :=
  let stuck := s.fld SLP_SMB_CFG_STUCK
  (s.setReg SLP_SMB_CFG (w &&& 0xFF)).setFld SLP_SMB_CFG_STUCK (stuck - (stuck &&& fieldOf w 8 4))

/-! ### Feed channels (R428–R430) -/

/-- STATE of a feed: 0 OFF, 1 PRECHARGE, 2 ON, 3 BLOCKING, 4 FAULT_WAIT, 5 REVERSED. -/
def State.fdState (s : State) (f : Nat) : Nat := s.fld (SLP_FD_STAT_STATE f)

/-- A feed moves: its main gate is on in ON, its pre-charge gate in PRECHARGE. -/
def State.fdGo (s : State) (f st : Nat) : State :=
  { s with slp := { s.slp with feedGate := if st = 2 then s.slp.feedGate ||| 2 ^ f else s.slp.feedGate - (s.slp.feedGate &&& 2 ^ f), pcg := if st = 1 then s.slp.pcg ||| 2 ^ f else s.slp.pcg - (s.slp.pcg &&& 2 ^ f) } }.setFld (SLP_FD_STAT_STATE f) st

/-- The feed can judge its direction: neither IN nor BUS is open (R430). -/
def State.fdSees (s : State) (f : Nat) : Bool := s.fld (SLP_FD_STAT_OPEN f) % 4 == 0

/-- UV_TH and OV_TH in mV. -/
def State.uvTh (s : State) (f : Nat) : Int := ((100 * s.fld (SLP_FD_CFG_UV_TH f) : Nat) : Int)
/-- OV_TH. -/
def State.ovTh (s : State) (f : Nat) : Int := ((100 * s.fld (SLP_FD_CFG_OV_TH f) : Nat) : Int)

/-- FEED_REVERSED (R429). -/
def execFeedReversed (feed : Fin 2) (vin : Int) (s : State) : Host.Outcome State Fault Refusal :=
  .next (if s.pdProtects && decide (vin < -500) then s.fdGo feed 5 else s)
/-- FEED_POLARITY_RESTORED (R429): V_IN at or above 0 V for 32 slow ticks. -/
def execFeedPolarityRestored (feed : Fin 2) (s : State) : Host.Outcome State Fault Refusal :=
  .next (if s.pdRuns && s.fdState feed == 5 then s.fdGo feed 0 else s)
/-- FEED_PRECHARGE_START (R429). -/
def execFeedPrechargeStart (feed : Fin 2) (vin : Int) (s : State) : Host.Outcome State Fault Refusal :=
  .next (if s.pdDrives && s.fdState feed == 0 && s.flag (SLP_FD_CFG_EN feed) && decide (s.uvTh feed ≤ vin) && decide (vin ≤ s.ovTh feed) then s.fdGo feed 1 else s)
/-- FEED_PRECHARGE_DONE (R429): a stage in HOLD turns no gate on (R364, R432). -/
def execFeedPrechargeDone (feed : Fin 2) (vin vbus : Int) (s : State) : Host.Outcome State Fault Refusal :=
  .next (if s.pdDrives && s.fdState feed == 1 && decide (vin - 500 ≤ vbus) then s.fdGo feed 2 else s)
/-- FEED_PRECHARGE_TIMEOUT (R429). -/
def execFeedPrechargeTimeout (feed : Fin 2) (s : State) : Host.Outcome State Fault Refusal :=
  .next (if s.pdProtects && s.fdState feed == 1 then (s.fdGo feed 4).bump CNT_SLP_FEED_PCG_FAIL else s)
/-- FEED_REVERSE (R429): the bus stands above the input by the reverse threshold. -/
def execFeedReverse (feed : Fin 2) (vin vbus : Int) (s : State) : Host.Outcome State Fault Refusal :=
  .next (if s.pdProtects && bitOf s.slp.feedGate feed && s.fdSees feed && decide (vin < vbus) then
    (let s1 := (s.fdGo feed 3).bump CNT_SLP_FEED_REVERSE
    { s1 with slp := { s1.slp with sagEvent := true } }) else s)
/-- FEED_UNBLOCK (R429): the input above the bus by 50 mV for 2 slow ticks; not in HOLD (R364, R432). -/
def execFeedUnblock (feed : Fin 2) (vin vbus : Int) (s : State) : Host.Outcome State Fault Refusal :=
  .next (if s.pdDrives && s.fdState feed == 3 && s.fdSees feed && decide (vbus + 50 ≤ vin) && decide (s.uvTh feed ≤ vin) then s.fdGo feed 2 else s)
/-- FEED_OVERVOLTAGE (R429). -/
def execFeedOvervoltage (feed : Fin 2) (vin : Int) (s : State) : Host.Outcome State Fault Refusal :=
  .next (if s.pdProtects && s.fdState feed == 2 && decide (s.ovTh feed < vin) then (s.fdGo feed 4).bump CNT_SLP_FEED_OV else s)
/-- FEED_UNDERVOLTAGE (R429). -/
def execFeedUndervoltage (feed : Fin 2) (vin : Int) (s : State) : Host.Outcome State Fault Refusal :=
  .next (if s.pdProtects && s.fdState feed == 2 && decide (vin < s.uvTh feed) then s.fdGo feed 0 else s)
/-- FEED_FAULT_WAIT_EXPIRY (R429). -/
def execFeedFaultWaitExpiry (feed : Fin 2) (s : State) : Host.Outcome State Fault Refusal :=
  .next (if s.pdProtects && s.fdState feed == 4 then s.fdGo feed 0 else s)

/-- A write of SLP_FD_CFG: EN = 0 turns the gates off, but for REVERSED (R429). -/
def State.fdCfgWrite (s : State) (f : Nat) (w : Word) : State :=
  let s1 := s.setReg (SLP_FD_CFG f) w
  if s1.flag (SLP_FD_CFG_EN f) || s1.fdState f = 5 || !s1.pdDrives then s1 else s1.fdGo f 0

/-- FEED_DISABLE (R429). -/
def execFeedDisable (req : Requester) (feed : Fin 2) (s : State) : Host.Outcome State Fault Refusal :=
  .next (s.accessWrite req (SLP_FD_CFG feed) (fun t => t.fdCfgWrite feed (withField (t.reg (SLP_FD_CFG feed)) 0 1 0)))

/-- SENSE_WIRE_OPEN (R430): wire 0 IN, 1 BUS, 2 SNSP, 3 SNSN. -/
def execSenseWireOpen (feed : Fin 2) (wire : Fin 4) (s : State) : Host.Outcome State Fault Refusal :=
  .next (if !s.pdRuns || bitOf (s.fld (SLP_FD_STAT_OPEN feed)) wire then s else
    let s1 := (s.setBit (SLP_FD_STAT_OPEN feed) wire).bump CNT_SLP_SENSE_OPEN_EV
    if 2 ≤ wire.val then s1.setFld (SLP_FD_MEAS_IIN feed) 0x8000
    else if s1.pdProtects && s1.fdState (1 - feed.val) = 2 && (s1.fdState feed = 2 || s1.fdState feed = 1) then s1.fdGo feed 3 else s1)

/-! ### Power-fail warning (R269, R431) -/

/-- RED_JRN_STAT.PFAIL follows the warning on the serving part (R269). -/
def State.syncPfail (s : State) : State := s.setFlag RED_JRN_STAT_PFAIL (s.serving && s.flag SLP_STAT_PFAIL)

/-- ALERT_N is driven low (R431). -/
def State.alertLow (s : State) : Bool := s.flag SLP_STAT_PFAIL && s.flag SLP_PF_CFG_ALERT_EN

/-- POWER_FAIL_WARNING (R431): both inputs, in mV, have stayed below PF_TH for PF_DLY. -/
def execPowerFailWarning (va vb : Int) (s : State) : Host.Outcome State Fault Refusal :=
  .next (if !s.pdRuns || s.flag SLP_STAT_PFAIL || !decide (max va vb < ((100 * s.fld SLP_PF_CFG_PF_TH : Nat) : Int)) then s
    else ((s.setFlag SLP_STAT_PFAIL true).bump CNT_SLP_PFAIL_EVENTS).syncPfail)

/-- POWER_FAIL_CLEAR (R431): either input at or above PF_TH + 0.3 V for 1 ms. -/
def execPowerFailClear (va vb : Int) (s : State) : Host.Outcome State Fault Refusal :=
  .next (if s.pdRuns && s.flag SLP_STAT_PFAIL && decide (((100 * s.fld SLP_PF_CFG_PF_TH + 300 : Nat) : Int) ≤ max va vb) then (s.setFlag SLP_STAT_PFAIL false).syncPfail else s)

/-! ### Changes of driver (R364, R432, R466) -/

/-- Show the stage. -/
def State.setStage (s : State) (g : Stage) : State :=
  { s with nzl := { s.nzl with stage := g } }.setFld SLP_STAT_STAGE (match g with
    | .drive => 0
    | .hold => 1
    | .watch => 2)

/-- A stage enters DRIVE: each channel starts from the gates it sampled (R432). -/
def State.enterDrive (s : State) (slots feeds : Nat) : State :=
  let s1 := { s with slp := { s.slp with gates := slots % 2 ^ 32, sagWait := [], retry := [] } }.setStage .drive
  let s2 := s1.each (List.range 32) (fun t n => ((t.setFld (SLP_CH_STAT_STATE n) (if bitOf slots n then 2 else 3)).setFld (SLP_CH_STAT_ATTEMPTS n) 0).setFlag (SLP_CH_STAT_LIMITING n) false)
  let s3 := s2.each [0, 1] (fun t f => if t.fdState f = 5 then t else t.fdGo f (if bitOf feeds f && t.flag (SLP_FD_CFG_EN f) then 2 else 0))
  s3.slotsJudge

/-- VHV_UVLO (R466): every gate is pulled to its source, and SGPIO, fans and claim lines are released. -/
def execVhvUvlo (s : State) : Host.Outcome State Fault Refusal :=
  .next (if s.slp.vhvLow then s else
    let s1 := { s with slp := { s.slp with vhvLow := true, gates := 0, feedGate := 0, pcg := 0, sagWait := [], retry := [] } }
    let s2 := s1.each (List.range 32) (fun t n => if t.chState n = 5 || t.chState n = 4 then t else t.slotOff n)
    s2.each [0, 1] (fun t f => if t.fdState f = 5 then t else t.fdGo f 0))

/-- VHV_UVLO_RECOVERY (R466): above 9.0 V the power die resumes. -/
def execVhvUvloRecovery (s : State) : Host.Outcome State Fault Refusal :=
  .next ({ s with slp := { s.slp with vhvLow := false } })

end Sys2Proof.Machine
end

