-- ==== Sys2Proof/Machine/Narzan.lean ====
section
/-! DEFINITION. The Narzan link's receiver, groups, loss of the partner, mirroring and resynchronisation, the handshake (R349–R360, R365–R370). -/

namespace Sys2Proof.Machine

/-! ### What a message carries -/

/-- The journal SEQ of a MIRROR body. -/
def NzlBody.jseq (b : NzlBody) : Option Nat := match b with
  | .mirror r _ _ => some r.seq
  | _ => none

/-- MIRROR, META and EPOCH: acknowledged only once applied, and known by MSG_ID (R352, R353). -/
def NzlBody.isData (b : NzlBody) : Bool := match b with
  | .mirror _ _ _ => true
  | .metaItems _ => true
  | .snapArm _ _ _ => true
  | .swapEnd _ _ => true
  | .armed _ _ => true
  | _ => false

/-- An item that META may carry (R356). -/
def NzlItem.isMeta (i : NzlItem) : Bool := match i with
  | .intent _ _ _ _ _ _ _ => true
  | .mapVol _ _ => true
  | .mapSet _ _ => true
  | .mapLost _ _ => true
  | .lockPlace _ _ _ _ _ _ => true
  | .lockRelease _ => true
  | .keySlot _ _ _ _ => true
  | .keyBind _ _ _ => true
  | _ => false

/-- An item that CFG may carry. -/
def NzlItem.isCfg (i : NzlItem) : Bool := match i with
  | .handshake _ _ _ _ _ _ _ => true
  | .handshakeResult _ => true
  | .reg _ _ => true
  | .setup _ => true
  | .commitEnd _ => true
  | _ => false

/-- No field of a body carries a reserved value (R356). -/
def NzlBody.fieldsOk (b : NzlBody) : Bool := match b with
  | .metaItems l => l.all NzlItem.isMeta
  | .cfg l => l.all NzlItem.isCfg
  | .mbox c k w _ => decide (4 ≤ c ∧ c ≤ 7 ∧ 1 ≤ k ∧ k ≤ 3) && (k != 1 || decide (1 ≤ w.length ∧ w.length ≤ 8))
  | .snapArm _ _ l => decide (1 ≤ l.length ∧ l.length ≤ 2048)
  | _ => true

/-! ### Acknowledgement, credit, resends (R352–R354) -/

/-- A record is on its way: some part of it is kept or queued. -/
def State.mirrorLeft (s : State) (q : Nat) : Bool := s.nzl.grps.any (fun e => e.2.kept.any (fun m => m.body.jseq == some q) || e.2.queue.any (fun m => m.body.jseq == some q))

/-- Writes whose record has been acknowledged whole are durable (R32). -/
def State.mirrorAcked (s : State) (qs : List Nat) : State :=
  let done := qs.eraseDups.filter (fun q => !s.mirrorLeft q)
  s.each (s.cmdq.cmds.filter (fun e => match e.2.mirror with
    | some q => done.contains q
    | none => false)) (fun t e => t.writeDone e.1)

/-- Writes that wait for a mirror acknowledgement complete on their local append (R189, R360). -/
def State.mirrorAll (s : State) : State := s.each (s.cmdq.cmds.filter (fun e => e.2.mirror.isSome)) (fun t e => t.writeDone e.1)

/-- Drop from a list the messages up to a SEQ, where it is among them. -/
def ackedPart (l : List NzlMsg) (ack : Nat) : List NzlMsg × List NzlMsg :=
  match l.findIdx? (fun m => m.seq == ack) with
  | some i => (l.take (i + 1), l.drop (i + 1))
  | none => ([], l)

/-- An item of the resynchronisation, as its message body is when it is sent (R367). -/
def State.streamBody (s : State) (x : StreamItem) : Option NzlItem := match x with
  | .vol v => some (.mapVol v (tget? s.red.vols v))
  | .set p => some (.mapSet p (tget? s.red.sets p))
  | .lost i => some (.mapLost i (tget? s.red.lost i))
  | .key n => some (.keySlot n (s.fld (CIP_KS_STAT_STATE n)) (s.slot n).hwm (s.slot n).record)
  | .bind v => some (.keyBind v (s.fld (CIP_VOL_KEY_SLOT v)) (s.flag (CIP_VOL_KEY_EN v)))
  | .lock h => (s.eng.locks.find? (fun e => e.owner == h && e.isWrite)).map (fun e => .lockPlace e.vol true e.mask e.stripe e.stamp h)
  | .journal _ => none

/-- Send one item of the stream. -/
def State.sendStream (s : State) (x : StreamItem) : State := match x with
  | .journal q => (match s.red.journal.find? (fun r => r.seq == q) with
    | some r => s.mirrorRecord r
    | none => s)
  | _ => match s.streamBody x with
    | some i => s.nzlSend (.metaItems [i])
    | none => s

/-- Stream while no mirror or META message waits on any group, and show the progress (R367). -/
def State.streamPump (s : State) : Nat → State
  | 0 => s
  | fuel + 1 => match s.nzl.stream with
    | [] => s
    | x :: rest =>
      if !(s.serving && s.flag NZL_STAT_RESYNC) || s.liveGrps.isEmpty || s.nzl.grps.any (fun e => !e.2.queue.isEmpty) then s else
      let s1 := { s with nzl := { s.nzl with stream := rest } }.sendStream x
      (s1.setFld NZL_RESYNC_PCT (100 * (s.nzl.streamTotal - rest.length) / max 1 s.nzl.streamTotal)).streamPump fuel

/-- Send again every kept message of a group in order (R352); each resend is counted. -/
def State.nzlResend (s : State) (g : Nat) : State :=
  let x := s.grp g
  match x.kept with
  | [] => s
  | m :: rest =>
    let now := s.clock.nowNs
    let l := ({ m with tries := m.tries + 1 } :: rest).map (fun (y : NzlMsg) => { y with sent := now, ack := x.ackSeq, credit := x.ownLimit })
    let s1 := (s.setGrp g { x with kept := l }).bump CNT_NZL_REPLAYS
    s1.each l (fun t y => (t.emit (.nzl g y)).bumpBy CNT_NZL_TX_FRAMES y.frames)

/-- The header of a message: ACK_SEQ and CREDIT_LIMIT of the reverse direction (R350, R352, R354). -/
def State.nzlHeader (s : State) (g ack credit : Nat) : State :=
  let x := s.grp g
  let (gone, kept) := ackedPart x.kept ack
  let s1 := (s.setGrp g { x with kept := kept, limit := credit }).nzlPump g (x.queue.length + 1)
  (s1.mirrorAcked (gone.filterMap (fun m => m.body.jseq))).streamPump s1.nzl.stream.length

/-! ### Groups (R349, R352) -/

/-- The link is down: no frames of the partner arrive. -/
def State.syncPresent (s : State) : State := s.cond s.liveGrps.isEmpty (fun t => t.setFlag NZL_STAT_PRESENT false)

/-- A group goes down: what it has not had acknowledged is resent on another live group (R352); with none live it waits for one. -/
def State.groupDown (s : State) (g : Nat) : State :=
  let x := s.grp g
  let msgs := (x.kept ++ x.queue).map (fun (m : NzlMsg) => { m with tries := 0 })
  let s1 := (((s.clrBit NZL_STAT_GRP_UP g).setFlag (NZL_GRP_STAT_UP g) false).setFld (NZL_GRP_STAT_CREDIT g) 0).setGrp g {}
  match s1.liveGrps with
  | [] => (s1.setGrp g { queue := msgs }).syncPresent
  | h :: _ =>
    let y := s1.grp h
    (s1.setGrp h { y with queue := y.queue ++ msgs }).nzlPump h (y.queue.length + msgs.length + 1)

/-- Discard every message held on every group. -/
def State.dropMessages (s : State) : State :=
  { s with nzl := { s.nzl with grps := s.nzl.grps.map (fun (e : Nat × NzlGrp) => (e.1, { e.2 with kept := [], queue := [] })) } }

/-- Send a HEARTBEAT on every live group (R355). -/
def State.heartbeats (s : State) : State := s.each s.liveGrps (fun t g => t.heartbeat g false)

/-- This part's HANDSHAKE (R356, R366). -/
def State.handshake (s : State) : NzlItem :=
  .handshake s.sys.imgVersion s.sys.imgMinPartner (s.fld NZL_CLAIM_BASE) (s.fld DMC_CFG_JRN_GIB) (s.fld DMC_CFG_MAP_GIB) (s.fld CIP_KEK_KCV) s.prot.gen

/-- Send it. -/
def State.sendHandshake (s : State) : State := { s.nzlSend (.cfg [s.handshake]) with nzl := { (s.nzlSend (.cfg [s.handshake])).nzl with hsSent := true } }

/-- Codes of a group's four lanes (R74). -/
def laneCodes (codes : List (Fin 6)) : Nat :=
  let c (k : Nat) : Nat := (codes.getD k 0).val
  c 0 + 16 * c 1 + 256 * c 2 + 4096 * c 3

/-- A lane is coded 1–4 and does not train (R75). -/
def laneBad (codes : List (Fin 6)) : Bool := codes.any (fun c => decide (1 ≤ c.val ∧ c.val ≤ 4))

/-- NZL_GROUP_TRAINED (R349, R354, R366): the group is up with full credit; in MORNING the handshake starts. -/
def execNzlGroupTrained (group : Fin 4) (codes : List (Fin 6)) (s : State) : Host.Outcome State Fault Refusal :=
  .next (
    let x := s.grp group
    if !s.running || !s.flag NZL_CTL_EN || !x.training || s.grpUp group || laneBad codes then s else
    let s0 := if s.liveGrps.isEmpty then { s with nzl := { s.nzl with applied := [], hsSent := false, peerHs := none } } else s
    let s1 := ((((s0.setGrp group { queue := x.queue, heard := s.clock.nowNs }).setBit NZL_STAT_GRP_UP group).setFlag (NZL_GRP_STAT_UP group) true).setFld (NZL_GRP_STAT_LANE group)
      (laneCodes codes)).nzlPump group (x.queue.length + 1)
    if s1.mode = 2 && s1.fld NZL_STAT_HS ≤ 1 && !s1.nzl.hsSent then (s1.setFld NZL_STAT_HS 1).sendHandshake else s1)

/-- NZL_GROUP_RETRY (R349): a new attempt starts, after a fresh check of the lanes. -/
def execNzlGroupRetry (group : Fin 4) (codes : List (Fin 6)) (s : State) : Host.Outcome State Fault Refusal :=
  .next (if !s.running || !s.flag NZL_CTL_EN || (s.grp group).training || s.grpUp group then s else
    (s.setFld (NZL_GRP_STAT_LANE group) (laneCodes codes)).setGrp group { s.grp group with training := !laneBad codes })

/-- NZL_TRAINING_FAIL (R349). -/
def execNzlTrainingFail (group : Fin 4) (s : State) : Host.Outcome State Fault Refusal :=
  .next (if s.running && (s.grp group).training then s.setGrp group { s.grp group with training := false } else s)

/-- NZL_GROUP_LINK_LOSS (R349). -/
def execNzlGroupLinkLoss (group : Fin 4) (s : State) : Host.Outcome State Fault Refusal :=
  .next (if s.running && s.grpUp group then s.groupDown group else s)

/-! ### Leaving service -/

/-- Work toward the members that only a serving part does stops: waiting drive commands, destages, fills, deferrals. -/
def State.leaveService (s : State) : State :=
  { s with dpt := { s.dpt with todo := [] }, red := { s.red with destages := [], iq := [] }, cch := { s.cch with fills := [] }, gov := { s.gov with urgent := [], shared := [] } }.syncPfail

/-- Discard the journal and the mirrored maps; the maps on the members stay (R359, R285). -/
def State.dropMaps (s : State) : State :=
  let saved := match s.red.saved with
    | some x => some x
    | none => some (s.red.sets, s.red.vols, s.red.lost)
  let vs := s.red.vols.map (fun e => e.1)
  let ps := s.red.sets.map (fun e => e.1)
  let s1 := { s with red := { s.red with journal := [], sets := [], vols := [], lost := [], destages := [], iq := [], zeroWait := [], saved := saved } }
  let s2 := (s1.each vs State.syncVol).each ps (fun t p => (((t.setReg (RED_SET_CFG p) 0).setReg (RED_SET_STAT p) 0).setReg (RED_SET_SLABS p) 0).setReg (RED_SET_FREE p) 0)
  (s2.syncLost.syncRed).syncJrn

/-- The standby copy becomes STALE (R359). -/
def State.becomeStale (s : State) : State :=
  let s1 := ((s.setFlag NZL_STAT_STALE true).setFlag NZL_STAT_IN_STEP false).setFlag NZL_STAT_RESYNC false
  { s1 with nzl := { s1.nzl with locks := [], keys := [], parts := [], swapEnd := none } }.dropMaps

/-- I/O commands: not an admin command, not a window request. -/
def ioCmd (e : Nat × Cmd) : Bool := decide (e.1 < 65536) && (match e.2.kind with
  | .admin _ => false
  | _ => true)

/-- Commands that queues still hold for their arbiter end with a status. -/
def State.endWaiting (s : State) (status : Nat) : State :=
  let f (c : Cmd) : Cmd := if c.status = 0 then { c with status := status } else c
  { s with cmdq := { s.cmdq with queues := s.cmdq.queues.map (fun (e : Nat × Queue) => (e.1, { e.2 with waiting := e.2.waiting.map f })) } }

/-- Window requests in flight when the part stops serving: READs are dropped as under STALL_THEN_DROP, WRITEs end without an answer (R161, R368). -/
def State.dropWindows (s : State) : State :=
  s.each (s.cmdq.cmds.filter (fun e => decide (65536 ≤ e.1) && e.2.state != .done && !e.2.dropped)) (fun t e =>
    if e.2.kind == .winRead then (t.dropRead e.1 e.2).bump CNT_RDM_WIN_STALL_DROP
    else if e.2.mirror.isSome then t
    else (t.endCmd e.1).cond (!e.2.orphan) (fun u => u.winDone e.2.win))

/-- A change of roles (R370). -/
def State.roleChange (s : State) : State := { s with nzl := { s.nzl with roleAt := s.clock.nowNs, swapRetry := false } }.setFld NZL_SWAP_LEFT_HOURS (24 * max 1 (s.fld NZL_CTL_SWAP_DAYS))

/-- A serving part is fenced (R358, R360): TWILIGHT and STALE; writes that wait for the mirror end without a CQE, every other command with 0xC7. A
pending NIGHT entry is abandoned with it (R46). -/
def State.fenced (s : State) : State :=
  let waits (c : Cmd) : Bool := c.mirror.isSome
  let s0 := if s.flag SYS_MODE_NIGHT_PEND then (s.setFlag SYS_MODE_NIGHT_PEND false).setFld SYS_MODE_REQ_RESULT 4 else s
  let s1 := s0.dropWindows
  let s2 := s1.each (s1.cmdq.cmds.filter (fun e => waits e.2)) (fun t e => (t.endCmd e.1).cond (e.1 < 65536) (fun u => u.bump CNT_CMDQ_RESET_ENDED))
  let s3 := (s2.endWaiting 0x7C7).each (s2.cmdq.cmds.filter (fun e => ioCmd e && e.2.state != .done)) (fun t e => t.finish e.1 0x7C7)
  let s4 := ({ s3 with nzl := { s3.nzl with pause := .none, stream := [] } }.leaveService).enterMode 6 4
  let s5 := ((s4.setPartner false).setFlag NZL_STAT_LOSS_HOLD false).setAna 3
  s5.becomeStale.dropMessages.roleChange

/-! ### Loss of the partner (R357–R360) -/

/-- The arming of a snapshot that waits for the partner is set on the local arm (R216). -/
def State.armLost (s : State) : State :=
  if s.eng.globalOp = 3 && s.eng.armSent && !s.flag ENG_GLOBAL_STAT_ARMED then s.snapArmed.setFld ENG_GLOBAL_STAT_RESULT 4 else s

/-- Declare the partner lost, with its cause (R357): a fence on every live group, which starts a claim round; a serving part with PARTNER holds it for
300 µs (R360), and a swap under way ends without its change of roles. -/
def State.declareLost (s : State) (cause : Nat) : State :=
  let s1 := (((s.setFld NZL_STAT_LOSS cause).bump CNT_NZL_PARTNER_LOST).health 10)
  let s2 := { s1 with nzl := { s1.nzl with paired := false, lost := true, won := false, stream := [] } }
  let s3 := if cause = 3 then s2 else s2.each s2.liveGrps (fun t g => t.nzlOn g (.fence cause))
  if !s3.serving then s3 else
  let s4 := (s3.setFlag NZL_STAT_RESYNC false).setFlag NZL_STAT_LOSS_HOLD s3.partnered
  let s5 := if s4.nzl.pause = .swap || s4.nzl.pause = .ended then { s4 with nzl := { s4.nzl with pause := .none } }.setAna 1 else s4
  s5.armLost

/-- Declare it once, of a partner that is paired with this part. -/
def State.loseOnce (s : State) (cause : Nat) : State := if s.nzl.paired then s.declareLost cause else s

/-- PARTNER_SILENCE_TIMEOUT (R357): no valid frame on any group for 80 µs. -/
def execPartnerSilenceTimeout (s : State) : Host.Outcome State Fault Refusal :=
  .next (if s.running && s.flag NZL_STAT_PRESENT then (s.setFlag NZL_STAT_PRESENT false).loseOnce 1 else if s.running then s.loseOnce 1 else s)

/-- ACK_STALL_TIMEOUT (R357): a MIRROR, META or EPOCH message unacknowledged for ACK_STALL µs. -/
def execAckStallTimeout (s : State) : Host.Outcome State Fault Refusal :=
  .next (if s.running && s.nzl.grps.any (fun e => e.2.kept.any (fun m => m.body.isData)) then s.loseOnce 2 else s)

/-- NZL_CTL.FENCE (R357). -/
def State.fenceWrite (s : State) : State := if s.nzl.lost || !s.inService then s else s.declareLost 5

/-- FENCE_WRITE (R357). -/
def execFenceWrite (req : Requester) (s : State) : Host.Outcome State Fault Refusal := .next (s.accessWrite req NZL_CTL State.fenceWrite)

/-- STALE_TIMEOUT (R359): a standby that declared loss won no claim round in 200 µs. -/
def execStaleTimeout (s : State) : Host.Outcome State Fault Refusal :=
  .next (if s.mode = 6 && s.sys.hold == .none && s.nzl.lost && !s.nzl.won && !s.flag NZL_STAT_STALE then s.becomeStale else s)

/-- LOSS_HOLD_EXPIRY (R360): every claim round of the 300 µs was won. -/
def execLossHoldExpiry (s : State) : Host.Outcome State Fault Refusal :=
  .next (if s.serving && s.sys.hold == .none && s.flag NZL_STAT_LOSS_HOLD then (((s.setFlag NZL_STAT_LOSS_HOLD false).setPartner false).dropMessages).mirrorAll else s)

/-! ### Resynchronisation (R367) -/

/-- The resynchronisation of a STALE standby begins on the serving part: maps, journal, and with them key slots, bindings and write locks. -/
def State.startResync (s : State) : State :=
  let r := s.red
  let keys := (s.cip.slots.map (fun e => StreamItem.key e.1))
  let binds := (s.regs.filter (fun e => decide (0xB20000 ≤ e.1 ∧ e.1 < 0xB24000))).map (fun e => StreamItem.bind ((e.1 - 0xB20000) / 4))
  let locks := ((s.eng.locks.filter (fun e => e.isWrite && decide (e.owner < 65536))).map (fun e => e.owner)).eraseDups.map StreamItem.lock
  let items := r.sets.map (fun e => StreamItem.set e.1) ++ r.vols.map (fun e => StreamItem.vol e.1) ++ r.lost.map (fun e => StreamItem.lost e.1) ++ keys ++ binds ++ locks
    ++ r.journal.map (fun x => StreamItem.journal x.seq)
  let s1 := (s.setPartner false).mirrorAll
  let s2 := { s1 with nzl := { s1.nzl with stream := items, streamTotal := items.length } }
  (((s2.setFlag NZL_STAT_RESYNC true).setFld NZL_RESYNC_PCT 0).heartbeats).streamPump items.length

/-- Nothing that the partner must apply is outstanding. -/
def State.allAcked (s : State) : Bool := s.nzl.grps.all (fun e => !e.2.kept.any (fun m => m.body.isData) && !e.2.queue.any (fun m => m.body.isData))

/-- RESYNC_COMPLETE (R367): on the serving part the stream has ended and is acknowledged; on the standby the partner's HEARTBEAT says so. -/
def execResyncComplete (s : State) : Host.Outcome State Fault Refusal :=
  .next (
    if s.sys.hold != .none || !s.flag NZL_STAT_RESYNC then s
    else if s.serving then
      if s.nzl.stream.isEmpty && s.allAcked then (((s.setFlag NZL_STAT_RESYNC false).setFld NZL_RESYNC_PCT 100).heartbeats) else s
    else if s.mode = 6 && s.flag NZL_STAT_STALE && !s.nzl.peerResync then
      let s1 := ((s.setFlag NZL_STAT_RESYNC false).setFlag NZL_STAT_STALE false).setFlag NZL_STAT_IN_STEP true
      { s1 with red := { s1.red with saved := none }, nzl := { s1.nzl with paired := true, lost := false } }.heartbeats
    else s)

/-! ### Receiving (R350–R356) -/

/-- A discarded message: the first for an expected SEQ sends a NAK, and later ones are dropped until that SEQ arrives (R352). -/
def State.nzlBad (s : State) (g : Nat) : State :=
  let x := s.grp g
  let s1 := s.bump CNT_NZL_RX_BAD
  if x.skip then s1 else ((s1.setGrp g { x with skip := true }).heartbeat g true).bump CNT_NZL_NAK_TX

/-- NZL_BAD_FRAME (R352). -/
def execNzlBadFrame (group : Fin 4) (frames : Nat) (s : State) : Host.Outcome State Fault Refusal :=
  .next (if s.running && s.grpUp group then (s.bumpBy CNT_NZL_RX_FRAMES (max 1 frames)).nzlBad group else s)

/-- A standby copy takes mirrored state: in TWILIGHT, and not STALE or being resynchronised (R358, R367). -/
def State.takesMirror (s : State) : Bool := s.mode == 6 && (!s.flag NZL_STAT_STALE || s.flag NZL_STAT_RESYNC)

/-- This part applies a body now: the mirror on a standby, ARMED on the serving part, the rest anywhere. -/
def State.applies (s : State) (b : NzlBody) : Bool := match b with
  | .armed _ _ => s.serving
  | b => !b.isData || s.takesMirror

/-- Receive a numbered message on a group: its SEQ and fields are checked, its frames counted and freed, its header taken, a duplicate dropped; the rest is
applied and acknowledged by a HEARTBEAT (R352–R356). -/
def State.nzlRx (s : State) (g : Nat) (m : NzlMsg) (f : State → State) : State :=
  if !s.running || !s.grpUp g then s else
  let s1 := (s.bumpBy CNT_NZL_RX_FRAMES m.frames).setFlag NZL_STAT_PRESENT true
  let x := s1.grp g
  if m.seq != x.expect then s1.nzlBad g else
  let dup := m.body.isData && s.nzl.applied.contains m.id
  if !dup && !s.applies m.body then (s1.setGrp g { x with heard := s.clock.nowNs }).nzlHeader g m.ack m.credit else
  let s2 := (s1.setGrp g { x with expect := (x.expect + 1) % 2 ^ 32, skip := false, freed := x.freed + m.frames, heard := s.clock.nowNs }).nzlHeader g m.ack m.credit
  if !m.body.fieldsOk then (s2.bump CNT_NZL_RX_BAD).heartbeat g false
  else if dup then (s2.bump CNT_NZL_DUP_MSG).heartbeat g false
  else
    let s3 := if m.body.isData then { s2 with nzl := { s2.nzl with applied := s2.nzl.applied ++ [m.id] } } else s2
    (f s3).heartbeat g false

/-- A whole mirrored record joins the journal in SEQ order; it supersedes what earlier records hold of its blocks (R260, R353). -/
def State.takeRecord (s : State) (r : JRec) : State :=
  let cut (x : JRec) : JRec := if x.vol = r.vol && x.seq < r.seq then { x with dirty := (List.range r.nlb).foldl (fun l k => cutRanges l (r.slba + k)) x.dirty } else x
  let j := ((s.red.journal.filter (fun x => x.seq != r.seq)).map cut).filter (fun x => !(x.dirty.isEmpty && x.img.isEmpty))
  let lo := j.filter (fun x => x.seq < r.seq)
  let hi := j.filter (fun x => r.seq < x.seq)
  { s with red := { s.red with journal := lo ++ [r] ++ hi, jseq := max s.red.jseq (r.seq + 1) } }.syncJrn

/-- A part of a record arrives (R351). -/
def State.takePart (s : State) (r : JRec) (len : Nat) : State :=
  let got := tget s.nzl.parts r.seq 0 + len
  if got < r.bytes then { s with nzl := { s.nzl with parts := tput s.nzl.parts r.seq got } }
  else { s with nzl := { s.nzl with parts := tdel s.nzl.parts r.seq } }.takeRecord r

/-- MIRROR_RX (R353). -/
def execMirrorRx (group : Fin 4) (m : NzlMsg) (s : State) : Host.Outcome State Fault Refusal :=
  .next (match m.body with
    | .mirror r _ len => s.nzlRx group m (fun t => t.takePart r len)
    | _ => s)

/-- Apply a META item (R356, R367). -/
def State.metaItem (s : State) (i : NzlItem) : State := match i with
  | .intent set isOpen stripe seq mask jseq _ => (match tget? s.red.sets set with
    | none => s
    | some p =>
      let l := p.intents.filter (fun x => x.stripe != stripe)
      let p1 := { p with intents := if isOpen then l ++ [{ stripe := stripe, seq := seq, mask := mask, jseq := jseq, replicas := [] }] else l, iseq := max p.iseq (seq + 1) }
      { s with red := { s.red with sets := tput s.red.sets set p1 } })
  | .mapVol v x => (match x with
    | some y => { s with red := { s.red with vols := tput s.red.vols v y } }.syncVol v
    | none => { s with red := { s.red with vols := tdel s.red.vols v, journal := s.red.journal.filter (fun r => r.vol != v) } }.syncVol v)
  | .mapSet p x => (match x with
    | some y => (({ s with red := { s.red with sets := tput s.red.sets p y } }.syncCfg p).syncSet p).syncRed
    | none => ((({ s with red := { s.red with sets := tdel s.red.sets p } }.setReg (RED_SET_CFG p) 0).setReg (RED_SET_STAT p) 0).setReg (RED_SET_SLABS p) 0).setReg (RED_SET_FREE p) 0)
  | .mapLost n x => { s with red := { s.red with lost := match x with
      | some y => tput s.red.lost n y
      | none => tdel s.red.lost n } }.syncLost
  | .lockPlace vol w mask stripe stamp tag =>
    { s with nzl := { s.nzl with locks := s.nzl.locks ++ [{ vol := vol, stripe := stripe, mask := mask, stamp := stamp, owner := tag, isWrite := w, shard := s.shardOf vol stripe }] } }
  | .lockRelease tag => { s with nzl := { s.nzl with locks := s.nzl.locks.filter (fun e => e.owner != tag) } }
  | .keySlot n st hwm rec => { s with nzl := { s.nzl with keys := if st = 0 then tdel s.nzl.keys n else tput s.nzl.keys n (st, hwm, rec) } }
  | .keyBind v n en => (s.setFld (CIP_VOL_KEY_SLOT v) n).setFlag (CIP_VOL_KEY_EN v) en
  | _ => s

/-- META_RX (R356). -/
def execMetaRx (group : Fin 4) (m : NzlMsg) (s : State) : Host.Outcome State Fault Refusal :=
  .next (match m.body with
    | .metaItems l => s.nzlRx group m (fun t => t.each l State.metaItem)
    | _ => s)

/-! ### The protection setup of the partner or of the NOR copies (R377, R378) -/

/-- Put a sealed setup in force: classes, lists, boot policy, bindings; a slot that is EMPTY is loaded, its counters at the recorded base (R319). -/
def State.adoptSetup (s : State) (x : Setup) : State :=
  let s1 := s.each x.classes (fun t e => t.setClass e.1 e.2)
  let s2 := { s1 with prot := { s1.prot with acl := x.acl, stewards := x.stewards, gen := x.gen, records := x.records } }
  let s3 := ((s2.setFld PROT_GEN_L_GEN x.gen).setFld PROT_BOOT_POLICY_MIN_SVN x.minSvn).setFlag PROT_STAT_PROV true
  let s4 := s3.each x.records (fun t e => if t.fld (CIP_KS_STAT_STATE e.1) = 0 then t.loadSlot e.1 e.2 (recBase e.2) else t)
  s4.each x.binds (fun t e => t.bindVol e.1 e.2.1 e.2.2)

/-- Send the setup to the partner whatever PARTNER says (R366, R377). -/
def State.offerSetup (s : State) : State := s.nzlSend (.cfg [.setup s.setupNow, .commitEnd s.prot.gen])

/-- Apply a CFG item (R356, R366). -/
def State.cfgItem (s : State) (i : NzlItem) : State := match i with
  | .handshake img mp base jrn map kcv gen =>
    let s1 := ({ s with nzl := { s.nzl with peerHs := some ⟨img, mp, base, jrn, map, kcv, gen⟩ } }.setFld NZL_PEER_IMG_VER img).setFld NZL_PEER_BASE base
    let s2 := if s1.inService || !s1.nzl.hsSent then s1.sendHandshake else s1
    if gen < s2.prot.gen then s2.offerSetup else s2
  | .handshakeResult r => if s.mode = 2 && s.fld NZL_STAT_HS ≤ 2 && 4 ≤ r && r ≤ 7 then s.setFld NZL_STAT_HS r else s
  | .reg off val => { s with nzl := { s.nzl with regs := tput s.nzl.regs off val } }
  | .setup x => { s with nzl := { s.nzl with setup := some x } }
  | .commitEnd g =>
    let s1 := { s with nzl := { s.nzl with setup := none } }
    (match s.nzl.setup with
      | some x => if x.gen = g && s.prot.gen < g then (s1.adoptSetup x).sealSetup else s1
      | none => s1)
  | _ => s

/-- CFG_RX (R356). -/
def execCfgRx (group : Fin 4) (m : NzlMsg) (s : State) : Host.Outcome State Fault Refusal :=
  .next (match m.body with
    | .cfg l => s.nzlRx group m (fun t => t.each l State.cfgItem)
    | _ => s)

/-- The outcome of the handshake, as NZL_STAT.HS (R366). -/
def State.hsJudge (s : State) (p : PeerHs) : Nat :=
  if p.jrn != s.fld DMC_CFG_JRN_GIB || p.map != s.fld DMC_CFG_MAP_GIB then 4
  else if p.kcv != s.fld CIP_KEK_KCV then 5
  else if p.base = s.fld NZL_CLAIM_BASE then 6
  else if p.img < s.sys.imgMinPartner || s.sys.imgVersion < p.minPartner then 7
  else 2

/-- PARTNER_HANDSHAKE (R366): the partner's HANDSHAKE is judged, and the outcome sent. -/
def execPartnerHandshake (s : State) : Host.Outcome State Fault Refusal :=
  .next (match s.nzl.peerHs with
    | some p => if s.mode = 2 && s.sys.hold == .none && s.fld NZL_STAT_HS ≤ 1 then
        (s.setFld NZL_STAT_HS (s.hsJudge p)).nzlSend (.cfg [.handshakeResult (s.hsJudge p)])
      else s
    | none => s)

/-- HANDSHAKE_TIMEOUT (R366): no partner has answered within HS_WAIT. -/
def execHandshakeTimeout (s : State) : Host.Outcome State Fault Refusal :=
  .next (if s.mode = 2 && s.sys.hold == .none && s.fld NZL_STAT_HS ≤ 1 && s.nzl.peerHs.isNone then s.setFld NZL_STAT_HS 3 else s)

/-! ### Heartbeats and fences -/

/-- The partner's state from a HEARTBEAT (R355–R357, R367). -/
def State.peerState (s : State) (mode : Nat) (stale inStep resync : Bool) (img base : Nat) : State :=
  let s1 := ((s.setFld NZL_STAT_PEER_MODE mode).setFld NZL_PEER_IMG_VER img).setFld NZL_PEER_BASE base
  let s2 := { s1 with nzl := { s1.nzl with peerStale := stale, peerStep := inStep, peerResync := resync } }
  if !s2.inService then s2
  else if mode < 3 || mode = 7 then s2.loseOnce 4
  else
    let back := s2.nzl.lost && (if s2.serving then mode == 6 && stale && !s2.flag NZL_STAT_LOSS_HOLD else s2.flag NZL_STAT_STALE && mode != 6)
    let s3 := if back || !s2.nzl.lost then { s2 with nzl := { s2.nzl with paired := true, lost := false } } else s2
    if s3.nzl.lost then s3
    else if s3.mode = 6 then (if s3.flag NZL_STAT_STALE && resync then s3.setFlag NZL_STAT_RESYNC true else s3)
    else if s3.nzl.pause != .none || mode != 6 || s3.flag NZL_STAT_RESYNC then s3
    else if stale then (if resync then s3 else s3.startResync)
    else if inStep && !s3.partnered then s3.setPartner true
    else s3

/-- HEARTBEAT_RX (R352, R355): it needs no SEQ of its own and takes no credit; NAK has the group's messages sent again. -/
def execHeartbeatRx (group : Fin 4) (m : NzlMsg) (s : State) : Host.Outcome State Fault Refusal :=
  .next (match m.body with
    | .heartbeat mode stale inStep resync _ img base _ nak =>
      if !s.running || !s.grpUp group then s else
      let s1 := ((s.bump CNT_NZL_RX_FRAMES).setFlag NZL_STAT_PRESENT true).setGrp group { s.grp group with heard := s.clock.nowNs }
      let s2 := s1.nzlHeader group m.ack m.credit
      (s2.cond nak (fun t => t.nzlResend group)).peerState (mode % 8) stale inStep resync img base
    | _ => s)

/-- FENCE_RX (R357, R358): a standby becomes STALE; a serving part goes to TWILIGHT, STALE; any other mode ignores it. -/
def execFenceRx (group : Fin 4) (m : NzlMsg) (s : State) : Host.Outcome State Fault Refusal :=
  .next (match m.body with
    | .fence _ => s.nzlRx group m (fun t =>
      if !t.inService then t else
      let t1 := t.loseOnce 3
      if t1.serving then t1.fenced else if t1.flag NZL_STAT_STALE then t1 else t1.becomeStale)
    | _ => s)

/-- HEARTBEAT_SEND (R355). -/
def execHeartbeatSend (group : Fin 4) (s : State) : Host.Outcome State Fault Refusal :=
  .next (s.cond s.powered (fun t => t.heartbeat group false))

/-- NZL_REPLAY_TIMEOUT (R352): the oldest message unacknowledged for REPLAY µs is resent with those after it; 8 resends without progress take the group down. -/
def execNzlReplayTimeout (group : Fin 4) (s : State) : Host.Outcome State Fault Refusal :=
  .next (if !s.running || !s.grpUp group then s else match (s.grp group).kept with
    | [] => s
    | m :: _ => if 8 ≤ m.tries then (s.bump CNT_NZL_GROUP_DOWN).groupDown group else s.nzlResend group)

/-! ### Snapshots (R216) -/

/-- SNAPSHOT_ARM_RX (R216): the mirrored maps are armed, and ARMED answers. -/
def execSnapshotArmRx (group : Fin 4) (m : NzlMsg) (s : State) : Host.Outcome State Fault Refusal :=
  .next (match m.body with
    | .snapArm epoch b ps => s.nzlRx group m (fun t => (t.armMaps b ps).nzlSend (.armed epoch b))
    | _ => s)

/-- SNAPSHOT_ARMED_RX (R216). -/
def execSnapshotArmedRx (group : Fin 4) (m : NzlMsg) (s : State) : Host.Outcome State Fault Refusal :=
  .next (match m.body with
    | .armed epoch _ => s.nzlRx group m (fun t =>
      if t.eng.globalOp = 3 && t.eng.armSent && t.fld ENG_EPOCH_EPOCH = epoch && !t.flag ENG_GLOBAL_STAT_ARMED then t.snapArmed else t)
    | _ => s)

/-- SWAP_END_RX (R368): the last record the standby must hold before it takes over. -/
def execSwapEndRx (group : Fin 4) (m : NzlMsg) (s : State) : Host.Outcome State Fault Refusal :=
  .next (match m.body with
    | .swapEnd _ jseq => s.nzlRx group m (fun t => { t with nzl := { t.nzl with swapEnd := some (m.id, jseq) } })
    | _ => s)

end Sys2Proof.Machine
end

