-- ==== Sys2Proof/Machine/Claims.lean ====
section
/-! DEFINITION. The claim bus, the shared output stages, takeover, swaps and hand-back (R57, R361–R370). -/

namespace Sys2Proof.Machine

/-! ### The claim (R361) -/

/-- The part claims: its configuration is committed, or it is in a later mode, and nothing of R361 makes it claim 0. -/
def State.claims (s : State) : Bool :=
  (s.inService || (s.mode == 2 && s.fld SYS_CFG_STATUS == 3)) && s.sys.hold == .none && !s.flag NZL_STAT_STALE && !s.nzl.hold0 && s.fld NZL_CLAIM_SCORE != 0
    && (s.serving || !s.flag NZL_STAT_CLAIM_FAULT) && !s.flag SLP_STAT_HELD && s.pdRuns && s.nzl.pause != .ended && !s.nzl.leaving

/-- SERVING of the claim. -/
def State.claimServing (s : State) : Bool := s.serving || s.nzl.pause == .takeover

/-- The claim as it would be sent now (R361). READY: serving, a standby that is not STALE, or MORNING after the commit. -/
def State.claim (s : State) : Nat :=
  if !s.claims then 0 else s.claimServing.toNat * 2 ^ 15 + 2 ^ 14 + s.fld NZL_CLAIM_SCORE * 16 + s.fld NZL_CLAIM_BASE

/-- CLAIM_ROUND_START (R362): a claim that changes later takes effect in the next round. -/
def execClaimRoundStart (s : State) : Host.Outcome State Fault Refusal :=
  .next (if s.nzl.round.isSome then s else
    let c := s.claim
    let s1 := { s with nzl := { s.nzl with round := some c } }
    s1.cond s.running (fun t => (t.setFlag NZL_CLAIM_READY (bitOf c 14)).setFlag NZL_CLAIM_SERVING (bitOf c 15)))

/-- A claim wins: it is not 0, some part won, and the part never sampled a 1 where it sent 0 (R362). -/
def claimWins (c win : Nat) : Bool := c != 0 && win != 0 && (win &&& (0xFFFF - c)) == 0

/-! ### Takeover (R365) -/

/-- Every MIRROR, META, CFG, MBOX and EPOCH message up to a MSG_ID has been applied, as far back as the link has carried them. -/
def State.appliedTo (s : State) (id : Nat) : Bool := match s.nzl.applied.min? with
  | none => false
  | some a => (List.range (id - a)).all (fun k => s.nzl.applied.contains (a + k))

/-- Start a key slot at its mirrored high-water mark (R319). -/
def State.startKey (s : State) (n st hwm rec : Nat) : State :=
  if st = 0 || st = 3 then s else
  let s0 := ({ s with cip := { s.cip with slots := tdel s.cip.slots n, hwmReq := s.cip.hwmReq.filter (fun x => x != n) } }.setReg (CIP_KS_STAT n) 0)
  let s1 := s0.loadSlot n rec hwm
  if st = 2 && s1.fld (CIP_KS_STAT_STATE n) = 1 then s1.setFld (CIP_KS_STAT_STATE n) 2 else s1

/-- The members of every set, with their slots. -/
def State.setMembers (s : State) : List Nat := s.red.sets.flatMap (fun e => e.2.slots.map (fun x => x.2))

/-- The members at a change of serving part (R238): reservations are acquired on dual-path members; a member that this part does not reach is MISSING. -/
def State.takeMembers (s : State) : State :=
  s.each s.setMembers (fun t m =>
    if t.memState m = 0 then { t.setMem m 6 with red := { (t.setMem m 6).red with holding := if t.red.holding.contains m then t.red.holding else t.red.holding ++ [m] } }
    else if t.flag (DPT_MEM_LOC_DUAL m) && t.flag DPT_CTL_FENCE_EN && (t.memState m == 1 || t.memState m == 4) then (t.modMem m (fun x => { x with acquiring := true })).drvAdmin m 0 (.admin 2)
    else t)

/-- The cache of a part that starts to serve is empty (R365). -/
def State.emptyCache (s : State) : State := { s with cch := { s.cch with main := [], evb := [], side := [], fills := [], trackers := [] } }.syncLocks

/-- Open intents of the mirrored copy wait for their resync (R266). -/
def State.intentsResync (s : State) : State :=
  let f (e : Nat × PSet) : Nat × PSet := (e.1, { e.2 with intents := e.2.intents.map (fun (i : Intent) => { i with resync := true }) })
  { s with red := { s.red with sets := s.red.sets.map f } }

/-- The part starts to serve from TWILIGHT (R42, R365, R368): CUR, ANA Change, journal and maps live, key slots at the mirrored marks, members acquired. -/
def State.takeover (s : State) (cause : Nat) : State :=
  let swap := cause != 5
  let jseq := match s.nzl.swapEnd with
    | some (_, q) => max s.red.jseq (q + 1)
    | none => s.red.jseq
  let s0 := if s.flag SYS_MODE_NIGHT_PEND then (s.setFlag SYS_MODE_NIGHT_PEND false).setFld SYS_MODE_REQ_RESULT 4 else s
  let s1 := ({ s0 with nzl := { s0.nzl with pause := .takeover, swapEnd := none, parts := [], handback := false, lost := s0.nzl.lost && !swap }, red := { s0.red with jseq := jseq, holding := [] } }.lapse).enterMode 3 cause
  let s2 := (((s1.setFlag NZL_STAT_IN_STEP false).setAna 0xF).setPartner swap).emptyCache
  let keys := s2.nzl.keys
  let s3 := { s2 with nzl := { s2.nzl with keys := [] } }.each keys (fun t e => t.startKey e.1 e.2.1 e.2.2.1 e.2.2.2)
  let s4 := (s3.takeMembers.intentsResync.syncPfail.syncJrn).bump (if swap then CNT_NZL_SWAPS else CNT_NZL_TAKEOVERS)
  (s4.roleChange.syncRed).syncServing

/-- TAKEOVER_ADMISSION_OPEN (R365 step 6): every acquire has finished. -/
def execTakeoverAdmissionOpen (s : State) : Host.Outcome State Fault Refusal :=
  .next (if s.serving && s.sys.hold == .none && s.nzl.pause == .takeover && !s.setMembers.any (fun m => (s.mem m).acquiring) then
      { s with nzl := { s.nzl with pause := .none, locks := [] } }.setAna 1
    else s)

/-! ### Swaps (R57, R368–R370) -/

/-- Why a swap would be refused, as RESULT (R57); 0 where it is accepted. -/
def State.swapRefusal (s : State) : Nat :=
  if !s.serving || s.flag SYS_MODE_NIGHT_PEND then 2
  else if !s.partnered || s.fld NZL_STAT_PEER_MODE != 6 || s.nzl.peerStale || !s.nzl.peerStep || s.nzl.pause != .none then 3
  else 0

/-- Step 1 of a swap: ANA Change; commands not granted their lock end with Asymmetric Access Transition; a pending change lapses (R368, R384). -/
def State.startSwap (s : State) (handback : Bool) : State :=
  let s1 := ({ s with nzl := { s.nzl with pause := .swap, handback := handback } }.setAna 0xF).lapse
  (s1.endWaiting 0x303).each (s1.cmdq.cmds.filter (fun e => ioCmd e && (e.2.state == .placed || (e.2.state == .waiting && e.2.seg == 0)))) (fun t e => t.finish e.1 0x303)

/-- SWAP_DRAIN_TIMEOUT (R368 steps 2 and 3): commands still running end, those already appended complete once mirrored, and SWAP_END is sent. -/
def execSwapDrainTimeout (s : State) : Host.Outcome State Fault Refusal :=
  .next (if !(s.serving && s.sys.hold == .none && s.nzl.pause == .swap) then s else
    let s1 := (s.dropWindows).endWaiting 0x303
    let io := s1.cmdq.cmds.filter (fun e => ioCmd e && e.2.state != .done)
    let s2 := s1.each io (fun t e =>
      if e.2.mirror.isNone then t.finish e.1 0x303
      else if e.2.seg + 1 < (segsOf e.2.ranges).length then t.modCmd e.1 (fun c => { c with status := 0x303 }) else t)
    { s2 with nzl := { s2.nzl with pause := .ended } }.nzlSend (.swapEnd (s2.fld ENG_EPOCH_EPOCH) (s2.red.jseq - 1)))

/-- Steps 3 and 5 on the part that gives up service: TWILIGHT, in step (R368). -/
def State.yieldRole (s : State) : State :=
  let keys := (s.cip.slots.map (fun e => (e.1, (s.fld (CIP_KS_STAT_STATE e.1), (s.slot e.1).hwm, (s.slot e.1).record))))
  let hb := s.nzl.handback
  let s1 := ({ s with nzl := { s.nzl with pause := .none, handback := false, keys := keys, locks := [] } }.leaveService).enterMode 6 (if hb then 7 else 6)
  let s2 := (((s1.setPartner false).setFlag NZL_STAT_IN_STEP true).setAna 3).bump CNT_NZL_SWAPS
  (s2.cond hb (fun t => t.bump CNT_NZL_HANDBACKS)).roleChange

/-- HANDBACK_HOLDOFF (R369): the preferred part, in TWILIGHT and in step for HOLDOFF seconds, asks for the service. -/
def execHandbackHoldoff (s : State) : Host.Outcome State Fault Refusal :=
  .next (if s.mode = 6 && s.sys.hold == .none && s.flag NZL_CTL_REVERT_EN && s.flag NZL_STAT_IN_STEP && !s.flag NZL_STAT_STALE && decide (s.fld NZL_PEER_BASE < s.fld NZL_CLAIM_BASE)
    then { s with nzl := { s.nzl with handback := true } }.nzlSend .handback else s)

/-- HANDBACK_RX (R369): carried out as a swap, unless R57 refuses it. -/
def execHandbackRx (group : Fin 4) (m : NzlMsg) (s : State) : Host.Outcome State Fault Refusal :=
  .next (match m.body with
    | .handback => s.nzlRx group m (fun t => if t.swapRefusal = 0 then t.startSwap true else t)
    | _ => s)

/-- Device time in whole seconds. -/
def State.devSec (s : State) : Nat := s.devNs / 1000000000

/-- Hours since the last change of roles. -/
def State.roleHours (s : State) : Nat := (s.clock.nowNs - s.nzl.roleAt) / (3600 * 1000000000)

/-- SCHEDULED_SWAP (R370): a whole hour of device time begins; the swap is due at SWAP_HOUR, and a refused one every hour after. -/
def execScheduledSwap (s : State) : Host.Outcome State Fault Refusal :=
  .next (
    if !(s.serving && s.sys.hold == .none && s.flag NZL_CTL_SWAP_EN && decide (24 * max 1 (s.fld NZL_CTL_SWAP_DAYS) ≤ s.roleHours)) then s
    else if !s.nzl.swapRetry && s.devSec / 3600 % 24 != min 23 (s.fld NZL_CTL_SWAP_HOUR) then s
    else if s.swapRefusal = 0 then s.startSwap false
    else { s with nzl := { s.nzl with swapRetry := true } })

/-! ### The end of a round (R362–R365) -/

/-- The stage after a round (R364). -/
def State.judgeStage (s : State) (won : Bool) (win slots feeds : Nat) : State :=
  if !s.pdRuns then s
  else if won then
    (match s.nzl.stage with
      | .drive => s
      | .hold => s.enterDrive s.slp.gates s.slp.feedGate
      | .watch => s.enterDrive slots feeds)
  else if win = 0 then (if s.nzl.stage = .drive then s.setStage .hold else s)
  else s.setStage .watch

/-- A committed part in MORNING learns its role (R42): serving where it won, TWILIGHT and STALE where the other part did. -/
def State.morningRole (s : State) (won : Bool) (win : Nat) : State :=
  if won then
    let s1 := (({ s with nzl := { s.nzl with leaving := false } }.enterMode 3 3).setAna 1).roleChange
    ((s1.takeMembers).syncPfail.syncJrn.syncRed).syncServing
  else if win = 0 then s
  else ((((s.enterMode 6 4).setAna 3).becomeStale).roleChange)

/-- LOOP_CNT and LOOP_SW clear on entry to a serving mode or TWILIGHT (R51). -/
def State.clearLoop (s : State) : State :=
  if s.inService then ({ s with sys := { s.sys with served := true } }.setFld SYS_BOOT_LOOP_CNT 0).setFlag SYS_BOOT_LOOP_SW false else s

/-- The mode after a round. -/
def State.roundMode (s : State) (won : Bool) (win : Nat) : State :=
  if s.mode = 2 then (if s.fld SYS_CFG_STATUS = 3 then (s.morningRole won win).clearLoop else s)
  else if s.mode = 6 then
    if !won || s.flag NZL_STAT_STALE then s
    else if s.nzl.lost then { s with nzl := { s.nzl with won := true } }.takeover 5
    else match s.nzl.swapEnd with
      | some (id, _) => if s.appliedTo id then s.takeover (if s.nzl.handback then 7 else 6) else s
      | none => s
  else if s.serving then
    if s.nzl.pause = .ended then (if !won && win != 0 then s.yieldRole else s)
    else if !won && s.flag NZL_STAT_LOSS_HOLD then s.fenced
    else s
  else s

/-- CLAIM_ROUND_END (R362–R365): `win` is the value sampled; `slots` and `feeds` are the gates sampled in WATCH. CLAIM_FAULT clears after 10 rounds without
disagreement; a report goes to the partner. -/
def execClaimRoundEnd (win : Fin 65536) (slots : Word) (feeds : Fin 4) (s : State) : Host.Outcome State Fault Refusal :=
  .next (match s.nzl.round with
    | none => s
    | some c =>
      let s0 := { s with nzl := { s.nzl with round := none } }
      let won := claimWins c win.val && s.pdRuns
      let s1 := s0.judgeStage won win.val slots.toNat feeds.val
      if !s1.running then s1 else
      let s2 := ((s1.setFld NZL_CLAIM_STAT_SENT c).setFld NZL_CLAIM_STAT_WIN win.val).bump CNT_NZL_CLAIM_ROUNDS
      let n := s2.nzl.agree + 1
      let s3 := if !s2.flag NZL_STAT_CLAIM_FAULT then s2
        else if 10 ≤ n then { s2 with nzl := { s2.nzl with agree := 0 } }.setFlag NZL_STAT_CLAIM_FAULT false
        else { s2 with nzl := { s2.nzl with agree := n } }
      let s4 := s3.nzlSend (.report c win.val (s3.get64 CNT_NZL_CLAIM_ROUNDS % 2 ^ 32))
      let s5 := s4.roundMode won win.val
      s5.setFld NZL_SWAP_LEFT_HOURS (24 * max 1 (s5.fld NZL_CTL_SWAP_DAYS) - s5.roleHours))

/-- CLAIM_REPORT_RX (R363): the partner's report against this part's last round. -/
def execClaimReportRx (group : Fin 4) (m : NzlMsg) (s : State) : Host.Outcome State Fault Refusal :=
  .next (match m.body with
    | .report sent win _ => s.nzlRx group m (fun t =>
      let mine := t.fld NZL_CLAIM_STAT_WIN
      if win = mine && sent ≤ mine then t else
      let t1 := { t with nzl := { t.nzl with agree := 0 } }
      if t1.flag NZL_STAT_CLAIM_FAULT then t1 else ((t1.setFlag NZL_STAT_CLAIM_FAULT true).bump CNT_NZL_CLAIM_FAULTS).health 7)
    | _ => s)

end Sys2Proof.Machine
end

