-- ==== Sys2Proof/Machine/Gov.lean ====
section
/-! DEFINITION. The governor's slow tick and budget interval: buckets, sensors, LIMIT, fans, day profile, admission pass, clamp (R330–R345), with what else
counts budget intervals (R46, R55, R273, R279). -/

namespace Sys2Proof.Machine

/-! ### Sensors (R332) -/

/-- One sample of a sensor, in 0.25 °C. -/
def State.sample (s : State) (i : Nat) (x : Int) : State :=
  let far := match tget? s.gov.last i with
    | some p => decide (80 < (x - p).natAbs)
    | none => false
  let s1 := s.setFld (GOV_TS_TEMP i) (x % 2048).toNat
  if x < -200 || 600 < x || far then
    (({ s1 with gov := { s1.gov with good := tput s1.gov.good i 0 } }.setFlag (GOV_TS_FAULT i) true).bump CNT_GOV_SENSOR_FAULT).health 6
  else
    let s2 := { s1 with gov := { s1.gov with last := tput s1.gov.last i x } }
    let n := tget s2.gov.good i 0 + 1
    let out := s2.flag (GOV_TS_FAULT i) && decide (n < 32)
    if out then { s2 with gov := { s2.gov with good := tput s2.gov.good i n } } else
    let s3 := (s2.setFlag (GOV_TS_FAULT i) false)
    let use := s3.flag (GOV_TS_USE i)
    let g := s3.gov
    { s3 with gov := { g with good := tdel g.good i, valid := if i < 24 && !g.valid.contains i then g.valid ++ [i] else g.valid, tmax := if use then (match g.tmax with
      | none => some x
      | some m => some (max m x)) else g.tmax } }

/-- The samples of a slow tick, sensor 0 first; TS24 is sampled only while its USE is 1 (R468). -/
def State.samples (s : State) (ts : List Int) : State :=
  s.each ((List.range 25).zip ts) (fun t e => if e.1 < 24 || t.flag (GOV_TS_USE e.1) then t.sample e.1 e.2 else t)

/-! ### Buckets (R330, R342) -/

/-- Clusters running or clock-gated. -/
def State.awake (s : State) : Nat := 16 - (s.eng.gates.filter (fun e => e.1 < 16 && e.2 == .powerGated)).length

/-- Idle power charged to the members, in 0.01 W: ONLINE, SPARE_SPACE, REBUILDING and SUSPECT. -/
def State.idlePower (s : State) : Nat :=
  ((List.range 128).filter (fun m => s.isMember m)).foldl (fun n m => n + (if s.flag (GOV_DRV_IN_LOW m) then s.fld (GOV_DRV_IDLE_LOW m) else s.fld (GOV_DRV_IDLE_PS0 m))) 0

/-- BURST, 0 taken as 1. -/
def State.burstIntervals (s : State) : Nat := max 1 (s.fld GOV_CTL_BURST)

/-- The credit of one slow tick: 1 W over it is 62,500 units. -/
def State.credit (s : State) : State :=
  let c : Int := s.gov.chip + ((s.fld GOV_LIMIT_LIMIT * 15625 : Nat) : Int) - ((s.fld GOV_PMAX_BASE * 62500 + s.fld GOV_CTL_CL_IDLE * s.awake * 625 : Nat) : Int)
  let d : Int := if s.drvEnforced then min ((s.burstIntervals * s.drvCredit : Nat) : Int) (s.gov.drv + ((s.fld GOV_SHELF_SHELF_W * 62500 : Nat) : Int) - ((s.idlePower * 625 : Nat) : Int)) else s.gov.drv
  { s with gov := { s.gov with chip := min ((s.burstIntervals * s.chipCredit : Nat) : Int) c, drv := d } }

/-- Both levels at their caps, as on entry to MORNING (R331). -/
def State.fillBuckets (s : State) : State :=
  { s with gov := { s.gov with chip := ((s.burstIntervals * s.chipCredit : Nat) : Int), drv := ((s.burstIntervals * s.drvCredit : Nat) : Int) } }.syncLvl

/-! ### Day profile (R344) -/

/-- The profile is active. -/
def State.dpActive (s : State) : Bool := s.flag GOV_DP_CTL_EN && s.flag NET_TIME_CTL_VALID

/-- OFFSET in seconds, held to its range (R347). -/
def State.dpOffset (s : State) : Int := max (-43200) (min 50400 (signed 17 (s.fld GOV_DP_CTL_OFFSET)))

/-- Seconds of the local day. -/
def State.daySec (s : State) : Nat := (((s.devNs / 1000000000 : Nat) : Int) + s.dpOffset) % 86400 |>.toNat

/-- The entry of a slot, above 16 taken as 16. -/
def State.dpEntry (s : State) (slot : Nat) : Nat := min 16 (fieldOf (s.reg (GOV_DP (slot / 4))) (8 * (slot % 4)) 5)

/-- Recompute SLOT, ACTIVE and MIN_AWAKE. -/
def State.syncProfile (s : State) : State :=
  let slot := s.daySec / 1800
  let on := s.dpActive
  ((s.setFld GOV_DP_CUR_SLOT (if on then slot else s.fld GOV_DP_CUR_SLOT)).setFlag GOV_DP_CUR_ACTIVE on).setFld GOV_STAT_MIN_AWAKE (if on then s.dpEntry slot else 0)

/-! ### The admission pass (R338, R339, R341) -/

/-- Admit a deferred command. -/
def State.admitHeld (s : State) (h : Nat) : State := match s.cmd? h with
  | none => s
  | some c => ((s.chargeHost c).startWork h).settle h

/-- The heads of the Urgent class, while its test holds. -/
def State.passUrgent : Nat → State → State
  | 0, s => s
  | n + 1, s => match s.gov.urgent with
    | [] => s
    | h :: rest => if s.urgentOk then State.passUrgent n ({ s with gov := { s.gov with urgent := rest } }.admitHeld h) else s

/-- The heads of the shared queue, while its test holds. -/
def State.passShared : Nat → State → State
  | 0, s => s
  | n + 1, s => match s.gov.shared with
    | [] => s
    | h :: rest => if s.sharedOk then State.passShared n ({ s with gov := { s.gov with shared := rest } }.admitHeld h) else s

/-- Clusters below MIN_AWAKE that are power-gated are woken, in ascending number, in order 5. -/
def State.preWakes (s : State) : State :=
  s.each ((List.range 16).filter (fun c => decide (c < s.fld GOV_STAT_MIN_AWAKE) && s.gate c == .powerGated)) (fun t c =>
    if t.backOk then (((t.setGate c .awake).charge 9 1).bump CNT_GOV_PREWAKES).admitBack 5 else t.deferBack 5)

/-- The admission pass over the items that wait: the host classes, pre-wakes, prefetches and maintenance fetches, in their order. -/
def State.admissionPass (s : State) : State :=
  if !s.serving then s else
  let s1 := State.passUrgent s.gov.urgent.length s
  let s2 := State.passShared s1.gov.shared.length s1
  let s3 := s2.preWakes
  (s3.each (List.range s3.cch.fills.length) (fun t _ => t.admitFetches)).mntRun

/-! ### The slow tick -/

/-- GOV_SLOW_TICK (R330): `dt` nanoseconds after the last event; the sensors' samples in 0.25 °C, and FA and FB power of the tick's PDI frame in 0.1 W. In NIGHT the
tick counts the AON alarm (R345). -/
def execGovSlowTick (dt : Nat) (ts : List Int) (feed : Option Nat) (s : State) : Host.Outcome State Fault Refusal :=
  .next (
    if s.mode = 0 then (match s.gov.alarm with
      | some (n + 1) => { s with gov := { s.gov with alarm := some n } }
      | _ => s)
    else
    let s0 := s.pass dt
    if !s0.running then s0 else
    let s1 := s0.credit
    let f := feed.getD s1.gov.feedLast
    let s2 := { s1 with gov := { s1.gov with feedLast := f, feedSum := s1.gov.feedSum + f, ticks := s1.gov.ticks + 1 } }
    let s3 := ((s2.samples ts).syncProfile.admissionPass).syncLvl
    let s4 := if s3.gov.chip < 0 then s3.monEvent 128 0x080 1 else s3
    (if s4.gov.drv < 0 then s4.monEvent 128 0x081 1 else s4).syncServing)

/-! ### The budget interval end -/

/-- TJ_TARGET and EMERG in 0.25 °C; EMERG below TJ_TARGET is taken as TJ_TARGET (R347). -/
def State.tjTarget (s : State) : Int := ((4 * s.fld GOV_THERM_TJ_TARGET : Nat) : Int)
/-- EMERG. -/
def State.emergTemp (s : State) : Int := max s.tjTarget ((4 * s.fld GOV_THERM_EMERG : Nat) : Int)

/-- LIMIT for a temperature, in 0.25 W (R333). -/
def State.limitAt (s : State) (t : Int) : Nat :=
  let pmin := min (s.fld GOV_PMAX_PMIN) s.pmax
  if t ≤ s.tjTarget then 4 * s.pmax
  else (max ((4 * pmin : Nat) : Int) (((4 * s.pmax : Nat) : Int) - ((max 1 (s.fld GOV_PMAX_SLOPE) : Nat) : Int) * (t - s.tjTarget))).toNat

/-- The interval's TMAX (R332): EMERG with fewer than 20 valid on-die sensors; where no sensor with USE gave a valid sample the spec names none. -/
def State.intervalTmax (s : State) : Int :=
  if s.gov.valid.length < 20 then s.emergTemp else match s.gov.tmax with
  | some t => t
  | none => signed 11 (Config.freeNat s.free % 2048)

/-- TMAX, the emergency state and LIMIT. -/
def State.thermal (s : State) : State :=
  let t := s.intervalTmax
  let few := decide (s.gov.valid.length < 20)
  let em := if s.emergTemp ≤ t then true else if t < s.emergTemp - ((4 * s.fld GOV_THERM_HYST : Nat) : Int) then false else s.flag GOV_STAT_EMERG
  let s1 := (((s.useFree.setFld GOV_LIMIT_TMAX (t % 2048).toNat).setFld GOV_LIMIT_LIMIT (s.limitAt t)).setFlag GOV_STAT_EMERG em).setFlag GOV_STAT_SENSOR_FAULT few
  let lim := decide (s1.limitAt t < 4 * s1.pmax)
  let s2 := (s1.setFlag GOV_STAT_THERM_LIMIT lim).cond lim (fun u => u.bump CNT_GOV_THERM_LIMITED)
  { s2 with gov := { s2.gov with tmax := none, valid := [] } }.cond em (fun u => u.bump CNT_GOV_EMERG_INTERVALS)

/-- The fans' duty (R334); the linear part is exact where it is whole, else one of the two whole percents beside it. -/
def State.fanDuty (s : State) (t : Int) : Nat :=
  let lo := min 100 (s.fld GOV_FAN_MIN_DUTY)
  if s.flag GOV_STAT_EMERG then 100
  else if !s.flag GOV_FAN_AUTO then min 100 (s.fld GOV_FAN_MANUAL)
  else if t ≤ s.tjTarget - 100 then lo
  else if s.tjTarget ≤ t then 100
  else
    let n := (100 - lo) * (t - (s.tjTarget - 100)).toNat
    lo + n / 100 + (if n % 100 = 0 then 0 else (Config.freeBool s.free).toNat)

/-- FEED and feed trim (R343): 0.1 W over an interval is 200,000 units. -/
def State.feedTrim (s : State) : State :=
  let f := if s.gov.ticks = 0 then s.gov.feedLast else s.gov.feedSum / s.gov.ticks
  let s1 := { s with gov := { s.gov with feedSum := 0, ticks := 0 } }.setFld GOV_FEED_FEED f
  let m := 10 * s.fld GOV_SHELF_FEED_MAX
  if m != 0 && decide (m < f) && s.drvEnforced then
    { s1 with gov := { s1.gov with drv := s1.gov.drv - (((f - m) * 200000 : Nat) : Int) } }.bump CNT_GOV_FEED_TRIM
  else s1

/-- The clamp (R340). -/
def State.judgeClamp (s : State) : State :=
  let bad := s.flag GOV_STAT_THERM_LIMIT || s.flag GOV_STAT_EMERG || s.gov.deferredNow || !s.gov.urgent.isEmpty || !s.gov.shared.isEmpty
  let run := if bad then min 15 (s.fld GOV_STAT_RUN + 1) else 0
  let un := if bad then 0 else s.gov.unclamped + 1
  let clamp := if 9 ≤ run then true else if max 1 (s.fld GOV_DEFER_MAX_UNCLAMP) ≤ un then false else s.flag SYS_MODE_CLAMP
  let s1 := (((s.setFld GOV_STAT_RUN run).setFlag SYS_MODE_CLAMP clamp).setFlag GOV_STAT_CLAMP clamp).cond bad (fun u => u.bump CNT_GOV_CLAMPED)
  { s1 with gov := { s1.gov with unclamped := un, deferredNow := !s1.gov.urgent.isEmpty || !s1.gov.shared.isEmpty } }.syncServing

/-- Rebuild or a fill is pending in a set. -/
def State.rebuildPends (s : State) (set : Nat) (p : PSet) : Bool := !p.filling.isEmpty || !(s.rebuildWork set p).isEmpty

/-- Survivor members with rebuild work pending (R273). -/
def State.survivors (s : State) : Nat :=
  s.red.sets.foldl (fun n e => if s.rebuildPends e.1 e.2 then n + (e.2.slots.filter (fun x => s.memState x.2 == 1)).length else n) 0

/-- The floor reserve of the next interval (R338): none in the emergency state. -/
def State.nextFloor (s : State) : State :=
  let n := if s.flag GOV_STAT_EMERG then 0 else s.floorSectors * s.survivors
  { s with gov := { s.gov with resChip := n * s.fld (GOV_COST_CHIP 4), resDrv := n * s.fld (GOV_COST_DRIVE 4), floor := [] } }

/-- Stripes of a set that patrol should have read by now and has not (R279). -/
def State.patrolLag (s : State) (set : Nat) (p : PSet) : Nat :=
  let w := (s.writtenStripes set).length
  let period := min 365 (max 1 (s.fld RED_PATROL_CYCLE_DAYS)) * 86400000000000
  min w (w * (s.clock.nowNs - p.patrolAt) / period) - p.patrolled

/-- The pace of patrol at an interval end: BEHIND, and a new cycle where the old one has read all its stripes and its period is over. -/
def State.patrolPace (s : State) : State :=
  if !s.flag RED_CTL_PATROL_EN then s else
  let period := min 365 (max 1 (s.fld RED_PATROL_CYCLE_DAYS)) * 86400000000000
  let next (e : Nat × PSet) : Nat × PSet :=
    if period ≤ s.clock.nowNs - e.2.patrolAt && (s.patrolNext e.1 e.2).isNone then (e.1, { e.2 with patrol := 0, patrolled := 0, patrolAt := e.2.patrolAt + period }) else e
  let s1 := { s with red := { s.red with sets := s.red.sets.map next } }
  s1.setFld RED_PATROL_BEHIND (min 0xFFFF (s1.red.sets.foldl (fun n e => n + s1.patrolLag e.1 e.2) 0))

/-- Deferred host commands grow one interval older (R339). -/
def State.ageDeferred (s : State) : State :=
  { s with cmdq := { s.cmdq with cmds := s.cmdq.cmds.map (fun (e : Nat × Cmd) => (e.1, { e.2 with deferred := e.2.deferred.map (· + 1) })) } }

/-- The watchdog counts an interval end (R55), and so does the limit of a NIGHT drain (R46). -/
def State.countInterval (s : State) : State :=
  let s1 := if s.sys.wdogArmed then s.setFld SYS_WDOG_STAT_REMAIN (s.fld SYS_WDOG_STAT_REMAIN - 1) else s
  if s1.flag SYS_MODE_NIGHT_PEND then { s1 with sys := { s1.sys with drainCount := s1.sys.drainCount + 1 } } else s1

/-- An interval end is counted by the monitoring block (R441, R448). -/
def State.monInterval (s : State) : State :=
  { s with mon := { s.mon with hwin := s.mon.hwin + 1 } }.each (List.range 129) (fun t g => t.monEvent g 2 1)

/-- GOV_INTERVAL_END (R330). -/
def execGovIntervalEnd (s : State) : Host.Outcome State Fault Refusal :=
  .next (
    if s.mode = 0 || s.sys.hold != .none then s else
    let s0 := s.countInterval.cond s.powered State.monInterval
    if !s0.running then s0 else
    let s1 := s0.ageDeferred.cond (s0.flag GOV_STAT_EMERG && s0.red.sets.any (fun e => s0.rebuildPends e.1 e.2)) (fun t => t.bump CNT_RED_FLOOR_SKIP)
    let t := s1.intervalTmax
    let s2 := s1.thermal
    let s3 := (s2.useFree.setFld GOV_FAN_DUTY (s2.fanDuty t)).feedTrim
    ((s3.judgeClamp.nextFloor.patrolPace).bump CNT_GOV_INTERVALS).syncLvl)

/-- DEFER_EXPIRY (R339): a command still deferred at the first interval end past GOV_DEFER_MAX ends with 0xC4; a window request has its stall limit instead (R337). -/
def execDeferExpiry (handle : Nat) (s : State) : Host.Outcome State Fault Refusal :=
  .next (match s.cmd? handle with
    | none => s
    | some c => match c.deferred with
      | none => s
      | some k =>
        if !s.running || 65536 ≤ handle || k ≤ max 1 (s.fld GOV_DEFER_MAX_MAX) then s else
        let s1 := { s with gov := { s.gov with urgent := s.gov.urgent.filter (fun x => x != handle), shared := s.gov.shared.filter (fun x => x != handle) } }
        (s1.finish handle 0x7C4).bump CNT_GOV_DEFER_EXPIRED)

/-- DRIVE_IDLE_LOW (R342): Set Features 0x02 to LOW_PS for a member with no command outstanding or waiting for DRV_IDLE. -/
def execDriveIdleLow (member : Member) (s : State) : Host.Outcome State Fault Refusal :=
  .next (
    let m := member.val
    let busy := s.dpt.cmds.any (fun e => e.2.req.member == m) || s.dpt.todo.any (fun r => r.member == m)
    if !s.running || !s.isMember m || busy || s.fld (GOV_DRV_LOW_PS m) = 0 || s.fld GOV_CTL_DRV_IDLE = 0 || s.flag (GOV_DRV_IN_LOW m) then s
    else (s.drvAdmin m (s.fld (GOV_DRV_LOW_PS m)) (.admin 1)).bump CNT_GOV_DRV_LOW)

end Sys2Proof.Machine
end

