-- ==== Sys2Proof/Machine/Hep.lean ====
section
/-! DEFINITION. The host endpoint: configuration requests, the link, PF1's reads and their failures, bus master disable, function level resets, the
local admin page, the diagnostic aperture, MSI-X tables (R391–R407). -/

namespace Sys2Proof.Machine

/-! ### What the endpoint shows -/

/-- Bring HEP_STAT and the tag registers up to date (R414). -/
def State.syncHep (s : State) : State :=
  let s1 := (((s.setFlag HEP_STAT_PF0_D3 s.hep.pf0.d3hot).setFlag HEP_STAT_PF1_D3 s.hep.pf1.d3hot).setFlag HEP_STAT_PF0_BME s.hep.pf0.bme).setFlag HEP_STAT_PF1_BME s.hep.pf1.bme
  ((s1.setFlag HEP_STAT_REPORT_PEND (!s.hep.report.isEmpty)).setFld HEP_TAG_STAT_CTV s.hep.pf1.cto).syncPciTags

/-- Completion timeout in ns of a Completion Timeout Value (R401). -/
def ctoNs (v : Nat) : Nat := match v with
  | 1 => 50000
  | 2 => 10000000
  | 6 => 200000000
  | 9 => 900000000
  | 10 => 3500000000
  | 13 => 13000000000
  | 14 => 64000000000
  | _ => 50000000

/-- Record AER status bits of PF1 (R402, R403). -/
def State.aer (s : State) (unc cor : Nat) : State :=
  { s with hep := { s.hep with pf1 := { s.hep.pf1 with aerUnc := s.hep.pf1.aerUnc ||| unc, aerCor := s.hep.pf1.aerCor ||| cor } } }

/-! ### Reads of host memory (R400–R403) -/

/-- Issue the waiting reads that find a tag. -/
def State.pciPump (s : State) : Nat → State
  | 0 => s
  | fuel + 1 => match s.hep.waiting, s.pciFreeTag with
    | r :: rest, some t => ({ s with hep := { s.hep with waiting := rest } }.pciIssue t { r with cto := s.hep.pf1.cto, born := s.clock.nowNs }).pciPump fuel
    | _, _ => s

/-- A tag has come free, or the enables have changed: a new tag count takes effect once every tag is free (R400), and waiting reads are issued. -/
def State.retag (s : State) : State :=
  let s1 := if s.hep.reads.isEmpty && s.hep.quar.isEmpty then { s with hep := { s.hep with tags := s.hep.pf1.tagCount } } else s
  (s1.pciPump (s1.hep.waiting.length + 1)).syncPciTags

/-- Two reads belong to one request (R402). -/
def ReadPurpose.same (a b : ReadPurpose) : Bool := match a, b with
  | .writeData x, .writeData y => x == y
  | .doorbell x, .doorbell y => x == y
  | .entries x _ _, .entries y _ _ => x == y
  | _, _ => false

/-- The other reads of a failed request: those in flight are not used, those waiting are not issued. -/
def State.deadReads (s : State) (p : ReadPurpose) : State :=
  { s with hep := { s.hep with reads := s.hep.reads.map (fun (e : Nat × PciRead) => (e.1, { e.2 with dead := e.2.dead || p.same e.2.purpose })), waiting := s.hep.waiting.filter (fun r => !p.same r.purpose) } }

/-- A ring forgets the chunks that have not been handed on: they are left unfetched (R402, R404). -/
def Queue.unfetch (q : Queue) : Queue := { q with toFetch := [], early := [], fetching := q.entryIn.foldl (fun n e => n + e.1) 0 }

/-- A request to host memory fails, by its kind (R402). -/
def State.failRead (s : State) (p : ReadPurpose) : State :=
  let s1 := s.deadReads p
  match p with
  | .doorbell q => s1.modQueue q (fun x => { x with dbOut := false, dbDue := false })
  | .entries q _ _ => s1.modQueue q Queue.unfetch
  | .writeData h => match s1.cmd? h with
    | some c => if c.arrived then s1 else s1.finish h 0x004
    | none => s1

/-- The data of a read has come back whole. -/
def State.readBack (s : State) (r : PciRead) (data stamp : Nat) : State := match r.purpose with
  | .writeData h =>
    let s1 := s.modCmd h (fun c => { c with data := c.data + data * 2 ^ (8 * r.off) })
    if s1.hep.reads.any (fun e => r.purpose.same e.2.purpose) || s1.hep.waiting.any (fun x => r.purpose.same x.purpose) then s1 else
    s1.modCmd h (fun c => { c with arrived := true })
  | p => s.readDone p data 84 (mkStamp stamp 84 0)

/-- Remove a read from flight. -/
def State.endRead (s : State) (t : Nat) : State := { s with hep := { s.hep with reads := tdel s.hep.reads t } }

/-- AER bit of a completion status: UR 1, CA 2, poisoned 3. -/
def cplBit (status : Nat) : Nat := match status with
  | 1 => 2 ^ 20
  | 2 => 2 ^ 15
  | _ => 2 ^ 12

/-- PCIE_COMPLETION_RX (R402, R403): `status` is 0 successful, 1 UR, 2 CA, 3 poisoned; `bytes` and `data` what this completion brings; `stamp` the
stamp count of R100 at its arrival. -/
def execPcieCompletionRx (tag : Fin 1024) (status : Fin 4) (bytes data stamp : Nat) (s : State) : Host.Outcome State Fault Refusal :=
  .next (if !s.powered then s else match tget? s.hep.reads tag with
    | none => (s.wakeLink.bump CNT_HEP_LATE_CPL).aer (2 ^ 16) (2 ^ 13)
    | some r =>
      let s0 := s.wakeLink
      if status.val != 0 then
        let s1 := ((s0.aer (cplBit status) 0).bump CNT_HEP_CPL_ERR).endRead tag
        (if r.dead then s1 else s1.failRead r.purpose).retag
      else
        let got := r.got + bytes
        let d := r.data + data % 2 ^ (8 * bytes) * 2 ^ (8 * r.got)
        if got < r.bytes then { s0 with hep := { s0.hep with reads := tput s0.hep.reads tag { r with got := got, data := d } } }
        else
          let s1 := s0.endRead tag
          (if r.dead then s1 else s1.readBack r (d % 2 ^ (8 * r.bytes)) stamp).retag)

/-- COMPLETION_TIMEOUT (R401–R403): the timeout in force when the read was issued has passed. -/
def execCompletionTimeout (tag : Fin 1024) (dt : Nat) (s : State) : Host.Outcome State Fault Refusal :=
  let s0 := s.pass dt
  .next (match tget? s0.hep.reads tag with
    | none => s0
    | some r =>
      if !s0.powered || s0.clock.nowNs < r.born + ctoNs r.cto then s0 else
      let s1 := ((s0.aer (2 ^ 14) 0).bump CNT_HEP_CPL_TIMEOUT).endRead tag
      let s2 := { s1 with hep := { s1.hep with quar := tput s1.hep.quar tag (s1.clock.nowNs + 2 * ctoNs r.cto) } }
      (if r.dead then s2 else s2.failRead r.purpose).retag)

/-- TAG_QUARANTINE_END (R403). -/
def execTagQuarantineEnd (tag : Fin 1024) (dt : Nat) (s : State) : Host.Outcome State Fault Refusal :=
  let s0 := s.pass dt
  .next (match tget? s0.hep.quar tag with
    | none => s0
    | some t => if t ≤ s0.clock.nowNs then { s0 with hep := { s0.hep with quar := tdel s0.hep.quar tag } }.retag else s0)

/-- Every outstanding read tag is quarantined from now, and no waiting read is issued (R404, R405). -/
def State.quarantineAll (s : State) : State :=
  let q := s.hep.reads.foldl (fun l (e : Nat × PciRead) => tput l e.1 (s.clock.nowNs + 2 * ctoNs e.2.cto)) s.hep.quar
  { s with hep := { s.hep with reads := [], waiting := [], quar := q } }

/-! ### Bus Master Enable of PF1 (R404) -/

/-- Insert by stamp. -/
def insReport (x : Nat × Nat × Nat) : List (Nat × Nat × Nat) → List (Nat × Nat × Nat)
  | [] => [x]
  | y :: l => if x.1 < y.1 then x :: y :: l else y :: insReport x l

/-- In admission order. -/
def sortReport (l : List (Nat × Nat × Nat)) : List (Nat × Nat × Nat) := l.foldr insReport []

/-- BME of PF1 is cleared: no request leaves, outstanding tags are quarantined, and the affected commands without their lock grant end. -/
def State.bmeClear (s : State) : State :=
  if !s.hep.pf1.bme then s else
  let purposes := s.hep.reads.map (fun e => e.2.purpose) ++ s.hep.waiting.map (fun r => r.purpose)
  let s1 := { s with hep := { s.hep with pf1 := { s.hep.pf1 with bme := false } } }.quarantineAll
  let qs := s1.cmdq.queues.filter (fun e => e.2.type == 3)
  let mine := s1.cmdq.cmds.filter (fun e => match e.2.queue with
    | some qi => qs.any (fun x => x.1 == qi)
    | none => false)
  let on := mine.filter (fun e => e.2.state.past || e.2.state == .done)
  let off := mine.filter (fun e => !(e.2.state.past || e.2.state == .done))
  let qid (c : Cmd) : Nat := match c.queue.bind s1.queue? with
    | some q => q.qid
    | none => 0
  let ended := sortReport (off.map (fun e => (e.2.stamp, qid e.2, e.2.cid))
    ++ qs.flatMap (fun e => e.2.inbox.map (fun c => (c.stamp, e.2.qid, sqeCid c.sqe)) ++ e.2.waiting.map (fun c => (c.stamp, e.2.qid, c.cid))))
  let s2 := s1.each off (fun t e => t.endCmd e.1)
  let s3 := s2.each qs (fun t e => t.modQueue e.1 (fun q => { q with inbox := [], waiting := [], entryIn := [], toFetch := [], early := [], fetching := 0, dbWord := none, dbOut := false, dbDue := false }))
  let s4 := { s3 with cmdq := { s3.cmdq with assocs := s3.cmdq.assocs.map (fun (e : Nat × Assoc) => if e.2.isLocal then (e.1, { e.2 with aers := [] }) else e) }, hep := { s3.hep with affected := on.map (fun (e : Nat × Cmd) => e.1), report := (s3.hep.report ++ ended).take 65536 } }
  (s4.each purposes (fun t p => match p with
    | .writeData _ => t.failRead p
    | _ => t)).syncHep

/-- BME of PF1 is set: the listed commands are reported in admission order, and fetching and nudges resume. -/
def State.bmeSet (s : State) : State :=
  if s.hep.pf1.bme then s else
  let l := sortReport s.hep.report
  let s1 := { s with hep := { s.hep with pf1 := { s.hep.pf1 with bme := true }, report := [] } }
  let s2 := s1.each l (fun t e => match t.cmdq.queues.find? (fun x => x.2.type == 3 && x.2.qid == e.2.1) with
    | some x => (t.postCqe x.1 e.2.2 0x007 0 0).bump CNT_HEP_BME_ABORTS
    | none => t)
  ((s2.drainNudges).msixFlush).syncHep

/-- PF1 exists and the endpoint answers. -/
def State.pf1Here (s : State) : Bool := s.powered && s.flag HEP_STAT_PF1_PRESENT

/-- BME_CLEAR (R404). -/
def execBmeClear (s : State) : Host.Outcome State Fault Refusal := .next (s.cond s.pf1Here State.bmeClear)

/-- BME_SET (R404). -/
def execBmeSet (s : State) : Host.Outcome State Fault Refusal := .next (s.cond s.pf1Here State.bmeSet)

/-! ### Function level resets and PERST_N (R405, R406) -/

/-- What a function keeps over an FLR: its error status, its payload size and its ASPM control. -/
def Func.afterFlr (f : Func) : Func := { mps := f.mps, aspm := f.aspm, aerUnc := f.aerUnc, aerCor := f.aerCor }

/-- The work of PF1 ends (R405). -/
def State.pf1Flush (s : State) : State :=
  let s1 := match s.localAssoc with
    | some a => s.assocReset a
    | none => s
  let s2 := ({ s1 with cmdq := { s1.cmdq with nudges := [] }, hep := { s1.hep with report := [], affected := [] } }.quarantineAll).clearRegs 0x10001000 0x10001020
  ((s2.syncNudge).syncLtr).syncCmds

/-- The work of PF0 ends: both directions of MB0–MB3 are emptied and the aperture is disabled (R405). -/
def State.pf0Flush (s : State) : State :=
  let s1 := { s with mbx := { s.mbx with dirs := s.mbx.dirs.filter (fun e => 8 ≤ e.1), part := [] } }.setFlag HEP_DIAG_EN false
  (s1.each [0, 1, 2, 3] State.syncMbx).mbxPump

/-- FLR_PF1 (R405). -/
def execFlrPf1 (s : State) : Host.Outcome State Fault Refusal :=
  .next (s.cond s.pf1Here (fun t =>
    let t1 := t.pf1Flush
    (({ t1 with hep := { t1.hep with pf1 := t1.hep.pf1.afterFlr } }.retag).syncHep).bump CNT_HEP_FLR_EVENTS))

/-- FLR_PF0 (R405). -/
def execFlrPf0 (s : State) : Host.Outcome State Fault Refusal :=
  .next (s.cond s.powered (fun t =>
    let t1 := { t with hep := { t.hep with pf0 := t.hep.pf0.afterFlr } }
    ((t1.pf0Flush).syncHep).bump CNT_HEP_FLR_EVENTS))

/-- The link goes down and both functions are reset. -/
def State.linkDown (s : State) : State :=
  let s1 := { s with hep := { s.hep with linkUp := false } }
  let s2 := ((s1.setFld HEP_STAT_LPS 0).setFld HEP_STAT_WIDTH 0).setFld HEP_STAT_RATE 0
  let s3 := (s2.pf1Flush).pf0Flush
  ({ s3 with hep := { s3.hep with pf0 := {}, pf1 := {} } }.retag).syncHep

/-- PERST_ASSERT (R406). -/
def execPerstAssert (s : State) : Host.Outcome State Fault Refusal := .next (s.cond s.powered State.linkDown)

/-- The link trains (R49, R406): `lanes` and `rate` are what it reaches, 0 lanes where no host is connected. -/
def State.linkTrain (s : State) (lanes rate : Nat) : State :=
  if lanes = 0 || s.hep.linkUp then s else
  (({ s with hep := { s.hep with linkUp := true } }.setFld HEP_STAT_LPS 1).setFld HEP_STAT_WIDTH lanes).setFld HEP_STAT_RATE (max 1 rate)

/-! ### Link power (R399) -/

/-- L0S_ENTRY. -/
def execL0sEntry (s : State) : Host.Outcome State Fault Refusal :=
  .next (s.cond (s.powered && s.fld HEP_STAT_LPS == 1 && s.flag HEP_LINK_PM_L0S_AUTO && bitOf s.hep.pf0.aspm 0)
    (fun t => (t.setFld HEP_STAT_LPS 2).bump CNT_HEP_L0S_ENTRIES))

/-- L1_ENTRY: no request is outstanding and no MSI-X message is waiting. -/
def execL1Entry (s : State) : Host.Outcome State Fault Refusal :=
  .next (s.cond (s.powered && (s.fld HEP_STAT_LPS == 1 || s.fld HEP_STAT_LPS == 2) && s.flag HEP_LINK_PM_L1_AUTO && bitOf s.hep.pf0.aspm 1
      && s.hep.reads.isEmpty && s.hep.waiting.isEmpty && s.hep.pf0.pba.isEmpty && s.hep.pf1.pba.isEmpty)
    (fun t => (t.setFld HEP_STAT_LPS 3).bump CNT_HEP_L1_ENTRIES))

/-! ### The local admin page (R397) -/

/-- The lowest association number that no association and no queue pair holds. -/
def State.freeAssoc (s : State) : Option Nat :=
  (List.range 1024).find? (fun a => (s.assoc? a).isNone && !s.rdm.qps.any (fun e => e.2.state != 0 && e.2.assoc == a))

/-- EN is set: the association is created and QID 0 attached, or ERR says why not. -/
def State.admOpen (s : State) : State :=
  if s.flag ADM_STAT_RDY then s
  else if s.classOf .pf1 = 0 then s.setFld ADM_STAT_ERR 3
  else if s.get64 ASQ_BASE % 64 != 0 || s.get64 ACQ_BASE % 64 != 0 || s.get64 ADB_ADDR % 8 != 0 then s.setFld ADM_STAT_ERR 2
  else match s.freeAssoc with
  | none => s.setFld ADM_STAT_ERR 1
  | some a =>
    let s1 := s.openAssoc a { isLocal := true, kato := s.fld ADM_CTL_KATO, port := 84, kaAt := s.clock.nowNs }
    let s2 := s1.setQueue (16384 + a) { type := 3, cls := 0, assoc := a, qid := 0, entriesM1 := max 1 (s.fld ADM_CTL_ENTRIES_M1), vector := s.fld ADM_CTL_VECTOR, ien := s.flag ADM_CTL_IEN, sqBase := s.get64 ASQ_BASE, cqBase := s.get64 ACQ_BASE, dbAddr := s.get64 ADB_ADDR }
    ((s2.setFld ADM_STAT_ERR 0).setFld ADM_STAT_ASSOC a).setFlag ADM_STAT_RDY true

/-- A write to ADM_CTL: while RDY is 1 only EN is taken, and any other change is malformed. -/
def State.admWrite (s : State) (v : Word) : State :=
  let en := fieldOf v 0 1
  let s1 := if s.flag ADM_STAT_RDY then
      (if fieldOf v 1 31 = fieldOf (s.reg ADM_CTL) 1 31 then s else s.malformed).setFld ADM_CTL_EN en
    else s.setReg ADM_CTL v
  if en = 1 then s1.admOpen
  else match s1.localAssoc with
    | some a => (s1.assocReset a).syncCmds
    | none => s1

/-- LOCAL_ADMIN_ENABLE: `val` is the word PF1 writes to ADM_CTL; its EN is 1. -/
def execLocalAdminEnable (val : Word) (s : State) : Host.Outcome State Fault Refusal := .next (s.pf1Access (fun t => t.admWrite (val ||| 1)))

/-- LOCAL_ADMIN_DISABLE: its EN is 0. -/
def execLocalAdminDisable (val : Word) (s : State) : Host.Outcome State Fault Refusal := .next (s.pf1Access (fun t => t.admWrite (val &&& 0xFFFFFFFE)))

/-! ### The diagnostic aperture (R396) -/

/-- DIAG_APERTURE_READ: a 4-byte read by PF0; `data` is what the DRAM holds there after correction, `ue` that it meets an uncorrectable error. -/
def execDiagApertureRead (off : Fin 134217728) (data : Word) (ue : Bool) (s : State) : Host.Outcome State Fault Refusal :=
  .next (if !s.reachable .pf0 then s
    else if off.val % 4 != 0 then s.malformed.emit (.diagData off (some 0))
    else if !(s.flag HEP_DIAG_EN && decide (2 ≤ s.classOf .pf0)) || s.fld DMC_PART_STAT_USABLE_GIB * 2 ^ 30 ≤ s.fld HEP_DIAG_BASE * 2 ^ 27 + off then s.emit (.diagData off (some 0))
    else if ue then (s.bump CNT_HEP_DIAG_UE).emit (.diagData off none)
    else s.emit (.diagData off (some data)))

/-! ### MSI-X tables (R392, R395) -/

/-- Write a dword of a function's MSI-X table: address, data, mask. -/
def Func.msixPut (f : Func) (off : Nat) (v : Word) : Func :=
  let e := tget f.table (off / 16) {}
  let e1 : MsixEntry := match off / 4 % 4 with
    | 0 => { e with addr := e.addr / 2 ^ 32 * 2 ^ 32 + v.toNat / 4 * 4 }
    | 1 => { e with addr := e.addr % 2 ^ 32 + v.toNat * 2 ^ 32 }
    | 2 => { e with data := v.toNat }
    | _ => { e with mask := fieldOf v 0 1 == 1 }
  { f with table := tput f.table (off / 16) e1 }

/-- A dword of a function's MSI-X table or PBA. -/
def Func.msixGet (f : Func) (off : Nat) : Nat :=
  if off < 0x8000 then
    let e := tget f.table (off / 16) {}
    match off / 4 % 4 with
    | 0 => e.addr % 2 ^ 32
    | 1 => e.addr / 2 ^ 32
    | 2 => e.data
    | _ => e.mask.toNat
  else (List.range 32).foldl (fun n b => if f.pba.contains ((off - 0x8000) / 4 * 32 + b) then n + 2 ^ b else n) 0

/-- A write to the MSI-X window of a function at an offset in it; the PBA discards writes. -/
def State.msixWrite (s : State) (pf1 : Bool) (off : Nat) (v : Word) : State :=
  if 0x8000 ≤ off then s
  else if pf1 then { s with hep := { s.hep with pf1 := s.hep.pf1.msixPut off v } }.msixFlush
  else { s with hep := { s.hep with pf0 := s.hep.pf0.msixPut off v } }.msixFlush

/-! ### Configuration requests (R49, R391–R404) -/

/-- What a configuration request writes in a function. -/
def Func.config (f : Func) (what : CfgReq) : Func := match what with
  | .read => f
  | .d3hot b => { f with d3hot := b }
  | .msix en mask => { f with msixEn := en, msixMask := mask }
  | .cto v => { f with cto := v }
  | .tags ext ten => { f with extTag := ext, tag10 := ten }
  | .ltr en => { f with ltrEn := en }
  | .sizes mps mrrs => { f with mps := 128 * 2 ^ mps.val, mrrs := 128 * 2 ^ mrrs.val }
  | .aspm v => { f with aspm := v }
  | .rom en => { f with romEn := en }
  | .busMaster b => { f with bme := b }
  | .aerClear unc cor => { f with aerUnc := f.aerUnc - (f.aerUnc &&& unc.toNat), aerCor := f.aerCor - (f.aerCor &&& cor.toNat) }

/-- CONFIGURATION_REQUEST (R49): retried before MORNING, else applied; Bus Master Enable of PF1 acts as R404 says. -/
def execConfigurationRequest (pf1 : Bool) (what : CfgReq) (s : State) : Host.Outcome State Fault Refusal :=
  .next (if !s.hep.linkUp || s.sys.hold != .none || s.mode = 0 then s
    else if s.mode = 1 then s.emit .cfgRetry
    else if pf1 then
      if !s.pf1Here then s else match what with
      | .busMaster true => s.bmeSet
      | .busMaster false => s.bmeClear
      | _ => (({ s with hep := { s.hep with pf1 := s.hep.pf1.config what } }.retag).msixFlush).syncHep
    else
      let s1 := { s with hep := { s.hep with pf0 := s.hep.pf0.config what } }
      (s1.msixFlush).syncHep)

end Sys2Proof.Machine
end

