-- ==== Sys2Proof/Machine/Mbox.lean ====
section
/-! DEFINITION. The mailbox channels: pushes, pops, acknowledgements, far ends, and the channels carried by the Narzan link (R408–R412, R356). -/

namespace Sys2Proof.Machine

/-- A channel carried to the partner (R408). -/
def isNarzanChan (n : Nat) : Bool := decide (4 ≤ n ∧ n ≤ 7)

/-- The direction an end sends in, and whether that end can act. -/
def State.mbxSend (s : State) (who : MbxEnd) (n : Nat) : Option Nat := match who with
  | .bar0 _ => some (2 * n)
  | .mgmt => if s.powered && !(decide (n < 4) && bitOf s.mbx.halted n) then some (2 * n + 1) else none
  | .cluster => if s.powered && decide (8 ≤ n) && !s.farDown (2 * n + 1) then some (2 * n) else none

/-- The direction an end receives from. -/
def State.mbxRecv (s : State) (who : MbxEnd) (n : Nat) : Option Nat := (s.mbxSend who n).map (fun d => if d % 2 = 0 then d + 1 else d - 1)

/-- A push into a direction whose far end is down, natively (R411). -/
def State.mbxFarDown (s : State) (d : Nat) : State := (s.bump CNT_MBX_FAR_DOWN_ERR).mbxErr d MBX_STAT_FAR_DOWN

/-- A push that finds no room (R409). -/
def State.mbxOver (s : State) (d : Nat) : State := (s.bump CNT_MBX_OVERRUN).mbxErr d MBX_STAT_OVR

/-- Close a message; on a Narzan channel it leaves as an MBOX message and is kept until the partner frees it (R351, R409). -/
def State.mbxEom (s : State) (d : Nat) : State :=
  let n := d / 2
  if isNarzanChan n then
    let x := s.mbxDir d
    let s1 := (s.setMbxDir d { x with closed := true, ackReg := s.ackMode n, held := s.farDown d }).bump CNT_MBX_MSG_SENT
    (s1.cond (!s.farDown d) (fun t => t.nzlSend (.mbox n 1 x.words 0))).syncMbx n
  else s.mbxClose d

/-- MC0's pushes toward PF0 gather into a message that joins the backlog shared with the notices (R408). -/
def State.pushMc0 (s : State) (w : Word) (eom : Bool) : State :=
  if s.farDown 1 && !bitOf (s.fld MBX_CTL_COMPAT) 0 then s.mbxFarDown 1
  else if 8 ≤ s.mbx.part.length || (eom && decide (4096 ≤ s.mbx.backlog.length)) then s.mbxOver 1
  else
    let m := s.mbx.part ++ [w]
    if eom then { s with mbx := { s.mbx with part := [], backlog := s.mbx.backlog ++ [m] } }.mbxPump else { s with mbx := { s.mbx with part := m } }

/-- Push one word into a direction (R409, R411). -/
def State.mbxPush (s : State) (d : Nat) (w : Word) (eom : Bool) : State :=
  if d = 1 then s.pushMc0 w eom else
  let x := s.mbxDir d
  if s.farDown d && !bitOf (s.fld MBX_CTL_COMPAT) (d / 2) then s.mbxFarDown d
  else if x.closed || 8 ≤ x.words.length then s.mbxOver d
  else
    let s1 := (s.setMbxDir d { x with words := x.words ++ [w] }).syncMbx (d / 2)
    if eom then s1.mbxEom d else s1

/-- A push by an end. PF0's is a register write; other requesters reach no mailbox data register (R415). -/
def State.pushBy (s : State) (who : MbxEnd) (n off : Nat) (w : Word) (eom : Bool) : State := match who with
  | .bar0 r => s.accessWrite r off (fun t => t.mbxPush (2 * n) w eom)
  | _ => match s.mbxSend who n with
    | some d => s.mbxPush d w eom
    | none => s

/-- MBX_TX (R409). -/
def execMbxTx (who : MbxEnd) (chan : Fin 24) (word : Word) (s : State) : Host.Outcome State Fault Refusal := .next (s.pushBy who chan (MBX_TX chan) word false)

/-- MBX_TX_EOM (R409). -/
def execMbxTxEom (who : MbxEnd) (chan : Fin 24) (word : Word) (s : State) : Host.Outcome State Fault Refusal := .next (s.pushBy who chan (MBX_TX_EOM chan) word true)

/-- A direction is freed by its receiver; the partner learns it by an MBOX message on a Narzan channel (R356, R410). -/
def State.mbxRelease (s : State) (d : Nat) (code : Option Nat) : State :=
  let n := d / 2
  if isNarzanChan n then match code with
    | some c => ((s.setMbxDir d {}).nzlSend (.mbox n 3 [] c)).syncMbx n
    | none => ((s.setMbxDir d {}).nzlSend (.mbox n 2 [] 0)).syncMbx n
  else s.mbxFree d code

/-- The word a read of MBX_RX returns from a direction (R409, R411). -/
def State.mbxHead (s : State) (d : Nat) : Word :=
  let x := s.mbxDir d
  if x.closed && !x.held then x.words.headD 0
  else if s.farDown (if d % 2 = 0 then d + 1 else d - 1) && !bitOf (s.fld MBX_CTL_COMPAT) (d / 2) then 0xDEAD0D00 else 0

/-- What that read does: it pops the word, frees the direction with the last word in EMPTY_IRQ mode, or notes that the sender's end is down. -/
def State.mbxPop (s : State) (d : Nat) : State :=
  let x := s.mbxDir d
  if x.closed && !x.held then match x.words with
    | [] => s
    | _ :: rest =>
      if rest.isEmpty && !x.ackReg then s.mbxRelease d none else (s.setMbxDir d { x with words := rest }).syncMbx (d / 2)
  else if s.farDown (if d % 2 = 0 then d + 1 else d - 1) && !bitOf (s.fld MBX_CTL_COMPAT) (d / 2) && d = rxDir (d / 2) then
    (s.setFlag (MBX_STAT_FAR_DOWN (d / 2)) true).mbxIrq (d / 2) MBX_IRQ_ERR MBX_IRQ_ERR_EN
  else s

/-- MBX_RX (R409–R411). -/
def execMbxRx (who : MbxEnd) (chan : Fin 24) (s : State) : Host.Outcome State Fault Refusal :=
  .next (match who with
    | .bar0 r => s.accessRead r (MBX_RX chan) (s.mbxHead (2 * chan + 1)) (fun t => t.mbxPop (2 * chan + 1))
    | _ => match s.mbxRecv who chan with
      | some d => (s.emit (.mbxRead d (s.mbxHead d))).mbxPop d
      | none => s)

/-- Acknowledge the closed message of a direction; without one the write is malformed (R410). -/
def State.mbxAck (s : State) (d code : Nat) : State :=
  let x := s.mbxDir d
  if !(x.closed && !x.held) then s.malformed
  else if x.ackReg then s.mbxRelease d (some code) else s

/-- MBX_ACK (R410). -/
def execMbxAck (who : MbxEnd) (chan : Fin 24) (code : Fin 65536) (s : State) : Host.Outcome State Fault Refusal :=
  .next (match who with
    | .bar0 r => s.accessWrite r (MBX_ACK chan) (fun t => t.mbxAck (2 * chan + 1) code)
    | _ => match s.mbxRecv who chan with
      | some d => s.mbxAck d code
      | none => s)

/-- MBX_FAR_END_DOWN (R411): natively a closed message that waits is discarded. What the partner sent has been delivered and stays. -/
def execMbxFarEndDown (dir : Fin 48) (s : State) : Host.Outcome State Fault Refusal :=
  .next (s.cond (s.powered && s.farDown dir && !bitOf (s.fld MBX_CTL_COMPAT) (dir / 2) && (s.mbxDir dir).closed && !(isNarzanChan (dir / 2) && dir % 2 == 0))
    (fun t => ((t.setMbxDir dir {}).mbxErr dir MBX_STAT_FAR_DOWN).syncMbx (dir / 2)))

/-- MBX_FAR_END_UP (R411): a message held in compatible mode is delivered. -/
def execMbxFarEndUp (dir : Fin 48) (s : State) : Host.Outcome State Fault Refusal :=
  .next (s.cond (s.powered && !s.farDown dir) (fun t =>
    let x := t.mbxDir dir
    let t1 := if x.held then
        let u := t.bump CNT_MBX_COMPAT_HELD
        if isNarzanChan (dir / 2) then (u.setMbxDir dir { x with held := false }).nzlSend (.mbox (dir / 2) 1 x.words 0) else u.mbxDeliver dir
      else t
    t1.cond (dir.val == 1) State.mbxPump))

/-- What an MBOX message does (R356): it delivers a message of MB4–MB7, or frees the direction that the part sent in. -/
def State.mboxIn (s : State) (chan kind : Nat) (words : List Word) (code : Nat) : State :=
  if kind = 1 then
    if (s.mbxDir (2 * chan)).closed then s.mbxOver (2 * chan)
    else (s.setMbxDir (2 * chan) { words := words, closed := true, ackReg := s.ackMode chan }).mbxDeliver (2 * chan)
  else if !(s.mbxDir (2 * chan + 1)).closed then s
  else s.mbxFree (2 * chan + 1) (if kind = 3 then some code else none)

/-- MBOX_RX (R356). -/
def execMboxRx (group : Fin 4) (m : NzlMsg) (s : State) : Host.Outcome State Fault Refusal :=
  .next (match m.body with
    | .mbox c k w code => s.nzlRx group m (fun t => t.mboxIn c k w code)
    | _ => s)

end Sys2Proof.Machine
end

