-- ==== Sys2Proof/Machine/Memory.lean ====
section
/-! DEFINITION. Errors of DRAM, staging SRAM and engine memory, the DRAM scrub (R201, R301–R305), and the cipher's tests, counters and slots (R313, R317,
R325, R329). -/

namespace Sys2Proof.Machine

/-! ### DRAM (R301–R303) -/

/-- Drop a cached line with its lock, wherever it lies. -/
def State.dropLine (s : State) (v st : Nat) : State :=
  let keep (l : Line) : Bool := !(l.vol == v && l.stripe == st)
  ({ s with cch := { s.cch with main := s.cch.main.filter (fun e => keep e.2), evb := s.cch.evb.filter keep } }.dropSide v st false).syncLocks

/-- An uncorrectable DRAM error by its partition (R301, R302). Outside the cache it is recorded and counted; it is health source 2 in any case. -/
def State.dramUe (s : State) (chan : Nat) (ue : DramUe) : State :=
  let note (part : Nat) (t : State) : State := (((t.setFld DMC_UE_LAST_PART part).setFld DMC_UE_LAST_CH chan).setFlag DMC_UE_LAST_VALID true).bump (DMC_CH_UE chan)
  let s1 := s.health 2
  match ue with
  | .overflow q i =>
    let l := s1.outQ q
    (match l[i]? with
    | some f => if f.place != .dram then s else
      let s2 := ({ s1 with swc := { s1.swc with outq := if l.length = 1 then tdel s1.swc.outq q else tput s1.swc.outq q (l.eraseIdx i) } }.syncQ q).pfcXon f.inPort f.icls
      note 0 s2
    | none => s)
  | .journal seq => (match s1.red.journal.find? (fun r => r.seq == seq) with
    | some r => if s1.partnered then note 1 s1 else ((note 1 s1).loseRecord r).syncJrn
    | none => s)
  | .maps => if s1.partnered then note 2 s1 else (note 2 s1).criticalUe 0
  | .cache v st =>
    if (s1.mainLine v st).isSome || (s1.evbLine v st).isSome || (s1.sideLine v st).isSome then (s1.dropLine v st).bump CNT_CCH_CACHE_UE else s

/-- DRAM_UE. -/
def execDramUe (chan : Fin 12) (ue : DramUe) (s : State) : Host.Outcome State Fault Refusal := .next (if s.running then s.dramUe chan ue else s)

/-- DRAM_SCRUB_LINE (R303, R335): a 64 KiB line is read, with so many correctable errors corrected, and perhaps an uncorrectable one. -/
def execDramScrubLine (chan : Fin 12) (ce : Fin 1025) (ue : Option DramUe) (s : State) : Host.Outcome State Fault Refusal :=
  .next (if !(s.serving && s.running) || s.fld DMC_SCRUB_HOURS = 0 then s
    else if !s.backOk then s.deferBack 5
    else
      let s1 := ((s.admitBack 5).charge 11 1).bumpBy (DMC_CH_CE chan) ce
      match ue with
      | some u => s1.dramUe chan u
      | none => s1)

/-! ### Staging (R305) -/

/-- STAGING_UE. -/
def execStagingUe (slot : StgSlot) (s : State) : Host.Outcome State Fault Refusal :=
  .next (if !s.running then s else
    let note (t : State) : State := (t.bump CNT_CCH_STG_UE).sramError 0x11 true
    match slot with
    | .write h => (match s.cmd? h with
      | some c =>
        if !(c.arrived && c.credit != 0 && c.kind.isWrite && !c.cipher) then s else
        let s1 := (note s).setCmd h { c with arrived := false, data := 0 }
        (match c.queue.bind s1.queue? with
        | some q => (s1.readHost h c q).park h
        | none => s1)
      | none => s)
    | .read h b => (match s.cmd? h with
      | some c => (match c.pieces.find? (fun x => x.block == b && x.src == .member && x.stored.isSome && x.plain.isNone) with
        | some x => (match s.locate c.vol b with
          | .strip _ _ pos _ _ =>
            let y : Piece := { x with stored := none, recon := false, bad := if x.bad.contains pos then x.bad else pos :: x.bad }
            (((((note s).dropFillSector c.vol b).uncipher h).setCmd h { c with cipher := false, pieces := c.pieces.map (fun z => if z.block = b then y else z) }).needReads h).settle h
          | _ => s)
        | none => s)
      | none => s)
    | .hold qpn psn =>
      if (s.qp qpn).outst.any (fun o => decide ((psn + 2 ^ 24 - o.first) % 2 ^ 24 < o.count)) then (note s).qpError qpn 10 else s)

/-! ### Engine memory (R201) -/

/-- Restart a command from its descriptor: its reads and cipher work begin again; its tag, stamp, locks and charge stay. -/
def State.restartCmd (s : State) (h : Nat) : State := match s.cmd? h with
  | none => s
  | some c =>
    let s1 := s.uncipher h
    if c.state == .running && c.kind.isRead && !c.sent then
      let (s2, ps) := s1.lookupPieces c
      (s2.setCmd h { c with pieces := ps, cipher := false }).needReads h
    else s1.setCmd h { c with cipher := false }

/-- ENGINE_UE_RESTART (R201): the command that owns the word restarts on the next engine of the cluster, and the engine retires. -/
def execEngineUeRestart (engine : Fin 256) (handle : Option Nat) (s : State) : Host.Outcome State Fault Refusal :=
  .next (
    let e := engine.val
    let c := e / 16
    if !s.running || s.retired e then s else
    let s0 := ((((s.sramError 0x13 true).setBit (ENG_CL_RETIRED_MASK c) (e % 16)).bumpC c CNT_ENG_ENG_RETIRED)).health 9
    if 9 ≤ popCount 16 (s0.fld (ENG_CL_RETIRED_MASK c)) then s0.criticalUe 0x13 else
    match rot16 ((e % 16 + 1) % 16) (fun i => !s0.retired (16 * c + i)) with
    | none => s0
    | some i =>
      let x := s0.engine e
      let s1 := (s0.modEngine e (fun y => { y with deque := [], ctxs := [] })).modEngine (16 * c + i) (fun y => { y with deque := y.deque ++ x.deque, ctxs := y.ctxs ++ x.ctxs })
      match handle with
      | some h => if x.ctxs.any (fun y => y.1 == h) then (((s1.restartCmd h).bumpC c CNT_ENG_ENG_RESTART).settle h).syncCmds else (s1.bumpC c CNT_ENG_ENG_RESTART).syncCmds
      | none => s1.syncCmds)

/-! ### The known-answer test (R313) -/

/-- Show the test and the live pipelines. -/
def State.syncKat (s : State) : State :=
  (s.setFlag CIP_STAT_KAT_BUSY (!s.cip.kat.isEmpty)).setFld CIP_STAT_LIVE ((List.range 32).filter (fun p => !s.flag (CIP_PIPE_STAT_RETIRED p))).length

/-- A write of CIP_CTL.KAT: each live pipeline is tested in turn; a test in progress goes on. -/
def State.katStart (s : State) : State :=
  if !s.cip.kat.isEmpty then s else
  { s with cip := { s.cip with kat := (List.range 32).filter (fun p => !s.flag (CIP_PIPE_STAT_RETIRED p)) } }.syncKat

/-- KAT_RUN. -/
def execKatRun (req : Requester) (s : State) : Host.Outcome State Fault Refusal := .next (s.accessWrite req CIP_CTL (fun t => t.katStart))

/-- A pipeline fails its test and is retired (R313). -/
def State.katFail (s : State) (p : Nat) : State := ((s.setFlag (CIP_PIPE_STAT_RETIRED p) true).bump CNT_CIP_KAT_FAIL).health 8

/-- KAT_COMPLETE (R313): the pipeline under test, which holds no request. -/
def execKatComplete (pipe : Fin 32) (pass : Bool) (s : State) : Host.Outcome State Fault Refusal :=
  .next (if !(s.powered && s.cip.kat.head? == some pipe.val && (s.pipe pipe).isEmpty) then s else
    (({ s with cip := { s.cip with kat := s.cip.kat.drop 1 } }.cond (!pass) (fun t => t.katFail pipe))).syncKat)

/-! ### Key slots (R317, R325, R329) -/

/-- A write of CIP_HWM_ACK (R317, R329). -/
def State.hwmAck (s : State) (req : Requester) (n : Nat) : State := match req with
  | .mc _ =>
    if !s.flag (CIP_KS_STAT_REQ n) then s.malformed else
    let x := s.slot n
    ((((s.setSlot n { x with hwm := min (x.hwm + s.blkK) s.cipLimit }).setFlag (CIP_KS_STAT_REQ n) false).hwmCheck n).mirrorSlot n)
  | _ => s.malformed

/-- HWM_ACK. -/
def execHwmAck (req : Requester) (slot : Fin 4096) (s : State) : Host.Outcome State Fault Refusal := .next (s.accessWrite req CIP_HWM_ACK (fun t => t.hwmAck req slot))

/-- ZEROIZE_COMPLETE (R325): the last queued request that names the slot has ended. -/
def execZeroizeComplete (slot : Fin 4096) (s : State) : Host.Outcome State Fault Refusal :=
  .next (if s.powered && s.fld (CIP_KS_STAT_STATE slot) == 3 && !s.slotQueued slot then s.zeroizeEnd slot else s)

/-- A GO of CIP_KS_RDCMD (R329). -/
def State.goKsRead (s : State) (n : Nat) : State :=
  let x := s.slot n
  (((s.setFld CIP_KS_RDCMD_INDEX n).set64 CIP_KS_CTR x.ctr).set64 CIP_KS_HWM x.hwm).setFld CIP_KS_SALT_SALT x.salt

/-- KEY_SLOT_READ. -/
def execKeySlotRead (req : Requester) (slot : Fin 4096) (s : State) : Host.Outcome State Fault Refusal := .next (s.accessWrite req CIP_KS_RDCMD (fun t => t.goKsRead slot))

end Sys2Proof.Machine
end

