-- ==== Sys2Proof/Machine/Mon.lean ====
section
/-! DEFINITION. Counter snapshots, event selection, bandwidth windows and health windows (R440–R448, R451, R452). -/

namespace Sys2Proof.Machine

/-- Entries of a group's mirror list (R440). -/
def mirrorLen (g : Nat) : Nat :=
  if g < 64 then 16 else if g < 80 then 12 else if g < 112 then 13 else if g < 124 then 2
  else match g with
  | 124 => 9
  | 125 => 20
  | 126 => 12
  | 127 => 23
  | _ => 13

/-- Event codes from 0x080 on that have a meaning for a group (R441). -/
def ownCode (g c : Nat) : Bool :=
  if g < 64 then c ≤ 0x088 || c == 0x090 else if g < 80 then c ≤ 0x082 else if g < 112 then c ≤ 0x083 else if g < 124 then c ≤ 0x082
  else match g with
  | 124 => c ≤ 0x081
  | 125 => c ≤ 0x080
  | 126 => c ≤ 0x09F
  | 127 => c ≤ 0x081
  | _ => c ≤ 0x081

/-- A code has a meaning for a group (R441). -/
def codeMeans (g c : Nat) : Bool := c ≤ 2 || (0x40 ≤ c && c < 0x40 + mirrorLen g) || (0x80 ≤ c && ownCode g c)

/-- Copy a group's counters into its shadow (R443). -/
def State.snapGroup (s : State) (g : Nat) : State :=
  let pcs := (List.range 8).map (fun k => tget s.mon.pc (8 * g + k) 0)
  { s with mon := { s.mon with shadow := tput s.mon.shadow g (groupCycles g (tget s.mon.ran g 0) :: pcs) } }

/-- Clear a group's CYC and PC0–PC7 (R452). -/
def State.clearGroup (s : State) (g : Nat) : State :=
  { s with mon := { s.mon with ran := tdel s.mon.ran g, pc := s.mon.pc.filter (fun e => e.1 / 8 != g) } }

/-- A write to MON_GRP_CTL: its fields, then SNAP, then CLEAR. -/
def State.grpCtlWrite (s : State) (g : Nat) (v : Word) : State :=
  let s1 := s.setReg (MON_GRP_CTL g) (v &&& 0xFF05)
  (s1.cond (fieldOf v 1 1 == 1) (fun t => t.snapGroup g)).cond (fieldOf v 3 1 == 1) (fun t => t.clearGroup g)

/-- GROUP_SNAP (R443): a write to MON_GRP_CTL with SNAP. -/
def execGroupSnap (req : Requester) (group : Fin 129) (val : Word) (s : State) : Host.Outcome State Fault Refusal :=
  .next (s.accessWrite req (MON_GRP_CTL group) (fun t => t.grpCtlWrite group (val ||| 2)))

/-- GROUP_CLEAR (R452): a write to MON_GRP_CTL with CLEAR. -/
def execGroupClear (req : Requester) (group : Fin 129) (val : Word) (s : State) : Host.Outcome State Fault Refusal :=
  .next (s.accessWrite req (MON_GRP_CTL group) (fun t => t.grpCtlWrite group (val ||| 8)))

/-- A write to MON_CTL: its fields, then SNAP_ALL. -/
def State.monCtlWrite (s : State) (v : Word) : State :=
  (s.setReg MON_CTL (v &&& 7)).cond (fieldOf v 3 1 == 1) (fun t => t.each (List.range 129) State.snapGroup)

/-- SNAP_ALL (R443). -/
def execSnapAll (req : Requester) (val : Word) (s : State) : Host.Outcome State Fault Refusal :=
  .next (s.accessWrite req MON_CTL (fun t => t.monCtlWrite (val ||| 8)))

/-- A write to MON_PC_SEL: the code, whether it has a meaning, and the counter cleared (R441, R443). -/
def State.pcSelect (s : State) (g k : Nat) (v : Word) : State :=
  let c := fieldOf v 0 10
  let s1 := (s.setReg (MON_PC_SEL g k) (BitVec.ofNat 32 c)).setFlag (MON_PC_SEL_BAD g k) (!codeMeans g c)
  { s1 with mon := { s1.mon with pc := tdel s1.mon.pc (8 * g + k) } }

/-- PC_SELECT (R443). -/
def execPcSelect (req : Requester) (group : Fin 129) (k : Fin 8) (val : Word) (s : State) : Host.Outcome State Fault Refusal :=
  .next (s.accessWrite req (MON_PC_SEL group k) (fun t => t.pcSelect group k val))

/-- WIN_US within its limits (R452). -/
def State.bwWindow (s : State) : Nat := max 1 (min 4000000 (s.fld MON_BW_CFG_WIN_US))

/-- The window begins again, with every byte count 0. -/
def State.bwRestart (s : State) : State := { s with mon := { s.mon with bwRx := [], bwTx := [], bwFrom := s.clock.nowNs } }

/-- BW_WINDOW_END (R444): all values are latched and MON_BW_SEQ increments. -/
def execBwWindowEnd (dt : Nat) (s : State) : Host.Outcome State Fault Refusal :=
  let s0 := s.pass dt
  .next (if !(s0.powered && s0.flag MON_BW_CFG_EN) || s0.clock.nowNs < s0.mon.bwFrom + 1000 * s0.bwWindow then s0 else
    let s1 := s0.each (List.range 64) (fun t p => (t.set64 (MON_BW_RX p) (tget t.mon.bwRx p 0)).set64 (MON_BW_TX p) (tget t.mon.bwTx p 0))
    (s1.setFld MON_BW_SEQ_SEQ (s1.fld MON_BW_SEQ_SEQ + 1)).bwRestart)

/-- A write to MON_BW_CFG restarts the window (R444). -/
def State.bwCfgWrite (s : State) (v : Word) : State := (s.setReg MON_BW_CFG v).bwRestart

/-- BW_CFG_WRITE (R444). -/
def execBwCfgWrite (req : Requester) (val : Word) (s : State) : Host.Outcome State Fault Refusal :=
  .next (s.accessWrite req MON_BW_CFG (fun t => t.bwCfgWrite val))

/-- HEALTH_WINDOW_END (R448): every slot's count returns to 0. -/
def execHealthWindowEnd (s : State) : Host.Outcome State Fault Refusal :=
  .next (s.cond (s.powered && decide (max 1 (s.fld MON_HEALTH_WIN_WIN) ≤ s.mon.hwin)) (fun t => { t with mon := { t.mon with hcount := [], hdone := 0, hwin := 0 } }))

/-- A write to a health slot's configuration clears its count (R448). -/
def State.hslotCfgWrite (s : State) (k : Nat) (v : Word) : State :=
  let s1 := s.setReg (MON_HSLOT_CFG k) v
  { s1 with mon := { s1.mon with hcount := tdel s1.mon.hcount k } }

/-! ### What MON registers read as (R442, R443, R452) -/

/-- A 64-bit counter of a group page: 0 is CYC, k + 1 is PCk; VIEW chooses the shadow. -/
def State.grpCounter (s : State) (g k : Nat) : Nat :=
  if s.flag (MON_GRP_CTL_VIEW g) then (tget s.mon.shadow g []).getD k 0
  else if k = 0 then groupCycles g (tget s.mon.ran g 0) % 2 ^ 64 else tget s.mon.pc (8 * g + k - 1) 0

/-- The word at a MON offset whose value the monitoring block holds beside its registers. -/
def State.monRead (s : State) (off : Nat) : Option Nat :=
  if off = MON_HEALTH_STAT then some (s.mon.src + s.mon.slot * 2 ^ 16)
  else if 0xE00100 ≤ off && off < 0xE00170 then
    let v := tget s.mon.count ((off - 0xE00100) / 8) 0
    some (if off % 8 = 0 then v % 2 ^ 32 else v / 2 ^ 32)
  else if 0xE00200 ≤ off && off < 0xE00280 && off % 8 = 4 then some ((s.reg off).toNat % 2 ^ 16 + tget s.mon.hcount ((off - 0xE00200) / 8) 0 * 2 ^ 16)
  else if 0xE10000 ≤ off && off < 0xE14080 then
    let g := (off - 0xE10000) / 0x80
    let r := off % 0x80
    let half (v : Nat) : Nat := if r % 8 = 0 then v % 2 ^ 32 else v / 2 ^ 32
    if r = 4 then some (tget s.mon.ovf g 0)
    else if r = 8 || r = 0xC then some (half (s.grpCounter g 0))
    else if 0x40 ≤ r then some (half (s.grpCounter g ((r - 0x40) / 8 + 1)))
    else none
  else none

/-- W1C writes of MON registers: MON_HEALTH_STAT and MON_GRP_STAT. -/
def State.monW1c (s : State) (off : Nat) (v : Word) : State :=
  if off = MON_HEALTH_STAT then
    { s with mon := { s.mon with src := s.mon.src - (s.mon.src &&& fieldOf v 0 14), slot := s.mon.slot - (s.mon.slot &&& fieldOf v 16 16) } }
  else
    let g := (off - 0xE10000) / 0x80
    let o := tget s.mon.ovf g 0
    { s with mon := { s.mon with ovf := tput s.mon.ovf g (o - (o &&& fieldOf v 0 8)) } }

end Sys2Proof.Machine
end

