-- ==== Sys2Proof/Machine/Resets.lean ====
section
/-! DEFINITION. The PORn, CHIP and block resets and their sources (R14–R16, R65, R219, R462, R466, R474, R475). -/

namespace Sys2Proof.Machine

/-! ### Registers under a reset (R15) -/

/-- A word after a reset: the kept bits, and the reset value elsewhere. -/
def mixWord (keep old rst : Word) : Word := (old &&& keep) ||| (rst &&& ~~~keep)

/-- Reset the registers that `inn` selects, keeping the bits of `keep`. -/
def resetRegs (r : List (Nat × Word)) (inn : Nat → Bool) (keep : Nat → Word) : List (Nat × Word) :=
  r.foldl (fun acc (e : Nat × Word) => writeRegs acc e.1 (if inn e.1 then mixWord (keep e.1) e.2 (regPor e.1) else e.2)) []

/-- The bits whose CHIP column reads "held" (R15). -/
def heldBits (off : Nat) : Word := match regAt off with
  | some (d, _) => BitVec.ofNat 32 d.held
  | none => 0

/-- The bits that a block reset leaves: held fields and RWC fields (R475). -/
def blockBits (off : Nat) : Word := match regAt off with
  | some (d, _) => BitVec.ofNat 32 (d.held ||| d.rwc)
  | none => 0

/-- The fused bits, which every reset leaves: PROV, IKH, and the check value of the KEK. -/
def fusedBits (off : Nat) : Word := if off = PROT_STAT then 3 else if off = CIP_KEK then 0x1FFFF else 0

/-- Port classes before the setup is reinstated (R378): PF0 and the UART DATA and every other port NONE, once provisioned. -/
def State.rstClasses (s : State) : State := if s.flag PROT_STAT_PROV then s.setFld PROT_PRIV_LOCAL_CLASS 0x1100 else s

/-- The maps that the members hold (R285). -/
def State.memberMaps (s : State) : Option (List (Nat × PSet) × List (Nat × Vol) × List (Nat × Lost)) := match s.red.saved with
  | some x => some x
  | none => some (s.red.sets, s.red.vols, s.red.lost)

/-! ### CHIP and PORn (R14, R474) -/

/-- The state that a CHIP reset leaves: everything but the AON domain and the power die; what the NOR, the fuses and the members hold stays. -/
def State.chipState (s : State) : State :=
  let keep : State := { regs := resetRegs s.regs (fun _ => true) heldBits, pending := s.pending, out := s.out, free := s.free, sys := { supplyLow := s.sys.supplyLow, pwronLow := s.sys.pwronLow }, prot := { copy0 := s.prot.copy0, copy1 := s.prot.copy1 }, cip := { kek := s.cip.kek }, nzl := { stage := s.nzl.stage, round := s.nzl.round }, slp := s.slp, red := { saved := s.memberMaps } }
  keep.rstClasses

/-- A CHIP reset from a source, absorbed by one in progress or by a PORn (R14, R16, R60, R65). -/
def State.chipReset (s : State) (cause : Fld) : State :=
  if s.sys.hold != .none then s else (s.chipState.setFld SYS_MODE_PREV s.mode).setFlag cause true

/-- A wake from NIGHT starts DAWN (R474). -/
def State.startDawn (s : State) : State := (s.chipState.setFld SYS_MODE_PREV 0).setFld SYS_MODE_CAUSE 1

/-- The stage at a PORn (R466). -/
def Stage.porn (g : Stage) : Stage := match g with
  | .watch => .watch
  | _ => .hold

/-- A PORn starts (R14, R16, R466): everything takes its PORn value. The power die keeps its gates on while VHV_PD is above the lockout. -/
def State.pornReset (s : State) (cause : Fld) : State :=
  let keep : State := { regs := resetRegs s.regs (fun _ => true) fusedBits, pending := s.pending, out := s.out, free := s.free, sys := { hold := .porn, supplyLow := s.sys.supplyLow, pwronLow := s.sys.pwronLow }, prot := { copy0 := s.prot.copy0, copy1 := s.prot.copy1 }, cip := { kek := s.cip.kek }, slp := { gates := s.slp.gates, feedGate := s.slp.feedGate, pcg := s.slp.pcg, vhvLow := s.slp.vhvLow }, red := { saved := s.memberMaps } }
  (keep.setStage s.nzl.stage.porn).rstClasses.setFlag cause true

/-- PORn ends: the straps are sampled and DAWN begins (R42, R44). -/
def State.pornEnd (s : State) (pf1 : Bool) (base : Nat) : State :=
  ({ s with sys := { s.sys with hold := .none } }.setFlag HEP_STAT_PF1_PRESENT pf1).setFld NZL_CLAIM_BASE base

/-- PWRON_N_ASSERT (R462): the pin is low through its glitch filter. -/
def execPwronNAssert (s : State) : Host.Outcome State Fault Refusal :=
  .next (if s.sys.pwronLow then s else
    let s1 := { s with sys := { s.sys with pwronLow := true } }
    if s1.sys.hold = .porn then s1 else s1.pornReset SYS_RST_CAUSE_PWRON_PIN)

/-- PWRON_N_RELEASE (R462): the pin has been high for 32 slow ticks. PORn ends unless the supply monitor holds it. -/
def execPwronNRelease (pf1 : Bool) (base : Fin 16) (s : State) : Host.Outcome State Fault Refusal :=
  .next (if !s.sys.pwronLow then s else
    let s1 := { s with sys := { s.sys with pwronLow := false } }
    if s1.sys.supplyLow then s1 else s1.pornEnd pf1 base)

/-- AON_SUPPLY_LOW (R466): a monitored supply stayed below its threshold for 5 µs. -/
def execAonSupplyLow (s : State) : Host.Outcome State Fault Refusal :=
  .next (if s.sys.supplyLow then s else
    let s1 := { s with sys := { s.sys with supplyLow := true } }
    if s1.sys.hold = .porn then s1 else s1.pornReset SYS_RST_CAUSE_AON_SUPPLY)

/-- AON_SUPPLY_GOOD (R466): 32 slow ticks after every supply is good and PWRON_N is high, PORn ends. -/
def execAonSupplyGood (pf1 : Bool) (base : Fin 16) (s : State) : Host.Outcome State Fault Refusal :=
  .next (if !s.sys.supplyLow then s else
    let s1 := { s with sys := { s.sys with supplyLow := false } }
    if s1.sys.pwronLow then s1 else s1.pornEnd pf1 base)

/-- WARM_N_ASSERT (R462): a CHIP reset starts, and lasts while the pin is low. -/
def execWarmNAssert (s : State) : Host.Outcome State Fault Refusal :=
  .next (if s.sys.hold != .none then s else
    let s1 := s.chipReset SYS_RST_CAUSE_WARM_PIN
    { s1 with sys := { s1.sys with hold := .chip } })

/-- WARM_N_RELEASE (R462): the CHIP reset ends and DAWN begins. -/
def execWarmNRelease (s : State) : Host.Outcome State Fault Refusal :=
  .next (if s.sys.hold = .chip then { s with sys := { s.sys with hold := .none } } else s)

/-- A write of SYS_RST (R65). -/
def State.rstWrite (s : State) (v : Word) : State :=
  if fieldOf v 8 8 != 0xA5 then s.malformed else if fieldOf v 0 1 = 1 then s.chipReset SYS_RST_CAUSE_SOFT else s

/-- SYS_RST_WRITE. -/
def execSysRstWrite (req : Requester) (val : Word) (s : State) : Host.Outcome State Fault Refusal := .next (s.accessWrite req SYS_RST (fun t => t.rstWrite val))

/-! ### Block resets (R475) -/

/-- First and last offset of a block by its SYS_BLKRST bit (R24, R65). -/
def blockSpan (b : Nat) : Nat × Nat := match b with
  | 0 => (0x100000, 0x140000)
  | 13 => (0xF00000, 0x1000000)
  | n => (0x200000 + (n - 1) * 0x100000, 0x200000 + n * 0x100000)

/-- The SLP block stands between NZL and MON in the map, and has no reset bit. -/
def blockOf (b : Nat) : Nat × Nat := if b = 12 then (0xE00000, 0xF00000) else blockSpan b

/-- What a block reset leaves of a register, block by block: beside held and RWC fields, the key-slot states and retired pipelines of CIP, what R219 keeps of
ENG, and DMC_INFO and USABLE_GIB. -/
def blockKeep (b off : Nat) : Word :=
  if b = 6 && (off == ENG_EPOCH || off == ENG_UC_STAT || (0x700200 ≤ off && off < 0x700300) || (0x710000 ≤ off && off < 0x714000)) then 0xFFFFFFFF
  else if b = 10 && 0xB10000 ≤ off && off < 0xB14000 then 0xFFFFFFFF
  else if b = 10 && 0xB00100 ≤ off && off < 0xB00180 then 1
  else if b = 13 && off == DMC_INFO then 0xFFFFFFFF
  else if b = 13 && off == DMC_PART_STAT then 0x1FF
  else blockBits off

/-- The registers of a block take their CHIP values (R475). -/
def State.blockRegs (s : State) (b : Nat) : State :=
  { s with regs := resetRegs s.regs (fun off => decide ((blockOf b).1 ≤ off ∧ off < (blockOf b).2)) (blockKeep b) }

/-- End commands without a completion (R475). -/
def State.endSilently (s : State) (f : Nat × Cmd → Bool) : State := s.each (s.cmdq.cmds.filter f) (fun t e => t.endCmd e.1)

/-- The work and internal state of a block under its reset, before its registers (R475). -/
def State.blockState (s : State) (b : Nat) : State := match b with
  | 0 => let s1 := s.each (List.range 64) (fun t p => t.stopPort p)
    { s1 with ports := [], clock := { s1.clock with dev := 0 } }
  | 1 => { s with cls := {} }
  | 2 => { s with swc := {} }
  | 3 => { s with egs := {} }
  | 4 => let s1 := s.endSilently (fun e => decide (65536 ≤ e.1) || s.rdm.wins.any (fun w => w.2.waiter == some e.1))
    let gen (e : Nat × Qp) : Nat × Qp := (e.1, { gen := e.2.gen })
    { s1 with rdm := { qps := s1.rdm.qps.map gen } }
  | 5 => let s1 := (s.each s.cmdq.assocs (fun t e => t.assocReset e.1)).endSilently (fun _ => true)
    let dead (e : Nat × PciRead) : Nat × PciRead := (e.1, { e.2 with dead := true })
    ({ s1 with cmdq := {}, hep := { s1.hep with waiting := [], report := [], affected := [], reads := s1.hep.reads.map dead } }).syncHep
  | 6 => let s1 := s.engReset
    { s1 with eng := { s1.eng with wakeDue := [], lockSeed := 0, globalOp := 0, ucWait := none, armSent := false, snap := [] } }
  | 7 => { s with dpt := {}, red := { s.red with labels := [] } }
  | 8 => { s with red := { saved := s.memberMaps } }
  | 9 => let s1 := s.endSilently (fun e => e.2.credit != 0)
    { s1 with cch := {} }
  | 10 => let s1 := s.endSilently (fun e => e.2.cipher)
    { s1 with cip := { s1.cip with queues := [], ptr := 0, last := [], kat := [] } }
  | 11 => let s1 := s.setPartner false
    { s1 with nzl := { stage := s1.nzl.stage, round := s1.nzl.round, hold0 := true } }
  | 12 => { s with mon := {} }
  | _ => s

/-- What a block shows of the state that its reset kept. -/
def State.blockShow (s : State) (b : Nat) : State := match b with
  | 5 => s.syncCmds
  | 6 => s.each (List.range 16) (fun t c => t.setGate c (t.gate c))
  | 9 => s.syncStg
  | 10 => s.syncKat.syncHwmReq
  | _ => s

/-- A block reset: the block's bit reads 1 until it ends (R65, R475). -/
def State.blockReset (s : State) (b : Nat) : State :=
  if bitOf (s.fld SYS_BLKRST_BLK) b then s else (((s.blockState b).blockRegs b).blockShow b).setBit SYS_BLKRST_BLK b

/-- A write of SYS_BLKRST (R65): every bit in MORNING and MIDNIGHT, only MON in another mode. -/
def State.blkrstWrite (s : State) (v : Word) : State :=
  let bits := (List.range 14).filter (fun b => bitOf v.toNat b)
  let ok (b : Nat) : Bool := s.mode == 2 || s.mode == 7 || b == 12
  (s.cond (bits.any (fun b => !ok b)) State.malformed).each (bits.filter ok) State.blockReset

/-- BLOCK_RESET. -/
def execBlockReset (req : Requester) (val : Word) (s : State) : Host.Outcome State Fault Refusal := .next (s.accessWrite req SYS_BLKRST (fun t => t.blkrstWrite val))

/-- Sets, volumes and bad ranges are restored from the members and the maps (R285, R475). -/
def State.restoreMaps (s : State) : State := match s.red.saved with
  | none => s
  | some (ps, vs, ls) =>
    let fresh (e : Nat × PSet) : Nat × PSet := (e.1, { e.2 with patrol := 0, patrolAt := s.clock.nowNs, patrolled := 0 })
    let s1 := { s with red := { s.red with sets := ps.map fresh, vols := vs, lost := ls, saved := none } }
    ((s1.each vs (fun t e => t.syncVol e.1)).each ps (fun t e => t.syncSet e.1)).syncLost.syncRed

/-- The Narzan groups start to train (R350). -/
def State.trainGroups (s : State) : State :=
  if !(s.running && s.flag NZL_CTL_EN) then s else
  s.each ([0, 1, 2, 3].filter (fun g => !s.grpUp g)) (fun t g => t.setGrp g { t.grp g with training := true })

/-- BLOCK_RESET_END (R475): the bit clears, and the work placed after the reset runs. -/
def execBlockResetEnd (block : Fin 14) (s : State) : Host.Outcome State Fault Refusal :=
  .next (if !(s.powered && bitOf (s.fld SYS_BLKRST_BLK) block) then s else
    let s1 := s.clrBit SYS_BLKRST_BLK block
    if s1.mode != 2 then s1
    else if block.val = 8 then s1.restoreMaps
    else if block.val = 11 then s1.trainGroups
    else s1)

end Sys2Proof.Machine
end

