-- ==== Sys2Proof/Machine/Commit.lean ====
section
/-! DEFINITION. MORNING: reinstatement of the protection setup (R377, R378) and the configuration commit (R37, R38, R52, R306). -/

namespace Sys2Proof.Machine

/-- SETUP_REINSTATE (R319, R378): the valid copy with the higher GEN; JTAG stays NONE after a reset (R388). -/
def execSetupReinstate (s : State) : Host.Outcome State Fault Refusal :=
  .next (if !(s.running && s.mode == 2 && s.flag PROT_STAT_PROV && !s.flag PROT_STAT_REINST) then s else
    match s.bestCopy with
    | none => s
    | some x => ((s.adoptSetup x).setClass 71 0).setFlag PROT_STAT_REINST true)

/-! ### The checks of a commit (R52) -/

/-- Cache partition in GiB that the staged sizes leave (R37). -/
def State.cacheGib (s : State) : Nat := s.fld DMC_PART_STAT_USABLE_GIB - s.fld DMC_CFG_OVF_GIB - s.fld DMC_CFG_JRN_GIB - s.fld DMC_CFG_MAP_GIB

/-- What DMC finds, as DMC_PART_STAT.ERR, lowest code first (R35, R37, R287, R306, R310). -/
def State.dmcError (s : State) : Nat :=
  let mask := s.fld DMC_INFO_CH_MASK
  let inst := s.fld DMC_INFO_INSTALLED_GIB
  let dens := s.fld DMC_INFO_DENSITY
  let ovf := s.fld DMC_CFG_OVF_GIB
  let jrn := s.fld DMC_CFG_JRN_GIB
  let map := s.fld DMC_CFG_MAP_GIB
  if (mask != 0xFF && mask != 0xFFF) || inst < 32 || 384 < inst then 1
  else if s.sys.dramDiffer || dens < 2 || 32 < dens then 2
  else if 8 < ovf then 3
  else if jrn < 1 || 32 < jrn then 4
  else if map < 1 || 16 < map then 5
  else if s.fld DMC_PART_STAT_USABLE_GIB < ovf + jrn + map + 4 then 6
  else if map < 1 + cdiv (s.cacheGib * 16384 * 1088) (2 ^ 30) then 7
  else 0

/-- The offset byte of every block that refuses, lowest first (R52). -/
def State.commitRefusals (s : State) : List Nat :=
  [(0x03, s.flag PROT_STAT_PROV && s.bestCopy.isNone), (0x10, !s.netCommit.2), (0x20, !s.clsCommit), (0x30, decide (98304 < s.guarSum)), (0x40, !s.egsCommit),
    (0x90, s.fld RED_HOLDUP_HOLDUP_MS == 0 || s.fld RED_HOLDUP_DSTG_GBPS == 0), (0xA0, decide (7056 < s.fld CCH_STG_CFG_WR_RSV + s.fld CCH_STG_CFG_RD_RSV)),
    (0xC0, decide (4 ≤ s.fld NZL_STAT_HS)), (0xF0, s.dmcError != 0)].filterMap (fun (e : Nat × Bool) => if e.2 then some e.1 else none)

/-- Every block has finished its check: the partner handshake has ended, the intent replay and any block reset too (R52, R266, R366, R475). -/
def State.commitReady (s : State) : Bool :=
  !s.flag RED_JRN_STAT_REPLAY && s.fld SYS_BLKRST_BLK == 0 && s.red.saved.isNone && (!s.flag NZL_CTL_EN || decide (2 ≤ s.fld NZL_STAT_HS))

/-- A register that travels to the partner at a commit (R367): a writable register of GOV or of a data-path block. -/
def cfgReg (off : Nat) : Bool := ((0x10000 ≤ off && off < 0x20000) || (0x100000 ≤ off && off < 0xD00000) || 0xF00000 ≤ off) && (match regAt off with
  | some (d, _) => d.rw != 0
  | none => false)

/-- The committed configuration as CFG messages of at most 128 registers. -/
def cfgBodies : List (Nat × Word) → Nat → List NzlBody
  | _, 0 => []
  | l, n + 1 => if l.isEmpty then [] else .cfg ((l.take 128).map (fun (e : Nat × Word) => .reg e.1 e.2)) :: cfgBodies (l.drop 128) n

/-- What an accepted commit sets (R38, R52, R107, R208, R261, R286, R310, R367). -/
def State.commitAccept (s : State) : State :=
  let c := s.cacheGib
  let s1 := ((s.setFld SYS_CFG_STATUS 3).setFld SYS_CFG_FAIL_BLK 0).setFld DMC_PART_STAT_CACHE_GIB c
  let s2 := (s1.setFld CCH_GEOM_SETS (min 393216 (c * 1024 - 272))).setFld RED_JRN_CAP_SIZE (s1.fld DMC_CFG_JRN_GIB)
  let s3 := { s2 with eng := { s2.eng with lockSeed := s2.fld SWC_HASH_SEED_SEED }, swc := { s2.swc with pool := 196608 - s2.guarSum, ovfGib := s2.fld DMC_CFG_OVF_GIB }, nzl := { s2.nzl with hold0 := false } }
  let s4 := ((s3.setFld RED_JRN_CAP_CAP s3.dirtyCap).setFld SWC_SHARED_STAT_SHARED_FREE s3.sharedFree).syncStg
  let regs := s4.regs.filter (fun e => cfgReg e.1)
  (s4.each (cfgBodies regs regs.length) (fun t b => t.nzlSend b)).offerSetup

/-- A write of SYS_CFG.COMMIT (R52). A handshake that was refused runs again. -/
def State.commitWrite (s : State) (v : Word) : State :=
  if fieldOf v 0 1 = 0 || s.mode != 2 then s
  else if s.fld SYS_CFG_STATUS = 1 then s.malformed
  else
    let s1 := s.setFld SYS_CFG_STATUS 1
    if 4 ≤ s1.fld NZL_STAT_HS then (s1.setFld NZL_STAT_HS 1).sendHandshake else s1

/-- CONFIG_COMMIT (R52). -/
def execConfigCommit (req : Requester) (s : State) : Host.Outcome State Fault Refusal := .next (s.accessWrite req SYS_CFG (fun t => t.commitWrite 1))

/-- COMMIT_CHECK_COMPLETE (R52): decided once every block has finished. -/
def execCommitCheckComplete (s : State) : Host.Outcome State Fault Refusal :=
  .next (if !(s.running && s.mode == 2 && s.fld SYS_CFG_STATUS == 1 && s.commitReady) then s else
    let s1 := s.netCommit.1.setFld DMC_PART_STAT_ERR s.dmcError
    match s.commitRefusals with
    | [] => s1.commitAccept
    | b :: _ => (s1.setFld SYS_CFG_STATUS 2).setFld SYS_CFG_FAIL_BLK b)

end Sys2Proof.Machine
end

