-- ==== Sys2Proof/Machine/Modes.lean ====
section
/-! DEFINITION. The mode sequencer: wake sources, NIGHT, DAWN, MIDNIGHT, watchdog, planned swaps (R39–R57, R344, R345, R385–R388, R462–R467), and the
power-die interface and clock gating (R17–R21). -/

namespace Sys2Proof.Machine

/-! ### NIGHT (R44–R47) -/

/-- A NIGHT entry is abandoned (R46). -/
def State.abandonNight (s : State) : State :=
  if !s.flag SYS_MODE_NIGHT_PEND then s else
  let s1 := ((s.setFlag SYS_MODE_NIGHT_PEND false).setFld SYS_MODE_REQ_RESULT 4).setFld SYS_MODE_CAUSE 10
  (s1.cond s1.serving (fun t => t.setAna 1)).syncServing

/-- Why a NIGHT request is refused, as RESULT; 0 where it is accepted (R45). -/
def State.nightRefusal (s : State) : Nat :=
  if s.mode = 6 then 0
  else if (s.mode = 3 || s.mode = 4) && !s.flag SYS_MODE_DEGRADED then (if s.partnered then 3 else 0)
  else 2

/-- A write of SYS_MODE_REQ.NIGHT (R45). -/
def State.nightRequest (s : State) : State :=
  if s.flag SYS_MODE_NIGHT_PEND then s
  else if s.nightRefusal != 0 then s.setFld SYS_MODE_REQ_RESULT s.nightRefusal
  else
    let s1 := { s with sys := { s.sys with nightFrom := s.mode, drainCount := 0 } }
    ((s1.setFlag SYS_MODE_NIGHT_PEND true).setFld SYS_MODE_REQ_RESULT 1).cond s1.serving (fun t => t.setAna 3)

/-- NIGHT_REQUEST. -/
def execNightRequest (req : Requester) (s : State) : Host.Outcome State Fault Refusal := .next (s.accessWrite req SYS_MODE_REQ State.nightRequest)

/-- NIGHT_CANCEL (R46). -/
def execNightCancel (req : Requester) (s : State) : Host.Outcome State Fault Refusal := .next (s.accessWrite req SYS_MODE_REQ State.abandonNight)

/-- Steps 2 to 4 of the drain have finished (R45): no command in flight, no dirty line, no dirty byte in the journal. -/
def State.drained (s : State) : Bool :=
  s.cmdq.cmds.all (fun e => match e.2.kind with
    | .admin _ => true
    | _ => false)
    && s.cmdq.queues.all (fun e => e.2.waiting.isEmpty) && s.cch.main.all (fun e => e.2.dirty == 0) && s.cch.evb.all (fun l => l.dirty == 0)
    && (s.mode == 6 || s.dirtyBytes == 0)

/-- The slow ticks from now to the first alarm of the next 24 h (R345): slot starts whose entry is above 0 and whose start less LEAD minutes lies ahead. -/
def State.alarmTicks (s : State) : Option Nat :=
  let now := s.daySec
  let lead := 60 * s.fld GOV_DP_CTL_LEAD
  ((List.range 48).map (fun k => now / 1800 + k + 1)).findSome? (fun n =>
    if 0 < s.dpEntry (n % 48) && now + lead < n * 1800 then some ((n * 1800 - lead - now) * 32768) else none)

/-- CUR becomes 0 (R45 step 6, R55, R345): the endpoint and the engines lose their supply, the watchdog is disarmed, and the alarm is armed. -/
def State.enterNight (s : State) : State :=
  let alarm := if s.dpActive && s.flag SYS_WAKE_EN_ALARM then s.alarmTicks else none
  let s1 := ((s.setFlag SYS_MODE_NIGHT_PEND false).enterMode 0 9).setFld SYS_WDOG_STAT_REMAIN 0
  { s1 with sys := { s1.sys with gatesClosing := true, heldWake := false, wdogArmed := false, wdogStage2 := false }, gov := { s1.gov with alarm := alarm }, hep := { s1.hep with linkUp := false } }

/-- NIGHT_DRAIN_COMPLETE (R45): from TWILIGHT the part leaves the pair first. -/
def execNightDrainComplete (s : State) : Host.Outcome State Fault Refusal :=
  .next (if !(s.running && s.flag SYS_MODE_NIGHT_PEND && s.drained) then s else
    if s.mode = 6 then
      let s1 := s.becomeStale
      ({ s1 with nzl := { s1.nzl with leaving := true } }.heartbeats).enterNight
    else s.enterNight)

/-- NIGHT_DRAIN_TIMEOUT (R46): DRAIN_MAX budget-interval ends have passed. -/
def execNightDrainTimeout (s : State) : Host.Outcome State Fault Refusal :=
  .next (if s.running && s.flag SYS_MODE_NIGHT_PEND && decide (max 1 (s.fld SYS_NIGHT_CTL_DRAIN_MAX) ≤ s.sys.drainCount) then s.abandonNight else s)

/-- POWER_GATES_CLOSED (R46): a wake that arrived meanwhile starts DAWN. -/
def execPowerGatesClosed (s : State) : Host.Outcome State Fault Refusal :=
  .next (if !(s.mode == 0 && s.sys.hold == .none && s.sys.gatesClosing) then s else
    let s1 := { s with sys := { s.sys with gatesClosing := false } }
    if s1.sys.heldWake then s1.startDawn else s1)

/-- A wake source is recognised (R44, R46): in NIGHT it starts DAWN, once the gates have closed; while a NIGHT entry drains it abandons the entry. -/
def State.wake (s : State) (en src : Fld) : State :=
  if s.sys.hold != .none || !(s.mode == 0 || s.flag SYS_MODE_NIGHT_PEND) || !s.flag en then s else
  let s1 := s.setFlag src true
  if s1.mode != 0 then s1.abandonNight
  else if s1.sys.gatesClosing then { s1 with sys := { s1.sys with heldWake := true } }
  else s1.startDawn

/-- WAKE_PIN (R44): WAKE_N sampled low on 4 slow ticks. -/
def execWakePin (s : State) : Host.Outcome State Fault Refusal := .next (s.wake SYS_WAKE_EN_WAKE_PIN SYS_WAKE_SRC_WAKE_PIN)

/-- PERST_RELEASE (R44, R49, R406): the wake source, and the endpoint's link where the endpoint has its supply. -/
def execPerstRelease (lanes : Fin 17) (rate : Fin 6) (s : State) : Host.Outcome State Fault Refusal :=
  .next (
    let s1 := s.wake SYS_WAKE_EN_PERST SYS_WAKE_SRC_PERST
    if s1.powered || (s1.mode == 1 && s1.sys.hold == .none && s1.sys.pllLocked) then s1.linkTrain lanes rate else s1)

/-- CLAIM_LOSS_WAKE (R44): no non-zero claim for 10 rounds. -/
def execClaimLossWake (s : State) : Host.Outcome State Fault Refusal := .next (s.wake SYS_WAKE_EN_CLAIM_LOSS SYS_WAKE_SRC_CLAIM_LOSS)

/-- ALARM_COUNTDOWN_END (R345). -/
def execAlarmCountdownEnd (s : State) : Host.Outcome State Fault Refusal :=
  .next (if s.gov.alarm = some 0 then { s with gov := { s.gov with alarm := none } }.wake SYS_WAKE_EN_ALARM SYS_WAKE_SRC_ALARM else s)

/-! ### DAWN (R48–R51) -/

/-- DAWN runs. -/
def State.dawn (s : State) : Bool := s.mode == 1 && s.sys.hold == .none

/-- MAIN_POWER_GATES_OPEN (R48 step 1). -/
def execMainPowerGatesOpen (s : State) : Host.Outcome State Fault Refusal :=
  .next (if s.dawn then { s with sys := { s.sys with gatesOpen := true } } else s)

/-- A boot failure enters MIDNIGHT (R42, R62). -/
def State.bootFails (s : State) (cause : Fld) : State := (s.setFlag cause true).midnight 12

/-- The fuses as they are loaded (R48 step 2): blown bits stay blown. The check value of the KEK is the first two octets of AES-256 of zeros (R315). -/
def State.loadFuses (s : State) (kek : Option Nat) (prov ikh : Bool) : State :=
  let k := match s.cip.kek with
    | some x => some x
    | none => kek
  let s1 := { s with cip := { s.cip with kek := k } }
  let s2 := match k with
    | none => s1
    | some x => (s1.setFlag CIP_KEK_PROG true).setFld CIP_KEK_KCV (leNat (toBe 16 (Config.aes256 x 0)) 0 2)
  ((s2.setFlag PROT_STAT_PROV (s2.flag PROT_STAT_PROV || prov)).setFlag PROT_STAT_IKH (s2.flag PROT_STAT_IKH || ikh)).rstClasses

/-- PLL_LOCK (R48 step 2, R49, R51): the fuses are loaded and the endpoint's link trains. At the boot-loop limit the boot ROM enters MIDNIGHT at once. -/
def execPllLock (lanes : Fin 17) (rate : Fin 6) (kek : Option Nat) (prov ikh : Bool) (s : State) : Host.Outcome State Fault Refusal :=
  .next (if !(s.dawn && s.sys.gatesOpen && !s.sys.pllLocked) then s else
    let s1 := ({ s with sys := { s.sys with pllLocked := true } }.loadFuses kek prov ikh).linkTrain lanes rate
    if s1.fld SYS_BOOT_LOOP_CNT = 4 && s1.flag SYS_BOOT_LOOP_SW then (s1.setFld SYS_BOOT_LOOP_CNT 0).bootFails SYS_MIDNIGHT_CAUSE_BOOT_LOOP else s1)

/-- One AVS write of the fused setpoint; after the third without acknowledgement the regulator stays at 0.80 V (R464). -/
def State.avsWrite (s : State) (acked : Bool) : State :=
  let n := s.sys.avsTries + 1
  { s with sys := { s.sys with avsTries := n, avsDone := acked || decide (3 ≤ n) } }.emit (.avs (650 + 5 * (Config.avsSteps % 31)) acked)

/-- AVS_SETPOINT (R464): within 1 ms of the end of step 2. -/
def execAvsSetpoint (acked : Bool) (s : State) : Host.Outcome State Fault Refusal :=
  .next (if s.mode != 0 && s.sys.hold == .none && s.sys.pllLocked && s.sys.avsTries == 0 then s.avsWrite acked else s)

/-- AVS_RETRY (R464): 10 ms after a write that was not acknowledged. -/
def execAvsRetry (acked : Bool) (s : State) : Host.Outcome State Fault Refusal :=
  .next (if s.mode != 0 && s.sys.hold == .none && s.sys.pllLocked && s.sys.avsTries != 0 && !s.sys.avsDone then s.avsWrite acked else s)

/-- The copy that the boot ROM reads next: the preferred one, unless it failed or LOOP_SW skips it, then the other (R50, R51). -/
def State.bootCopy (s : State) : Option Nat :=
  let pref := s.fld SYS_BOOT_PREF
  let failed (c : Nat) : Bool := bitOf s.sys.copiesFailed c
  if !s.flag SYS_BOOT_LOOP_SW && !failed pref then some pref else if !failed (1 - pref) then some (1 - pref) else none

/-- PROT_BOOT_STAT of a copy. -/
def State.setBootCode (s : State) (c v : Nat) : State := if c = 0 then s.setFld PROT_BOOT_STAT_FAIL0 v else s.setFld PROT_BOOT_STAT_FAIL1 v

/-- Header octets that R386 lists, and the header's fixed values. -/
def headerOk (h : List (BitVec 8)) : Bool :=
  h.length == 1024 && beNat h 0 4 == 0x4F58494D && leNat h 4 4 == 1 && decide (leNat h 12 4 ≤ 2 ^ 23 - 1024)
    && (List.range 1024).all (fun i => i < 18 || (64 ≤ i && i < 496) || octet h i == 0)

/-- The checks of R387 on a copy, first failure first; 0 where all pass. `nor` is the size of the NOR in octets, `body` the body as a number. -/
def State.bootCheck (s : State) (copy nor : Nat) (h : List (BitVec 8)) (body : Nat) : Nat :=
  let len := leNat h 12 4
  let digest := Config.sha384 112 (leNat h 0 112)
  let ikh := s.flag PROT_STAT_IKH
  let minSvn := match s.bestCopy with
    | some x => if s.flag PROT_STAT_PROV then x.minSvn else 0
    | none => 0
  if !headerOk h || decide (nor - 131072 < copy * (nor / 2) + 1024 + len) then 1
  else if Config.sha384 96 (leNat h 112 96) != Config.vendorHash then 2
  else if !Config.ecdsaOk (beNat h 112 96) digest (beNat h 208 96) then 3
  else if ikh && Config.sha384 96 (leNat h 304 96) != Config.integHash then 4
  else if ikh && !Config.ecdsaOk (beNat h 304 96) digest (beNat h 400 96) then 5
  else if leNat h 16 2 < minSvn then 6
  else if Config.sha384 len (body % 2 ^ (8 * len)) != beNat h 64 48 then 7
  else 0

/-- Control passes to a verified copy (R50, R55). -/
def State.bootRun (s : State) (c : Nat) (h : List (BitVec 8)) : State :=
  let s1 := { s with sys := { s.sys with imageRunning := true, imgVersion := leNat h 8 2, imgMinPartner := leNat h 10 2, wdogArmed := true } }
  let s2 := ((s1.setBootCode c 15).setFld PROT_BOOT_STAT_SVN (leNat h 16 2)).setFld SYS_BOOT_RUN c
  (s2.setFlag SYS_BOOT_FALLBACK (c != s2.fld SYS_BOOT_PREF)).setFld SYS_WDOG_STAT_REMAIN (max 16 (s2.fld SYS_WDOG_CTL_PERIOD))

/-- IMAGE_VERIFIED (R50, R387): the copy being read passes every check. -/
def execImageVerified (nor : Nat) (header : List (BitVec 8)) (body : Nat) (s : State) : Host.Outcome State Fault Refusal :=
  .next (if !(s.dawn && s.sys.pllLocked && !s.sys.imageRunning) then s else
    match s.bootCopy with
    | none => s
    | some c => if s.bootCheck c nor header body = 0 then s.bootRun c header else s)

/-- IMAGE_FAILED (R50, R51, R387): the copy being read fails a check, or could not be read (code 8). -/
def execImageFailed (nor : Nat) (header : List (BitVec 8)) (body : Nat) (readError : Bool) (s : State) : Host.Outcome State Fault Refusal :=
  .next (if !(s.dawn && s.sys.pllLocked && !s.sys.imageRunning) then s else
    match s.bootCopy with
    | none => s
    | some c =>
      let code := if readError then 8 else s.bootCheck c nor header body
      if code = 0 then s else
      let s1 := { s with sys := { s.sys with copiesFailed := s.sys.copiesFailed ||| 2 ^ c } }.setBootCode c code
      if s1.bootCopy.isNone then s1.bootFails SYS_MIDNIGHT_CAUSE_BOOT_BOTH else s1)

/-- SRAM_BIST_COMPLETE (R48 step 5, R62): `bad` is the first critical unit that could not be repaired. -/
def execSramBistComplete (bad : Option (Fin 9)) (s : State) : Host.Outcome State Fault Refusal :=
  .next (if !(s.dawn && s.sys.gatesOpen) then s else
    match bad with
    | none => { s with sys := { s.sys with bistDone := true } }
    | some u => (s.setFld SYS_MIDNIGHT_CAUSE_UNIT (u.val + 1)).bootFails SYS_MIDNIGHT_CAUSE_BIST)

/-- SRAM_INIT_COMPLETE (R48 step 6, R313): the known-answer tests have run too; `katBad` names the pipelines that failed. -/
def execSramInitComplete (katBad : Word) (s : State) : Host.Outcome State Fault Refusal :=
  .next (if !(s.dawn && s.sys.bistDone && !s.sys.sramInit) then s else
    ({ s with sys := { s.sys with sramInit := true } }.each ((List.range 32).filter (fun p => bitOf katBad.toNat p)) (fun t p => t.katFail p)).syncKat)

/-- DRAM_TRAINING_COMPLETE (R36, R48 step 7, R310): the density in GiB of each channel, 0 where none trained. -/
def execDramTrainingComplete (densities : List (Fin 64)) (s : State) : Host.Outcome State Fault Refusal :=
  .next (if !(s.dawn && s.sys.pllLocked) then s else
    let d := (densities.take 12).map (fun (x : Fin 64) => x.val)
    let mask := ((List.range 12).filter (fun c => d.getD c 0 != 0)).foldl (fun n c => n + 2 ^ c) 0
    let first := (d.find? (fun x => x != 0)).getD 0
    let total := d.foldl (fun n x => n + x) 0
    let s1 := { s with sys := { s.sys with dramTrained := true, dramDiffer := d.any (fun x => x != 0 && x != first) } }
    (((s1.setFld DMC_INFO_CH_MASK mask).setFld DMC_INFO_DENSITY first).setFld DMC_INFO_INSTALLED_GIB total).setFld DMC_PART_STAT_USABLE_GIB (total * 31 / 32))

/-- DAWN_COMPLETE (R42, R48): MORNING begins, with the clusters clock-gated (R39), the buckets full (R331), the maps restored (R285), and the Narzan groups
training. -/
def execDawnComplete (s : State) : Host.Outcome State Fault Refusal :=
  .next (if !(s.dawn && s.sys.imageRunning && s.sys.bistDone && s.sys.sramInit && s.sys.dramTrained) then s else
    let s1 := (s.enterMode 2 2).fillBuckets
    ((s1.each (List.range 16) (fun t c => t.setGate c .clockGated)).restoreMaps).trainGroups)

/-! ### MIDNIGHT and the watchdog (R53–R55) -/

/-- CRITICAL_SRAM_UE (R53): an error in the critical SRAM with code `unit` + 1. -/
def execCriticalSramUe (unit : Fin 9) (s : State) : Host.Outcome State Fault Refusal := .next (s.criticalUe (unit.val + 1))

/-- Load REMAIN with PERIOD (R55, R66). -/
def State.wdogLoad (s : State) : State := s.setFld SYS_WDOG_STAT_REMAIN (max 16 (s.fld SYS_WDOG_CTL_PERIOD))

/-- A write of SYS_WDOG_KICK (R55). -/
def State.kick (s : State) (req : Requester) (v : Word) : State := match req with
  | .mc _ => if v != 0x4B1C then s.malformed else if !s.sys.wdogArmed then s else { s with sys := { s.sys with wdogStage2 := false } }.wdogLoad
  | _ => s.malformed

/-- WDOG_KICK. In DAWN the running image reaches the register too (R55). -/
def execWdogKick (req : Requester) (val : Word) (s : State) : Host.Outcome State Fault Refusal :=
  .next (match req with
    | .mc n => if s.dawn && s.sys.imageRunning then s.kick (.mc n) val else s.accessWrite (.mc n) SYS_WDOG_KICK (fun t => t.kick (.mc n) val)
    | r => s.accessWrite r SYS_WDOG_KICK (fun t => t.kick r val))

/-- A CHIP reset by the watchdog, counted while CUR has not reached 3–6 since the last reset (R51). -/
def State.wdogReset (s : State) : State :=
  let s1 := s.chipReset SYS_RST_CAUSE_WDOG
  if s.sys.served || s.sys.hold != .none then s1 else
  let n := min 4 (s1.fld SYS_BOOT_LOOP_CNT + 1)
  if n = 4 && !s1.flag SYS_BOOT_LOOP_SW then (s1.setFld SYS_BOOT_LOOP_CNT 0).setFlag SYS_BOOT_LOOP_SW true else s1.setFld SYS_BOOT_LOOP_CNT n

/-- WDOG_STAGE1_EXPIRY (R55): the budget-interval end that brings REMAIN to 0. -/
def execWdogStage1Expiry (s : State) : Host.Outcome State Fault Refusal :=
  .next (if !(s.sys.wdogArmed && !s.sys.wdogStage2 && s.fld SYS_WDOG_STAT_REMAIN == 0 && s.sys.hold == .none) then s else
    let s1 := s.setFlag SYS_WDOG_STAT_STAGE1 true
    if s1.mode = 1 || s1.mode = 2 then s1.wdogReset
    else
      let s2 := if s1.inService then (s1.setFlag SYS_MIDNIGHT_CAUSE_WDOG true).midnight 11 else s1
      { s2 with sys := { s2.sys with wdogStage2 := true } }.wdogLoad)

/-- WDOG_STAGE2_EXPIRY (R55). -/
def execWdogStage2Expiry (s : State) : Host.Outcome State Fault Refusal :=
  .next (if s.mode == 7 && s.sys.wdogArmed && s.sys.wdogStage2 && s.fld SYS_WDOG_STAT_REMAIN == 0 && s.flag SYS_WDOG_CTL_STAGE2_EN && s.sys.hold == .none then s.wdogReset else s)

/-! ### Planned swap (R57) -/

/-- A write of SYS_MODE_REQ.SWAP. -/
def State.swapRequest (s : State) : State :=
  if s.swapRefusal != 0 then s.setFld SYS_MODE_REQ_RESULT s.swapRefusal else (s.setFld SYS_MODE_REQ_RESULT 1).startSwap false

/-- SWAP_REQUEST. -/
def execSwapRequest (req : Requester) (s : State) : Host.Outcome State Fault Refusal := .next (s.accessWrite req SYS_MODE_REQ State.swapRequest)

/-! ### Power-die interface (R17, R18) -/

/-- PDI_STATUS_FRAME (R17): each slot channel's current in mA and voltage in mV, each feed's voltage, current and bus voltage, and the fan duty command. -/
def execPdiStatusFrame (chans : List (Fin 65536 × Fin 65536)) (feeds : List (Fin 65536 × Fin 65536 × Fin 65536)) (s : State) : Host.Outcome State Fault Refusal :=
  .next (if !s.pdRuns || s.flag SLP_STAT_HELD then s else
    let s1 := s.each (List.range 32) (fun t (n : Nat) => match chans[n]? with
      | some x => (t.setFld (SLP_CH_MEAS_IOUT n) x.1.val).setFld (SLP_CH_MEAS_VOUT n) x.2.val
      | none => t)
    let s2 := s1.each [0, 1] (fun t (f : Nat) => match feeds[f]? with
      | some x => ((t.setFld (SLP_FD_MEAS_VIN f) x.1.val).setFld (SLP_FD_MEAS_IIN f) x.2.1.val).setFld (SLP_FD_VBUS_VBUS f) x.2.2.val
      | none => t)
    s2.cond (s2.mode != 0 && s2.sys.hold == .none) (fun t => { t with slp := { t.slp with fanDuty := t.fld GOV_FAN_DUTY } }))

/-- PDI_LOSS (R18): no valid frame for 4 slow ticks. -/
def execPdiLoss (s : State) : Host.Outcome State Fault Refusal := .next (if s.pdRuns then s.setFlag SLP_STAT_HELD true else s)

/-- PDI_RECOVERY (R18): valid frames for 32 slow ticks; the commands given meanwhile take effect. -/
def execPdiRecovery (s : State) : Host.Outcome State Fault Refusal :=
  .next (if s.pdRuns && s.flag SLP_STAT_HELD then (s.setFlag SLP_STAT_HELD false).slotsJudge else s)

/-! ### Clock and power gating (R19–R21, R341) -/

/-- A cluster holds no work. -/
def State.clusterIdle (s : State) (c : Nat) : Bool := (List.range 16).all (fun i => (s.engine (16 * c + i)).deque.isEmpty && (s.engine (16 * c + i)).ctxs.isEmpty)

/-- CLUSTER_CLOCK_GATE (R19): idle for 50 µs. -/
def execClusterClockGate (cluster : Fin 16) (s : State) : Host.Outcome State Fault Refusal :=
  .next (if s.running && s.clusterIdle cluster && s.gate cluster == .awake then s.setGate cluster .enteringCg else s)

/-- CLUSTER_POWER_GATE (R19, R341): idle for 5 ms and not exempt. -/
def execClusterPowerGate (cluster : Fin 16) (s : State) : Host.Outcome State Fault Refusal :=
  .next (if s.running && s.clusterIdle cluster && s.gate cluster == .clockGated && decide (s.fld GOV_STAT_MIN_AWAKE ≤ cluster.val) then s.setGate cluster .enteringPg else s)

/-- GATING_ENTRY_COMPLETE (R20): the entry ends, and the cluster wakes at once where work arrived during it. -/
def execGatingEntryComplete (cluster : Fin 16) (s : State) : Host.Outcome State Fault Refusal :=
  .next (if !s.powered then s else
    let due := tget s.eng.wakeDue cluster false
    let s0 := { s with eng := { s.eng with wakeDue := tdel s.eng.wakeDue cluster } }
    match s.gate cluster with
    | .enteringCg => (s0.setGate cluster .clockGated).cond due (fun t => t.wakeCluster cluster)
    | .enteringPg => (s0.setGate cluster .powerGated).cond due (fun t => t.wakeCluster cluster)
    | _ => s)

/-- PIPELINE_CLOCK_GATE (R19): an empty request queue for 1 µs. -/
def execPipelineClockGate (pipe : Fin 32) (s : State) : Host.Outcome State Fault Refusal :=
  .next (if s.powered && (s.pipe pipe).isEmpty && s.cip.kat.head? != some pipe.val then s.setFlag (CIP_PIPE_STAT_GATED pipe) true else s)

/-- GATED_DOMAIN_ACCESS (R21): the access wakes the cluster or pipeline. -/
def execGatedDomainAccess (domain : Fin 16 ⊕ Fin 32) (s : State) : Host.Outcome State Fault Refusal :=
  .next (if !s.powered then s else match domain with
    | .inl c => s.wakeCluster c
    | .inr p => s.setFlag (CIP_PIPE_STAT_GATED p) false)

/-! ### Crystal (R467) and JTAG (R388) -/

/-- XTAL_SWITCH: 1,024 stable crystal cycles. -/
def execXtalSwitch (s : State) : Host.Outcome State Fault Refusal := .next (if s.sys.hold = .porn then s else { s with slp := { s.slp with xtal := true } })

/-- XTAL_FAIL: the crystal missed 4 RC periods. -/
def execXtalFail (s : State) : Host.Outcome State Fault Refusal := .next { s with slp := { s.slp with xtal := false } }

/-- JTAG_INSTRUCTION (R388): EXTEST is taken outside MIDNIGHT, and core debug below STEWARD, as BYPASS. -/
def execJtagInstruction (instr : JtagInstr) (s : State) : Host.Outcome State Fault Refusal :=
  .next (match instr with
    | .extest => s.emit (.jtag (if s.mode == 7 && s.sys.hold == .none then .extest else .bypass))
    | .debug n halt =>
      if s.powered && s.classOf .jtag == 3 then
        { s with mbx := { s.mbx with halted := (s.mbx.halted ||| 2 ^ n.val) - (if halt then 0 else 2 ^ n.val) } }.emit (.jtag (.debug n halt))
      else s.emit (.jtag .bypass)
    | i => s.emit (.jtag i))

end Sys2Proof.Machine
end

