-- ==== Sys2Proof/Machine/Regio.lean ====
section
/-! DEFINITION. Register accesses: what a write and a read of any offset of BAR0, BAR2 and the expansion ROM do (R7–R13, R25, R385, R394–R398). A
register whose write has a row of its own has the same effect here. -/

namespace Sys2Proof.Machine

/-! ### Writes by access code (R10) -/

/-- A write as the access codes of the register's bits say: RW bits take the written value, W1C bits written 1 clear, the rest are discarded. -/
def State.codeWrite (s : State) (off : Nat) (v : Word) : State := match regAt off with
  | none => s
  | some (d, _) =>
    let rw := BitVec.ofNat 32 d.rw
    let clr := v &&& BitVec.ofNat 32 d.w1c
    s.setReg off (((s.reg off &&& ~~~rw) ||| (v &&& rw)) &&& ~~~clr)

/-- A write to a command register: GO while the command runs is discarded and counted as malformed. -/
def State.goWrite (s : State) (off : Nat) (v : Word) (busy : Bool) (f : State → State) : State :=
  if !bitOf v.toNat 31 then s.codeWrite off v else if busy then s.malformed else f (s.codeWrite off v)

/-! ### Block by block -/

/-- SYS (R61–R66). One write of SYS_MODE_REQ acts on SWAP, then NIGHT, then NIGHT_CANCEL. -/
def State.writeSys (s : State) (req : Requester) (off : Nat) (v : Word) (aux : WriteAux) : State :=
  if off = SYS_MODE_REQ then
    ((s.cond (bitOf v.toNat 2) State.swapRequest).cond (bitOf v.toNat 0) State.nightRequest).cond (bitOf v.toNat 1) State.abandonNight
  else if off = SYS_CFG then s.commitWrite v
  else if off = SYS_UCODE then s.cond (bitOf v.toNat 0) (fun t => t.ucodeActivate aux.stamp)
  else if off = SYS_RST then s.rstWrite v
  else if off = SYS_BLKRST then s.blkrstWrite v
  else if off = SYS_WDOG_KICK then s.kick req v
  else s.codeWrite off v

/-- GOV (R347, R348). -/
def State.writeGov (s : State) (off : Nat) (v : Word) : State :=
  if off = GOV_CNT_CTL then s.counterClear off v
  else if off = GOV_SHELF then (s.codeWrite off v).syncLvl
  else s.codeWrite off v

/-- MBX (R415, R416): the data registers of MB0–MB3 push and acknowledge, STAT and IRQ of the other
channels, which report the management end, are read-only for all but the management cores. -/
def State.writeMbx (s : State) (req : Requester) (off : Nat) (v : Word) : State :=
  let n := mbxNum off
  let r := (off - 0x20100) % 0x20
  if off = MBX_CNT_CTL then s.counterClear off v
  else if off < 0x20100 then ((s.codeWrite off v).each (List.range 24) State.syncMbx).cond (off == MBX_CTL) State.mbxPump
  else if r = 0 then s.mbxPush (2 * n) v false
  else if r = 4 then s.mbxPush (2 * n) v true
  else if r = 0xC then s.mbxAck (2 * n + 1) (fieldOf v 0 16)
  else if decide (4 ≤ n) && (match req with
    | .mc _ => false
    | _ => true) then s.malformed
  else s.codeWrite off v

/-- PROT (R390), but for GO of PROT_CMT_CMD: the commit registers take the writes of a steward. -/
def State.writeProt (s : State) (req : Requester) (off : Nat) (v : Word) : State :=
  if off = PROT_CNT_CTL then s.counterClear off v
  else if off = PROT_ACL_RD then s.goWrite off v false (fun t => t.aclRead (fieldOf v 0 14))
  else if off = PROT_CMT_CMD || off = PROT_CMT_QUOTE || 0x31000 ≤ off then match req with
    | .mc _ => s.malformed
    | _ =>
      if s.classOf req < 3 then s.privRefused
      else if off = PROT_CMT_QUOTE then { s with prot := { s.prot with quote := v.toNat } }
      else if off = PROT_CMT_CMD then s.codeWrite off v
      else { s with prot := { s.prot with buf := tput s.prot.buf ((off - 0x31000) / 4) v } }
  else s.codeWrite off v

/-- A write of PROT_CMT_CMD with GO (R374, R381, R382). -/
def State.cmtGo (s : State) (req : Requester) (v : Word) : State := match fieldOf v 0 2 with
  | 1 => s.cmtCmd req 1 (fun t => (t.stage t.bufOctets (reqCode req)).1)
  | 2 => s.cmtCmd req 2 (fun t => (t.confirm t.prot.quote (reqCode req) true).1)
  | 3 => s.cmtCmd req 3 (fun t => t.cancelBy (reqCode req))
  | _ => s.cmtCmd req 0 (fun t => t)

/-- HEP (R414). -/
def State.writeHep (s : State) (off : Nat) (v : Word) : State := if off = HEP_CNT_CTL then s.counterClear off v else s.codeWrite off v

/-- NET (R84, R85). A change of NET_TIME_CTL.VALID reaches the gates (R128). -/
def State.writeNet (s : State) (off : Nat) (v : Word) : State :=
  let p := (off - 0x100000) / 0x1000
  let r := (off - 0x100000) % 0x1000
  if r = 0 then s.portCfgWrite p v
  else if r = 0x30 then s.counterClear off v
  else if off = NET_TIME_STEP then s.timeStep v
  else if off = NET_TIME_CTL then (s.codeWrite off v).each (List.range 64) (fun t q => if t.flag (EGS_GATE_CTL_EN q) then t.syncGate q else t)
  else s.codeWrite off v

/-- A GO of CLS_TBL_CMD (R95, R116): OP 0 does nothing, OP 6 and 7 answer RESULT 6. -/
def State.tblGo (s : State) (v : Word) (errs : List SlotErr) : State :=
  let t := fieldOf v 3 2
  let w := fieldOf v 5 2
  let i := fieldOf v 8 16
  match fieldOf v 0 3 with
  | 0 => s
  | 1 => s.tblCmd 1 t w i (fun u => u.tblInsert t errs)
  | 2 => s.tblCmd 2 t w i (fun u => u.tblDelete t errs)
  | 3 => s.tblCmd 3 t w i (fun u => u.tblSearch t errs)
  | 4 => s.tblCmd 4 t w i (fun u => u.tblReadSlot t w i errs)
  | 5 => s.tblCmd 5 t w i (fun u => u.tblClear t)
  | _ => s.tblStat 6 0 0 0

/-- CLS (R93, R95, R116). -/
def State.writeCls (s : State) (off : Nat) (v : Word) (aux : WriteAux) : State :=
  if off = CLS_CNT_CTL then s.counterClear off v
  else if off = CLS_TBL_CMD then s.goWrite off v (s.flag CLS_TBL_STAT_BUSY) (fun t => t.tblGo v aux.errs)
  else if 0x200040 ≤ off && off < 0x200080 then s.profWrite ((off - 0x200040) / 16) off v
  else s.codeWrite off v

/-- A write of SWC_LAG_CTL: REBAL, or EN set from 0 to 1, copies the configured buckets (R105). -/
def State.lagCtlWrite (s : State) (l : Nat) (v : Word) : State :=
  let old := s.flag (SWC_LAG_CTL_EN l)
  let s1 := s.setFlag (SWC_LAG_CTL_EN l) (bitOf v.toNat 0)
  if bitOf v.toNat 1 || (bitOf v.toNat 0 && !old) then s1.lagRebal l else s1.lagCount l

/-- SWC (R104, R105, R118). -/
def State.writeSwc (s : State) (off : Nat) (v : Word) : State :=
  if off = SWC_CNT_CTL then s.counterClear off v
  else if 0x330000 ≤ off && off < 0x338000 then
    let l := (off - 0x330000) / 0x400
    let r := off % 0x400
    if r = 0 then s.lagCtlWrite l v
    else if r < 0x200 then
      let s1 := s.codeWrite off v
      if s1.flag (SWC_LAG_CTL_EN l) then s1.lagRebal l else s1.lagCount l
    else s
  else if 0x310000 ≤ off && off < 0x320000 && off % 32 = 0 then (s.codeWrite off v).cond s.inService (fun t => t.syncQ ((off - 0x310000) / 32))
  else s.codeWrite off v

/-- EGS (R131, R134, R135). -/
def State.writeEgs (s : State) (off : Nat) (v : Word) : State :=
  if off = EGS_CNT_CTL then s.counterClear off v
  else if 0x420000 ≤ off && off < 0x421000 then
    let p := (off - 0x420000) / 64
    let r := off % 64
    if r = 0 then s.gateCtlWrite p v
    else if (r = 4 && s.gateBankLocked p 0) || (r = 8 && s.gateBankLocked p 1) then s.malformed
    else (s.codeWrite off v).cond (s.flag (EGS_GATE_CTL_EN p)) (fun t => t.syncGate p)
  else if 0x440000 ≤ off && off < 0x460000 && s.gateBankLocked ((off - 0x440000) / 2048) (off % 2048 / 1024) then s.malformed
  else s.codeWrite off v

/-- A GO of RDM_QPC_CMD (R168). -/
def State.qpcGo (s : State) (v : Word) : State :=
  let i := fieldOf v 8 14
  match fieldOf v 0 2 with
  | 0 => s
  | 1 => s.qpcRead i
  | 2 => s.qpcModify i (fieldOf v 2 3)
  | _ => s.qpcResult 5

/-- A GO of RDM_WIN_CMD (R168). -/
def State.winGo (s : State) (v : Word) : State :=
  let w := fieldOf v 8 12
  match fieldOf v 0 3 with
  | 0 => s
  | 1 => s.winReadOp w
  | 2 => s.winMapReg w
  | 3 => s.winRevokeReg w
  | 4 => s.winModifyOp w
  | _ => s.winResult 3

/-- RDM (R167, R168): a source address in use by a context in RTR or RTS keeps its value. -/
def State.writeRdm (s : State) (off : Nat) (v : Word) : State :=
  if off = RDM_CNT_CTL then s.counterClear off v
  else if off = RDM_QPC_CMD then s.goWrite off v (s.flag RDM_QPC_STAT_BUSY) (fun t => t.qpcGo v)
  else if off = RDM_WIN_CMD then s.goWrite off v (s.flag RDM_WIN_STAT_BUSY) (fun t => t.winGo v)
  else if 0x501000 ≤ off && off < 0x501800 && s.rdm.qps.any (fun e => (e.2.state == 2 || e.2.state == 3) && e.2.srcIdx == (off - 0x501000) / 32) then s.malformed
  else s.codeWrite off v

/-- A queue's context into the data registers (R197); a queue not in use reads zeros. -/
def State.qctxLoad (s : State) (i : Nat) : State :=
  if 17407 < i then s.setFlag CMDQ_QCTX_STAT_INVALID true else
  let s0 := (s.setFlag CMDQ_QCTX_STAT_INVALID false).each (List.range 16) (fun t k => t.setReg (CMDQ_QCTX_DATA0 + 4 * k) 0)
  match s.queue? i with
  | none => s0
  | some q =>
    let held := (s.cmdq.cmds.filter (fun e => decide (e.1 < 65536) && e.2.queue == some i)).length
    let s1 := ((((s0.setFlag CMDQ_QCTX_DATA0_VALID true).setFld CMDQ_QCTX_DATA0_TYPE q.type).setFld CMDQ_QCTX_DATA0_CLASS q.cls).setFlag CMDQ_QCTX_DATA0_STALLED q.stalled).setFlag CMDQ_QCTX_DATA0_PHASE q.phase
    let s2 := (((s1.setFld CMDQ_QCTX_DATA0_ASSOC q.assoc).setFld CMDQ_QCTX_DATA0_QID q.qid).setFld CMDQ_QCTX_DATA1_ENTRIES_M1 q.entriesM1).setFld CMDQ_QCTX_DATA1_SQ_HEAD q.sqHead
    let s3 := (((s2.setFld CMDQ_QCTX_DATA1_SQ_TAIL q.sqTail).setFld CMDQ_QCTX_DATA2_CQ_TAIL q.cqTail).setFlag CMDQ_QCTX_DATA2_ACTIVE q.active).setFld CMDQ_QCTX_DATA2_EPOCH q.epoch
    let s4 := (((s3.setFld CMDQ_QCTX_DATA3_QPN q.qpn).setFld CMDQ_QCTX_DATA4_OUTSTANDING held).setFld CMDQ_QCTX_DATA4_VECTOR q.vector).setFlag CMDQ_QCTX_DATA4_IEN q.ien
    (((s4.setReg CMDQ_QCTX_DATA5 (BitVec.ofNat 32 q.rkey)).set64 CMDQ_QCTX_DATA6 q.sqBase).set64 CMDQ_QCTX_DATA8 q.cqBase).set64 CMDQ_QCTX_DATA10 q.dbAddr

/-- CMDQ (R196, R197). -/
def State.writeCmdq (s : State) (off : Nat) (v : Word) : State :=
  if off = CMDQ_CNT_CTL then s.counterClear off v
  else if off = CMDQ_QCTX_CMD then s.goWrite off v (s.flag CMDQ_QCTX_STAT_BUSY) (fun t => t.qctxLoad (fieldOf v 0 15))
  else s.codeWrite off v

/-- A GO of ENG_GLOBAL_CMD (R214–R219). -/
def State.globalWrite (s : State) (v : Word) (stamp : Nat) : State := match fieldOf v 0 3 with
  | 0 => s
  | 1 => s.goBroadcast
  | 2 => s.goBarrier stamp
  | 3 => s.goSnapshot stamp
  | 4 => s.goReset
  | _ => s.setFld ENG_GLOBAL_STAT_RESULT (if s.mode = 7 then 1 else 3)

/-- ENG (R222, R223): ENG_LOCK_BKT is written only in MORNING. -/
def State.writeEng (s : State) (off : Nat) (v : Word) (aux : WriteAux) : State :=
  if off = ENG_CNT_CTL then s.counterClear off v
  else if off = ENG_GLOBAL_CMD then s.goWrite off v (s.flag ENG_GLOBAL_STAT_BUSY) (fun t => t.globalWrite v aux.stamp)
  else if 0x700200 ≤ off && off < 0x700300 && s.mode != 2 then s.malformed
  else s.codeWrite off v

/-- DPT (R225, R226, R243, R245, R246): SRIS changes only in MORNING, SPLIT only in MORNING with the port's EN = 0. -/
def State.writeDpt (s : State) (off : Nat) (v : Word) : State :=
  if off = DPT_CNT_CTL then s.counterClear off v
  else if off = DPT_CTL then (s.codeWrite off (if s.mode = 2 then v else (v &&& ~~~1) ||| (s.reg off &&& 1))).slotsJudge
  else if off = DPT_MEM_CMD then s.goWrite off v (s.flag DPT_MEM_CMD_STAT_BUSY) (fun t => match fieldOf v 0 2 with
    | 0 => t
    | 1 => t.goMemFail (fieldOf v 8 7)
    | 2 => t.goMemRelease (fieldOf v 8 7)
    | _ => t.goMemRequalify (fieldOf v 8 7))
  else if 0x800100 ≤ off && off < 0x800200 && off % 8 = 0 && fieldOf v 1 1 != fieldOf (s.reg off) 1 1 && !(s.mode == 2 && fieldOf (s.reg off) 0 1 == 0) then s.malformed
  else s.codeWrite off v

/-- A GO of RED_SET_CMD (R284). -/
def State.setGo (s : State) (v : Word) : State :=
  let set := fieldOf v 3 3
  match fieldOf v 0 3 with
  | 0 => s
  | 1 => s.goSetCreate set
  | 2 => s.goSetDelete set
  | 3 => s.goSetReplace set (fieldOf v 6 5) (fieldOf v 11 7)
  | 4 => s.goPatrolNow set
  | op => s.setCmdGo op set (fieldOf v 6 5) (fieldOf v 11 7) (fun t => (t, 7))

/-- A GO of RED_VOL_CMD (R284). -/
def State.volGo (s : State) (v : Word) : State := match fieldOf v 0 2 with
  | 0 => s
  | 1 => s.goVolCreate (fieldOf v 2 12) (fieldOf v 14 3)
  | 2 => s.goVolResize (fieldOf v 2 12)
  | _ => s.goVolDelete (fieldOf v 2 12)

/-- A GO of RED_LOST_CMD (R284). -/
def State.lostGo (s : State) (v : Word) (rd : List StripRead) : State := match fieldOf v 0 2 with
  | 0 => s
  | 1 => s.goLostRead (fieldOf v 2 13)
  | 2 => s.goLostClear (fieldOf v 2 13) rd
  | op => s.lostCmdGo op (fieldOf v 2 13) (fun t => (t, 3))

/-- RED (R283, R284). -/
def State.writeRed (s : State) (off : Nat) (v : Word) (aux : WriteAux) : State :=
  if off = RED_CNT_CTL then s.counterClear off v
  else if off = RED_HOLDUP then s.holdupWrite v
  else if off = RED_SET_CMD then s.goWrite off v (s.flag RED_SET_CMD_STAT_BUSY) (fun t => t.setGo v)
  else if off = RED_VOL_CMD then s.goWrite off v (s.flag RED_VOL_STAT_BUSY) (fun t => t.volGo v)
  else if off = RED_LOST_CMD then s.goWrite off v (s.flag RED_LOST_STAT_BUSY) (fun t => t.lostGo v aux.rd)
  else s.codeWrite off v

/-- CCH (R298, R308). -/
def State.writeCch (s : State) (off : Nat) (v : Word) : State :=
  if off = CCH_CNT_CTL then s.counterClear off v
  else if off = CCH_CTL then s.cchCtlWrite v
  else if off = CCH_STG_CFG then (s.codeWrite off v).syncStg
  else if off = CCH_MNT_CMD then s.goWrite off v (decide (16 ≤ s.cch.mnt.length + s.cch.done.length)) (fun t =>
    if fieldOf v 0 3 = 0 then t else t.mntGo (fieldOf v 0 3) (bitOf v.toNat 3) (fieldOf v 8 8))
  else s.codeWrite off v

/-- CIP (R313, R317, R329): CIP_LIMIT is written only in MORNING. -/
def State.writeCip (s : State) (req : Requester) (off : Nat) (v : Word) : State :=
  if off = CIP_CNT_CTL then s.counterClear off v
  else if off = CIP_CTL then (s.codeWrite off v).cond (bitOf v.toNat 16) State.katStart
  else if off = CIP_HWM_ACK then s.hwmAck req (fieldOf v 0 12)
  else if off = CIP_KS_RDCMD then s.goWrite off v false (fun t => t.goKsRead (fieldOf v 0 12))
  else if (off = CIP_LIMIT || off = CIP_LIMIT + 4) && s.mode != 2 then s.malformed
  else s.codeWrite off v

/-- A write of NZL_CTL: EN = 0 takes the link down, EN set from 0 starts the groups' training, FENCE fences the partner (R349, R357, R372). -/
def State.nzlCtlWrite (s : State) (v : Word) : State :=
  let was := s.flag NZL_CTL_EN
  let s1 := s.codeWrite NZL_CTL v
  let s2 := if bitOf v.toNat 0 then s1.cond (!was) State.trainGroups
    else s1.each [0, 1, 2, 3] (fun t g => (t.cond (t.grpUp g) (fun u => u.groupDown g)).setGrp g { (t.cond (t.grpUp g) (fun u => u.groupDown g)).grp g with training := false })
  s2.cond (bitOf v.toNat 3) State.fenceWrite

/-- NZL (R372). -/
def State.writeNzl (s : State) (off : Nat) (v : Word) : State :=
  if off = NZL_CNT_CTL then s.counterClear off v
  else if off = NZL_CTL then s.nzlCtlWrite v
  else s.codeWrite off v

/-- SLP (R438, R439). -/
def State.writeSlp (s : State) (off : Nat) (v : Word) : State :=
  if off = SLP_CNT_CTL then s.counterClear off v
  else if off = SLP_CTL then s.slpCtlWrite v
  else if off = SLP_SMB_CFG then s.smbCfgWrite v
  else if 0xD00100 ≤ off && off < 0xD00300 && off % 16 = 0 then s.chCfgWrite ((off - 0xD00100) / 16) v
  else if 0xD00400 ≤ off && off < 0xD00420 && off % 16 = 0 then s.fdCfgWrite ((off - 0xD00400) / 16) v
  else s.codeWrite off v

/-- MON (R443, R444, R448, R452). -/
def State.writeMon (s : State) (off : Nat) (v : Word) : State :=
  let g := (off - 0xE10000) / 0x80
  let r := off % 0x80
  if off = MON_CTL then s.monCtlWrite v
  else if off = MON_BW_CFG then s.bwCfgWrite v
  else if off = MON_HEALTH_STAT then s.monW1c off v
  else if 0xE00200 ≤ off && off < 0xE00280 && off % 8 = 0 then s.hslotCfgWrite ((off - 0xE00200) / 8) v
  else if 0xE10000 ≤ off then
    if r = 0 then s.grpCtlWrite g v
    else if r = 4 then s.monW1c off v
    else if 0x10 ≤ r && r < 0x30 then s.pcSelect g ((r - 0x10) / 4) v
    else s
  else s.codeWrite off v

/-- DMC (R306, R310): DMC_CFG is written only in MORNING. -/
def State.writeDmc (s : State) (off : Nat) (v : Word) : State :=
  if off = DMC_CNT_CTL then s.counterClear off v
  else if off = DMC_CFG && s.mode != 2 then s.malformed
  else s.codeWrite off v

/-- What a write that reaches its register does, by the block that the offset lies in (R24). -/
def State.regWrite (s : State) (req : Requester) (off : Nat) (v : Word) (aux : WriteAux) : State :=
  if off < 0x10000 then s.writeSys req off v aux
  else if off < 0x20000 then s.writeGov off v
  else if off < 0x30000 then s.writeMbx req off v
  else if off < 0x40000 then s.writeProt req off v
  else if off < 0x100000 then s.writeHep off v
  else if off < 0x200000 then s.writeNet off v
  else match off / 0x100000 with
    | 2 => s.writeCls off v aux
    | 3 => s.writeSwc off v
    | 4 => s.writeEgs off v
    | 5 => s.writeRdm off v
    | 6 => s.writeCmdq off v
    | 7 => s.writeEng off v aux
    | 8 => s.writeDpt off v
    | 9 => s.writeRed off v aux
    | 10 => s.writeCch off v
    | 11 => s.writeCip req off v
    | 12 => s.writeNzl off v
    | 13 => s.writeSlp off v
    | 14 => s.writeMon off v
    | _ => s.writeDmc off v

/-- The offset holds an RWC field (R385). -/
def isRwc (off : Nat) : Bool := match regAt off with
  | some (d, _) => d.rwc != 0
  | none => false

/-- A direct write to an RWC register: discarded, counted and latched, whatever the class (R13, R385). -/
def State.rwcAttempt (s : State) (req : Requester) (off : Nat) : State :=
  if !s.reachable req then s
  else if s.mode == 7 || s.absent req off then s.accessWrite req off (fun t => t)
  else
    let s1 := (s.cond (decide (s.classOf req < 2)) State.privRefused).bump CNT_PROT_RWC_VIOL
    ((s1.setFld PROT_RWC_LAST_OFFSET off).setFld PROT_RWC_LAST_PORT (reqCode req)).setFlag PROT_RWC_LAST_VALID true

/-- A write of one aligned word to BAR0. -/
def State.bar0Write (s : State) (req : Requester) (off : Nat) (v : Word) (aux : WriteAux) : State :=
  if isRwc off then s.rwcAttempt req off
  else if off = PROT_CMT_CMD && bitOf v.toNat 31 then s.cmtGo req v
  else s.accessWrite req off (fun t => t.regWrite req off v aux)

/-! ### BAR2 (R392, R395–R397) -/

/-- The MSI-X table and PBA of BAR2. -/
def inMsix (off : Nat) : Bool := decide (0x20000 ≤ off ∧ off < 0x28100)

/-- PF1 answers memory accesses (R391, R399). -/
def State.pf1Answers (s : State) : Bool := s.powered && s.flag HEP_STAT_PF1_PRESENT && !s.hep.pf1.d3hot

/-- A write to the local admin page (R397). -/
def State.admPageWrite (s : State) (off : Nat) (v : Word) : State :=
  let r := 0x10000000 + off
  if (regAt r).isNone then s.malformed
  else if r = ADM_CTL then s.admWrite v
  else if r = ADM_STAT then s
  else if s.flag ADM_STAT_RDY then s.malformed
  else s.codeWrite r v

/-- A write of one aligned word to a function's BAR2. Beside the nudge page, the local admin page and the MSI-X table nothing there takes a write. -/
def State.bar2Write (s : State) (pf1 : Bool) (off : Nat) (v : Word) (aux : WriteAux) : State :=
  if pf1 then
    if inMsix off then s.cond s.pf1Answers (fun t => t.msixWrite true (off - 0x20000) v)
    else s.pf1Access (fun t =>
      if off < 0x1000 then t.pushNudge v aux.held
      else if off < 0x2000 then t.admPageWrite off v
      else t.malformed)
  else s.cond (s.reachable .pf0) (fun t => if inMsix off then t.msixWrite false (off - 0x20000) v else t.malformed)

/-- REGISTER_WRITE (R10): one aligned word. The expansion ROM discards writes (R398). -/
def execRegisterWrite (place : RegPlace) (val : Word) (aux : WriteAux) (s : State) : Host.Outcome State Fault Refusal :=
  .next (match place with
    | .bar0 req off => s.bar0Write req off val aux
    | .bar2 pf1 off => s.bar2Write pf1 off val aux
    | .rom _ => s)

/-- RWC_WRITE_ATTEMPT (R385). -/
def execRwcWriteAttempt (req : Requester) (off : Nat) (s : State) : Host.Outcome State Fault Refusal := .next (if isRwc off then s.rwcAttempt req off else s)

/-! ### Reads -/

/-- The low word of a 64-bit quantity (R9). -/
def isLow64 (off : Nat) : Bool := match regAt off with
  | some (d, ix) => match d.dims.getLast?, ix.getLast? with
    | some (4, n), some k => n % 2 == 0 && k % 2 == 0 && d.impl == 0xFFFFFFFF && (d.rw == 0 || d.base == CIP_LIMIT) && d.base != 0x460000 && d.base != 0x330200
    | _, _ => false
  | none => false

/-- The word at an offset as the part holds it; MBX_STAT.MODE is that of the next message, whatever mode the part has gone to since (R410, R416). -/
def State.rawWord (s : State) (off : Nat) : Word := match s.monRead off with
  | some v => BitVec.ofNat 32 v
  | none => if 0x20100 ≤ off ∧ off < 0x20400 ∧ (off - 0x20100) % 0x20 = 0x10 then withField (s.reg off) 10 1 (s.ackMode (mbxNum off)).toNat else s.reg off

/-- The word a requester's read of an occupied offset returns: high words, the timestamp's high word, SEC, and the words behind a FIFO head come from that
requester's latches (R9, R81, R281, R308). -/
def State.view (s : State) (req : Requester) (off : Nat) : Word :=
  let r := (off - 0x100000) % 0x1000
  if isLow64 (off - 4) && 4 ≤ off then s.latched req
  else if 0x100000 ≤ off && off < 0x140000 && r = 0x2C then s.latched req
  else if off = NET_TIME_NS then BitVec.ofNat 32 (s.devNs % 1000000000)
  else if off = NET_TIME_SEC_L then BitVec.ofNat 32 (tget s.sys.timeLatches (reqNum req) 0)
  else if off = NET_TIME_SEC_H then BitVec.ofNat 32 (tget s.sys.timeLatches (reqNum req) 0 / 2 ^ 32 % 2 ^ 16)
  else if off = RED_EVLOG1 then BitVec.ofNat 32 (tget s.red.evLatch (reqNum req) (0, 0, 0)).1
  else if off = RED_EVLOG2 then BitVec.ofNat 32 (tget s.red.evLatch (reqNum req) (0, 0, 0)).2.1
  else if off = RED_EVLOG3 then BitVec.ofNat 32 (tget s.red.evLatch (reqNum req) (0, 0, 0)).2.2
  else if off = CCH_MNT_DONE1 then BitVec.ofNat 32 (tget s.cch.doneLatch (reqNum req) (0, 0)).1
  else if off = CCH_MNT_DONE2 then BitVec.ofNat 32 (tget s.cch.doneLatch (reqNum req) (0, 0)).2
  else if mbxData off && (off - 0x20100) % 0x20 = 8 then s.mbxHead (2 * mbxNum off + 1)
  else s.rawWord off

/-- Pop RDM_ERRQP's FIFO (R167). -/
def State.popErrQp (s : State) : State :=
  let s1 := { s with rdm := { s.rdm with errq := s.rdm.errq.drop 1 } }.setReg RDM_ERRQP 0
  match s1.rdm.errq with
  | (n, c) :: _ => ((s1.setFld RDM_ERRQP_QPN n).setFld RDM_ERRQP_CAUSE c).setFlag RDM_ERRQP_VALID true
  | [] => s1

/-- What reading a register does to it: a FIFO pops, RC bits clear, device time latches its seconds (R10, R12, R81). -/
def State.readEffect (s : State) (req : Requester) (off : Nat) : State :=
  let p := (off - 0x100000) / 0x1000
  if off = RDM_ERRQP then s.popErrQp
  else if off = RED_EVLOG0 then s.popEvlog req
  else if off = CCH_MNT_DONE0 then s.popMnt req
  else if off = CIP_HWM_REQ then { s with cip := { s.cip with hwmReq := s.cip.hwmReq.drop 1 } }.syncHwmReq
  else if off = NET_TIME_NS then { s with sys := { s.sys with timeLatches := tput s.sys.timeLatches (reqNum req) (s.devNs / 1000000000 % 2 ^ 48) } }
  else if 0x100000 ≤ off && off < 0x140000 && (off - 0x100000) % 0x1000 = 0x28 then
    ((s.setFlag (NET_TS_LOW_OVF p) false).modPort p (fun x => { x with tsFifo := x.tsFifo.drop 1 })).syncTs p
  else if mbxData off && (off - 0x20100) % 0x20 = 8 then s.mbxPop (2 * mbxNum off + 1)
  else match regAt off with
    | some (d, _) => if d.rc = 0 then s else s.setReg off (s.reg off &&& ~~~(BitVec.ofNat 32 d.rc))
    | none => s

/-- A low word, or a timestamp's, leaves its high word in the requester's latch. -/
def latchesHigh (off : Nat) : Bool := isLow64 off || (0x100000 ≤ off && off < 0x140000 && (off - 0x100000) % 0x1000 == 0x28)

/-- A read of one aligned word of BAR0. -/
def State.bar0Read (s : State) (req : Requester) (off : Nat) : State :=
  let hi := s.rawWord (off + 4)
  (s.accessRead req off (s.view req off) (fun t => t.readEffect req off)).cond (s.readOk req off && latchesHigh off) (fun t => t.latch req hi)

/-- A word of the counter image (R445). -/
def State.imageWord (s : State) (off : Nat) : Word :=
  if off < 0x4080 then BitVec.ofNat 32 (s.monLive (off / 0x80) (off % 0x80))
  else if 0x8000 ≤ off && off < 0x8400 then s.reg (0xE01000 + (off - 0x8000))
  else if off = 0x8400 then s.reg MON_BW_SEQ
  else 0

/-- Low and high words of the image's 64-bit quantities. -/
def imageLow (off : Nat) : Bool := off % 8 == 0 && ((off < 0x4080 && (off % 0x80 == 8 || 0x40 ≤ off % 0x80)) || (0x8000 ≤ off && off < 0x8400))

/-- A read of the counter user page by a function (R396, R445). -/
def State.userRead (s : State) (pf1 : Bool) (off : Nat) : State :=
  let req : Requester := if pf1 then .pf1 else .pf0
  let o := off - 0x10000
  if !s.flag MON_CTL_USER_EN then s.emit (.bar2Read pf1 off 0)
  else if 4 ≤ o && imageLow (o - 4) then s.emit (.bar2Read pf1 off (s.latched req))
  else (s.emit (.bar2Read pf1 off (s.imageWord o))).cond (imageLow o) (fun t => t.latch req (s.imageWord (o + 4)))

/-- A read of one aligned word of BAR2. What the nudge page reads as the spec does not say: a free value. The diagnostic aperture has its own row. -/
def State.bar2Read (s : State) (pf1 : Bool) (off : Nat) : State :=
  let user := decide (0x10000 ≤ off ∧ off < 0x20000)
  if pf1 then
    if !s.pf1Answers then s
    else if inMsix off then s.emit (.bar2Read true off (BitVec.ofNat 32 (s.hep.pf1.msixGet (off - 0x20000))))
    else if s.classOf .pf1 = 0 then s.malformed.emit (.bar2Read true off 0)
    else if off < 0x1000 then s.useFree.emit (.bar2Read true off (BitVec.ofNat 32 (Config.freeNat s.free)))
    else if off < 0x2000 && (regAt (0x10000000 + off)).isSome then s.emit (.bar2Read true off (s.reg (0x10000000 + off)))
    else if user then s.userRead true off
    else s.malformed.emit (.bar2Read true off 0)
  else
    if !s.reachable .pf0 then s
    else if inMsix off then s.emit (.bar2Read false off (BitVec.ofNat 32 (s.hep.pf0.msixGet (off - 0x20000))))
    else if user then s.userRead false off
    else if 0x8000000 ≤ off then s
    else s.malformed.emit (.bar2Read false off 0)

/-- The boot status page: the registers it shows, by offset (R398). -/
def bootWords : List (Nat × Nat) :=
  [(0x0, SYS_IDREV), (0x4, SYS_MODE), (0x8, SYS_BOOT), (0xC, PROT_BOOT_STAT), (0x10, SYS_MIDNIGHT_CAUSE), (0x14, SYS_RST_CAUSE), (0x18, SYS_CFG), (0x20, HEP_STAT)]

/-- A word of PF0's expansion ROM (R398): the boot status page, or the pre-boot image of the running image's body, which the model leaves free. -/
def State.romWord (s : State) (off : Nat) : Word :=
  if off < 0xFF000 then (if s.sys.imageRunning then BitVec.ofNat 32 (Config.freeNat s.free) else 0)
  else if off = 0xFF01C then BitVec.ofNat 32 (if s.sys.imageRunning then s.sys.imgVersion % 2 ^ 16 else 0)
  else match tget? bootWords (off - 0xFF000) with
    | some r => s.reg r
    | none => 0

/-- A read of the expansion ROM while it decodes (R398, R399). -/
def State.romRead (s : State) (off : Nat) : State :=
  if !(s.powered && s.hep.linkUp && s.hep.pf0.romEn && !s.hep.pf0.d3hot && decide (off < 0x100000)) then s
  else (s.cond (decide (off < 0xFF000) && s.sys.imageRunning) State.useFree).emit (.romRead off (s.romWord off))

/-- A read of one aligned word. -/
def State.placeRead (s : State) (place : RegPlace) : State := match place with
  | .bar0 req off => s.bar0Read req off
  | .bar2 pf1 off => s.bar2Read pf1 off
  | .rom off => s.romRead off

/-- READ_64BIT_LOW_WORD (R9). A read of a high word, or of any other word, is a read of the same kind. -/
def execRead64bitLowWord (place : RegPlace) (s : State) : Host.Outcome State Fault Refusal := .next (s.placeRead place)

/-- RC_READ (R12). -/
def execRcRead (place : RegPlace) (s : State) : Host.Outcome State Fault Refusal := .next (s.placeRead place)

/-! ### Malformed accesses (R7, R25, R395) -/

/-- MALFORMED_ACCESS: `narrow` says that the access is not one aligned word. An aligned word goes where it lands, and is malformed where nothing is. -/
def execMalformedAccess (place : RegPlace) (write narrow : Bool) (s : State) : Host.Outcome State Fault Refusal :=
  .next (match place with
    | .bar0 req off =>
      if narrow then s.cond (s.reachable req) (fun t => if write then t.malformed else t.malformed.emit (.read req off 0))
      else if !s.absent req off then s
      else if write then s.accessWrite req off (fun t => t) else (s.readRefused req off).cond (s.reachable req) (fun t => t.emit (.read req off 0))
    | .bar2 pf1 off =>
      if inMsix off || !(if pf1 then s.pf1Answers else s.reachable .pf0) then s
      else if narrow then (if write then s.malformed else s.malformed.emit (.bar2Read pf1 off 0))
      else if write then s.bar2Write pf1 off 0 {} else s.bar2Read pf1 off
    | .rom _ => s)

end Sys2Proof.Machine
end

