-- ==== Sys2Proof/Machine/Dispatch.lean ====
section
/-! DEFINITION. Each command's meaning, one arm per constructor. -/

namespace Sys2Proof.Machine

def exec (i : Instr) (s : State) : Host.Outcome State Fault Refusal :=
  match i with
  | .registerWrite place val aux => Sys2Proof.Machine.execRegisterWrite place val aux s
  | .malformedAccess place write narrow => Sys2Proof.Machine.execMalformedAccess place write narrow s
  | .read64bitLowWord place => Sys2Proof.Machine.execRead64bitLowWord place s
  | .rcRead place => Sys2Proof.Machine.execRcRead place s
  | .rwcWriteAttempt req off => Sys2Proof.Machine.execRwcWriteAttempt req off s
  | .pwronNAssert => Sys2Proof.Machine.execPwronNAssert s
  | .pwronNRelease pf1 base => Sys2Proof.Machine.execPwronNRelease pf1 base s
  | .aonSupplyLow => Sys2Proof.Machine.execAonSupplyLow s
  | .aonSupplyGood pf1 base => Sys2Proof.Machine.execAonSupplyGood pf1 base s
  | .warmNAssert => Sys2Proof.Machine.execWarmNAssert s
  | .warmNRelease => Sys2Proof.Machine.execWarmNRelease s
  | .sysRstWrite req val => Sys2Proof.Machine.execSysRstWrite req val s
  | .blockReset req val => Sys2Proof.Machine.execBlockReset req val s
  | .blockResetEnd block => Sys2Proof.Machine.execBlockResetEnd block s
  | .pdiStatusFrame chans feeds => Sys2Proof.Machine.execPdiStatusFrame chans feeds s
  | .pdiLoss => Sys2Proof.Machine.execPdiLoss s
  | .pdiRecovery => Sys2Proof.Machine.execPdiRecovery s
  | .clusterClockGate cluster => Sys2Proof.Machine.execClusterClockGate cluster s
  | .clusterPowerGate cluster => Sys2Proof.Machine.execClusterPowerGate cluster s
  | .gatingEntryComplete cluster => Sys2Proof.Machine.execGatingEntryComplete cluster s
  | .pipelineClockGate pipe => Sys2Proof.Machine.execPipelineClockGate pipe s
  | .gatedDomainAccess domain => Sys2Proof.Machine.execGatedDomainAccess domain s
  | .wakePin => Sys2Proof.Machine.execWakePin s
  | .perstRelease lanes rate => Sys2Proof.Machine.execPerstRelease lanes rate s
  | .claimLossWake => Sys2Proof.Machine.execClaimLossWake s
  | .nightRequest req => Sys2Proof.Machine.execNightRequest req s
  | .nightCancel req => Sys2Proof.Machine.execNightCancel req s
  | .nightDrainComplete => Sys2Proof.Machine.execNightDrainComplete s
  | .nightDrainTimeout => Sys2Proof.Machine.execNightDrainTimeout s
  | .powerGatesClosed => Sys2Proof.Machine.execPowerGatesClosed s
  | .alarmCountdownEnd => Sys2Proof.Machine.execAlarmCountdownEnd s
  | .mainPowerGatesOpen => Sys2Proof.Machine.execMainPowerGatesOpen s
  | .pllLock lanes rate kek prov ikh => Sys2Proof.Machine.execPllLock lanes rate kek prov ikh s
  | .avsSetpoint acked => Sys2Proof.Machine.execAvsSetpoint acked s
  | .avsRetry acked => Sys2Proof.Machine.execAvsRetry acked s
  | .imageVerified nor header body => Sys2Proof.Machine.execImageVerified nor header body s
  | .imageFailed nor header body readError => Sys2Proof.Machine.execImageFailed nor header body readError s
  | .sramBistComplete bad => Sys2Proof.Machine.execSramBistComplete bad s
  | .sramInitComplete katBad => Sys2Proof.Machine.execSramInitComplete katBad s
  | .dramTrainingComplete densities => Sys2Proof.Machine.execDramTrainingComplete densities s
  | .dawnComplete => Sys2Proof.Machine.execDawnComplete s
  | .setupReinstate => Sys2Proof.Machine.execSetupReinstate s
  | .configCommit req => Sys2Proof.Machine.execConfigCommit req s
  | .commitCheckComplete => Sys2Proof.Machine.execCommitCheckComplete s
  | .criticalSramUe unit => Sys2Proof.Machine.execCriticalSramUe unit s
  | .wdogKick req val => Sys2Proof.Machine.execWdogKick req val s
  | .wdogStage1Expiry => Sys2Proof.Machine.execWdogStage1Expiry s
  | .wdogStage2Expiry => Sys2Proof.Machine.execWdogStage2Expiry s
  | .swapRequest req => Sys2Proof.Machine.execSwapRequest req s
  | .ucodeActivate req stamp => Sys2Proof.Machine.execUcodeActivate req stamp s
  | .engineBankSwitch engine => Sys2Proof.Machine.execEngineBankSwitch engine s
  | .ucodeBankLoad req version valid => Sys2Proof.Machine.execUcodeBankLoad req version valid s
  | .portCfgWrite req port val => Sys2Proof.Machine.execPortCfgWrite req port val s
  | .portEnable req port => Sys2Proof.Machine.execPortEnable req port s
  | .portDisable req port => Sys2Proof.Machine.execPortDisable req port s
  | .portRestart req port => Sys2Proof.Machine.execPortRestart req port s
  | .laneCheckComplete port codes => Sys2Proof.Machine.execLaneCheckComplete port codes s
  | .anResolved port partner rs528 => Sys2Proof.Machine.execAnResolved port partner rs528 s
  | .anRetryTimer port => Sys2Proof.Machine.execAnRetryTimer port s
  | .trainingComplete port => Sys2Proof.Machine.execTrainingComplete port s
  | .trainingFail port => Sys2Proof.Machine.execTrainingFail port s
  | .upHoldExpiry port => Sys2Proof.Machine.execUpHoldExpiry port s
  | .linkLost port => Sys2Proof.Machine.execLinkLost port s
  | .linkRestored port => Sys2Proof.Machine.execLinkRestored port s
  | .downHoldExpiry port => Sys2Proof.Machine.execDownHoldExpiry port s
  | .faultHoldExpiry port => Sys2Proof.Machine.execFaultHoldExpiry port s
  | .rxFrame port dt id data fcsOk errs => Sys2Proof.Machine.execRxFrame port dt id data fcsOk errs s
  | .pauseFrameRx port pfc stop go => Sys2Proof.Machine.execPauseFrameRx port pfc stop go s
  | .recircPass dt errs => Sys2Proof.Machine.execRecircPass dt errs s
  | .pfcXoffRepeat port cls => Sys2Proof.Machine.execPfcXoffRepeat port cls s
  | .wredIdleUpdate port cls => Sys2Proof.Machine.execWredIdleUpdate port cls s
  | .matchSlot => Sys2Proof.Machine.execMatchSlot s
  | .tblInsert req table errs => Sys2Proof.Machine.execTblInsert req table errs s
  | .tblDelete req table errs => Sys2Proof.Machine.execTblDelete req table errs s
  | .tblSearch req table errs => Sys2Proof.Machine.execTblSearch req table errs s
  | .tblReadSlot req table way index errs => Sys2Proof.Machine.execTblReadSlot req table way index errs s
  | .tblClear req table => Sys2Proof.Machine.execTblClear req table s
  | .tblClearDone => Sys2Proof.Machine.execTblClearDone s
  | .lagRebal lag => Sys2Proof.Machine.execLagRebal lag s
  | .egressSelect port dt => Sys2Proof.Machine.execEgressSelect port dt s
  | .wheelSlotAdvance => Sys2Proof.Machine.execWheelSlotAdvance s
  | .gateEntryChange port dt => Sys2Proof.Machine.execGateEntryChange port dt s
  | .gateBankChange port dt => Sys2Proof.Machine.execGateBankChange port dt s
  | .gateBankSwitch port dt => Sys2Proof.Machine.execGateBankSwitch port dt s
  | .depthSample dt => Sys2Proof.Machine.execDepthSample dt s
  | .counterClear req off val => Sys2Proof.Machine.execCounterClear req off val s
  | .tsFifoPop req port => Sys2Proof.Machine.execTsFifoPop req port s
  | .timeRead req dt => Sys2Proof.Machine.execTimeRead req dt s
  | .timeStep req step dt => Sys2Proof.Machine.execTimeStep req step dt s
  | .timeAdjust req freq dt => Sys2Proof.Machine.execTimeAdjust req freq dt s
  | .ppsOutPulse dt => Sys2Proof.Machine.execPpsOutPulse dt s
  | .ppsInEdge falling dt => Sys2Proof.Machine.execPpsInEdge falling dt s
  | .rdmaRequestRx pkt dt => Sys2Proof.Machine.execRdmaRequestRx pkt dt s
  | .reorderTimerExpiry qp => Sys2Proof.Machine.execReorderTimerExpiry qp s
  | .ackDelayExpiry qp => Sys2Proof.Machine.execAckDelayExpiry qp s
  | .ackTimeout qp => Sys2Proof.Machine.execAckTimeout qp s
  | .ackRx pkt dt => Sys2Proof.Machine.execAckRx pkt dt s
  | .nakRx pkt dt => Sys2Proof.Machine.execNakRx pkt dt s
  | .rnrWaitExpiry qp => Sys2Proof.Machine.execRnrWaitExpiry qp s
  | .readResponseRx pkt dt => Sys2Proof.Machine.execReadResponseRx pkt dt s
  | .readGapTimeout qp => Sys2Proof.Machine.execReadGapTimeout qp s
  | .cnpRx pkt dt => Sys2Proof.Machine.execCnpRx pkt dt s
  | .ccRecoverStep qp => Sys2Proof.Machine.execCcRecoverStep qp s
  | .requesterMessageStart qp dt => Sys2Proof.Machine.execRequesterMessageStart qp dt s
  | .qpcModify req target index => Sys2Proof.Machine.execQpcModify req target index s
  | .qpcRead req index => Sys2Proof.Machine.execQpcRead req index s
  | .qpFlushComplete qp => Sys2Proof.Machine.execQpFlushComplete qp s
  | .winMap req index => Sys2Proof.Machine.execWinMap req index s
  | .winRevoke req index => Sys2Proof.Machine.execWinRevoke req index s
  | .winModify req index => Sys2Proof.Machine.execWinModify req index s
  | .winRead req index => Sys2Proof.Machine.execWinRead req index s
  | .winFree w => Sys2Proof.Machine.execWinFree w s
  | .winStallLimit handle => Sys2Proof.Machine.execWinStallLimit handle s
  | .connect qp => Sys2Proof.Machine.execConnect qp s
  | .disconnect queue => Sys2Proof.Machine.execDisconnect queue s
  | .propertyGet queue => Sys2Proof.Machine.execPropertyGet queue s
  | .propertySet queue => Sys2Proof.Machine.execPropertySet queue s
  | .authenticationSend queue => Sys2Proof.Machine.execAuthenticationSend queue s
  | .authenticationReceive queue => Sys2Proof.Machine.execAuthenticationReceive queue s
  | .getLogPage queue => Sys2Proof.Machine.execGetLogPage queue s
  | .identify queue => Sys2Proof.Machine.execIdentify queue s
  | .abort queue => Sys2Proof.Machine.execAbort queue s
  | .setFeatures queue => Sys2Proof.Machine.execSetFeatures queue s
  | .getFeatures queue => Sys2Proof.Machine.execGetFeatures queue s
  | .asyncEventRequest queue => Sys2Proof.Machine.execAsyncEventRequest queue s
  | .keepAlive queue => Sys2Proof.Machine.execKeepAlive queue s
  | .windowMapCmd queue data => Sys2Proof.Machine.execWindowMapCmd queue data s
  | .windowRevokeCmd queue => Sys2Proof.Machine.execWindowRevokeCmd queue s
  | .ringAttach queue data => Sys2Proof.Machine.execRingAttach queue data s
  | .ringDetach queue => Sys2Proof.Machine.execRingDetach queue s
  | .ringReepoch queue data => Sys2Proof.Machine.execRingReepoch queue data s
  | .commitStage queue data => Sys2Proof.Machine.execCommitStage queue data s
  | .commitConfirm queue => Sys2Proof.Machine.execCommitConfirm queue s
  | .unsupportedCommand queue => Sys2Proof.Machine.execUnsupportedCommand queue s
  | .ioFlush queue => Sys2Proof.Machine.execIoFlush queue s
  | .ioWrite queue sgl => Sys2Proof.Machine.execIoWrite queue sgl s
  | .ioRead queue sgl => Sys2Proof.Machine.execIoRead queue sgl s
  | .ioCompare queue sgl => Sys2Proof.Machine.execIoCompare queue sgl s
  | .ioWriteZeroes queue => Sys2Proof.Machine.execIoWriteZeroes queue s
  | .ioDatasetManagement queue ranges => Sys2Proof.Machine.execIoDatasetManagement queue ranges s
  | .keepAliveExpiry assoc dt => Sys2Proof.Machine.execKeepAliveExpiry assoc dt s
  | .doorbellReadDue queue late => Sys2Proof.Machine.execDoorbellReadDue queue late s
  | .doorbellReadReturn queue => Sys2Proof.Machine.execDoorbellReadReturn queue s
  | .ringEntryReturn queue => Sys2Proof.Machine.execRingEntryReturn queue s
  | .localNudge word held => Sys2Proof.Machine.execLocalNudge word held s
  | .arbiterAdmit cluster => Sys2Proof.Machine.execArbiterAdmit cluster s
  | .lockGrant handle => Sys2Proof.Machine.execLockGrant handle s
  | .govAdmit handle => Sys2Proof.Machine.execGovAdmit handle s
  | .commandRetire handle => Sys2Proof.Machine.execCommandRetire handle s
  | .lastFrameTransmitted handle => Sys2Proof.Machine.execLastFrameTransmitted handle s
  | .engineTake engine => Sys2Proof.Machine.execEngineTake engine s
  | .contextResume handle => Sys2Proof.Machine.execContextResume handle s
  | .stealProbe engine => Sys2Proof.Machine.execStealProbe engine s
  | .localProbeTimeout engine => Sys2Proof.Machine.execLocalProbeTimeout engine s
  | .remoteStealProbe engine => Sys2Proof.Machine.execRemoteStealProbe engine s
  | .probeSleepTimeout engine => Sys2Proof.Machine.execProbeSleepTimeout engine s
  | .helpSignal cluster => Sys2Proof.Machine.execHelpSignal cluster s
  | .engineUeRestart engine handle => Sys2Proof.Machine.execEngineUeRestart engine handle s
  | .segmentPlace handle => Sys2Proof.Machine.execSegmentPlace handle s
  | .globalBroadcast req => Sys2Proof.Machine.execGlobalBroadcast req s
  | .globalBarrier req stamp => Sys2Proof.Machine.execGlobalBarrier req stamp s
  | .globalSnapshot req stamp => Sys2Proof.Machine.execGlobalSnapshot req stamp s
  | .globalReset req => Sys2Proof.Machine.execGlobalReset req s
  | .barrierArrived => Sys2Proof.Machine.execBarrierArrived s
  | .barrierDrainDone => Sys2Proof.Machine.execBarrierDrainDone s
  | .snapshotLocalArm => Sys2Proof.Machine.execSnapshotLocalArm s
  | .driveCommandIssue index => Sys2Proof.Machine.execDriveCommandIssue index s
  | .driveSqRead member queue slot => Sys2Proof.Machine.execDriveSqRead member queue slot s
  | .driveDmaAccess member access => Sys2Proof.Machine.execDriveDmaAccess member access s
  | .driveCqeWrite member queue slot phase cid status => Sys2Proof.Machine.execDriveCqeWrite member queue slot phase cid status s
  | .cqHeadDoorbell member queue => Sys2Proof.Machine.execCqHeadDoorbell member queue s
  | .slotResetRelease half => Sys2Proof.Machine.execSlotResetRelease half s
  | .driveLinkUp place width rate => Sys2Proof.Machine.execDriveLinkUp place width rate s
  | .driveReady place => Sys2Proof.Machine.execDriveReady place s
  | .driveQualify place facts => Sys2Proof.Machine.execDriveQualify place facts s
  | .driveRemoval half presence => Sys2Proof.Machine.execDriveRemoval half presence s
  | .dpcLinkRetrain half => Sys2Proof.Machine.execDpcLinkRetrain half s
  | .xpHotplugEvent xp slot insert dpc => Sys2Proof.Machine.execXpHotplugEvent xp slot insert dpc s
  | .xpLinkDown xp => Sys2Proof.Machine.execXpLinkDown xp s
  | .reservationAcquireDone member => Sys2Proof.Machine.execReservationAcquireDone member s
  | .acquireTimeout member => Sys2Proof.Machine.execAcquireTimeout member s
  | .driveCmdTimeout cid => Sys2Proof.Machine.execDriveCmdTimeout cid s
  | .abortWaitExpiry member => Sys2Proof.Machine.execAbortWaitExpiry member s
  | .ctrlDisabled member => Sys2Proof.Machine.execCtrlDisabled member s
  | .ctrlReady member => Sys2Proof.Machine.execCtrlReady member s
  | .ctrlReadyTimeout member => Sys2Proof.Machine.execCtrlReadyTimeout member s
  | .ctrlResetComplete member => Sys2Proof.Machine.execCtrlResetComplete member s
  | .driveReissueTimer cid => Sys2Proof.Machine.execDriveReissueTimer cid s
  | .memberFailCmd req member => Sys2Proof.Machine.execMemberFailCmd req member s
  | .memberReleaseCmd req member => Sys2Proof.Machine.execMemberReleaseCmd req member s
  | .memberRequalifyCmd req member => Sys2Proof.Machine.execMemberRequalifyCmd req member s
  | .writeDataReadIssue handle => Sys2Proof.Machine.execWriteDataReadIssue handle s
  | .journalAppend handle => Sys2Proof.Machine.execJournalAppend handle s
  | .destageStart set stripe rd => Sys2Proof.Machine.execDestageStart set stripe rd s
  | .destageComplete set stripe => Sys2Proof.Machine.execDestageComplete set stripe s
  | .intentBlockWrite => Sys2Proof.Machine.execIntentBlockWrite s
  | .intentReplay found => Sys2Proof.Machine.execIntentReplay found s
  | .intentResync set stripe rd => Sys2Proof.Machine.execIntentResync set stripe rd s
  | .powerFailWarning va vb => Sys2Proof.Machine.execPowerFailWarning va vb s
  | .powerFailClear va vb => Sys2Proof.Machine.execPowerFailClear va vb s
  | .missingHoldExpiry member => Sys2Proof.Machine.execMissingHoldExpiry member s
  | .rebuildChunk set stripe rd => Sys2Proof.Machine.execRebuildChunk set stripe rd s
  | .memberReturn member rd => Sys2Proof.Machine.execMemberReturn member rd s
  | .setCreate req set => Sys2Proof.Machine.execSetCreate req set s
  | .setDelete req set => Sys2Proof.Machine.execSetDelete req set s
  | .setReplace req set slot member => Sys2Proof.Machine.execSetReplace req set slot member s
  | .patrolNow req set => Sys2Proof.Machine.execPatrolNow req set s
  | .patrolChunk set stripe rd => Sys2Proof.Machine.execPatrolChunk set stripe rd s
  | .volCreate req vol set => Sys2Proof.Machine.execVolCreate req vol set s
  | .volResize req vol => Sys2Proof.Machine.execVolResize req vol s
  | .volDelete req vol => Sys2Proof.Machine.execVolDelete req vol s
  | .lostRead req index => Sys2Proof.Machine.execLostRead req index s
  | .lostClear req index rd => Sys2Proof.Machine.execLostClear req index rd s
  | .eventLogPop req => Sys2Proof.Machine.execEventLogPop req s
  | .holdupWrite req val => Sys2Proof.Machine.execHoldupWrite req val s
  | .fillInstall vol stripe => Sys2Proof.Machine.execFillInstall vol stripe s
  | .prefetchFillComplete vol stripe => Sys2Proof.Machine.execPrefetchFillComplete vol stripe s
  | .mntInvalidate req respect id => Sys2Proof.Machine.execMntInvalidate req respect id s
  | .mntClean req respect id => Sys2Proof.Machine.execMntClean req respect id s
  | .mntPrefetch req respect id => Sys2Proof.Machine.execMntPrefetch req respect id s
  | .mntLock req respect id => Sys2Proof.Machine.execMntLock req respect id s
  | .mntUnlock req respect id => Sys2Proof.Machine.execMntUnlock req respect id s
  | .mntDonePop req => Sys2Proof.Machine.execMntDonePop req s
  | .cacheDisable req => Sys2Proof.Machine.execCacheDisable req s
  | .dramScrubLine chan ce ue => Sys2Proof.Machine.execDramScrubLine chan ce ue s
  | .dramUe chan ue => Sys2Proof.Machine.execDramUe chan ue s
  | .stagingUe slot => Sys2Proof.Machine.execStagingUe slot s
  | .cipherRequest who => Sys2Proof.Machine.execCipherRequest who s
  | .sectorVerified pipe => Sys2Proof.Machine.execSectorVerified pipe s
  | .authFailure pipe partner => Sys2Proof.Machine.execAuthFailure pipe partner s
  | .katRun req => Sys2Proof.Machine.execKatRun req s
  | .katComplete pipe pass => Sys2Proof.Machine.execKatComplete pipe pass s
  | .hwmAck req slot => Sys2Proof.Machine.execHwmAck req slot s
  | .zeroizeComplete slot => Sys2Proof.Machine.execZeroizeComplete slot s
  | .keySlotRead req slot => Sys2Proof.Machine.execKeySlotRead req slot s
  | .govSlowTick dt ts feed => Sys2Proof.Machine.execGovSlowTick dt ts feed s
  | .govIntervalEnd => Sys2Proof.Machine.execGovIntervalEnd s
  | .deferExpiry handle => Sys2Proof.Machine.execDeferExpiry handle s
  | .driveIdleLow member => Sys2Proof.Machine.execDriveIdleLow member s
  | .nzlGroupTrained group codes => Sys2Proof.Machine.execNzlGroupTrained group codes s
  | .nzlGroupRetry group codes => Sys2Proof.Machine.execNzlGroupRetry group codes s
  | .nzlBadFrame group frames => Sys2Proof.Machine.execNzlBadFrame group frames s
  | .mirrorRx group m => Sys2Proof.Machine.execMirrorRx group m s
  | .metaRx group m => Sys2Proof.Machine.execMetaRx group m s
  | .cfgRx group m => Sys2Proof.Machine.execCfgRx group m s
  | .heartbeatRx group m => Sys2Proof.Machine.execHeartbeatRx group m s
  | .fenceRx group m => Sys2Proof.Machine.execFenceRx group m s
  | .claimReportRx group m => Sys2Proof.Machine.execClaimReportRx group m s
  | .handbackRx group m => Sys2Proof.Machine.execHandbackRx group m s
  | .mboxRx group m => Sys2Proof.Machine.execMboxRx group m s
  | .snapshotArmRx group m => Sys2Proof.Machine.execSnapshotArmRx group m s
  | .swapEndRx group m => Sys2Proof.Machine.execSwapEndRx group m s
  | .snapshotArmedRx group m => Sys2Proof.Machine.execSnapshotArmedRx group m s
  | .nzlReplayTimeout group => Sys2Proof.Machine.execNzlReplayTimeout group s
  | .heartbeatSend group => Sys2Proof.Machine.execHeartbeatSend group s
  | .partnerSilenceTimeout => Sys2Proof.Machine.execPartnerSilenceTimeout s
  | .ackStallTimeout => Sys2Proof.Machine.execAckStallTimeout s
  | .fenceWrite req => Sys2Proof.Machine.execFenceWrite req s
  | .staleTimeout => Sys2Proof.Machine.execStaleTimeout s
  | .lossHoldExpiry => Sys2Proof.Machine.execLossHoldExpiry s
  | .claimRoundStart => Sys2Proof.Machine.execClaimRoundStart s
  | .claimRoundEnd win slots feeds => Sys2Proof.Machine.execClaimRoundEnd win slots feeds s
  | .takeoverAdmissionOpen => Sys2Proof.Machine.execTakeoverAdmissionOpen s
  | .partnerHandshake => Sys2Proof.Machine.execPartnerHandshake s
  | .handshakeTimeout => Sys2Proof.Machine.execHandshakeTimeout s
  | .resyncComplete => Sys2Proof.Machine.execResyncComplete s
  | .swapDrainTimeout => Sys2Proof.Machine.execSwapDrainTimeout s
  | .handbackHoldoff => Sys2Proof.Machine.execHandbackHoldoff s
  | .scheduledSwap => Sys2Proof.Machine.execScheduledSwap s
  | .cmtStage req => Sys2Proof.Machine.execCmtStage req s
  | .cmtConfirm req => Sys2Proof.Machine.execCmtConfirm req s
  | .cmtCancel req => Sys2Proof.Machine.execCmtCancel req s
  | .commitWindowLapse => Sys2Proof.Machine.execCommitWindowLapse s
  | .aclRead req index => Sys2Proof.Machine.execAclRead req index s
  | .jtagClose => Sys2Proof.Machine.execJtagClose s
  | .flrPf1 => Sys2Proof.Machine.execFlrPf1 s
  | .flrPf0 => Sys2Proof.Machine.execFlrPf0 s
  | .bmeClear => Sys2Proof.Machine.execBmeClear s
  | .bmeSet => Sys2Proof.Machine.execBmeSet s
  | .perstAssert => Sys2Proof.Machine.execPerstAssert s
  | .l0sEntry => Sys2Proof.Machine.execL0sEntry s
  | .l1Entry => Sys2Proof.Machine.execL1Entry s
  | .pcieCompletionRx tag status bytes data stamp => Sys2Proof.Machine.execPcieCompletionRx tag status bytes data stamp s
  | .completionTimeout tag dt => Sys2Proof.Machine.execCompletionTimeout tag dt s
  | .tagQuarantineEnd tag dt => Sys2Proof.Machine.execTagQuarantineEnd tag dt s
  | .localAdminEnable val => Sys2Proof.Machine.execLocalAdminEnable val s
  | .localAdminDisable val => Sys2Proof.Machine.execLocalAdminDisable val s
  | .diagApertureRead off data ue => Sys2Proof.Machine.execDiagApertureRead off data ue s
  | .mbxTx who chan word => Sys2Proof.Machine.execMbxTx who chan word s
  | .mbxTxEom who chan word => Sys2Proof.Machine.execMbxTxEom who chan word s
  | .mbxRx who chan => Sys2Proof.Machine.execMbxRx who chan s
  | .mbxAck who chan code => Sys2Proof.Machine.execMbxAck who chan code s
  | .mbxFarEndDown dir => Sys2Proof.Machine.execMbxFarEndDown dir s
  | .mbxFarEndUp dir => Sys2Proof.Machine.execMbxFarEndUp dir s
  | .presenceDebounced pos present => Sys2Proof.Machine.execPresenceDebounced pos present s
  | .slotRampStart ch openPin => Sys2Proof.Machine.execSlotRampStart ch openPin s
  | .slotPowerGood ch vout vgs => Sys2Proof.Machine.execSlotPowerGood ch vout vgs s
  | .slotPgLoss ch v1 v2 => Sys2Proof.Machine.execSlotPgLoss ch v1 v2 s
  | .gateNoRise ch vgs => Sys2Proof.Machine.execGateNoRise ch vgs s
  | .currentLimit ch uv => Sys2Proof.Machine.execCurrentLimit ch uv s
  | .faultTimerExpiry ch => Sys2Proof.Machine.execFaultTimerExpiry ch s
  | .fastTrip ch uv => Sys2Proof.Machine.execFastTrip ch uv s
  | .slotReverseCurrent ch since => Sys2Proof.Machine.execSlotReverseCurrent ch since s
  | .sagReramp ch openPin => Sys2Proof.Machine.execSagReramp ch openPin s
  | .retryWaitExpiry ch openPin => Sys2Proof.Machine.execRetryWaitExpiry ch openPin s
  | .attemptsClear ch => Sys2Proof.Machine.execAttemptsClear ch s
  | .slotClear req ch => Sys2Proof.Machine.execSlotClear req ch s
  | .slotModeWrite req ch mode => Sys2Proof.Machine.execSlotModeWrite req ch mode s
  | .feedReversed feed vin => Sys2Proof.Machine.execFeedReversed feed vin s
  | .feedPolarityRestored feed => Sys2Proof.Machine.execFeedPolarityRestored feed s
  | .feedPrechargeStart feed vin => Sys2Proof.Machine.execFeedPrechargeStart feed vin s
  | .feedPrechargeDone feed vin vbus => Sys2Proof.Machine.execFeedPrechargeDone feed vin vbus s
  | .feedPrechargeTimeout feed => Sys2Proof.Machine.execFeedPrechargeTimeout feed s
  | .feedReverse feed vin vbus => Sys2Proof.Machine.execFeedReverse feed vin vbus s
  | .feedUnblock feed vin vbus => Sys2Proof.Machine.execFeedUnblock feed vin vbus s
  | .feedOvervoltage feed vin => Sys2Proof.Machine.execFeedOvervoltage feed vin s
  | .feedUndervoltage feed vin => Sys2Proof.Machine.execFeedUndervoltage feed vin s
  | .feedFaultWaitExpiry feed => Sys2Proof.Machine.execFeedFaultWaitExpiry feed s
  | .feedDisable req feed => Sys2Proof.Machine.execFeedDisable req feed s
  | .senseWireOpen feed wire => Sys2Proof.Machine.execSenseWireOpen feed wire s
  | .vhvUvlo => Sys2Proof.Machine.execVhvUvlo s
  | .sgpioFrame inputs => Sys2Proof.Machine.execSgpioFrame inputs s
  | .smbusStuck bus fresh => Sys2Proof.Machine.execSmbusStuck bus fresh s
  | .groupSnap req group val => Sys2Proof.Machine.execGroupSnap req group val s
  | .snapAll req val => Sys2Proof.Machine.execSnapAll req val s
  | .groupClear req group val => Sys2Proof.Machine.execGroupClear req group val s
  | .pcSelect req group k val => Sys2Proof.Machine.execPcSelect req group k val s
  | .bwWindowEnd dt => Sys2Proof.Machine.execBwWindowEnd dt s
  | .bwCfgWrite req val => Sys2Proof.Machine.execBwCfgWrite req val s
  | .healthWindowEnd => Sys2Proof.Machine.execHealthWindowEnd s
  | .xtalSwitch => Sys2Proof.Machine.execXtalSwitch s
  | .xtalFail => Sys2Proof.Machine.execXtalFail s
  | .configurationRequest pf1 what => Sys2Proof.Machine.execConfigurationRequest pf1 what s
  | .pauseTimeExpiry port classes => Sys2Proof.Machine.execPauseTimeExpiry port classes s
  | .ringIdleTimeout queue => Sys2Proof.Machine.execRingIdleTimeout queue s
  | .nzlGroupLinkLoss group => Sys2Proof.Machine.execNzlGroupLinkLoss group s
  | .nzlTrainingFail group => Sys2Proof.Machine.execNzlTrainingFail group s
  | .controllerFatalStatus member => Sys2Proof.Machine.execControllerFatalStatus member s
  | .vhvUvloRecovery => Sys2Proof.Machine.execVhvUvloRecovery s
  | .jtagInstruction instr => Sys2Proof.Machine.execJtagInstruction instr s

end Sys2Proof.Machine
end

