-- ==== Sys2Proof/Safety.lean ====
section
/-! DEFINITION. What counts as a safe run, and the words the statements use: next states, admitted accesses, frames. -/

namespace Sys2Proof.Machine

/-- An outcome is a next state with a property. -/
def NextIs (o : Host.Outcome State Fault Refusal) (P : State → Prop) : Prop := ∃ t, o = .next t ∧ P t

/-- The register file is in its canonical form: offsets rising, no register listed at its PORn value, no reserved bit set (R8, R11). -/
abbrev State.RegsOk (s : State) : Prop := regsWf s.regs = true

/-- A run of some steps never stops: every step has a next state. -/
def Runs : Nat → State → Prop
  | 0, _ => True
  | n + 1, s => NextIs (step s) (Runs n)

/-- A write by a requester to an offset that every check admits: registers answer the requester, its class is at least ADMIN, the mode takes writes
there, and a register lies there (R25, R41, R69, R374). -/
abbrev State.Admits (s : State) (req : Requester) (off : Nat) : Prop :=
  s.reachable req = true ∧ 2 ≤ s.classOf req ∧ (s.mode ≠ 7 ∨ midnightWrite off = true) ∧ s.absent req off = false

/-- Nothing changed but registers at the listed offsets. -/
def RegsOnly (offs : List Nat) (s t : State) : Prop := t = { s with regs := t.regs } ∧ ∀ off, off ∉ offs → t.reg off = s.reg off

/-- Nothing changed but registers at the listed offsets, and what counting an event and raising a message change: the monitor, the transcript, pending
MSI-X bits and the link state they wake (R399, R407, R440–R448). -/
def CountsOnly (offs : List Nat) (s t : State) : Prop :=
  t = { s with regs := t.regs, out := t.out, mon := t.mon, hep := { s.hep with pf0 := { s.hep.pf0 with pba := t.hep.pf0.pba }, pf1 := { s.hep.pf1 with pba := t.hep.pf1.pba } } }
    ∧ ∀ off, off ∉ offs → off ≠ HEP_STAT → t.reg off = s.reg off

/-- A capsule stands at the head of an association's admin capsule queue, a tag is free, FUSE is 0, its CID is not outstanding, its class is at least
`cls`, and the queue pair can carry the response (R139, R174, R175, R191). -/
abbrev State.AdminHead (s : State) (qi : Nat) (q : Queue) (c : Capsule) (rest : List Capsule) (cls : Nat) : Prop :=
  s.inService = true ∧ s.queue? qi = some q ∧ q.type = 0 ∧ q.inbox = c :: rest ∧ s.tagOk false = true ∧ c.sqe / 256 % 4 = 0
    ∧ s.cmdq.cmds.any (fun e => e.2.queue == some qi && e.2.cid == sqeCid c.sqe) = false ∧ cls ≤ s.cmdClass q.assoc c.port ∧ ((s.qp q.qpn).state = 2 ∨ (s.qp q.qpn).state = 3)

/-- The response capsule of an entry: the CQE of R183 with the SQ head behind the entry. -/
def response (q : Queue) (c : Capsule) (status result : Nat) : Msg :=
  ⟨.cqe none (cqeWord result ((q.sqHead + 1) % (q.entriesM1 + 1)) q.qid (sqeCid c.sqe) status q.phase) (invalKey c.sqe), 16⟩

/-- The messages `ms` were queued on the queue pair of a queue, and nothing else on that pair changed. -/
abbrev Sent (s t : State) (q : Queue) (ms : List Msg) : Prop := t.qp q.qpn = { s.qp q.qpn with sendq := (s.qp q.qpn).sendq ++ ms }

/-- The last thing emitted is a HEARTBEAT on a group that acknowledges a SEQ, with or without NAK (R352, R355). -/
def State.lastAck (t : State) (g seq : Nat) (nak : Bool) : Bool := match t.out with
  | .nzl h m :: _ => h == g && m.ack == seq && (match m.body with
    | .heartbeat _ _ _ _ _ _ _ _ n => n == nak
    | _ => false)
  | _ => false

/-- A message arrives in order on a group that is up and has nothing of its own outstanding, and its frames are free for it (R350–R354). -/
abbrev State.RxReady (s : State) (g : Nat) (m : NzlMsg) : Prop :=
  s.running = true ∧ s.grpUp g = true ∧ m.seq = (s.grp g).expect ∧ (s.grp g).expect < 2 ^ 32 ∧ (s.grp g).kept = [] ∧ (s.grp g).queue = [] ∧ s.nzl.stream = [] ∧ s.nzl.applied.contains m.id = false

/-- The keys of the maps lie in the ranges of their registers (R248, R253). -/
abbrev State.MapsOk (s : State) : Prop := (∀ e ∈ s.red.sets, e.1 < 8) ∧ (∀ e ∈ s.red.vols, e.1 < 4096 ∧ e.2.set < 8)

/-- The commands that are one write of a register, with the requester that writes and the offset written (R374). -/
def writerOf (c : Instr) : Option (Requester × Nat) := match c with
  | .sysRstWrite req _ => some (req, SYS_RST)
  | .blockReset req _ => some (req, SYS_BLKRST)
  | .nightRequest req => some (req, SYS_MODE_REQ)
  | .nightCancel req => some (req, SYS_MODE_REQ)
  | .configCommit req => some (req, SYS_CFG)
  | .wdogKick req _ => some (req, SYS_WDOG_KICK)
  | .swapRequest req => some (req, SYS_MODE_REQ)
  | .ucodeActivate req _ => some (req, SYS_UCODE)
  | .portCfgWrite req port _ => some (req, NET_PORT_CFG port)
  | .portEnable req port => some (req, NET_PORT_CFG port)
  | .portDisable req port => some (req, NET_PORT_CFG port)
  | .portRestart req port => some (req, NET_PORT_CFG port)
  | .tblInsert req _ _ => some (req, CLS_TBL_CMD)
  | .tblDelete req _ _ => some (req, CLS_TBL_CMD)
  | .tblSearch req _ _ => some (req, CLS_TBL_CMD)
  | .tblReadSlot req _ _ _ _ => some (req, CLS_TBL_CMD)
  | .tblClear req _ => some (req, CLS_TBL_CMD)
  | .counterClear req off _ => some (req, off)
  | .qpcModify req _ _ => some (req, RDM_QPC_CMD)
  | .qpcRead req _ => some (req, RDM_QPC_CMD)
  | .winMap req _ => some (req, RDM_WIN_CMD)
  | .winRevoke req _ => some (req, RDM_WIN_CMD)
  | .winModify req _ => some (req, RDM_WIN_CMD)
  | .winRead req _ => some (req, RDM_WIN_CMD)
  | .globalBroadcast req => some (req, ENG_GLOBAL_CMD)
  | .globalBarrier req _ => some (req, ENG_GLOBAL_CMD)
  | .globalSnapshot req _ => some (req, ENG_GLOBAL_CMD)
  | .globalReset req => some (req, ENG_GLOBAL_CMD)
  | .memberFailCmd req _ => some (req, DPT_MEM_CMD)
  | .memberReleaseCmd req _ => some (req, DPT_MEM_CMD)
  | .memberRequalifyCmd req _ => some (req, DPT_MEM_CMD)
  | .setCreate req _ => some (req, RED_SET_CMD)
  | .setDelete req _ => some (req, RED_SET_CMD)
  | .setReplace req _ _ _ => some (req, RED_SET_CMD)
  | .patrolNow req _ => some (req, RED_SET_CMD)
  | .volCreate req _ _ => some (req, RED_VOL_CMD)
  | .volResize req _ => some (req, RED_VOL_CMD)
  | .volDelete req _ => some (req, RED_VOL_CMD)
  | .lostRead req _ => some (req, RED_LOST_CMD)
  | .lostClear req _ _ => some (req, RED_LOST_CMD)
  | .holdupWrite req _ => some (req, RED_HOLDUP)
  | .mntInvalidate req _ _ => some (req, CCH_MNT_CMD)
  | .mntClean req _ _ => some (req, CCH_MNT_CMD)
  | .mntPrefetch req _ _ => some (req, CCH_MNT_CMD)
  | .mntLock req _ _ => some (req, CCH_MNT_CMD)
  | .mntUnlock req _ _ => some (req, CCH_MNT_CMD)
  | .cacheDisable req => some (req, CCH_CTL)
  | .katRun req => some (req, CIP_CTL)
  | .hwmAck req _ => some (req, CIP_HWM_ACK)
  | .keySlotRead req _ => some (req, CIP_KS_RDCMD)
  | .fenceWrite req => some (req, NZL_CTL)
  | .aclRead req _ => some (req, PROT_ACL_RD)
  | .slotClear req ch => some (req, SLP_CH_CFG ch)
  | .slotModeWrite req ch _ => some (req, SLP_CH_CFG ch)
  | .feedDisable req feed => some (req, SLP_FD_CFG feed)
  | .groupSnap req group _ => some (req, MON_GRP_CTL group)
  | .snapAll req _ => some (req, MON_CTL)
  | .groupClear req group _ => some (req, MON_GRP_CTL group)
  | .pcSelect req group k _ => some (req, MON_PC_SEL group k)
  | .bwCfgWrite req _ => some (req, MON_BW_CFG)
  | _ => none

end Sys2Proof.Machine
end

