-- ==== Sys2Proof/Certificates/Slice0/Obligations.lean ====
section
/-! DEFINITION. The statements for the provers. -/

open Sys2Proof Sys2Proof.Machine

/-- A step with a command at the front of the queue is that command's meaning on the state with the queue's rest; with no command waiting the block idles and the state stays as it is (the model's choice, log entry 1). -/
def Obligations.StepRunsFront : Prop :=
  (∀ (s : State) (c : Instr) (rest : List Instr), step { s with pending := c :: rest } = exec c { s with pending := rest }) ∧
  (∀ (s : State), s.pending = [] → step s = .next s)

/-- The register file of State.reset lists rising offsets, no register at its PORn value and no reserved bit, and no command is waiting. -/
def Obligations.ResetIsCanonical : Prop :=
    State.reset.RegsOk ∧ State.reset.pending = []

/-- After PORn SYS_IDREV reads 0x48E9_6310, CUR is DAWN, RESULT and STATUS read 0, WAKE_N, PERST_N and claim loss may wake the part and the power-on source is recorded, DRAIN_MAX is 0x2800, the watchdog's PERIOD is 0x080 with stage 2 enabled, and no midnight cause is set. SYS_RST_CAUSE shows the pin (the model's choice, log entry 7). -/
def Obligations.ResetValues : Prop :=
    State.reset.reg SYS_IDREV = 0x48E96310 ∧ State.reset.mode = 1 ∧ State.reset.reg SYS_MODE_REQ = 0 ∧ State.reset.reg SYS_CFG = 0 ∧
      State.reset.reg SYS_WAKE_EN = 0xB ∧ State.reset.reg SYS_WAKE_SRC = 1 ∧ State.reset.reg SYS_NIGHT_CTL = 0x2800 ∧
      State.reset.reg SYS_WDOG_CTL = 0x10080 ∧ State.reset.reg SYS_MIDNIGHT_CAUSE = 0 ∧ State.reset.reg SYS_RST_CAUSE = 1

/-- From every state whose register file is in canonical form, a step of any command leaves it so: offsets rise, no register is listed at its PORn value, and no reserved bit is ever set. -/
def Obligations.StepKeepsCanonicalRegisters : Prop :=
    ∀ (s t : State), s.RegsOk → step s = .next t → t.RegsOk

/-- In a canonical register file the reserved bits of every register read 0, whatever word is stored the reserved bits of the register read back are 0, and a word that differs in reserved bits only leaves the same state. -/
def Obligations.ReservedBitsReadZero : Prop :=
  (∀ (s : State) (off : Nat), s.RegsOk → s.reg off &&& ~~~(regImpl off) = 0) ∧
  (∀ (s : State) (off : Nat) (w w' : Word), w &&& regImpl off = w' &&& regImpl off → s.setReg off w = s.setReg off w' ∧ (s.setReg off w).reg off &&& ~~~(regImpl off) = 0)

/-- Every command answers a next state on every operand and in every state: the model neither faults nor refuses. -/
def Obligations.NoCommandStops : Prop :=
  (∀ (c : Instr) (s : State), ∃ t, exec c s = .next t) ∧
  (∀ (n : Nat) (s : State), Runs n s)

/-- PWRON_N low or a supply low starts a PORn that is held until both are good, with its cause bit set and DAWN shown; a PORn source during PORn adds no reset. WARM_N low, and SYS_RST with its key, start a CHIP reset: PREV shows the mode it ended, its cause bit is set beside those held, and the AON settings keep their values. Without the key the write is malformed. Where the spec leaves a point open the clauses hold of the model's choice (log entries 8, 9, 11, 12, 13, 14). -/
def Obligations.ResetEvents : Prop :=
  (∀ (s : State), s.RegsOk → s.sys.pwronLow = false → s.sys.hold ≠ .porn →
      NextIs (exec .pwronNAssert s) fun t => t.sys.hold = .porn ∧ t.sys.pwronLow = true ∧ t.mode = 1 ∧ t.flag SYS_RST_CAUSE_PWRON_PIN = true ∧ t.pending = s.pending ∧ t.cmdq = {} ∧ t.slp.gates = s.slp.gates) ∧
  (∀ (s : State) (pf1 : Bool) (base : Fin 16), s.sys.pwronLow = true → s.sys.supplyLow = false →
      NextIs (exec (.pwronNRelease pf1 base) s) fun t => t.sys = { s.sys with pwronLow := false, hold := .none } ∧ t.flag HEP_STAT_PF1_PRESENT = pf1 ∧ t.fld NZL_CLAIM_BASE = base.val ∧ RegsOnly [HEP_STAT, NZL_CLAIM] { s with sys := t.sys } t) ∧
  (∀ (s : State), s.RegsOk → s.sys.supplyLow = false → s.sys.hold ≠ .porn →
      NextIs (exec .aonSupplyLow s) fun t => t.sys.hold = .porn ∧ t.sys.supplyLow = true ∧ t.mode = 1 ∧ t.flag SYS_RST_CAUSE_AON_SUPPLY = true ∧ t.pending = s.pending ∧ t.cmdq = {} ∧ t.slp.gates = s.slp.gates) ∧
  (∀ (s : State) (pf1 : Bool) (base : Fin 16), s.sys.supplyLow = true → s.sys.pwronLow = false →
      NextIs (exec (.aonSupplyGood pf1 base) s) fun t => t.sys = { s.sys with supplyLow := false, hold := .none } ∧ t.flag HEP_STAT_PF1_PRESENT = pf1 ∧ t.fld NZL_CLAIM_BASE = base.val ∧ RegsOnly [HEP_STAT, NZL_CLAIM] { s with sys := t.sys } t) ∧
  (∀ (s : State), s.RegsOk → s.sys.hold = .none →
      NextIs (exec .warmNAssert s) fun t => t.sys.hold = .chip ∧ t.mode = 1 ∧ t.fld SYS_MODE_PREV = s.mode ∧ t.flag SYS_RST_CAUSE_WARM_PIN = true ∧ t.reg SYS_WAKE_EN = s.reg SYS_WAKE_EN ∧ t.slp = s.slp ∧ t.cmdq = {} ∧ t.pending = s.pending) ∧
  (∀ (s : State), s.sys.hold = .chip → exec .warmNRelease s = .next { s with sys := { s.sys with hold := .none } }) ∧
  (∀ (s : State) (req : Requester) (val : Word), s.RegsOk → s.Admits req SYS_RST → fieldOf val 8 8 = 0xA5 → fieldOf val 0 1 = 1 →
      NextIs (exec (.sysRstWrite req val) s) fun t => t.sys.hold = .none ∧ t.mode = 1 ∧ t.fld SYS_MODE_PREV = s.mode ∧ t.flag SYS_RST_CAUSE_SOFT = true ∧ t.reg SYS_WAKE_EN = s.reg SYS_WAKE_EN ∧ t.slp = s.slp ∧ t.cmdq = {}) ∧
  (∀ (s : State) (req : Requester) (val : Word), s.Admits req SYS_RST → fieldOf val 8 8 ≠ 0xA5 →
      NextIs (exec (.sysRstWrite req val) s) fun t => t.get64 CNT_HEP_MALFORMED = (s.get64 CNT_HEP_MALFORMED + 1) % 2 ^ 64 ∧ CountsOnly [CNT_HEP_MALFORMED, CNT_HEP_MALFORMED + 4] s t)

/-- In MORNING and MIDNIGHT a write of one SYS_BLKRST bit resets that block: its bit reads 1, the classifier, switch, egress or monitor state is as after a CHIP reset, and another block's registers keep their values. In another mode every bit but MON is malformed and changes nothing else. The end of the reset clears the bit. Where the spec leaves a point open the clauses hold of the model's choice (log entries 15, 16, 17). -/
def Obligations.BlockResets : Prop :=
  (∀ (s : State) (req : Requester) (val : Word), s.RegsOk → s.Admits req SYS_BLKRST → s.mode = 2 → val = 2 → s.fld SYS_BLKRST_BLK = 0 →
      NextIs (exec (.blockReset req val) s) fun t => t.cls = {} ∧ t.fld SYS_BLKRST_BLK = 2 ∧ t.swc = s.swc ∧ t.reg SYS_WAKE_EN = s.reg SYS_WAKE_EN ∧ t = { s with cls := t.cls, regs := t.regs }) ∧
  (∀ (s : State) (req : Requester) (val : Word), s.RegsOk → s.Admits req SYS_BLKRST → s.mode = 7 → val = 4 → s.fld SYS_BLKRST_BLK = 0 →
      NextIs (exec (.blockReset req val) s) fun t => t.swc = {} ∧ t.fld SYS_BLKRST_BLK = 4 ∧ t.cls = s.cls ∧ t.reg SYS_WAKE_EN = s.reg SYS_WAKE_EN ∧ t = { s with swc := t.swc, regs := t.regs }) ∧
  (∀ (s : State) (req : Requester) (val : Word), s.Admits req SYS_BLKRST → s.mode ≠ 2 → s.mode ≠ 7 → fieldOf val 0 14 ≠ 0 → fieldOf val 12 1 = 0 →
      NextIs (exec (.blockReset req val) s) fun t => t.get64 CNT_HEP_MALFORMED = (s.get64 CNT_HEP_MALFORMED + 1) % 2 ^ 64 ∧ CountsOnly [CNT_HEP_MALFORMED, CNT_HEP_MALFORMED + 4] s t) ∧
  (∀ (s : State) (block : Fin 14), s.powered = true → bitOf (s.fld SYS_BLKRST_BLK) block.val = true → s.mode ≠ 2 →
      NextIs (exec (.blockResetEnd block) s) fun t => bitOf (t.fld SYS_BLKRST_BLK) block.val = false ∧ RegsOnly [SYS_BLKRST] s t) ∧
  (∀ (s : State) (block : Fin 14), s.powered = true → bitOf (s.fld SYS_BLKRST_BLK) block.val = true → s.mode = 2 → block.val ≠ 8 → block.val ≠ 11 →
      NextIs (exec (.blockResetEnd block) s) fun t => bitOf (t.fld SYS_BLKRST_BLK) block.val = false ∧ RegsOnly [SYS_BLKRST] s t)

/-- WAKE_N, PERST_N, the claim-loss wake and the day-profile alarm, where SYS_WAKE_EN enables them and the gates are closed, record their source and start DAWN: the state is that of State.chipState, in which held fields keep their values and all others take their CHIP values, with PREV 0 and CAUSE 1, and SYS_RST_CAUSE as it was. -/
def Obligations.WakeSources : Prop :=
  (∀ (s : State), s.RegsOk → s.mode = 0 → s.sys.hold = .none → s.sys.gatesClosing = false → s.flag SYS_WAKE_EN_WAKE_PIN = true →
      NextIs (exec .wakePin s) fun t => t.mode = 1 ∧ t.fld SYS_MODE_PREV = 0 ∧ t.fld SYS_MODE_CAUSE = 1 ∧ t.reg SYS_RST_CAUSE = s.reg SYS_RST_CAUSE ∧ t.flag SYS_WAKE_SRC_WAKE_PIN = true ∧ RegsOnly [SYS_MODE] (s.setFlag SYS_WAKE_SRC_WAKE_PIN true).chipState t) ∧
  (∀ (s : State) (lanes : Fin 17) (rate : Fin 6), s.RegsOk → s.mode = 0 → s.sys.hold = .none → s.sys.gatesClosing = false → s.flag SYS_WAKE_EN_PERST = true →
      NextIs (exec (.perstRelease lanes rate) s) fun t => t.mode = 1 ∧ t.fld SYS_MODE_PREV = 0 ∧ t.fld SYS_MODE_CAUSE = 1 ∧ t.reg SYS_RST_CAUSE = s.reg SYS_RST_CAUSE ∧ t.flag SYS_WAKE_SRC_PERST = true ∧ RegsOnly [SYS_MODE] (s.setFlag SYS_WAKE_SRC_PERST true).chipState t) ∧
  (∀ (s : State), s.RegsOk → s.mode = 0 → s.sys.hold = .none → s.sys.gatesClosing = false → s.flag SYS_WAKE_EN_CLAIM_LOSS = true →
      NextIs (exec .claimLossWake s) fun t => t.mode = 1 ∧ t.fld SYS_MODE_PREV = 0 ∧ t.fld SYS_MODE_CAUSE = 1 ∧ t.reg SYS_RST_CAUSE = s.reg SYS_RST_CAUSE ∧ t.flag SYS_WAKE_SRC_CLAIM_LOSS = true ∧ RegsOnly [SYS_MODE] (s.setFlag SYS_WAKE_SRC_CLAIM_LOSS true).chipState t) ∧
  (∀ (s : State), s.RegsOk → s.gov.alarm = some 0 → s.mode = 0 → s.sys.hold = .none → s.sys.gatesClosing = false → s.flag SYS_WAKE_EN_ALARM = true →
      NextIs (exec .alarmCountdownEnd s) fun t => t.mode = 1 ∧ t.fld SYS_MODE_PREV = 0 ∧ t.fld SYS_MODE_CAUSE = 1 ∧ t.reg SYS_RST_CAUSE = s.reg SYS_RST_CAUSE ∧ t.flag SYS_WAKE_SRC_ALARM = true ∧ RegsOnly [SYS_MODE] (s.setFlag SYS_WAKE_SRC_ALARM true).chipState t) ∧
  (∀ (s : State), s.mode = 0 → s.sys.hold = .none → s.sys.gatesClosing = true → s.flag SYS_WAKE_EN_WAKE_PIN = true →
      NextIs (exec .wakePin s) fun t => t.sys = { s.sys with heldWake := true } ∧ t.flag SYS_WAKE_SRC_WAKE_PIN = true ∧ RegsOnly [SYS_WAKE_SRC] { s with sys := t.sys } t) ∧
  (∀ (s : State), s.mode = 0 → s.sys.hold = .none → s.sys.gatesClosing = true → s.sys.heldWake = false →
      exec .powerGatesClosed s = .next { s with sys := { s.sys with gatesClosing := false } }) ∧
  (∀ (s : State), s.RegsOk → s.mode = 0 → s.sys.hold = .none → s.sys.gatesClosing = true → s.sys.heldWake = true →
      NextIs (exec .powerGatesClosed s) fun t => t.mode = 1 ∧ t.fld SYS_MODE_PREV = 0 ∧ t.fld SYS_MODE_CAUSE = 1 ∧ t.reg SYS_RST_CAUSE = s.reg SYS_RST_CAUSE ∧ RegsOnly [SYS_MODE] s.chipState t)

/-- A NIGHT request is accepted in TWILIGHT, or in NOON and AFTERNOON without a partner and not degraded: NIGHT_PEND is set and RESULT reads 1. It is refused otherwise, and has no effect while one is pending. A cancel, or DRAIN_MAX, clears NIGHT_PEND with RESULT 4 and CAUSE 10. Once drained, CUR becomes 0 with CAUSE 9, the gates close and the watchdog is disarmed. Where the spec leaves a point open the clauses hold of the model's choice (log entries 18, 19, 21, 133). -/
def Obligations.NightRequests : Prop :=
  (∀ (s : State) (req : Requester), s.Admits req SYS_MODE_REQ → s.flag SYS_MODE_NIGHT_PEND = false → s.mode = 6 →
      NextIs (exec (.nightRequest req) s) fun t => t.flag SYS_MODE_NIGHT_PEND = true ∧ t.fld SYS_MODE_REQ_RESULT = 1 ∧ t.mode = 6 ∧ t.sys = { s.sys with nightFrom := 6, drainCount := 0 } ∧ RegsOnly [SYS_MODE, SYS_MODE_REQ] { s with sys := t.sys } t) ∧
  (∀ (s : State) (req : Requester), s.Admits req SYS_MODE_REQ → s.flag SYS_MODE_NIGHT_PEND = false → (s.mode = 3 ∨ s.mode = 4) → s.flag SYS_MODE_DEGRADED = false → s.flag SYS_MODE_PARTNER = false →
      NextIs (exec (.nightRequest req) s) fun t => t.flag SYS_MODE_NIGHT_PEND = true ∧ t.fld SYS_MODE_REQ_RESULT = 1 ∧ t.mode = s.mode ∧ t.sys = { s.sys with nightFrom := s.mode, drainCount := 0 } ∧ t.fld CMDQ_STAT_ANA = 3) ∧
  (∀ (s : State) (req : Requester), s.Admits req SYS_MODE_REQ → s.flag SYS_MODE_NIGHT_PEND = false → (s.mode = 2 ∨ s.mode = 5 ∨ s.mode = 7) →
      NextIs (exec (.nightRequest req) s) fun t => t.fld SYS_MODE_REQ_RESULT = 2 ∧ t.mode = s.mode ∧ RegsOnly [SYS_MODE_REQ] s t) ∧
  (∀ (s : State) (req : Requester), s.Admits req SYS_MODE_REQ → s.flag SYS_MODE_NIGHT_PEND = true → exec (.nightRequest req) s = .next s) ∧
  (∀ (s : State) (req : Requester), s.Admits req SYS_MODE_REQ → s.flag SYS_MODE_NIGHT_PEND = true → s.mode = 6 →
      NextIs (exec (.nightCancel req) s) fun t => t.flag SYS_MODE_NIGHT_PEND = false ∧ t.fld SYS_MODE_REQ_RESULT = 4 ∧ t.fld SYS_MODE_CAUSE = 10 ∧ t.mode = 6 ∧ RegsOnly [SYS_MODE, SYS_MODE_REQ] s t) ∧
  (∀ (s : State) (req : Requester), s.Admits req SYS_MODE_REQ → s.flag SYS_MODE_NIGHT_PEND = false → exec (.nightCancel req) s = .next s) ∧
  (∀ (s : State), s.running = true → s.flag SYS_MODE_NIGHT_PEND = true → s.mode = 6 → max 1 (s.fld SYS_NIGHT_CTL_DRAIN_MAX) ≤ s.sys.drainCount →
      NextIs (exec .nightDrainTimeout s) fun t => t.flag SYS_MODE_NIGHT_PEND = false ∧ t.fld SYS_MODE_REQ_RESULT = 4 ∧ t.fld SYS_MODE_CAUSE = 10 ∧ t.mode = 6 ∧ RegsOnly [SYS_MODE, SYS_MODE_REQ] s t) ∧
  (∀ (s : State), s.running = true → s.flag SYS_MODE_NIGHT_PEND = true → s.mode ≠ 6 → s.drained = true →
      NextIs (exec .nightDrainComplete s) fun t => t.mode = 0 ∧ t.flag SYS_MODE_NIGHT_PEND = false ∧ t.fld SYS_MODE_CAUSE = 9 ∧ t.fld SYS_MODE_PREV = s.mode ∧ t.fld SYS_WDOG_STAT_REMAIN = 0 ∧ t.sys = { s.sys with gatesClosing := true, heldWake := false, wdogArmed := false, wdogStage2 := false } ∧ t.hep.linkUp = false ∧ t.cmdq = s.cmdq ∧ t.red = s.red)

/-- The gates open, the PLLs lock and the link trains (at the boot-loop limit MIDNIGHT is entered at once with LOOP_CNT back at 0), a copy that passes every check runs and arms the watchdog with PERIOD, a copy that fails leaves its code and the other is tried, BIST, SRAM initialisation and DRAM training finish, and with all of them done MORNING begins with CAUSE 2. The AVS write is sent, and sent again, until acknowledged or tried three times. Where the spec leaves a point open the clauses hold of the model's choice (log entries 10, 16, 22, 23, 24). -/
def Obligations.DawnSteps : Prop :=
  (∀ (s : State), s.mode = 1 → s.sys.hold = .none → exec .mainPowerGatesOpen s = .next { s with sys := { s.sys with gatesOpen := true } }) ∧
  (∀ (s : State) (lanes : Fin 17) (rate : Fin 6) (kek : Option Nat) (prov ikh : Bool), s.mode = 1 → s.sys.hold = .none → s.sys.gatesOpen = true → s.sys.pllLocked = false → s.fld SYS_BOOT_LOOP_CNT ≠ 4 → s.hep.linkUp = false → 0 < lanes.val →
      NextIs (exec (.pllLock lanes rate kek prov ikh) s) fun t => t.sys = { s.sys with pllLocked := true } ∧ t.mode = 1 ∧ t.hep.linkUp = true ∧ t.fld HEP_STAT_WIDTH = lanes.val ∧ t.fld HEP_STAT_LPS = 1 ∧ t.flag PROT_STAT_PROV = (s.flag PROT_STAT_PROV || prov)) ∧
  (∀ (s : State) (lanes : Fin 17) (rate : Fin 6) (kek : Option Nat) (prov ikh : Bool), s.mode = 1 → s.sys.hold = .none → s.sys.gatesOpen = true → s.sys.pllLocked = false → s.fld SYS_BOOT_LOOP_CNT = 4 → s.flag SYS_BOOT_LOOP_SW = true →
      NextIs (exec (.pllLock lanes rate kek prov ikh) s) fun t => t.mode = 7 ∧ t.flag SYS_MIDNIGHT_CAUSE_BOOT_LOOP = true ∧ t.fld SYS_BOOT_LOOP_CNT = 0 ∧ t.flag SYS_BOOT_LOOP_SW = true ∧ t.fld SYS_MODE_CAUSE = 12) ∧
  (∀ (s : State) (acked : Bool), s.mode ≠ 0 → s.sys.hold = .none → s.sys.pllLocked = true → s.sys.avsTries = 0 →
      exec (.avsSetpoint acked) s = .next { s with sys := { s.sys with avsTries := 1, avsDone := acked }, out := .avs (650 + 5 * (Config.avsSteps % 31)) acked :: s.out }) ∧
  (∀ (s : State) (acked : Bool), s.mode ≠ 0 → s.sys.hold = .none → s.sys.pllLocked = true → s.sys.avsTries ≠ 0 → s.sys.avsDone = false →
      exec (.avsRetry acked) s = .next { s with sys := { s.sys with avsTries := s.sys.avsTries + 1, avsDone := acked || decide (2 ≤ s.sys.avsTries) }, out := .avs (650 + 5 * (Config.avsSteps % 31)) acked :: s.out }) ∧
  (∀ (s : State) (nor : Nat) (header : List (BitVec 8)) (body c : Nat), s.mode = 1 → s.sys.hold = .none → s.sys.pllLocked = true → s.sys.imageRunning = false → s.bootCopy = some c →
      NextIs (exec (.imageVerified nor header body) s) fun t => if s.bootCheck c nor header body = 0 then
          t.sys = { s.sys with imageRunning := true, imgVersion := leNat header 8 2, imgMinPartner := leNat header 10 2, wdogArmed := true } ∧ t.fld SYS_BOOT_RUN = c ∧ t.flag SYS_BOOT_FALLBACK = (c != s.fld SYS_BOOT_PREF) ∧ t.fld SYS_WDOG_STAT_REMAIN = max 16 (s.fld SYS_WDOG_CTL_PERIOD) ∧ RegsOnly [PROT_BOOT_STAT, SYS_BOOT, SYS_WDOG_STAT] { s with sys := t.sys } t
        else t = s) ∧
  (∀ (s : State) (nor : Nat) (header : List (BitVec 8)) (body : Nat), s.mode = 1 → s.sys.hold = .none → s.sys.pllLocked = true → s.sys.imageRunning = false → s.bootCopy = some 0 → s.fld SYS_BOOT_PREF = 0 → headerOk header = false → bitOf s.sys.copiesFailed 1 = false →
      NextIs (exec (.imageFailed nor header body false) s) fun t => t.fld PROT_BOOT_STAT_FAIL0 = 1 ∧ t.bootCopy = some 1 ∧ t.mode = 1 ∧ RegsOnly [PROT_BOOT_STAT] { s with sys := { s.sys with copiesFailed := s.sys.copiesFailed ||| 1 } } t) ∧
  (∀ (s : State) (nor : Nat) (header : List (BitVec 8)) (body : Nat), s.mode = 1 → s.sys.hold = .none → s.sys.pllLocked = true → s.sys.imageRunning = false → s.bootCopy = some 0 → s.fld SYS_BOOT_PREF = 0 → bitOf s.sys.copiesFailed 1 = true →
      NextIs (exec (.imageFailed nor header body true) s) fun t => t.fld PROT_BOOT_STAT_FAIL0 = 8 ∧ t.mode = 7 ∧ t.flag SYS_MIDNIGHT_CAUSE_BOOT_BOTH = true ∧ t.fld SYS_MODE_CAUSE = 12) ∧
  (∀ (s : State), s.mode = 1 → s.sys.hold = .none → s.sys.gatesOpen = true →
      exec (.sramBistComplete none) s = .next { s with sys := { s.sys with bistDone := true } }) ∧
  (∀ (s : State) (u : Fin 9), s.mode = 1 → s.sys.hold = .none → s.sys.gatesOpen = true →
      NextIs (exec (.sramBistComplete (some u)) s) fun t => t.mode = 7 ∧ t.flag SYS_MIDNIGHT_CAUSE_BIST = true ∧ t.fld SYS_MIDNIGHT_CAUSE_UNIT = u.val + 1 ∧ t.fld SYS_MODE_CAUSE = 12) ∧
  (∀ (s : State), s.mode = 1 → s.sys.hold = .none → s.sys.bistDone = true → s.sys.sramInit = false →
      NextIs (exec (.sramInitComplete 0) s) fun t => t.sys = { s.sys with sramInit := true } ∧ t.flag CIP_STAT_KAT_BUSY = !s.cip.kat.isEmpty ∧ RegsOnly [CIP_STAT] { s with sys := t.sys } t) ∧
  (∀ (s : State) (densities : List (Fin 64)), s.mode = 1 → s.sys.hold = .none → s.sys.pllLocked = true → densities = [4,4,4,4,4,4,4,4,0,0,0,0] →
      NextIs (exec (.dramTrainingComplete densities) s) fun t => t.sys = { s.sys with dramTrained := true, dramDiffer := false } ∧ t.fld DMC_INFO_CH_MASK = 0xFF ∧ t.fld DMC_INFO_DENSITY = 4 ∧ t.fld DMC_INFO_INSTALLED_GIB = 32 ∧ t.fld DMC_PART_STAT_USABLE_GIB = 31 ∧ RegsOnly [DMC_INFO, DMC_PART_STAT] { s with sys := t.sys } t) ∧
  (∀ (s : State), s.mode = 1 → s.sys.hold = .none → s.sys.imageRunning = true → s.sys.bistDone = true → s.sys.sramInit = true → s.sys.dramTrained = true → s.red.saved = none →
      NextIs (exec .dawnComplete s) fun t => t.mode = 2 ∧ t.fld SYS_MODE_PREV = 1 ∧ t.fld SYS_MODE_CAUSE = 2 ∧ (∀ c : Fin 16, t.gate c.val = .clockGated) ∧ t.red = s.red ∧ t.cmdq = s.cmdq)

/-- An uncorrectable error in a critical SRAM enters MIDNIGHT with CAUSE 11, SRAM_UE set and the unit of the first error. Only the key 0x0000_4B1C from a management core restarts the watchdog; other writes are malformed. Stage 1 enters MIDNIGHT with WDOG set from NOON to TWILIGHT and starts stage 2, and is a CHIP reset from MORNING, which LOOP_CNT counts. Stage 2 is a CHIP reset where STAGE2_EN allows it. Where the spec leaves a point open the clauses hold of the model's choice (log entry 25). -/
def Obligations.WatchdogAndMidnight : Prop :=
  (∀ (s : State) (unit : Fin 9), 1 ≤ s.mode → s.mode ≤ 6 → s.sys.hold = .none → s.flag SYS_MIDNIGHT_CAUSE_SRAM_UE = false → s.prot.change = none →
      NextIs (exec (.criticalSramUe unit) s) fun t => t.mode = 7 ∧ t.fld SYS_MODE_PREV = s.mode ∧ t.fld SYS_MODE_CAUSE = 11 ∧ t.flag SYS_MIDNIGHT_CAUSE_SRAM_UE = true ∧ t.fld SYS_MIDNIGHT_CAUSE_UNIT = unit.val + 1 ∧ t.flag SYS_MODE_PARTNER = false ∧ t.flag SYS_MODE_NIGHT_PEND = false ∧ t.sys.midnightFromDawn = (s.mode == 1) ∧ t.nzl.pause = .none ∧ t.cmdq = s.cmdq) ∧
  (∀ (s : State) (n : Fin 4), s.Admits (.mc n) SYS_WDOG_KICK → s.sys.wdogArmed = true → s.mode ≠ 1 →
      NextIs (exec (.wdogKick (.mc n) 0x4B1C) s) fun t => t.fld SYS_WDOG_STAT_REMAIN = max 16 (s.fld SYS_WDOG_CTL_PERIOD) ∧ t.flag SYS_WDOG_STAT_STAGE1 = s.flag SYS_WDOG_STAT_STAGE1 ∧ RegsOnly [SYS_WDOG_STAT] { s with sys := { s.sys with wdogStage2 := false } } t) ∧
  (∀ (s : State) (req : Requester) (val : Word), s.Admits req SYS_WDOG_KICK → s.mode ≠ 1 → (val ≠ 0x4B1C ∨ req = .pf0 ∨ req = .uart ∨ req = .jtag) →
      NextIs (exec (.wdogKick req val) s) fun t => t.get64 CNT_HEP_MALFORMED = (s.get64 CNT_HEP_MALFORMED + 1) % 2 ^ 64 ∧ CountsOnly [CNT_HEP_MALFORMED, CNT_HEP_MALFORMED + 4] s t) ∧
  (∀ (s : State), s.sys.wdogArmed = true → s.sys.wdogStage2 = false → s.fld SYS_WDOG_STAT_REMAIN = 0 → s.sys.hold = .none → s.inService = true →
      NextIs (exec .wdogStage1Expiry s) fun t => t.mode = 7 ∧ t.flag SYS_WDOG_STAT_STAGE1 = true ∧ t.flag SYS_MIDNIGHT_CAUSE_WDOG = true ∧ t.fld SYS_MODE_CAUSE = 11 ∧ t.sys.wdogStage2 = true ∧ t.fld SYS_WDOG_STAT_REMAIN = max 16 (s.fld SYS_WDOG_CTL_PERIOD)) ∧
  (∀ (s : State), s.RegsOk → s.sys.wdogArmed = true → s.sys.wdogStage2 = false → s.fld SYS_WDOG_STAT_REMAIN = 0 → s.sys.hold = .none → s.mode = 2 → s.sys.served = false → s.fld SYS_BOOT_LOOP_CNT < 3 →
      NextIs (exec .wdogStage1Expiry s) fun t => t.mode = 1 ∧ t.fld SYS_MODE_PREV = 2 ∧ t.flag SYS_RST_CAUSE_WDOG = true ∧ t.flag SYS_WDOG_STAT_STAGE1 = true ∧ t.fld SYS_BOOT_LOOP_CNT = s.fld SYS_BOOT_LOOP_CNT + 1 ∧ t.sys.wdogArmed = false) ∧
  (∀ (s : State), s.RegsOk → s.mode = 7 → s.sys.wdogArmed = true → s.sys.wdogStage2 = true → s.fld SYS_WDOG_STAT_REMAIN = 0 → s.sys.hold = .none → s.flag SYS_WDOG_CTL_STAGE2_EN = true → s.sys.served = true →
      NextIs (exec .wdogStage2Expiry s) fun t => t.mode = 1 ∧ t.fld SYS_MODE_PREV = 7 ∧ t.flag SYS_RST_CAUSE_WDOG = true ∧ t.sys.wdogArmed = false ∧ t.fld SYS_BOOT_LOOP_CNT = s.fld SYS_BOOT_LOOP_CNT) ∧
  (∀ (s : State), s.flag SYS_WDOG_CTL_STAGE2_EN = false → exec .wdogStage2Expiry s = .next s)

/-- In MORNING a commit is accepted while STATUS is not 1, and STATUS then reads 1; while it reads 1 the write is malformed; in any other mode it does nothing. When every block has finished and one refuses, STATUS reads 2 and FAIL_BLK names the lowest refusing block. A swap is refused with RESULT 2 outside serving modes or with NIGHT pending and with 3 where only the partner's conditions fail; it is accepted otherwise and the ANA state is Change. A provisioned part reinstates its best sealed setup once. Where the spec leaves a point open the clauses hold of the model's choice (log entries 26, 176). -/
def Obligations.CommitAndSwap : Prop :=
  (∀ (s : State) (req : Requester), s.Admits req SYS_CFG → s.mode = 2 → s.fld SYS_CFG_STATUS ≠ 1 → s.fld NZL_STAT_HS < 4 →
      NextIs (exec (.configCommit req) s) fun t => t.fld SYS_CFG_STATUS = 1 ∧ t.mode = 2 ∧ RegsOnly [SYS_CFG] s t) ∧
  (∀ (s : State) (req : Requester), s.Admits req SYS_CFG → s.mode = 2 → s.fld SYS_CFG_STATUS = 1 →
      NextIs (exec (.configCommit req) s) fun t => t.get64 CNT_HEP_MALFORMED = (s.get64 CNT_HEP_MALFORMED + 1) % 2 ^ 64 ∧ CountsOnly [CNT_HEP_MALFORMED, CNT_HEP_MALFORMED + 4] s t) ∧
  (∀ (s : State) (req : Requester), s.Admits req SYS_CFG → s.mode ≠ 2 → exec (.configCommit req) s = .next s) ∧
  (∀ (s : State) (b : Nat) (l : List Nat), s.running = true → s.mode = 2 → s.fld SYS_CFG_STATUS = 1 → s.commitReady = true → s.commitRefusals = b :: l →
      NextIs (exec .commitCheckComplete s) fun t => t.fld SYS_CFG_STATUS = 2 ∧ t.fld SYS_CFG_FAIL_BLK = b ∧ t.mode = 2) ∧
  (∀ (s : State) (req : Requester), s.Admits req SYS_MODE_REQ → s.serving = true → s.flag SYS_MODE_NIGHT_PEND = false → s.flag SYS_MODE_PARTNER = false →
      NextIs (exec (.swapRequest req) s) fun t => t.fld SYS_MODE_REQ_RESULT = 3 ∧ RegsOnly [SYS_MODE_REQ] s t) ∧
  (∀ (s : State) (req : Requester), s.Admits req SYS_MODE_REQ → (s.serving = false ∨ s.flag SYS_MODE_NIGHT_PEND = true) →
      NextIs (exec (.swapRequest req) s) fun t => t.fld SYS_MODE_REQ_RESULT = 2 ∧ RegsOnly [SYS_MODE_REQ] s t) ∧
  (∀ (s : State) (req : Requester), s.Admits req SYS_MODE_REQ → s.swapRefusal = 0 → s.cmdq.cmds = [] → s.cmdq.assocs = [] →
      NextIs (exec (.swapRequest req) s) fun t => t.fld SYS_MODE_REQ_RESULT = 1 ∧ t.nzl.pause = .swap ∧ t.nzl.handback = false ∧ t.mode = s.mode ∧ t.fld CMDQ_STAT_ANA = 0xF) ∧
  (∀ (s : State) (x : Setup), s.running = true → s.mode = 2 → s.flag PROT_STAT_PROV = true → s.flag PROT_STAT_REINST = false → s.bestCopy = some x → x.records = [] → x.binds = [] →
      NextIs (exec .setupReinstate s) fun t => t.flag PROT_STAT_REINST = true ∧ t.fld PROT_GEN_L_GEN = x.gen % 2 ^ 32 ∧ t.prot.acl = x.acl ∧ t.prot.stewards = x.stewards ∧ t.classOf .jtag = 0 ∧ t.mode = 2)

/-- A status frame leaves the measured currents and voltages in the SLP registers; the loss of the interface holds the outputs until it recovers. An idle cluster enters clock gating and, beyond MIN_AWAKE, power gating; the end of the entry reaches the gate phase or wakes the cluster; a register access wakes a cluster or a pipeline. EXTEST is taken in MIDNIGHT only and core debug at STEWARD only, as BYPASS otherwise. Where the spec leaves a point open the clauses hold of the model's choice (log entries 28, 29, 30, 145, 159). -/
def Obligations.PowerDieAndGating : Prop :=
  (∀ (s : State) (chans : List (Fin 65536 × Fin 65536)) (feeds : List (Fin 65536 × Fin 65536 × Fin 65536)) (n : Fin 32), s.pdRuns = true → s.flag SLP_STAT_HELD = false → chans.length = 32 → feeds.length = 2 →
      NextIs (exec (.pdiStatusFrame chans feeds) s) fun t => t.fld (SLP_CH_MEAS_IOUT n.val) = (chans.getD n.val (0, 0)).1.val ∧ t.fld (SLP_CH_MEAS_VOUT n.val) = (chans.getD n.val (0, 0)).2.val ∧ t = { s with regs := t.regs, slp := { s.slp with fanDuty := t.slp.fanDuty } }) ∧
  (∀ (s : State), s.pdRuns = true → NextIs (exec .pdiLoss s) fun t => t.flag SLP_STAT_HELD = true ∧ RegsOnly [SLP_STAT] s t) ∧
  (∀ (s : State), s.pdRuns = true → s.flag SLP_STAT_HELD = true → s.nzl.stage = .watch →
      NextIs (exec .pdiRecovery s) fun t => t.flag SLP_STAT_HELD = false ∧ t.fld SLP_STAT_STAGE = s.fld SLP_STAT_STAGE) ∧
  (∀ (s : State) (c : Fin 16), s.running = true → s.clusterIdle c.val = true → s.gate c.val = .awake →
      NextIs (exec (.clusterClockGate c) s) fun t => t.gate c.val = .enteringCg ∧ t.fld (ENG_CL_STAT_POWER c.val) = 3 ∧ RegsOnly [(ENG_CL_STAT_POWER c.val).off, GOV_STAT] { s with eng := { s.eng with gates := t.eng.gates } } t) ∧
  (∀ (s : State) (c : Fin 16), s.running = true → s.clusterIdle c.val = true → s.gate c.val = .clockGated → s.fld GOV_STAT_MIN_AWAKE ≤ c.val →
      NextIs (exec (.clusterPowerGate c) s) fun t => t.gate c.val = .enteringPg ∧ t.fld (ENG_CL_STAT_POWER c.val) = 3 ∧ RegsOnly [(ENG_CL_STAT_POWER c.val).off, GOV_STAT] { s with eng := { s.eng with gates := t.eng.gates } } t) ∧
  (∀ (s : State) (c : Fin 16), s.powered = true → s.gate c.val = .enteringPg → tget s.eng.wakeDue c.val false = false →
      NextIs (exec (.gatingEntryComplete c) s) fun t => t.gate c.val = .powerGated ∧ t.fld (ENG_CL_STAT_POWER c.val) = 2 ∧ RegsOnly [(ENG_CL_STAT_POWER c.val).off, GOV_STAT] { s with eng := t.eng } t) ∧
  (∀ (s : State) (c : Fin 16), s.powered = true → s.gate c.val = .enteringCg → tget s.eng.wakeDue c.val false = true →
      NextIs (exec (.gatingEntryComplete c) s) fun t => t.gate c.val = .awake ∧ t.fld (ENG_CL_STAT_POWER c.val) = 0 ∧ t.get64 CNT_GOV_WAKE_CG = (s.get64 CNT_GOV_WAKE_CG + 1) % 2 ^ 64) ∧
  (∀ (s : State) (p : Fin 32), s.powered = true → (s.pipe p.val).isEmpty = true → s.cip.kat = [] →
      NextIs (exec (.pipelineClockGate p) s) fun t => t.flag (CIP_PIPE_STAT_GATED p.val) = true ∧ RegsOnly [(CIP_PIPE_STAT_GATED p.val).off] s t) ∧
  (∀ (s : State) (p : Fin 32), s.powered = true →
      NextIs (exec (.gatedDomainAccess (.inr p)) s) fun t => t.flag (CIP_PIPE_STAT_GATED p.val) = false ∧ RegsOnly [(CIP_PIPE_STAT_GATED p.val).off] s t) ∧
  (∀ (s : State) (c : Fin 16), s.powered = true → s.gate c.val = .powerGated →
      NextIs (exec (.gatedDomainAccess (.inl c)) s) fun t => t.gate c.val = .awake ∧ t.get64 CNT_GOV_WAKE_PG = (s.get64 CNT_GOV_WAKE_PG + 1) % 2 ^ 64) ∧
  (∀ (s : State), s.sys.hold ≠ .porn → exec .xtalSwitch s = .next { s with slp := { s.slp with xtal := true } }) ∧
  (∀ (s : State), exec .xtalFail s = .next { s with slp := { s.slp with xtal := false } }) ∧
  (∀ (s : State), s.mode ≠ 7 → exec (.jtagInstruction .extest) s = .next { s with out := .jtag .bypass :: s.out }) ∧
  (∀ (s : State), s.mode = 7 → s.sys.hold = .none → exec (.jtagInstruction .extest) s = .next { s with out := .jtag .extest :: s.out }) ∧
  (∀ (s : State) (n : Fin 4) (halt : Bool), s.classOf .jtag ≠ 3 → exec (.jtagInstruction (.debug n halt)) s = .next { s with out := .jtag .bypass :: s.out })

/-- Every command that is one register write, from a requester that registers answer and whose class is NONE or DATA, changes nothing but the two counters: PRIV_REFUSED and the host endpoint's malformed-access counter each go up by one, and every other register and the rest of the state stay. -/
def Obligations.WritesBelowAdminAreRefused : Prop :=
    ∀ (c : Instr) (s : State) (req : Requester) (off : Nat), writerOf c = some (req, off) → s.reachable req = true → s.classOf req < 2 →
      NextIs (exec c s) fun t => t.get64 CNT_PROT_PRIV_REFUSED = (s.get64 CNT_PROT_PRIV_REFUSED + 1) % 2 ^ 64 ∧ t.get64 CNT_HEP_MALFORMED = (s.get64 CNT_HEP_MALFORMED + 1) % 2 ^ 64 ∧ CountsOnly [CNT_PROT_PRIV_REFUSED, CNT_PROT_PRIV_REFUSED + 4, CNT_HEP_MALFORMED, CNT_HEP_MALFORMED + 4] s t

/-- Every command that is one register write in MIDNIGHT, outside the offsets that MIDNIGHT takes writes at, is discarded and counted as a malformed access: the frozen contents keep their values. Where the spec leaves a point open the clauses hold of the model's choice (log entry 31). -/
def Obligations.WritesInMidnightAreFrozen : Prop :=
    ∀ (c : Instr) (s : State) (req : Requester) (off : Nat), writerOf c = some (req, off) → s.reachable req = true → 2 ≤ s.classOf req → s.mode = 7 → midnightWrite off = false →
      NextIs (exec c s) fun t => t.get64 CNT_HEP_MALFORMED = (s.get64 CNT_HEP_MALFORMED + 1) % 2 ^ 64 ∧ CountsOnly [CNT_HEP_MALFORMED, CNT_HEP_MALFORMED + 4] s t

/-- In NIGHT and DAWN, under a reset, from PF1, and from PF0 in D3hot, no register answers: every command that is one register write leaves the state as it is. The watchdog's kick register, which the running image reaches in DAWN too, is excepted there. Where the spec leaves a point open the clauses hold of the model's choice (log entry 31). -/
def Obligations.UnreachableWritesDoNothing : Prop :=
    ∀ (c : Instr) (s : State) (req : Requester) (off : Nat), writerOf c = some (req, off) → s.reachable req = false → (off ≠ SYS_WDOG_KICK ∨ s.mode ≠ 1) → exec c s = .next s

/-- A write of any value to a register that holds an RWC field, from any requester and as either command, is discarded: RWC_VIOL counts it, PROT_RWC_LAST shows the offset and the requester's code, the register itself keeps its value, and from a class that may not write the two refusal counters count it too. Such a register holds RWC fields and reserved bits only. -/
def Obligations.RwcAttempts : Prop :=
  (∀ (s : State) (req : Requester) (off : Nat), isRwc off = true → s.reachable req = true → s.mode ≠ 7 → s.absent req off = false → 2 ≤ s.classOf req →
      NextIs (exec (.rwcWriteAttempt req off) s) fun t => t.get64 CNT_PROT_RWC_VIOL = (s.get64 CNT_PROT_RWC_VIOL + 1) % 2 ^ 64 ∧ t.fld PROT_RWC_LAST_OFFSET = off % 2 ^ PROT_RWC_LAST_OFFSET.wd ∧ t.fld PROT_RWC_LAST_PORT = reqCode req ∧ t.flag PROT_RWC_LAST_VALID = true ∧ CountsOnly [CNT_PROT_RWC_VIOL, CNT_PROT_RWC_VIOL + 4, PROT_RWC_LAST] s t) ∧
  (∀ (s : State) (req : Requester) (off : Nat), isRwc off = true → s.reachable req = true → s.mode ≠ 7 → s.absent req off = false → s.classOf req < 2 →
      NextIs (exec (.rwcWriteAttempt req off) s) fun t => t.get64 CNT_PROT_RWC_VIOL = (s.get64 CNT_PROT_RWC_VIOL + 1) % 2 ^ 64 ∧ t.get64 CNT_PROT_PRIV_REFUSED = (s.get64 CNT_PROT_PRIV_REFUSED + 1) % 2 ^ 64 ∧ t.fld PROT_RWC_LAST_OFFSET = off % 2 ^ PROT_RWC_LAST_OFFSET.wd ∧ t.fld PROT_RWC_LAST_PORT = reqCode req ∧ t.reg off = s.reg off) ∧
  (∀ (s : State) (req : Requester) (off : Nat) (val : Word) (aux : WriteAux), isRwc off = true → exec (.registerWrite (.bar0 req off) val aux) s = exec (.rwcWriteAttempt req off) s) ∧
  (∀ (off : Nat), match regAt off with
        | some (d, _) => d.rwc ≠ 0 → d.impl = d.rwc
        | none => True)

/-- A write of an RW register stores the implemented bits; a read of a low word returns it and leaves the high word in that requester's latch, and the high word's read returns the latch; a read of an RC register returns the value and clears its RC bits; an access that is not one aligned word, and one where no register lies, changes nothing but the malformed-access counter and a read of it returns 0. Where the spec leaves a point open the clauses hold of the model's choice (log entries 36, 37, 38, 41). -/
def Obligations.RegisterAccess : Prop :=
  (∀ (s : State) (req : Requester) (val : Word) (aux : WriteAux), s.Admits req SYS_WAKE_EN →
      NextIs (exec (.registerWrite (.bar0 req SYS_WAKE_EN) val aux) s) fun t => t.reg SYS_WAKE_EN = val &&& 0xF ∧ RegsOnly [SYS_WAKE_EN] s t) ∧
  (∀ (s : State) (req : Requester) (val : Word) (aux : WriteAux), s.RegsOk → s.Admits req SYS_WAKE_SRC →
      NextIs (exec (.registerWrite (.bar0 req SYS_WAKE_SRC) val aux) s) fun t => t.reg SYS_WAKE_SRC = s.reg SYS_WAKE_SRC &&& ~~~val ∧ RegsOnly [SYS_WAKE_SRC] s t) ∧
  (∀ (s : State) (req : Requester) (val : Word) (aux : WriteAux), s.RegsOk → s.Admits req SYS_IDREV →
      exec (.registerWrite (.bar0 req SYS_IDREV) val aux) s = .next s) ∧
  (∀ (s : State) (req : Requester), s.readOk req CNT_GOV_WAKE_CG = true → s.mode ≠ 7 →
      NextIs (exec (.read64bitLowWord (.bar0 req CNT_GOV_WAKE_CG)) s) fun t => t.latched req = s.reg (CNT_GOV_WAKE_CG + 4) ∧ t = { s with out := .read req CNT_GOV_WAKE_CG (s.reg CNT_GOV_WAKE_CG) :: s.out, sys := { s.sys with latches := t.sys.latches } }) ∧
  (∀ (s : State) (req : Requester), s.readOk req (CNT_GOV_WAKE_CG + 4) = true →
      exec (.read64bitLowWord (.bar0 req (CNT_GOV_WAKE_CG + 4))) s = .next { s with out := .read req (CNT_GOV_WAKE_CG + 4) (s.latched req) :: s.out }) ∧
  (∀ (s : State) (req : Requester), s.readOk req RDM_ERRQP = true → s.mode ≠ 7 → s.rdm.errq = [(5, 1), (6, 2)] →
      NextIs (exec (.rcRead (.bar0 req RDM_ERRQP)) s) fun t => t.rdm = { s.rdm with errq := [(6, 2)] } ∧ t.fld RDM_ERRQP_QPN = 6 ∧ t.fld RDM_ERRQP_CAUSE = 2 ∧ t.flag RDM_ERRQP_VALID = true ∧ RegsOnly [RDM_ERRQP] { s with rdm := t.rdm, out := .read req RDM_ERRQP (s.reg RDM_ERRQP) :: s.out } t) ∧
  (∀ (s : State) (req : Requester) (off : Nat), s.reachable req = true →
      NextIs (exec (.malformedAccess (.bar0 req off) true true) s) fun t => t.get64 CNT_HEP_MALFORMED = (s.get64 CNT_HEP_MALFORMED + 1) % 2 ^ 64 ∧ CountsOnly [CNT_HEP_MALFORMED, CNT_HEP_MALFORMED + 4] s t) ∧
  (∀ (s : State) (req : Requester) (off : Nat), s.reachable req = true →
      NextIs (exec (.malformedAccess (.bar0 req off) false true) s) fun t => t.get64 CNT_HEP_MALFORMED = (s.get64 CNT_HEP_MALFORMED + 1) % 2 ^ 64 ∧ t.out.head? = some (.read req off 0) ∧ CountsOnly [CNT_HEP_MALFORMED, CNT_HEP_MALFORMED + 4] s t) ∧
  (∀ (s : State) (req : Requester) (off : Nat), s.reachable req = true → 2 ≤ s.classOf req → s.absent req off = true →
      NextIs (exec (.malformedAccess (.bar0 req off) true false) s) fun t => t.get64 CNT_HEP_MALFORMED = (s.get64 CNT_HEP_MALFORMED + 1) % 2 ^ 64 ∧ CountsOnly [CNT_HEP_MALFORMED, CNT_HEP_MALFORMED + 4] s t)

/-- From every requester that registers answer and at every offset, a write with other byte enables or over more than one word changes nothing but the malformed-access counter, and such a read answers 0 and changes nothing else. -/
def Obligations.NarrowAccesses : Prop :=
  (∀ (s : State) (req : Requester) (off : Nat), s.reachable req = true →
      NextIs (exec (.malformedAccess (.bar0 req off) true true) s) fun t => t.get64 CNT_HEP_MALFORMED = (s.get64 CNT_HEP_MALFORMED + 1) % 2 ^ 64 ∧ t.out = s.out ∧ RegsOnly [CNT_HEP_MALFORMED, CNT_HEP_MALFORMED + 4] s t) ∧
  (∀ (s : State) (req : Requester) (off : Nat), s.reachable req = true →
      NextIs (exec (.malformedAccess (.bar0 req off) false true) s) fun t => t.get64 CNT_HEP_MALFORMED = (s.get64 CNT_HEP_MALFORMED + 1) % 2 ^ 64 ∧ t.out = .read req off 0 :: s.out ∧ RegsOnly [CNT_HEP_MALFORMED, CNT_HEP_MALFORMED + 4] { s with out := t.out } t)

/-- At every offset that no register occupies, the three gaps of the map among them, from every requester that registers answer and in every mode, as a register write or read and as a malformed access. A requester below its class is counted in PRIV_REFUSED too. -/
def Obligations.UnoccupiedOffsets : Prop :=
  (∀ (s : State) (req : Requester) (off : Nat) (val : Word) (aux : WriteAux), s.reachable req = true → regAt off = none →
      NextIs (exec (.registerWrite (.bar0 req off) val aux) s) fun t => t.get64 CNT_HEP_MALFORMED = (s.get64 CNT_HEP_MALFORMED + 1) % 2 ^ 64 ∧ RegsOnly [CNT_HEP_MALFORMED, CNT_HEP_MALFORMED + 4, CNT_PROT_PRIV_REFUSED, CNT_PROT_PRIV_REFUSED + 4] s t ∧ exec (.malformedAccess (.bar0 req off) true false) s = .next t) ∧
  (∀ (s : State) (req : Requester) (off : Nat), s.reachable req = true → regAt off = none →
      NextIs (exec (.malformedAccess (.bar0 req off) false false) s) fun t => t.get64 CNT_HEP_MALFORMED = (s.get64 CNT_HEP_MALFORMED + 1) % 2 ^ 64 ∧ t.out = .read req off 0 :: s.out ∧ RegsOnly [CNT_HEP_MALFORMED, CNT_HEP_MALFORMED + 4, CNT_PROT_PRIV_REFUSED, CNT_PROT_PRIV_REFUSED + 4] { s with out := t.out } t ∧ exec (.read64bitLowWord (.bar0 req off)) s = .next t ∧ exec (.rcRead (.bar0 req off)) s = .next t) ∧
  (∀ (off : Nat), (0x50000 ≤ off ∧ off < 0x100000 ∨ 0x140000 ≤ off ∧ off < 0x200000 ∨ 0x1000000 ≤ off ∧ off < 0x4000000) → regAt off = none)

/-- In MORNING, a write of NET_PORT_CFG stores the configuration, EN set starts a lane check, RESTART starts one again and EN cleared stops the port. A lane check with every lane good goes to autonegotiation or training, a bad lane to fault hold with LANE_FAULT; autonegotiation records the highest common ability and never BASE-R FEC; training completes into up-hold, and fails into a new check or fault hold; up-hold ends in up with UP and LINK_CHG; a lost link counts a glitch in up-hold, starts down-hold in up, and is restored with a glitch or declared down with LINK_DOWN counted; fault hold ends in a lane check. Nothing else of the port's registers changes. Where the spec leaves a point open the clauses hold of the model's choice (log entries 43, 59). -/
def Obligations.LinkStates : Prop :=
  (∀ (s : State) (req : Requester) (p : Port) (val : Word), s.Admits req (NET_PORT_CFG p) → s.mode = 2 → p.val % 4 ≠ 0 → s.grpMode p = 0 → s.flag (NET_PORT_CFG_EN p) = false → fieldOf val 0 1 = 1 →
      NextIs (exec (.portCfgWrite req p val) s) fun t => t.reg (NET_PORT_CFG p) = val &&& 0x3FFF00FF ∧ t.fld (NET_PORT_STAT_LSTATE p) = 1 ∧ RegsOnly [NET_PORT_CFG p, NET_PORT_STAT p] s t) ∧
  (∀ (s : State) (req : Requester) (p : Port) (val : Word), s.Admits req (NET_PORT_CFG p) → s.mode = 2 → p.val % 4 = 0 → fieldOf val 8 3 ≠ fieldOf (s.reg (NET_PORT_CFG p)) 8 3 → s.flag (NET_PORT_CFG_EN p) = true →
      NextIs (exec (.portCfgWrite req p val) s) fun t => t.fld (NET_PORT_STAT_CFG_ERR p) = 5 ∧ RegsOnly [NET_PORT_STAT p] s t) ∧
  (∀ (s : State) (req : Requester) (p : Port), s.RegsOk → s.Admits req (NET_PORT_CFG p) → s.mode = 2 → s.grpMode p = 0 → s.flag (NET_PORT_CFG_EN p) = false →
      NextIs (exec (.portEnable req p) s) fun t => t.flag (NET_PORT_CFG_EN p) = true ∧ t.fld (NET_PORT_STAT_LSTATE p) = 1 ∧ RegsOnly [NET_PORT_CFG p, NET_PORT_STAT p] s t) ∧
  (∀ (s : State) (req : Requester) (p : Port), s.RegsOk → s.Admits req (NET_PORT_CFG p) → s.mode = 2 → s.flag (NET_PORT_CFG_EN p) = true → s.linkUsable p = false →
      NextIs (exec (.portDisable req p) s) fun t => t.flag (NET_PORT_CFG_EN p) = false ∧ t.fld (NET_PORT_STAT_LSTATE p) = 0 ∧ RegsOnly [NET_PORT_CFG p, NET_PORT_STAT p] s t) ∧
  (∀ (s : State) (req : Requester) (p : Port), s.RegsOk → s.Admits req (NET_PORT_CFG p) → s.mode = 2 → s.flag (NET_PORT_CFG_EN p) = true → s.linkUsable p = true → s.swc.outq = [] → s.swc.voq = [] →
      NextIs (exec (.portDisable req p) s) fun t => t.flag (NET_PORT_STAT_UP p) = false ∧ t.flag (NET_PORT_STAT_LINK_CHG p) = true ∧ t.fld (NET_PORT_STAT_LSTATE p) = 0 ∧ t.get64 (CNT_NET_LINK_DOWN p) = (s.get64 (CNT_NET_LINK_DOWN p) + 1) % 2 ^ 64 ∧ t.cmdq = s.cmdq ∧ t.rdm = s.rdm) ∧
  (∀ (s : State) (req : Requester) (p : Port), s.RegsOk → s.Admits req (NET_PORT_CFG p) → s.mode = 2 → s.grpMode p = 0 → s.flag (NET_PORT_CFG_EN p) = true → s.linkUsable p = false →
      NextIs (exec (.portRestart req p) s) fun t => t.fld (NET_PORT_STAT_LSTATE p) = 1 ∧ t.reg (NET_PORT_CFG p) = s.reg (NET_PORT_CFG p) ∧ RegsOnly [NET_PORT_STAT p, NET_PORT_CFG p] s t) ∧
  (∀ (s : State) (p : Port) (code : Fin 6), s.running = true → s.link p = 1 → s.portWidth p = 1 → (code.val = 0 ∨ code.val = 5) → s.flag (NET_PORT_CFG_AN_EN p) = true →
      NextIs (exec (.laneCheckComplete p [code]) s) fun t => t.fld (NET_PORT_STAT_LSTATE p) = 2 ∧ t.flag (NET_PORT_STAT_LANE_FAULT p) = false ∧ t.fld (NET_LANE_HEALTH_LANE p) = code.val + 0x6660 ∧ RegsOnly [NET_PORT_STAT p, NET_LANE_HEALTH p] s t) ∧
  (∀ (s : State) (p : Port) (code : Fin 6), s.running = true → s.link p = 1 → s.portWidth p = 1 → 1 ≤ code.val → code.val ≤ 4 →
      NextIs (exec (.laneCheckComplete p [code]) s) fun t => t.fld (NET_PORT_STAT_LSTATE p) = 7 ∧ t.flag (NET_PORT_STAT_LANE_FAULT p) = true ∧ t.fld (NET_LANE_HEALTH_LANE p) = code.val + 0x6660 ∧ RegsOnly [NET_PORT_STAT p, NET_LANE_HEALTH p] s t) ∧
  (∀ (s : State) (p : Port) (partner : Nat) (rs528 : Bool), s.running = true → s.link p = 2 → s.advertised p = 4 → partner % 8 = 4 →
      NextIs (exec (.anResolved p partner rs528) s) fun t => t.fld (NET_PORT_STAT_LSTATE p) = 3 ∧ t.fld (NET_PORT_STAT_HCD_SPEED p) = 2 ∧ t.fld (NET_PORT_STAT_HCD_FEC p) = 1 ∧ RegsOnly [NET_PORT_STAT p] s t) ∧
  (∀ (s : State) (p : Port) (partner : Nat) (rs528 : Bool), s.running = true → s.link p = 2 → s.advertised p &&& partner = 0 →
      NextIs (exec (.anResolved p partner rs528) s) fun t => t.fld (NET_PORT_STAT_LSTATE p) = 2 ∧ t.fld (NET_PORT_STAT_CFG_ERR p) = 6 ∧ RegsOnly [NET_PORT_STAT p] s t) ∧
  (∀ (s : State) (p : Port), s.running = true → s.link p = 2 → s.fld (NET_PORT_STAT_CFG_ERR p) = 6 → s.flag (NET_LINK_CFG_AUTO_RETRY p) = true →
      exec (.anRetryTimer p) s = .next { s with out := .autoneg p :: s.out }) ∧
  (∀ (s : State) (p : Port), s.running = true → s.link p = 3 →
      NextIs (exec (.trainingComplete p) s) fun t => t.fld (NET_PORT_STAT_LSTATE p) = 4 ∧ t.flag (NET_PORT_STAT_UP p) = s.flag (NET_PORT_STAT_UP p) ∧ RegsOnly [NET_PORT_STAT p] s t) ∧
  (∀ (s : State) (p : Port), s.running = true → s.link p = 3 → s.flag (NET_LINK_CFG_AUTO_RETRY p) = true →
      NextIs (exec (.trainingFail p) s) fun t => t.fld (NET_PORT_STAT_LSTATE p) = 1 ∧ RegsOnly [NET_PORT_STAT p] s t) ∧
  (∀ (s : State) (p : Port), s.running = true → s.link p = 3 → s.flag (NET_LINK_CFG_AUTO_RETRY p) = false →
      NextIs (exec (.trainingFail p) s) fun t => t.fld (NET_PORT_STAT_LSTATE p) = 7 ∧ t.flag (NET_PORT_STAT_LANE_FAULT p) = false ∧ RegsOnly [NET_PORT_STAT p] s t) ∧
  (∀ (s : State) (p : Port), s.running = true → s.link p = 4 →
      NextIs (exec (.upHoldExpiry p) s) fun t => t.fld (NET_PORT_STAT_LSTATE p) = 5 ∧ t.flag (NET_PORT_STAT_UP p) = true ∧ t.flag (NET_PORT_STAT_LINK_CHG p) = true ∧ t.linkUsable p = true ∧ t.cmdq = s.cmdq) ∧
  (∀ (s : State) (p : Port), s.running = true → s.link p = 4 →
      NextIs (exec (.linkLost p) s) fun t => t.fld (NET_PORT_STAT_LSTATE p) = 1 ∧ t.get64 (CNT_NET_LINK_GLITCH p) = (s.get64 (CNT_NET_LINK_GLITCH p) + 1) % 2 ^ 64 ∧ CountsOnly [NET_PORT_STAT p, CNT_NET_LINK_GLITCH p, CNT_NET_LINK_GLITCH p + 4] s t) ∧
  (∀ (s : State) (p : Port), s.running = true → s.link p = 5 → s.fld (NET_LINK_CFG_DOWN_HOLD p) ≠ 0 →
      NextIs (exec (.linkLost p) s) fun t => t.fld (NET_PORT_STAT_LSTATE p) = 6 ∧ t.flag (NET_PORT_STAT_UP p) = s.flag (NET_PORT_STAT_UP p) ∧ RegsOnly [NET_PORT_STAT p] s t) ∧
  (∀ (s : State) (p : Port), s.running = true → s.link p = 6 →
      NextIs (exec (.linkRestored p) s) fun t => t.fld (NET_PORT_STAT_LSTATE p) = 5 ∧ t.get64 (CNT_NET_LINK_GLITCH p) = (s.get64 (CNT_NET_LINK_GLITCH p) + 1) % 2 ^ 64 ∧ CountsOnly [NET_PORT_STAT p, CNT_NET_LINK_GLITCH p, CNT_NET_LINK_GLITCH p + 4] s t) ∧
  (∀ (s : State) (p : Port), s.running = true → s.link p = 6 → s.flag (NET_LINK_CFG_AUTO_RETRY p) = true → s.swc.outq = [] → s.swc.voq = [] →
      NextIs (exec (.downHoldExpiry p) s) fun t => t.fld (NET_PORT_STAT_LSTATE p) = 1 ∧ t.flag (NET_PORT_STAT_UP p) = false ∧ t.flag (NET_PORT_STAT_LINK_CHG p) = true ∧ t.get64 (CNT_NET_LINK_DOWN p) = (s.get64 (CNT_NET_LINK_DOWN p) + 1) % 2 ^ 64 ∧ (t.port p).stopped = 0 ∧ (t.port p).tsFifo = (s.port p).tsFifo ∧ t.cmdq = s.cmdq) ∧
  (∀ (s : State) (p : Port), s.running = true → s.link p = 7 → s.flag (NET_LINK_CFG_AUTO_RETRY p) = true → s.flag (NET_PORT_CFG_EN p) = true →
      NextIs (exec (.faultHoldExpiry p) s) fun t => t.fld (NET_PORT_STAT_LSTATE p) = 1 ∧ RegsOnly [NET_PORT_STAT p] s t)

/-- A received PFC frame of the selected kind is counted and stops or releases its classes, and one of the other kind is only counted; the end of the pause time releases them. A read of the nanoseconds latches the seconds for its requester; STEP moves the device time, not below 0; ADJ is stored; PPS_OUT rises and PPS_IN captures. A read of NET_TS pops its FIFO, clears OVF and latches the high word. NET_CNT_CTL clears its page's counters and nothing else. Where the spec leaves a point open the clauses hold of the model's choice (log entry 38). -/
def Obligations.PauseTimeAndCounters : Prop :=
  (∀ (s : State) (p : Port) (stop go : Fin 256), s.running = true → s.linkUsable p = true → s.fld (NET_FC_CFG_MODE p) = 2 →
      NextIs (exec (.pauseFrameRx p true stop go) s) fun t =>
        (t.port p).stopped = ((s.port p).stopped - ((s.port p).stopped &&& (go.val &&& s.fld (NET_FC_CFG_PFC_EN p)))) ||| (stop.val &&& s.fld (NET_FC_CFG_PFC_EN p)) ∧
        t.get64 (CNT_NET_PAUSE_RX p) = (s.get64 (CNT_NET_PAUSE_RX p) + 1) % 2 ^ 64 ∧ t.get64 (CNT_NET_RX_FRAMES p) = (s.get64 (CNT_NET_RX_FRAMES p) + 1) % 2 ^ 64 ∧ t.swc = s.swc) ∧
  (∀ (s : State) (p : Port) (stop go : Fin 256), s.running = true → s.linkUsable p = true → s.fld (NET_FC_CFG_MODE p) ≠ 2 →
      NextIs (exec (.pauseFrameRx p true stop go) s) fun t => t.ports = s.ports ∧ t.get64 (CNT_NET_PAUSE_RX p) = (s.get64 (CNT_NET_PAUSE_RX p) + 1) % 2 ^ 64 ∧
        CountsOnly [CNT_NET_PAUSE_RX p, CNT_NET_PAUSE_RX p + 4, CNT_NET_RX_FRAMES p, CNT_NET_RX_FRAMES p + 4, CNT_NET_RX_BYTES p, CNT_NET_RX_BYTES p + 4] s t) ∧
  (∀ (s : State) (p : Port) (classes : Fin 256), s.running = true →
      NextIs (exec (.pauseTimeExpiry p classes) s) fun t => (t.port p).stopped = (s.port p).stopped - ((s.port p).stopped &&& classes.val) ∧ t.swc = s.swc ∧ t.cmdq = s.cmdq) ∧
  (∀ (s : State) (req : Requester) (dt : Nat), (s.pass dt).readOk req NET_TIME_NS = true → (s.pass dt).mode ≠ 7 →
      NextIs (exec (.timeRead req dt) s) fun t => t.out.head? = some (.read req NET_TIME_NS (BitVec.ofNat 32 ((s.pass dt).devNs % 1000000000))) ∧
        tget t.sys.timeLatches (reqNum req) 0 = (s.pass dt).devNs / 1000000000 % 2 ^ 48 ∧ t.clock = (s.pass dt).clock ∧ t.regs = (s.pass dt).regs) ∧
  (∀ (s : State) (req : Requester) (step : Word) (dt : Nat), (s.pass dt).Admits req NET_TIME_STEP → (∀ p : Port, (s.pass dt).flag (EGS_GATE_CTL_EN p) = false) →
      exec (.timeStep req step dt) s = .next { s.pass dt with clock := { (s.pass dt).clock with dev := (((s.pass dt).clock.dev : Int) + signed 32 step.toNat * 1024000000000).toNat } }) ∧
  (∀ (s : State) (req : Requester) (freq : Word) (dt : Nat), (s.pass dt).Admits req NET_TIME_ADJ →
      NextIs (exec (.timeAdjust req freq dt) s) fun t => t.reg NET_TIME_ADJ = freq ∧ RegsOnly [NET_TIME_ADJ] (s.pass dt) t) ∧
  (∀ (s : State) (dt : Nat), (s.pass dt).running = true → (s.pass dt).flag NET_TIME_CTL_OUT_EN = true → (s.pass dt).flag NET_TIME_CTL_VALID = true →
      exec (.ppsOutPulse dt) s = .next { s.pass dt with out := .ppsOut (max 1 ((s.pass dt).fld NET_TIME_CTL_OUT_WIDTH)) :: (s.pass dt).out }) ∧
  (∀ (s : State) (dt : Nat), (s.pass dt).running = true → (s.pass dt).flag NET_TIME_CTL_IN_EN = true → (s.pass dt).flag NET_TIME_CTL_IN_EDGE = true →
      NextIs (exec (.ppsInEdge true dt) s) fun t => t.fld NET_PPS_CAP_NS = (s.pass dt).devNs % 1000000000 ∧ t.flag NET_PPS_CAP_VALID = true ∧ RegsOnly [NET_PPS_CAP] (s.pass dt) t) ∧
  (∀ (s : State) (req : Requester) (p : Port), s.readOk req (NET_TS_LOW p) = true → s.mode ≠ 7 →
      NextIs (exec (.tsFifoPop req p) s) fun t => (t.port p).tsFifo = (s.port p).tsFifo.drop 1 ∧ t.flag (NET_TS_LOW_OVF p) = false ∧ t.latched req = s.reg (NET_TS_HIGH p) ∧ t.out.head? = some (.read req (NET_TS_LOW p) (s.reg (NET_TS_LOW p))) ∧ t.swc = s.swc) ∧
  (∀ (s : State) (req : Requester) (p : Port), s.readOk req (NET_TS_LOW p) = true → s.mode = 7 →
      NextIs (exec (.tsFifoPop req p) s) fun t => t.ports = s.ports ∧ t.regs = s.regs ∧ t.latched req = s.reg (NET_TS_HIGH p)) ∧
  (∀ (s : State) (req : Requester) (p : Port) (val : Word), s.Admits req (NET_CNT_CTL p) → fieldOf val 0 1 = 1 →
      NextIs (exec (.counterClear req (NET_CNT_CTL p) val) s) fun t => t.get64 (CNT_NET_RX_FRAMES p) = 0 ∧ t.get64 (CNT_NET_TS_LOST p) = 0 ∧
        t = { s with regs := t.regs } ∧ t.reg (NET_PORT_CFG p) = s.reg (NET_PORT_CFG p))

/-- Every frame received on a usable port is counted with its octets and FCS. One longer than MAX_FRM or shorter than 64 octets counts a length error, one with a bad FCS an FCS error, and neither goes further. With DROP_UNTAGGED an untagged frame is discarded. A frame of an EtherType the parser does not know is counted in ETHERTYPE and offered to the slow path, which discards it without a token and else takes one. A recirculated frame that hits no table counts a miss; one whose action recirculates it in its third pass is discarded; reserved dispositions count BAD_ACTION. Where the spec leaves a point open the clauses hold of the model's choice (log entries 54, 57). -/
def Obligations.FrameReception : Prop :=
  (∀ (s : State) (p : Port) (dt id : Nat) (data : List (BitVec 8)) (fcsOk : Bool) (errs : List SlotErr), (s.pass dt).powered = true → (s.pass dt).linkUsable p = true → (data.length + 4 < 64 ∨ (s.pass dt).maxFrame p < data.length + 4) →
      NextIs (exec (.rxFrame p dt id data fcsOk errs) s) fun t => t.get64 (CNT_NET_RX_LEN_ERR p) = ((s.pass dt).get64 (CNT_NET_RX_LEN_ERR p) + 1) % 2 ^ 64 ∧
        t.get64 (CNT_NET_RX_BYTES p) = ((s.pass dt).get64 (CNT_NET_RX_BYTES p) + (data.length + 4)) % 2 ^ 64 ∧
        CountsOnly [CNT_NET_RX_LEN_ERR p, CNT_NET_RX_LEN_ERR p + 4, CNT_NET_RX_FRAMES p, CNT_NET_RX_FRAMES p + 4, CNT_NET_RX_BYTES p, CNT_NET_RX_BYTES p + 4] (s.pass dt) t) ∧
  (∀ (s : State) (p : Port) (dt id : Nat) (data : List (BitVec 8)) (errs : List SlotErr), (s.pass dt).powered = true → (s.pass dt).linkUsable p = true → 60 ≤ data.length → data.length + 4 ≤ (s.pass dt).maxFrame p →
      NextIs (exec (.rxFrame p dt id data false errs) s) fun t => t.get64 (CNT_NET_RX_FCS_ERR p) = ((s.pass dt).get64 (CNT_NET_RX_FCS_ERR p) + 1) % 2 ^ 64 ∧
        t.get64 (CNT_NET_RX_FRAMES p) = ((s.pass dt).get64 (CNT_NET_RX_FRAMES p) + 1) % 2 ^ 64 ∧
        CountsOnly [CNT_NET_RX_FCS_ERR p, CNT_NET_RX_FCS_ERR p + 4, CNT_NET_RX_FRAMES p, CNT_NET_RX_FRAMES p + 4, CNT_NET_RX_BYTES p, CNT_NET_RX_BYTES p + 4] (s.pass dt) t) ∧
  (∀ (s : State) (p : Port) (dt id : Nat) (data : List (BitVec 8)) (errs : List SlotErr), (s.pass dt).running = true → (s.pass dt).linkUsable p = true → 60 ≤ data.length → data.length + 4 ≤ (s.pass dt).maxFrame p →
      (s.pass dt).flag (NET_VLAN_CFG_DROP_UNTAGGED p) = true → beNat data 12 2 ≠ 0x8100 → beNat data 12 2 ≠ 0x88A8 → beNat data 12 2 ≠ 0x8808 →
      NextIs (exec (.rxFrame p dt id data true errs) s) fun t => t.get64 (CNT_NET_VLAN_DROP p) = ((s.pass dt).get64 (CNT_NET_VLAN_DROP p) + 1) % 2 ^ 64 ∧
        CountsOnly [CNT_NET_VLAN_DROP p, CNT_NET_VLAN_DROP p + 4, CNT_NET_RX_FRAMES p, CNT_NET_RX_FRAMES p + 4, CNT_NET_RX_BYTES p, CNT_NET_RX_BYTES p + 4] (s.pass dt) t) ∧
  (∀ (s : State) (p : Port) (dt id : Nat) (data : List (BitVec 8)) (errs : List SlotErr), (s.pass dt).running = true → (s.pass dt).linkUsable p = true → 60 ≤ data.length → data.length + 4 ≤ (s.pass dt).maxFrame p →
      (s.pass dt).flag (NET_VLAN_CFG_DROP_UNTAGGED p) = false → beNat data 12 2 ∉ [0x8100, 0x88A8, 0x8808, 0x0800, 0x86DD, 0x88F7] → (s.pass dt).fld CLS_SLOW_TOKENS_TOKENS = 0 →
      NextIs (exec (.rxFrame p dt id data true errs) s) fun t => t.get64 CNT_CLS_ETHERTYPE = ((s.pass dt).get64 CNT_CLS_ETHERTYPE + 1) % 2 ^ 64 ∧ t.get64 CNT_CLS_SLOW_DROP = ((s.pass dt).get64 CNT_CLS_SLOW_DROP + 1) % 2 ^ 64 ∧
        CountsOnly [CNT_CLS_ETHERTYPE, CNT_CLS_ETHERTYPE + 4, CNT_CLS_SLOW_DROP, CNT_CLS_SLOW_DROP + 4, CNT_NET_RX_FRAMES p, CNT_NET_RX_FRAMES p + 4, CNT_NET_RX_BYTES p, CNT_NET_RX_BYTES p + 4] (s.pass dt) t) ∧
  (∀ (s : State) (p : Port) (dt id : Nat) (data : List (BitVec 8)) (errs : List SlotErr), s.RegsOk → (s.pass dt).running = true → (s.pass dt).linkUsable p = true → 60 ≤ data.length → data.length + 4 ≤ (s.pass dt).maxFrame p →
      (s.pass dt).flag (NET_VLAN_CFG_DROP_UNTAGGED p) = false → beNat data 12 2 ∉ [0x8100, 0x88A8, 0x8808, 0x0800, 0x86DD, 0x88F7] → (s.pass dt).fld CLS_SLOW_TOKENS_TOKENS ≠ 0 →
      NextIs (exec (.rxFrame p dt id data true errs) s) fun t => t.fld CLS_SLOW_TOKENS_TOKENS = (s.pass dt).fld CLS_SLOW_TOKENS_TOKENS - 1 ∧ t.get64 CNT_CLS_SLOW_SENT = ((s.pass dt).get64 CNT_CLS_SLOW_SENT + 1) % 2 ^ 64 ∧ t.cls = (s.pass dt).cls ∧ t.cmdq = s.cmdq) ∧
  (∀ (s : State) (dt : Nat) (errs : List SlotErr) (f : Frame) (rest : List Frame), (s.pass dt).running = true → (s.pass dt).swc.recirc = f :: rest → beNat f.data 12 2 = 0x88F7 →
      (s.pass dt).flag (NET_VLAN_CFG_OUTER_TPID f.inPort) = false → (∀ k : Fin 4, (s.pass dt).flag (CLS_PROF_CTL_EN k) = false) → (s.pass dt).fld CLS_SLOW_TOKENS_TOKENS = 0 →
      NextIs (exec (.recircPass dt errs) s) fun t => t.swc = { (s.pass dt).swc with recirc := rest } ∧ t.get64 CNT_CLS_PARSED = ((s.pass dt).get64 CNT_CLS_PARSED + 1) % 2 ^ 64 ∧ t.get64 CNT_CLS_MISS = ((s.pass dt).get64 CNT_CLS_MISS + 1) % 2 ^ 64) ∧
  (∀ (s : State) (dt : Nat) (errs : List SlotErr) (f : Frame) (rest : List Frame) (p : Parsed) (act : Nat) (u : State) (ue : Bool), (s.pass dt).running = true → (s.pass dt).swc.recirc = f :: rest → (s.pass dt).parse f.inPort f.data = .ok p →
      ({ s.pass dt with swc := { (s.pass dt).swc with recirc := rest } }.bump CNT_CLS_PARSED).lookup errs f.data { f with pass := f.pass + 1, l3 := p.l3, isIp := p.isIp, ecn := p.ecn, tc := if f.tcSet then f.tc else p.tc } p = (u, some act, ue) →
      act / 2 ^ 60 % 8 = 4 → bitOf act 59 = false → bitOf act 39 = false → 1 ≤ f.pass →
      exec (.recircPass dt errs) s = .next (u.bump CNT_CLS_RECIRC_LIMIT))

/-- An admitted table command on an enabled valid profile replaces, places, removes, returns or clears entries and leaves its RESULT, WAY, INDEX and MOVES; a full table is unchanged. While BUSY the write is malformed, and on an invalid or disabled profile RESULT is 4. Nothing but the command's own registers and the slots changes. Where the spec leaves a point open the clauses hold of the model's choice (log entries 52, 60). -/
def Obligations.MatchTableCommands : Prop :=
  (∀ (s : State) (req : Requester) (table : Fin 4) (w i : Nat), s.RegsOk → s.Admits req CLS_TBL_CMD → s.flag CLS_TBL_STAT_BUSY = false → s.flag (CLS_PROF_CTL_EN table) = true → s.profileOk table = true → s.findKey [] table (s.tblData table).1 = some (w, i) →
      NextIs (exec (.tblInsert req table []) s) fun t => t.fld CLS_TBL_STAT_RESULT = 2 ∧ t.fld CLS_TBL_STAT_WAY = w ∧ t.fld CLS_TBL_STAT_INDEX = i ∧
        t.cls.slots = tput s.cls.slots (slotKey table w i) ⟨(s.tblData table).1, (s.tblData table).2 % 2 ^ 63 + 2 ^ 63⟩ ∧ RegsOnly [CLS_TBL_CMD, CLS_TBL_STAT] { s with cls := t.cls } t) ∧
  (∀ (s : State) (req : Requester) (table : Fin 4), s.RegsOk → s.Admits req CLS_TBL_CMD → s.flag CLS_TBL_STAT_BUSY = false → s.flag (CLS_PROF_CTL_EN table) = true → s.profileOk table = true →
      s.findKey [] table (s.tblData table).1 = none → (candidates (s.flag (CLS_PROF_CTL_WIDE table)) (s.tblData table).1).any (fun e => s.slotFree [] (s.flag (CLS_PROF_CTL_WIDE table)) table e.1 e.2) = true →
      NextIs (exec (.tblInsert req table []) s) fun t => t.fld CLS_TBL_STAT_RESULT = 0 ∧ t.fld CLS_TBL_STAT_MOVES = 0 ∧ (t.fld CLS_TBL_STAT_WAY, t.fld CLS_TBL_STAT_INDEX) ∈ candidates (s.flag (CLS_PROF_CTL_WIDE table)) (s.tblData table).1 ∧
        actValid (s.slotAt table (t.fld CLS_TBL_STAT_WAY) (t.fld CLS_TBL_STAT_INDEX)).action = false ∧
        t.cls.slots = tput s.cls.slots (slotKey table (t.fld CLS_TBL_STAT_WAY) (t.fld CLS_TBL_STAT_INDEX)) ⟨(s.tblData table).1, (s.tblData table).2 % 2 ^ 63 + 2 ^ 63⟩) ∧
  (∀ (s : State) (req : Requester) (table : Fin 4) (errs : List SlotErr), s.Admits req CLS_TBL_CMD → s.flag CLS_TBL_STAT_BUSY = true → exec (.tblInsert req table errs) s = .next s.malformed) ∧
  (∀ (s : State) (req : Requester) (table : Fin 4) (errs : List SlotErr), s.RegsOk → s.Admits req CLS_TBL_CMD → s.flag CLS_TBL_STAT_BUSY = false → s.flag (CLS_PROF_CTL_EN table) = false →
      NextIs (exec (.tblSearch req table errs) s) fun t => t.fld CLS_TBL_STAT_RESULT = 4 ∧ RegsOnly [CLS_TBL_CMD, CLS_TBL_STAT] s t) ∧
  (∀ (s : State) (req : Requester) (table : Fin 4) (w i : Nat), s.RegsOk → s.Admits req CLS_TBL_CMD → s.flag CLS_TBL_STAT_BUSY = false → s.flag (CLS_PROF_CTL_EN table) = true → s.profileOk table = true → s.findKey [] table (s.tblData table).1 = some (w, i) →
      NextIs (exec (.tblDelete req table []) s) fun t => t.fld CLS_TBL_STAT_RESULT = 0 ∧ t.fld CLS_TBL_STAT_WAY = w ∧ t.fld CLS_TBL_STAT_INDEX = i ∧
        t.cls.slots = tdel s.cls.slots (slotKey table w i) ∧ RegsOnly [CLS_TBL_CMD, CLS_TBL_STAT] { s with cls := t.cls } t) ∧
  (∀ (s : State) (req : Requester) (table : Fin 4), s.RegsOk → s.Admits req CLS_TBL_CMD → s.flag CLS_TBL_STAT_BUSY = false → s.flag (CLS_PROF_CTL_EN table) = true → s.profileOk table = true → s.findKey [] table (s.tblData table).1 = none →
      NextIs (exec (.tblDelete req table []) s) fun t => t.fld CLS_TBL_STAT_RESULT = 3 ∧ RegsOnly [CLS_TBL_CMD, CLS_TBL_STAT] s t) ∧
  (∀ (s : State) (req : Requester) (table : Fin 4) (w i : Nat), s.RegsOk → s.Admits req CLS_TBL_CMD → s.flag CLS_TBL_STAT_BUSY = false → s.flag (CLS_PROF_CTL_EN table) = true → s.flag (CLS_PROF_CTL_WIDE table) = false → s.profileOk table = true → s.findKey [] table (s.tblData table).1 = some (w, i) →
      NextIs (exec (.tblSearch req table []) s) fun t => t.fld CLS_TBL_STAT_RESULT = 0 ∧ t.fld CLS_TBL_STAT_WAY = w ∧ t.fld CLS_TBL_STAT_INDEX = i ∧
        t.reg (CLS_TBL_DATA 4) = BitVec.ofNat 32 ((s.slotAt table w i).action / 2 ^ 32) ∧ t.reg (CLS_TBL_DATA 5) = BitVec.ofNat 32 (s.slotAt table w i).action ∧ t.cls = s.cls) ∧
  (∀ (s : State) (req : Requester) (table way : Fin 4) (index : Fin 65536), s.RegsOk → s.Admits req CLS_TBL_CMD → s.flag CLS_TBL_STAT_BUSY = false → s.flag (CLS_PROF_CTL_EN table) = true → s.flag (CLS_PROF_CTL_WIDE table) = false → s.profileOk table = true →
      NextIs (exec (.tblReadSlot req table way index []) s) fun t => t.fld CLS_TBL_STAT_RESULT = 0 ∧ t.reg (CLS_TBL_DATA 3) = BitVec.ofNat 32 (s.slotAt table way index).key ∧
        t.reg (CLS_TBL_DATA 4) = BitVec.ofNat 32 ((s.slotAt table way index).action / 2 ^ 32) ∧ t.reg (CLS_TBL_DATA 5) = BitVec.ofNat 32 (s.slotAt table way index).action ∧ t.cls = s.cls) ∧
  (∀ (s : State) (req : Requester) (table way : Fin 4) (index : Fin 65536), s.RegsOk → s.Admits req CLS_TBL_CMD → s.flag CLS_TBL_STAT_BUSY = false → s.flag (CLS_PROF_CTL_EN table) = true → s.flag (CLS_PROF_CTL_WIDE table) = false → s.profileOk table = true →
      NextIs (exec (.tblReadSlot req table way index [⟨table, way, index, true⟩]) s) fun t => t.fld CLS_TBL_STAT_RESULT = 5 ∧ t.get64 CNT_CLS_MATCH_UE = (s.get64 CNT_CLS_MATCH_UE + 1) % 2 ^ 64 ∧ t.cls = s.cls) ∧
  (∀ (s : State) (req : Requester) (table : Fin 4), s.RegsOk → s.Admits req CLS_TBL_CMD → s.flag CLS_TBL_STAT_BUSY = false → s.flag (CLS_PROF_CTL_EN table) = true → s.profileOk table = true →
      NextIs (exec (.tblClear req table) s) fun t => t.flag CLS_TBL_STAT_BUSY = true ∧ t.cls.clearing = s.cls.clearing ||| 2 ^ table.val ∧ RegsOnly [CLS_TBL_CMD, CLS_TBL_STAT] { s with cls := t.cls } t) ∧
  (∀ (s : State), s.running = true → s.flag CLS_TBL_STAT_BUSY = true → s.cls.clearing ≠ 0 →
      NextIs (exec .tblClearDone s) fun t => t.flag CLS_TBL_STAT_BUSY = false ∧ t.cls.clearing = 0 ∧ (∀ e ∈ t.cls.slots, bitOf s.cls.clearing (e.1 / 262144) = false) ∧ (∀ e ∈ s.cls.slots, bitOf s.cls.clearing (e.1 / 262144) = false → e ∈ t.cls.slots) ∧ RegsOnly [CLS_TBL_STAT] { s with cls := t.cls } t)

/-- With one cell of one frame waiting for one usable output, a slot of the matching scheduler moves it: the frame joins its output queue, stamped with the wheel time, and both pointers go one beyond; a frame of more cells keeps the rest. XOFF is repeated while usage stays above XON. A queue that stays empty ages its WRED average. REBAL copies the configured buckets of a group whose members are all up. Where the spec leaves a point open the clauses hold of the model's choice (log entries 49, 51, 61, 202). -/
def Obligations.SwitchQueues : Prop :=
  (∀ (s : State) (i : Fin 88) (o : Port) (f : Frame), s.running = true → s.linkUsable o = true → s.swc.voq = [(i.val * 128 + o.val, [(f, 1)])] →
      NextIs (exec .matchSlot s) fun t => t.swc.voq = [] ∧ t.outQ f.q = s.outQ f.q ++ [{ f with joined := s.clock.nowNs }] ∧ tget t.swc.grant o 0 = (i.val + 1) % 88 ∧ tget t.swc.accept i 0 = (o.val + 1) % 88 ∧ CountsOnly [] { s with swc := t.swc, egs := t.egs } t) ∧
  (∀ (s : State) (i : Fin 88) (o : Port) (f : Frame) (n : Nat), s.running = true → s.linkUsable o = true → s.swc.voq = [(i.val * 128 + o.val, [(f, n + 2)])] →
      NextIs (exec .matchSlot s) fun t => t.swc.voq = [(i.val * 128 + o.val, [(f, n + 1)])] ∧ t.swc.outq = s.swc.outq ∧ CountsOnly [] { s with swc := t.swc } t) ∧
  (∀ (s : State) (port : Port) (cls : Fin 8), s.running = true → s.fld (NET_FC_CFG_MODE port) = 2 → bitOf (s.port port).xoffSent cls = true → (s.pfcLevels port cls).2.2 < s.ingressUsage port cls →
      NextIs (exec (.pfcXoffRepeat port cls) s) fun t => (t.port port).pauseTx = (s.port port).pauseTx ++ [⟨some cls.val, 0xFFFF⟩] ∧ t.regs = s.regs ∧ t.swc = s.swc) ∧
  (∀ (s : State) (port : Fin 88) (cls : Fin 9), s.running = true → s.framesOf (16 * port.val + cls.val) = [] →
      exec (.wredIdleUpdate port cls) s = .next (s.avgUpdate (16 * port.val + cls.val))) ∧
  (∀ (s : State) (port : Fin 88) (cls : Fin 9), s.running = true → s.framesOf (16 * port.val + cls.val) = [] → s.reg (SWC_Q_DEPTH (16 * port.val + cls.val)) = 0 → s.fld (SWC_Q_DDEPTH_DRAM (16 * port.val + cls.val)) = 0 → s.fld (SWC_Q_CFG_W (16 * port.val + cls.val)) = 0 →
      NextIs (exec (.wredIdleUpdate port cls) s) fun t => t.avgOf (16 * port.val + cls.val) = 0 ∧ RegsOnly [SWC_Q_AVG (16 * port.val + cls.val)] { s with swc := t.swc } t) ∧
  (∀ (s : State) (lag : Fin 32), s.RegsOk → s.running = true → (∀ p ∈ s.lagMembers lag, s.linkUsable p = true) →
      NextIs (exec (.lagRebal lag) s) fun t => (∀ w : Fin 64, t.reg (SWC_LAG_LIVE lag w) = s.reg (SWC_LAG_CFG lag w) &&& 0x3F3F3F3F) ∧ t.fld (SWC_LAG_CTL_LIVE lag) = (s.lagMembers lag).length ∧ t.swc = s.swc ∧ t.ports = s.ports)

/-- A port sends a waiting pause frame first, then its control queue's head, then the only eligible queue's head; the frame is counted with its octets and leaves its queue. A slot advance takes wheel time to the next multiple of 64 ns. Without a governing list every gate is open. CHANGE arms a switch to the other bank and is malformed while one is armed; the switch changes BANK, clears PEND and is counted. A depth sample touches nothing but histogram bins, and is taken only with SMP_EN. Where the spec leaves a point open the clauses hold of the model's choice (log entries 55, 77). -/
def Obligations.EgressSelection : Prop :=
  (∀ (s : State) (port : Port) (dt : Nat) (pf : PauseTx) (rest : List PauseTx), (s.pass dt).running = true → (s.pass dt).linkUsable port = true → ((s.pass dt).port port).pauseTx = pf :: rest →
      NextIs (exec (.egressSelect port dt) s) fun t => (t.port port).pauseTx = rest ∧ t.out.head? = some (.txPause port pf) ∧ t.get64 (CNT_NET_PAUSE_TX port) = ((s.pass dt).get64 (CNT_NET_PAUSE_TX port) + 1) % 2 ^ 64 ∧
        t.get64 (CNT_NET_TX_FRAMES port) = ((s.pass dt).get64 (CNT_NET_TX_FRAMES port) + 1) % 2 ^ 64 ∧ t.swc = s.swc ∧ t.egs = s.egs) ∧
  (∀ (s : State) (port : Port) (dt : Nat) (f : Frame) (rest : List Frame), (s.pass dt).running = true → (s.pass dt).linkUsable port = true → ((s.pass dt).port port).pauseTx = [] → (s.pass dt).flag (EGS_GATE_CTL_EN port) = false →
      s.outQ (16 * port.val + 8) = f :: rest → f.data = [] ∨ (s.pass dt).flag (NET_PTP_CFG_TS_EN port) = false →
      NextIs (exec (.egressSelect port dt) s) fun t => t.outQ (16 * port.val + 8) = rest ∧ t.out.head? = some (.txFrame port f) ∧ (∀ c : Fin 8, t.outQ (16 * port.val + c.val) = s.outQ (16 * port.val + c.val))) ∧
  (∀ (s : State) (port : Port) (dt : Nat) (c : Fin 8) (f : Frame), (s.pass dt).running = true → (s.pass dt).linkUsable port = true → ((s.pass dt).port port).pauseTx = [] → (s.pass dt).flag (EGS_GATE_CTL_EN port) = false →
      s.outQ (16 * port.val + c.val) = [f] → (∀ k : Fin 9, k.val ≠ c.val → s.outQ (16 * port.val + k.val) = []) → (s.pass dt).paused port c = false → (s.pass dt).fld (EGS_Q_RATE_RATE (16 * port.val + c.val)) = 0 →
      f.bytes ≤ 9600 → (f.data = [] ∨ (s.pass dt).flag (NET_PTP_CFG_TS_EN port) = false) → ((s.pass dt).port port).drrCur = none → ((s.pass dt).limOf (16 * port.val + c.val)).deficit = 0 →
      NextIs (exec (.egressSelect port dt) s) fun t => t.outQ (16 * port.val + c.val) = [] ∧ t.out.head? = some (.txFrame port f) ∧ (t.limOf (16 * port.val + c.val)).deficit = 0) ∧
  (∀ (s : State), s.running = true →
      NextIs (exec .wheelSlotAdvance s) fun t => t.clock.nowNs = (s.clock.nowNs / 64 + 1) * 64 ∧ t.fld EGS_WHEEL_STAT_SLOT = (s.clock.nowNs / 64 + 1) % 4096 ∧ t.swc = s.swc ∧ t.cmdq = s.cmdq) ∧
  (∀ (s : State) (port : Port) (dt : Nat), (s.pass dt).running = true → (s.pass dt).flag (EGS_GATE_CTL_EN port) = false →
      NextIs (exec (.gateEntryChange port dt) s) fun t => t.gates port = 0x1FF ∧ t.fld (EGS_GATE_STAT_GATES port) = 0x1FF ∧ t.flag (EGS_GATE_STAT_RUN port) = false ∧ RegsOnly [EGS_GATE_STAT port] (s.pass dt) t) ∧
  (∀ (s : State) (port : Port) (dt g : Nat), (s.pass dt).running = true → (s.pass dt).flag (EGS_GATE_CTL_EN port) = true → (s.pass dt).flag NET_TIME_CTL_VALID = true → (s.pass dt).gatePos port = some 0 → (entryAt ((s.pass dt).gateList port) 0).map (fun e => e.2.1) = some g →
      NextIs (exec (.gateEntryChange port dt) s) fun t => t.gates port = g ∧ t.fld (EGS_GATE_STAT_GATES port) = g % 512 ∧ t.flag (EGS_GATE_STAT_RUN port) = true ∧ RegsOnly [EGS_GATE_STAT port] (s.pass dt) t) ∧
  (∀ (s : State) (port : Port) (dt : Nat), s.RegsOk → (s.pass dt).running = true → (s.pass dt).flag (EGS_GATE_CTL_PEND port) = false →
      NextIs (exec (.gateBankChange port dt) s) fun t => t.flag (EGS_GATE_CTL_PEND port) = true ∧ t.fld (EGS_GATE_CTL_BANK port) = (s.pass dt).fld (EGS_GATE_CTL_BANK port) ∧ RegsOnly [EGS_GATE_CTL port] (s.pass dt) t) ∧
  (∀ (s : State) (port : Port) (dt : Nat), (s.pass dt).running = true → (s.pass dt).flag (EGS_GATE_CTL_PEND port) = true →
      exec (.gateBankChange port dt) s = .next (s.pass dt).malformed) ∧
  (∀ (s : State) (port : Port) (dt : Nat), s.RegsOk → (s.pass dt).running = true → (s.pass dt).flag (EGS_GATE_CTL_PEND port) = true → (s.pass dt).flag (EGS_GATE_CTL_EN port) = false →
      NextIs (exec (.gateBankSwitch port dt) s) fun t => t.fld (EGS_GATE_CTL_BANK port) = 1 - (s.pass dt).fld (EGS_GATE_CTL_BANK port) ∧ t.flag (EGS_GATE_CTL_PEND port) = false ∧ t.get64 CNT_EGS_GATE_SWITCH = ((s.pass dt).get64 CNT_EGS_GATE_SWITCH + 1) % 2 ^ 64 ∧
        CountsOnly [EGS_GATE_CTL port, EGS_GATE_STAT port, CNT_EGS_GATE_SWITCH, CNT_EGS_GATE_SWITCH + 4] (s.pass dt) t) ∧
  (∀ (s : State) (dt : Nat), (s.pass dt).running = true → (s.pass dt).flag EGS_CTL_SMP_EN = true →
      NextIs (exec (.depthSample dt) s) fun t => t = { s.pass dt with regs := t.regs } ∧ (∀ p : Port, t.reg (NET_PORT_CFG p) = (s.pass dt).reg (NET_PORT_CFG p)) ∧
        ∀ p : Port, ∀ c : Fin 9, (t.reg (EGS_HIST (16 * p.val + c.val) (histBin ((s.pass dt).fld (SWC_Q_DEPTH_ONCHIP (16 * p.val + c.val)) + (s.pass dt).fld (SWC_Q_DDEPTH_DRAM (16 * p.val + c.val))) ((s.pass dt).fld EGS_CTL_DEPTH_SHIFT)))).toNat =
          min 0xFFFFFFFF (((s.pass dt).reg (EGS_HIST (16 * p.val + c.val) (histBin ((s.pass dt).fld (SWC_Q_DEPTH_ONCHIP (16 * p.val + c.val)) + (s.pass dt).fld (SWC_Q_DDEPTH_DRAM (16 * p.val + c.val))) ((s.pass dt).fld EGS_CTL_DEPTH_SHIFT)))).toNat + 1)) ∧
  (∀ (s : State) (dt : Nat), (s.pass dt).flag EGS_CTL_SMP_EN = false → exec (.depthSample dt) s = .next (s.pass dt))

/-- A packet that fails its ICRC or names no live context is counted and discarded. In order, a capsule of one packet moves EPSN and MSN on by one and reaches command queueing; 1 to 255 ahead, a packet is placed and EPSN stays; further ahead it is counted in OOO_BEYOND and starts the reorder timer. While a NAKed PSN is awaited, other packets change nothing but NAK_DISCARD. The reorder timer sends one sequence NAK for EPSN, and the delay timer acknowledges up to EPSN where nothing holds an ACK back. Where the spec leaves a point open the clauses hold of the model's choice (log entries 62, 63, 64, 65, 73, 74). -/
def Obligations.RequestsReceived : Prop :=
  (∀ (s : State) (pkt : RoPkt) (dt : Nat), (s.pass dt).running = true → pkt.icrcOk = false →
      NextIs (exec (.rdmaRequestRx pkt dt) s) fun t => t.get64 CNT_RDM_RX_PKTS = ((s.pass dt).get64 CNT_RDM_RX_PKTS + 1) % 2 ^ 64 ∧ t.get64 CNT_RDM_ICRC_ERR = ((s.pass dt).get64 CNT_RDM_ICRC_ERR + 1) % 2 ^ 64 ∧
        CountsOnly [CNT_RDM_RX_PKTS, CNT_RDM_RX_PKTS + 4, CNT_RDM_ICRC_ERR, CNT_RDM_ICRC_ERR + 4] (s.pass dt) t) ∧
  (∀ (s : State) (pkt : RoPkt) (dt : Nat), (s.pass dt).running = true → pkt.icrcOk = true → ((s.qp pkt.qpn).state < 2 ∨ 3 < (s.qp pkt.qpn).state ∨ (s.qp pkt.qpn).gen ≠ pkt.qpn / 16384 ∨ (s.qp pkt.qpn).pKey % 2 ^ 15 ≠ pkt.pKey % 2 ^ 15) →
      NextIs (exec (.rdmaRequestRx pkt dt) s) fun t => t.get64 CNT_RDM_RX_PKTS = ((s.pass dt).get64 CNT_RDM_RX_PKTS + 1) % 2 ^ 64 ∧ t.get64 CNT_RDM_BAD_QP = ((s.pass dt).get64 CNT_RDM_BAD_QP + 1) % 2 ^ 64 ∧
        CountsOnly [CNT_RDM_RX_PKTS, CNT_RDM_RX_PKTS + 4, CNT_RDM_BAD_QP, CNT_RDM_BAD_QP + 4] (s.pass dt) t) ∧
  (∀ (s : State) (pkt : RoPkt) (dt : Nat), (s.pass dt).running = true → pkt.icrcOk = true → ((s.qp pkt.qpn).state = 2 ∨ (s.qp pkt.qpn).state = 3) → (s.qp pkt.qpn).gen = pkt.qpn / 16384 → (s.qp pkt.qpn).pKey % 2 ^ 15 = pkt.pKey % 2 ^ 15 → pkt.ecn ≠ 3 →
      pkt.psn = (s.qp pkt.qpn).epsn → (s.qp pkt.qpn).epsn < 2 ^ 24 → (s.qp pkt.qpn).nakWait = none → pkt.opcode = 4 → (s.qp pkt.qpn).kind ≠ 3 → (s.qp pkt.qpn).cur = none → pkt.len ≤ pmtuBytes (s.qp pkt.qpn).pmtu → (s.qp pkt.qpn).placed = [] → s.capsuleQueue pkt.qpn = none →
      pkt.ackReq = false → (s.qp pkt.qpn).unacked + 1 < (s.pass dt).fld RDM_ACK_CFG_COAL →
      NextIs (exec (.rdmaRequestRx pkt dt) s) fun t => (t.qp pkt.qpn).epsn = ((s.qp pkt.qpn).epsn + 1) % 2 ^ 24 ∧ (t.qp pkt.qpn).msn = ((s.qp pkt.qpn).msn + 1) % 2 ^ 24 ∧ (t.qp pkt.qpn).unacked = (s.qp pkt.qpn).unacked + 1 ∧ (t.qp pkt.qpn).ackTimer = true ∧
        t.cmdq.connects = s.cmdq.connects ++ [(pkt.qpn % 16384, { sqe := pkt.payload % 2 ^ 512, data := pkt.payload / 2 ^ 512, stamp := mkStamp pkt.stamp pkt.port 0, port := pkt.port })] ∧
        t.get64 CNT_CMDQ_CAPSULES = ((s.pass dt).get64 CNT_CMDQ_CAPSULES + 1) % 2 ^ 64 ∧ t.swc = s.swc) ∧
  (∀ (s : State) (pkt : RoPkt) (dt : Nat), (s.pass dt).running = true → pkt.icrcOk = true → ((s.qp pkt.qpn).state = 2 ∨ (s.qp pkt.qpn).state = 3) → (s.qp pkt.qpn).gen = pkt.qpn / 16384 → (s.qp pkt.qpn).pKey % 2 ^ 15 = pkt.pKey % 2 ^ 15 → pkt.ecn ≠ 3 →
      0 < psnDist pkt.psn (s.qp pkt.qpn).epsn → psnDist pkt.psn (s.qp pkt.qpn).epsn < 256 → (s.qp pkt.qpn).nakWait = none → (s.qp pkt.qpn).tracker = none → s.trackersUsed < 2048 → pkt.opcode = 4 →
      NextIs (exec (.rdmaRequestRx pkt dt) s) fun t => (t.qp pkt.qpn).epsn = (s.qp pkt.qpn).epsn ∧ (t.qp pkt.qpn).placed = (s.qp pkt.qpn).placed ++ [(pkt.psn, pkt, 0)] ∧ (t.qp pkt.qpn).reorder = true ∧ (t.qp pkt.qpn).tracker.isSome = true ∧
        t.get64 CNT_RDM_OOO_PLACED = ((s.pass dt).get64 CNT_RDM_OOO_PLACED + 1) % 2 ^ 64 ∧ t.cmdq = s.cmdq ∧ t.swc = s.swc) ∧
  (∀ (s : State) (pkt : RoPkt) (dt : Nat), (s.pass dt).running = true → pkt.icrcOk = true → ((s.qp pkt.qpn).state = 2 ∨ (s.qp pkt.qpn).state = 3) → (s.qp pkt.qpn).gen = pkt.qpn / 16384 → (s.qp pkt.qpn).pKey % 2 ^ 15 = pkt.pKey % 2 ^ 15 → pkt.ecn ≠ 3 →
      256 ≤ psnDist pkt.psn (s.qp pkt.qpn).epsn → psnDist pkt.psn (s.qp pkt.qpn).epsn < 2 ^ 23 → (s.qp pkt.qpn).nakWait = none →
      NextIs (exec (.rdmaRequestRx pkt dt) s) fun t => t.get64 CNT_RDM_OOO_BEYOND = ((s.pass dt).get64 CNT_RDM_OOO_BEYOND + 1) % 2 ^ 64 ∧ t.qp pkt.qpn = { s.qp pkt.qpn with reorder := true } ∧
        CountsOnly [CNT_RDM_RX_PKTS, CNT_RDM_RX_PKTS + 4, CNT_RDM_OOO_BEYOND, CNT_RDM_OOO_BEYOND + 4] { s.pass dt with rdm := t.rdm } t) ∧
  (∀ (s : State) (pkt : RoPkt) (dt w : Nat), (s.pass dt).running = true → pkt.icrcOk = true → ((s.qp pkt.qpn).state = 2 ∨ (s.qp pkt.qpn).state = 3) → (s.qp pkt.qpn).gen = pkt.qpn / 16384 → (s.qp pkt.qpn).pKey % 2 ^ 15 = pkt.pKey % 2 ^ 15 → pkt.ecn ≠ 3 →
      psnDist pkt.psn (s.qp pkt.qpn).epsn < 2 ^ 23 → (s.qp pkt.qpn).nakWait = some w → pkt.psn ≠ w → (s.qp pkt.qpn).skipMsg = false →
      NextIs (exec (.rdmaRequestRx pkt dt) s) fun t => t.get64 CNT_RDM_NAK_DISCARD = ((s.pass dt).get64 CNT_RDM_NAK_DISCARD + 1) % 2 ^ 64 ∧ t.qp pkt.qpn = s.qp pkt.qpn ∧
        CountsOnly [CNT_RDM_RX_PKTS, CNT_RDM_RX_PKTS + 4, CNT_RDM_NAK_DISCARD, CNT_RDM_NAK_DISCARD + 4] { s.pass dt with rdm := t.rdm } t) ∧
  (∀ (s : State) (qp : Fin 16384), s.running = true → (s.qp qp).reorder = true → ((s.qp qp).state = 2 ∨ (s.qp qp).state = 3) → (s.qp qp).seqNaked = false →
      NextIs (exec (.reorderTimerExpiry qp) s) fun t => t.get64 CNT_RDM_NAK_SEQ_TX = (s.get64 CNT_RDM_NAK_SEQ_TX + 1) % 2 ^ 64 ∧ t.qp qp = { s.qp qp with reorder := false, seqNaked := true, nakWait := some (s.qp qp).epsn } ∧ t.cmdq = s.cmdq) ∧
  (∀ (s : State) (qp : Fin 16384), s.running = true → (s.qp qp).reorder = true → ((s.qp qp).state = 2 ∨ (s.qp qp).state = 3) → (s.qp qp).seqNaked = true →
      NextIs (exec (.reorderTimerExpiry qp) s) fun t => t.qp qp = { s.qp qp with reorder := false } ∧ t = { s with rdm := t.rdm }) ∧
  (∀ (s : State) (qp : Fin 16384), s.running = true → ((s.qp qp).state = 2 ∨ (s.qp qp).state = 3) → (s.qp qp).ackTimer = true → (s.qp qp).ackHeld = [] → (∀ r ∈ (s.qp qp).reads, r.done = true) → (s.qp qp).epsn < 2 ^ 24 → (s.qp qp).ackedTo < 2 ^ 24 →
      NextIs (exec (.ackDelayExpiry qp) s) fun t => (t.qp qp).ackedTo = (s.qp qp).epsn ∧ (t.qp qp).ackTimer = false ∧ (t.qp qp).unacked = 0 ∧ (t.qp qp).ackWant = false ∧ t.cmdq = s.cmdq)

/-- The head message takes the next PSNs and waits for its acknowledgement; a message held back starts nothing. A timeout with retries left takes one and steps the back-off up. An ACK inside the window moves UNA_PSN past it and starts the retry state afresh; one at or beyond SQ_PSN is counted in BAD_ACK. A sequence NAK for UNA_PSN takes one retry and leaves the back-off; an RNR NAK starts the wait, whose end resends. The last missing READ response completes the READ. A CNP cuts the rate at most once per guard time, and each recovery step raises it. Where the spec leaves a point open the clauses hold of the model's choice (log entries 62, 66, 67, 191, 192). -/
def Obligations.RequestsSent : Prop :=
  (∀ (s : State) (qp : Fin 16384) (dt : Nat) (m : Msg) (rest : List Msg), (s.pass dt).running = true → (s.qp qp).sendq = m :: rest → (s.pass dt).msgFree qp m = true →
      NextIs (exec (.requesterMessageStart qp dt) s) fun t => (t.qp qp).sendq = rest ∧ (t.qp qp).sqPsn = ((s.qp qp).sqPsn + readPackets (pmtuBytes (s.qp qp).pmtu) m.bytes) % 2 ^ 24 ∧
        (t.qp qp).outst = (s.qp qp).outst ++ [{ msg := m, first := (s.qp qp).sqPsn, count := readPackets (pmtuBytes (s.qp qp).pmtu) m.bytes }] ∧ (t.qp qp).unaPsn = (s.qp qp).unaPsn ∧ t.cmdq = s.cmdq) ∧
  (∀ (s : State) (qp : Fin 16384) (dt : Nat) (m : Msg) (rest : List Msg), (s.qp qp).sendq = m :: rest → (s.pass dt).msgFree qp m = false → exec (.requesterMessageStart qp dt) s = .next (s.pass dt)) ∧
  (∀ (s : State) (qp : Fin 16384), s.running = true → (s.qp qp).state = 3 → (s.qp qp).unaPsn ≠ (s.qp qp).sqPsn → (s.qp qp).rnrWait = false → (s.qp qp).t ≠ 0 → (s.qp qp).retryLeft ≠ 0 → (∀ o ∈ (s.qp qp).outst, o.lost = false) →
      NextIs (exec (.ackTimeout qp) s) fun t => t.qp qp = { s.qp qp with retryLeft := (s.qp qp).retryLeft - 1, expStep := min ((s.qp qp).expStep + 1) 6 } ∧ t.get64 CNT_RDM_TIMEOUTS = (s.get64 CNT_RDM_TIMEOUTS + 1) % 2 ^ 64 ∧ t.cmdq = s.cmdq) ∧
  (∀ (s : State) (qp : Fin 16384), s.running = true → (s.qp qp).state = 3 → (s.qp qp).unaPsn ≠ (s.qp qp).sqPsn → (s.qp qp).rnrWait = false → (s.qp qp).t ≠ 0 → (s.qp qp).retryLeft = 0 → s.assoc? (s.qp qp).assoc = none →
      NextIs (exec (.ackTimeout qp) s) fun t => (t.qp qp).state = 4 ∧ (t.qp qp).sendq = [] ∧ (t.qp qp).outst = [] ∧ (t.qp qp).flushing = true) ∧
  (∀ (s : State) (pkt : RoPkt) (dt : Nat), (s.pass dt).running = true → pkt.icrcOk = true → (s.qp pkt.qpn).state = 3 → (s.qp pkt.qpn).gen = pkt.qpn / 16384 → (s.qp pkt.qpn).pKey % 2 ^ 15 = pkt.pKey % 2 ^ 15 → pkt.ecn ≠ 3 →
      (s.qp pkt.qpn).rspClass pkt.psn = .ok → (s.qp pkt.qpn).peer = false → (∀ o ∈ (s.qp pkt.qpn).outst, o.openRead = false) → (s.qp pkt.qpn).unaPsn ≠ (pkt.psn + 1) % 2 ^ 24 →
      NextIs (exec (.ackRx pkt dt) s) fun t => (t.qp pkt.qpn).unaPsn = (pkt.psn + 1) % 2 ^ 24 ∧ (t.qp pkt.qpn).expStep = 0 ∧ (t.qp pkt.qpn).retryLeft = (s.qp pkt.qpn).retryCnt ∧ (t.qp pkt.qpn).rnrLeft = (s.qp pkt.qpn).rnrRetry ∧ (t.qp pkt.qpn).sqPsn = (s.qp pkt.qpn).sqPsn ∧ t.cmdq = s.cmdq) ∧
  (∀ (s : State) (pkt : RoPkt) (dt : Nat), (s.pass dt).running = true → pkt.icrcOk = true → ((s.qp pkt.qpn).state = 2 ∨ (s.qp pkt.qpn).state = 3) → (s.qp pkt.qpn).gen = pkt.qpn / 16384 → (s.qp pkt.qpn).pKey % 2 ^ 15 = pkt.pKey % 2 ^ 15 → pkt.ecn ≠ 3 →
      (s.qp pkt.qpn).rspClass pkt.psn = .bad →
      NextIs (exec (.ackRx pkt dt) s) fun t => t.get64 CNT_RDM_BAD_ACK = ((s.pass dt).get64 CNT_RDM_BAD_ACK + 1) % 2 ^ 64 ∧ CountsOnly [CNT_RDM_RX_PKTS, CNT_RDM_RX_PKTS + 4, CNT_RDM_BAD_ACK, CNT_RDM_BAD_ACK + 4] (s.pass dt) t) ∧
  (∀ (s : State) (pkt : RoPkt) (dt : Nat), (s.pass dt).running = true → pkt.icrcOk = true → (s.qp pkt.qpn).state = 3 → (s.qp pkt.qpn).gen = pkt.qpn / 16384 → (s.qp pkt.qpn).pKey % 2 ^ 15 = pkt.pKey % 2 ^ 15 → pkt.ecn ≠ 3 →
      (s.qp pkt.qpn).rspClass pkt.psn = .ok → pkt.psn = (s.qp pkt.qpn).unaPsn → pkt.psn < 2 ^ 24 → pkt.syndrome = 0x60 → (s.qp pkt.qpn).retryLeft ≠ 0 → (∀ o ∈ (s.qp pkt.qpn).outst, o.lost = false) →
      NextIs (exec (.nakRx pkt dt) s) fun t => t.qp pkt.qpn = { s.qp pkt.qpn with retryLeft := (s.qp pkt.qpn).retryLeft - 1 } ∧ t.get64 CNT_RDM_NAK_RX = ((s.pass dt).get64 CNT_RDM_NAK_RX + 1) % 2 ^ 64) ∧
  (∀ (s : State) (pkt : RoPkt) (dt : Nat), (s.pass dt).running = true → pkt.icrcOk = true → (s.qp pkt.qpn).state = 3 → (s.qp pkt.qpn).gen = pkt.qpn / 16384 → (s.qp pkt.qpn).pKey % 2 ^ 15 = pkt.pKey % 2 ^ 15 → pkt.ecn ≠ 3 →
      (s.qp pkt.qpn).rspClass pkt.psn = .ok → pkt.psn = (s.qp pkt.qpn).unaPsn → pkt.psn < 2 ^ 24 → 0x20 ≤ pkt.syndrome → pkt.syndrome < 0x40 → (s.qp pkt.qpn).rnrLeft ≠ 0 → (s.qp pkt.qpn).rnrRetry ≠ 7 →
      NextIs (exec (.nakRx pkt dt) s) fun t => t.qp pkt.qpn = { s.qp pkt.qpn with rnrWait := true, rnrPsn := pkt.psn, rnrLeft := (s.qp pkt.qpn).rnrLeft - 1 }) ∧
  (∀ (s : State) (qp : Fin 16384), s.running = true → (s.qp qp).rnrWait = true → (∀ o ∈ (s.qp qp).outst, o.lost = false) →
      NextIs (exec (.rnrWaitExpiry qp) s) fun t => t.qp qp = { s.qp qp with rnrWait := false } ∧ t.cmdq = s.cmdq) ∧
  (∀ (s : State) (pkt : RoPkt) (dt : Nat) (o : OutMsg) (qi rkey va : Nat) (x : Queue), (s.pass dt).running = true → pkt.icrcOk = true → (s.qp pkt.qpn).state = 3 → (s.qp pkt.qpn).gen = pkt.qpn / 16384 → (s.qp pkt.qpn).pKey % 2 ^ 15 = pkt.pKey % 2 ^ 15 → pkt.ecn ≠ 3 →
      (s.qp pkt.qpn).outst = [o] → o.msg.kind = .read (.doorbell qi) rkey va → o.count = 1 → o.have' = 0 → o.data = 0 → o.first = pkt.psn → (s.qp pkt.qpn).unaPsn = pkt.psn → pkt.psn < 2 ^ 24 → s.queue? qi = some x →
      NextIs (exec (.readResponseRx pkt dt) s) fun t => (t.qp pkt.qpn).outst = [] ∧ (t.qp pkt.qpn).unaPsn = (pkt.psn + 1) % 2 ^ 24 ∧ (t.qp pkt.qpn).respGap = false ∧ t.queue? qi = some { x with dbWord := some pkt.payload }) ∧
  (∀ (s : State) (pkt : RoPkt) (dt : Nat), (s.pass dt).running = true → pkt.icrcOk = true → (s.qp pkt.qpn).state = 3 → (s.qp pkt.qpn).gen = pkt.qpn / 16384 → (s.qp pkt.qpn).pKey % 2 ^ 15 = pkt.pKey % 2 ^ 15 → pkt.ecn ≠ 3 →
      (s.qp pkt.qpn).outst = [] → 2 ^ 23 ≤ psnDist pkt.psn (s.qp pkt.qpn).unaPsn →
      NextIs (exec (.readResponseRx pkt dt) s) fun t => t.get64 CNT_RDM_DUP_RESP = ((s.pass dt).get64 CNT_RDM_DUP_RESP + 1) % 2 ^ 64 ∧ CountsOnly [CNT_RDM_RX_PKTS, CNT_RDM_RX_PKTS + 4, CNT_RDM_DUP_RESP, CNT_RDM_DUP_RESP + 4] (s.pass dt) t) ∧
  (∀ (s : State) (qp : Fin 16384), s.running = true → (s.qp qp).state = 3 → (s.qp qp).respGap = true → (s.qp qp).retryLeft ≠ 0 → (∃ o ∈ (s.qp qp).outst, o.openRead = true) →
      NextIs (exec (.readGapTimeout qp) s) fun t => t.qp qp = { s.qp qp with retryLeft := (s.qp qp).retryLeft - 1, respGap := false } ∧ t.get64 CNT_RDM_RETRANSMITS = (s.get64 CNT_RDM_RETRANSMITS + 1) % 2 ^ 64) ∧
  (∀ (s : State) (pkt : RoPkt) (dt : Nat), (s.pass dt).running = true → pkt.icrcOk = true → (s.qp pkt.qpn).state = 3 → (s.qp pkt.qpn).gen = pkt.qpn / 16384 → (s.qp pkt.qpn).pKey % 2 ^ 15 = pkt.pKey % 2 ^ 15 →
      (s.pass dt).flag RDM_CTL_RP_EN = true → (s.qp pkt.qpn).lastCut = none → (s.qp pkt.qpn).ccCur = none → 0 < (s.qp pkt.qpn).rateBase → (s.qp pkt.qpn).rateBase < 2 ^ 20 → 0 < (s.pass dt).fld RDM_CC_CFG0_CUT → 0 < (s.pass dt).fld RDM_CC_CFG1_RATE_MIN →
      NextIs (exec (.cnpRx pkt dt) s) fun t => t.fld (EGS_QP_RATE_RATE (pkt.qpn % 16384)) = max ((s.qp pkt.qpn).rateBase * (s.pass dt).fld RDM_CC_CFG0_CUT / 256) ((s.pass dt).fld RDM_CC_CFG1_RATE_MIN) ∧ (t.qp pkt.qpn).recovering = true ∧
        t.get64 CNT_RDM_CNP_RX = ((s.pass dt).get64 CNT_RDM_CNP_RX + 1) % 2 ^ 64 ∧ t.cmdq = s.cmdq) ∧
  (∀ (s : State) (pkt : RoPkt) (dt c : Nat), (s.pass dt).running = true → pkt.icrcOk = true → (s.qp pkt.qpn).state = 3 → (s.qp pkt.qpn).gen = pkt.qpn / 16384 → (s.qp pkt.qpn).pKey % 2 ^ 15 = pkt.pKey % 2 ^ 15 →
      (s.pass dt).flag RDM_CTL_RP_EN = true → (s.qp pkt.qpn).lastCut = some c → (s.pass dt).clock.nowNs - c < (s.pass dt).fld RDM_CC_CFG0_GUARD_US * 1000 →
      NextIs (exec (.cnpRx pkt dt) s) fun t => t.get64 CNT_RDM_CNP_RX = ((s.pass dt).get64 CNT_RDM_CNP_RX + 1) % 2 ^ 64 ∧ CountsOnly [CNT_RDM_RX_PKTS, CNT_RDM_RX_PKTS + 4, CNT_RDM_CNP_RX, CNT_RDM_CNP_RX + 4] (s.pass dt) t) ∧
  (∀ (s : State) (qp : Fin 16384) (cur : Nat), s.running = true → (s.qp qp).state = 3 → (s.qp qp).recovering = true → s.flag RDM_CTL_RP_EN = true → (s.qp qp).ccCur = some cur → cur + s.fld RDM_CC_CFG1_STEP < s.rateCeiling (s.qp qp) → cur + s.fld RDM_CC_CFG1_STEP < 2 ^ 20 →
      NextIs (exec (.ccRecoverStep qp) s) fun t => t.fld (EGS_QP_RATE_RATE qp) = cur + s.fld RDM_CC_CFG1_STEP ∧ t.qp qp = { s.qp qp with ccCur := some (cur + s.fld RDM_CC_CFG1_STEP) } ∧ RegsOnly [EGS_QP_RATE qp] { s with rdm := t.rdm } t) ∧
  (∀ (s : State) (qp : Fin 16384) (cur : Nat), s.running = true → (s.qp qp).state = 3 → (s.qp qp).recovering = true → s.flag RDM_CTL_RP_EN = true → (s.qp qp).ccCur = some cur → s.rateCeiling (s.qp qp) ≤ cur + s.fld RDM_CC_CFG1_STEP → (s.qp qp).rateBase < 2 ^ 20 →
      NextIs (exec (.ccRecoverStep qp) s) fun t => t.fld (EGS_QP_RATE_RATE qp) = (s.qp qp).rateBase ∧ (t.qp qp).recovering = false ∧ RegsOnly [EGS_QP_RATE qp] { s with rdm := t.rdm } t)

/-- An admitted MODIFY loads what its transition names and no more; a transition that is not listed leaves RESULT 1 and a field out of range RESULT 3, with the context unchanged; ERROR returns to RESET, keeping GEN, once the flush has ended. A MODIFY to ERROR from RESET or INIT records cause 9. READ returns the context's 16 words. With BUSY set the write is malformed. -/
def Obligations.QueuePairCommands : Prop :=
  (∀ (s : State) (req : Requester) (index : Fin 16384), s.RegsOk → s.Admits req RDM_QPC_CMD → s.flag RDM_QPC_STAT_BUSY = false → (s.qp index).state = 0 → s.qpFieldsOk (s.loadQp (s.qp index)) = true →
      NextIs (exec (.qpcModify req 1 index) s) fun t => t.fld RDM_QPC_STAT_RESULT = 0 ∧ t.qp index = { s.loadQp (s.qp index) with state := 1 } ∧ RegsOnly [RDM_QPC_CMD, RDM_QPC_STAT] { s with rdm := t.rdm } t) ∧
  (∀ (s : State) (req : Requester) (index : Fin 16384), s.RegsOk → s.Admits req RDM_QPC_CMD → s.flag RDM_QPC_STAT_BUSY = false → (s.qp index).state = 0 → s.qpFieldsOk (s.loadQp (s.qp index)) = false →
      NextIs (exec (.qpcModify req 1 index) s) fun t => t.fld RDM_QPC_STAT_RESULT = 3 ∧ RegsOnly [RDM_QPC_CMD, RDM_QPC_STAT] s t) ∧
  (∀ (s : State) (req : Requester) (index : Fin 16384), s.RegsOk → s.Admits req RDM_QPC_CMD → s.flag RDM_QPC_STAT_BUSY = false → (s.qp index).state = 1 →
      NextIs (exec (.qpcModify req 2 index) s) fun t => t.fld RDM_QPC_STAT_RESULT = 0 ∧ (t.qp index).state = 2 ∧ (t.qp index).epsn = (s.reg (RDM_QPC_DATA 5)).toNat % 2 ^ 24 ∧ (t.qp index).msn = 0 ∧ RegsOnly [RDM_QPC_CMD, RDM_QPC_STAT] { s with rdm := t.rdm } t) ∧
  (∀ (s : State) (req : Requester) (index : Fin 16384), s.RegsOk → s.Admits req RDM_QPC_CMD → s.flag RDM_QPC_STAT_BUSY = false → (s.qp index).state = 2 →
      NextIs (exec (.qpcModify req 3 index) s) fun t => t.fld RDM_QPC_STAT_RESULT = 0 ∧ t.qp index = { s.qp index with state := 3, sqPsn := (s.reg (RDM_QPC_DATA 3)).toNat % 2 ^ 24, unaPsn := (s.reg (RDM_QPC_DATA 3)).toNat % 2 ^ 24, retryLeft := (s.qp index).retryCnt, rnrLeft := (s.qp index).rnrRetry, expStep := 0 } ∧ RegsOnly [RDM_QPC_CMD, RDM_QPC_STAT] { s with rdm := t.rdm } t) ∧
  (∀ (s : State) (req : Requester) (index : Fin 16384), s.RegsOk → s.Admits req RDM_QPC_CMD → s.flag RDM_QPC_STAT_BUSY = false → (s.qp index).state = 4 →
      NextIs (exec (.qpcModify req 0 index) s) fun t => (if (s.qp index).flushing then t.fld RDM_QPC_STAT_RESULT = 4 ∧ t.qp index = s.qp index else t.fld RDM_QPC_STAT_RESULT = 0 ∧ t.qp index = { gen := (s.qp index).gen }) ∧ RegsOnly [RDM_QPC_CMD, RDM_QPC_STAT] { s with rdm := t.rdm } t) ∧
  (∀ (s : State) (req : Requester) (target : Fin 8) (index : Fin 16384), s.RegsOk → s.Admits req RDM_QPC_CMD → s.flag RDM_QPC_STAT_BUSY = false → ((s.qp index).state = 3 ∧ target ≤ 2 ∨ (s.qp index).state = 2 ∧ target ≤ 2 ∨ (s.qp index).state = 0 ∧ (target = 2 ∨ target = 3) ∨ (s.qp index).state = 4 ∧ 1 ≤ target) →
      NextIs (exec (.qpcModify req target index) s) fun t => t.fld RDM_QPC_STAT_RESULT = 1 ∧ RegsOnly [RDM_QPC_CMD, RDM_QPC_STAT] s t) ∧
  (∀ (s : State) (req : Requester) (index : Fin 16384), s.RegsOk → s.Admits req RDM_QPC_CMD → s.flag RDM_QPC_STAT_BUSY = false → (s.qp index).state < 2 → s.rdm.errq.length < 64 →
      NextIs (exec (.qpcModify req 4 index) s) fun t => t.fld RDM_QPC_STAT_RESULT = 0 ∧ (t.qp index).state = 4 ∧ (t.qp index).flushing = false ∧ t.rdm.errq = s.rdm.errq ++ [(index.val + (s.qp index).gen * 16384, 9)] ∧ t.flag RDM_ERRQP_VALID = true) ∧
  (∀ (s : State) (req : Requester) (target : Fin 8) (index : Fin 16384), s.Admits req RDM_QPC_CMD → s.flag RDM_QPC_STAT_BUSY = true → exec (.qpcModify req target index) s = .next s.malformed) ∧
  (∀ (s : State) (req : Requester) (index : Fin 16384) (k : Fin 16), s.RegsOk → s.Admits req RDM_QPC_CMD → s.flag RDM_QPC_STAT_BUSY = false →
      NextIs (exec (.qpcRead req index) s) fun t => t.fld RDM_QPC_STAT_RESULT = 0 ∧ t.reg (RDM_QPC_DATA k) = BitVec.ofNat 32 ((s.qp index).words.getD k 0) ∧ t = { s with regs := t.regs }) ∧
  (∀ (s : State) (qp : Fin 16384), s.powered = true → (s.qp qp).state = 4 →
      NextIs (exec (.qpFlushComplete qp) s) fun t => t.qp qp = { s.qp qp with flushing := false } ∧ t = { s with rdm := t.rdm })

/-- MAP takes a FREE window's descriptor from the data registers and makes it ACTIVE with nothing in flight; REVOKE moves an ACTIVE window to REVOKING, and at once to FREE where nothing is in flight; MODIFY changes POLICY and STALL_LIMIT only; READ returns the descriptor. In any other window state RESULT is 1. A REVOKING window becomes FREE when its last request ends. A window READ that outlives its stall limit is dropped under STALL_THEN_DROP. Where the spec leaves a point open the clauses hold of the model's choice (log entry 68). -/
def Obligations.WindowCommands : Prop :=
  (∀ (s : State) (req : Requester) (index : Fin 4096), s.RegsOk → s.Admits req RDM_WIN_CMD → s.flag RDM_WIN_STAT_BUSY = false → (s.win index).state = 0 → winFieldsOk (winOf (fun k => (s.reg (RDM_WIN_DATA k)).toNat)) = true →
      NextIs (exec (.winMap req index) s) fun t => t.fld RDM_WIN_STAT_RESULT = 0 ∧ t.win index = winOf (fun k => (s.reg (RDM_WIN_DATA k)).toNat) ∧ (t.win index).state = 1 ∧ (t.win index).inFlight = 0 ∧ RegsOnly [RDM_WIN_CMD, RDM_WIN_STAT] { s with rdm := t.rdm } t) ∧
  (∀ (s : State) (req : Requester) (index : Fin 4096), s.RegsOk → s.Admits req RDM_WIN_CMD → s.flag RDM_WIN_STAT_BUSY = false → (s.win index).state ≠ 0 →
      NextIs (exec (.winMap req index) s) fun t => t.fld RDM_WIN_STAT_RESULT = 1 ∧ RegsOnly [RDM_WIN_CMD, RDM_WIN_STAT] s t) ∧
  (∀ (s : State) (req : Requester) (index : Fin 4096), s.RegsOk → s.Admits req RDM_WIN_CMD → s.flag RDM_WIN_STAT_BUSY = false → (s.win index).state = 0 → winFieldsOk (winOf (fun k => (s.reg (RDM_WIN_DATA k)).toNat)) = false →
      NextIs (exec (.winMap req index) s) fun t => t.fld RDM_WIN_STAT_RESULT = 2 ∧ RegsOnly [RDM_WIN_CMD, RDM_WIN_STAT] s t) ∧
  (∀ (s : State) (req : Requester) (index : Fin 4096), s.RegsOk → s.Admits req RDM_WIN_CMD → s.flag RDM_WIN_STAT_BUSY = false → (s.win index).state = 1 → (s.win index).inFlight ≠ 0 →
      NextIs (exec (.winRevoke req index) s) fun t => t.fld RDM_WIN_STAT_RESULT = 0 ∧ t.win index = { s.win index with state := 2, finished := 0, naks := 0, waiter := none } ∧ RegsOnly [RDM_WIN_CMD, RDM_WIN_STAT] { s with rdm := t.rdm } t) ∧
  (∀ (s : State) (req : Requester) (index : Fin 4096), s.RegsOk → s.Admits req RDM_WIN_CMD → s.flag RDM_WIN_STAT_BUSY = false → (s.win index).state = 1 → (s.win index).inFlight = 0 →
      NextIs (exec (.winRevoke req index) s) fun t => t.fld RDM_WIN_STAT_RESULT = 0 ∧ t.win index = {} ∧ t.cmdq = s.cmdq ∧ t.swc = s.swc) ∧
  (∀ (s : State) (req : Requester) (index : Fin 4096), s.RegsOk → s.Admits req RDM_WIN_CMD → s.flag RDM_WIN_STAT_BUSY = false → (s.win index).state ≠ 1 →
      NextIs (exec (.winRevoke req index) s) fun t => t.fld RDM_WIN_STAT_RESULT = 1 ∧ RegsOnly [RDM_WIN_CMD, RDM_WIN_STAT] s t) ∧
  (∀ (s : State) (req : Requester) (index : Fin 4096), s.RegsOk → s.Admits req RDM_WIN_CMD → s.flag RDM_WIN_STAT_BUSY = false → (s.win index).state = 1 → fieldOf (s.reg (RDM_WIN_DATA 0)) 2 2 ≠ 3 →
      NextIs (exec (.winModify req index) s) fun t => t.fld RDM_WIN_STAT_RESULT = 0 ∧ t.win index = { s.win index with policy := fieldOf (s.reg (RDM_WIN_DATA 0)) 2 2, stall := fieldOf (s.reg (RDM_WIN_DATA 0)) 7 13 } ∧ RegsOnly [RDM_WIN_CMD, RDM_WIN_STAT] { s with rdm := t.rdm } t) ∧
  (∀ (s : State) (req : Requester) (index : Fin 4096), s.RegsOk → s.Admits req RDM_WIN_CMD → s.flag RDM_WIN_STAT_BUSY = false → (s.win index).state ≠ 1 →
      NextIs (exec (.winModify req index) s) fun t => t.fld RDM_WIN_STAT_RESULT = 1 ∧ RegsOnly [RDM_WIN_CMD, RDM_WIN_STAT] s t) ∧
  (∀ (s : State) (req : Requester) (index : Fin 4096) (k : Fin 16), s.RegsOk → s.Admits req RDM_WIN_CMD → s.flag RDM_WIN_STAT_BUSY = false →
      NextIs (exec (.winRead req index) s) fun t => t.fld RDM_WIN_STAT_RESULT = 0 ∧ t.reg (RDM_WIN_DATA k) = BitVec.ofNat 32 ((s.win index).words.getD k 0) ∧ t = { s with regs := t.regs }) ∧
  (∀ (s : State) (req : Requester) (index : Fin 4096), s.Admits req RDM_WIN_CMD → s.flag RDM_WIN_STAT_BUSY = true → exec (.winMap req index) s = .next s.malformed ∧ exec (.winRevoke req index) s = .next s.malformed ∧ exec (.winModify req index) s = .next s.malformed ∧ exec (.winRead req index) s = .next s.malformed) ∧
  (∀ (s : State) (w : Fin 4096), s.powered = true → (s.win w).state = 2 → (s.win w).inFlight = 0 → (s.win w).waiter = none →
      NextIs (exec (.winFree w) s) fun t => t.win w = {} ∧ t.cmdq = s.cmdq ∧ t.rdm.qps = s.rdm.qps) ∧
  (∀ (s : State) (w : Fin 4096), (s.win w).inFlight ≠ 0 → exec (.winFree w) s = .next s) ∧
  (∀ (s : State) (handle : Nat) (c : Cmd), s.running = true → s.cmd? handle = some c → c.kind = .winRead → c.fault = true → c.dropped = false → c.state ≠ .done → (s.win c.win).policy = 0 →
      NextIs (exec (.winStallLimit handle) s) fun t => (t.win c.win).inFlight = (s.win c.win).inFlight - 1 ∧ (∀ r ∈ (t.qp c.qpn).reads, r.req ≠ some handle) ∧ t.get64 CNT_RDM_WIN_STALL_DROP = (s.get64 CNT_RDM_WIN_STALL_DROP + 1) % 2 ^ 64)

/-- With an entry at the head of an admin capsule queue that passes FUSE, CID and class, each command queues its response with the status and result of its rules: properties read and set CC, authentication is refused, features read and change what R174 names, unknown log pages and CNS values are refused, known pages come before the response, Keep Alive restarts the timer, and an Asynchronous Event Request is held, at most four. Where the spec leaves a point open the clauses hold of the model's choice (log entries 72, 76, 87, 88, 89, 93). -/
def Obligations.AdminCapsules : Prop :=
  (∀ (s : State) (queue : Fin 17408) (q : Queue) (c : Capsule) (rest : List Capsule) (x : Assoc), s.AdminHead queue q c rest 1 → s.assoc? q.assoc = some x → isFct 4 c.sqe = true → sqeOct c.sqe 44 4 = 0x14 →
      NextIs (exec (.propertyGet queue) s) fun t => Sent s t q [response q c 0 x.cc] ∧ (t.queue? queue).map Queue.inbox = some rest ∧ t.red = s.red) ∧
  (∀ (s : State) (queue : Fin 17408) (q : Queue) (c : Capsule) (rest : List Capsule), s.AdminHead queue q c rest 1 → isFct 4 c.sqe = true → sqeOct c.sqe 44 4 ∉ [0x00, 0x08, 0x14, 0x1C] →
      NextIs (exec (.propertyGet queue) s) fun t => Sent s t q [response q c 0x002 0] ∧ t.red = s.red) ∧
  (∀ (s : State) (queue : Fin 17408) (q : Queue) (c : Capsule) (rest : List Capsule) (x : Assoc), s.AdminHead queue q c rest 1 → s.assoc? q.assoc = some x → isFct 0 c.sqe = true → sqeOct c.sqe 44 4 = 0x14 →
      NextIs (exec (.propertySet queue) s) fun t => Sent s t q [response q c 0 0] ∧ (t.assoc? q.assoc).map Assoc.cc = some (sqeOct c.sqe 48 4) ∧ (t.assoc? q.assoc).map Assoc.ready = some (sqeOct c.sqe 48 4 % 2 == 1)) ∧
  (∀ (s : State) (queue : Fin 17408) (q : Queue) (c : Capsule) (rest : List Capsule), s.AdminHead queue q c rest 1 → isFct 5 c.sqe = true →
      NextIs (exec (.authenticationSend queue) s) fun t => Sent s t q [response q c 0x002 0] ∧ t.red = s.red) ∧
  (∀ (s : State) (queue : Fin 17408) (q : Queue) (c : Capsule) (rest : List Capsule), s.AdminHead queue q c rest 1 → isFct 6 c.sqe = true →
      NextIs (exec (.authenticationReceive queue) s) fun t => Sent s t q [response q c 0x002 0] ∧ t.red = s.red) ∧
  (∀ (s : State) (queue : Fin 17408) (q : Queue) (c : Capsule) (rest : List Capsule), s.AdminHead queue q c rest 1 → s.isLocalAssoc q.assoc = false → isOpc 0x02 c.sqe = true → sqeDw c.sqe 10 = 0x000300C0 → sqeDw c.sqe 11 % 2 ^ 16 = 0 → sqeDw c.sqe 12 = 0 → sqeDw c.sqe 13 = 0 → sqeOct c.sqe 39 1 = 0x40 →
      NextIs (exec (.getLogPage queue) s) fun t => Sent s t q [⟨.data (2 ^ 32 + queue.val) (sqeOct c.sqe 35 4) (sqeOct c.sqe 24 8) (s.fld CMDQ_STAT_WCE), 16⟩, response q c 0 0]) ∧
  (∀ (s : State) (queue : Fin 17408) (q : Queue) (c : Capsule) (rest : List Capsule), s.AdminHead queue q c rest 1 → isOpc 0x02 c.sqe = true → sqeDw c.sqe 10 % 256 ∉ [0x01, 0x02, 0x70, 0x0C, 0xC0, 0xC1] →
      NextIs (exec (.getLogPage queue) s) fun t => Sent s t q [response q c 0x109 0]) ∧
  (∀ (s : State) (queue : Fin 17408) (q : Queue) (c : Capsule) (rest : List Capsule), s.AdminHead queue q c rest 1 → s.isLocalAssoc q.assoc = false → isOpc 0x06 c.sqe = true → sqeDw c.sqe 10 % 256 = 2 → sqeOct c.sqe 39 1 = 0x40 → s.nsids q.assoc c.port (sqeNsid c.sqe) = [] →
      NextIs (exec (.identify queue) s) fun t => Sent s t q [⟨.data (2 ^ 32 + queue.val) (sqeOct c.sqe 35 4) (sqeOct c.sqe 24 8) 0, 4096⟩, response q c 0 0]) ∧
  (∀ (s : State) (queue : Fin 17408) (q : Queue) (c : Capsule) (rest : List Capsule), s.AdminHead queue q c rest 1 → isOpc 0x06 c.sqe = true → sqeDw c.sqe 10 % 256 = 0 → (sqeNsid c.sqe = 0 ∨ 4096 < sqeNsid c.sqe) →
      NextIs (exec (.identify queue) s) fun t => Sent s t q [response q c 0x00B 0]) ∧
  (∀ (s : State) (queue : Fin 17408) (q : Queue) (c : Capsule) (rest : List Capsule) (x : Assoc), s.AdminHead queue q c rest 2 → s.assoc? q.assoc = some x → isOpc 0x09 c.sqe = true → sqeDw c.sqe 10 % 256 = 0x0B →
      NextIs (exec (.setFeatures queue) s) fun t => Sent s t q [response q c 0 0] ∧ (t.assoc? q.assoc).map Assoc.aenCfg = some (sqeDw c.sqe 11)) ∧
  (∀ (s : State) (queue : Fin 17408) (q : Queue) (c : Capsule) (rest : List Capsule), s.AdminHead queue q c rest 2 → isOpc 0x09 c.sqe = true → sqeDw c.sqe 10 % 256 ∈ [0x01, 0x02, 0x06] →
      NextIs (exec (.setFeatures queue) s) fun t => Sent s t q [response q c 0x10E 0]) ∧
  (∀ (s : State) (queue : Fin 17408) (q : Queue) (c : Capsule) (rest : List Capsule), s.AdminHead queue q c rest 0 → isOpc 0x09 c.sqe = true → s.cmdClass q.assoc c.port < 2 →
      NextIs (exec (.setFeatures queue) s) fun t => Sent s t q [response q c 0x7C6 0] ∧ t.prot = s.prot) ∧
  (∀ (s : State) (queue : Fin 17408) (q : Queue) (c : Capsule) (rest : List Capsule), s.AdminHead queue q c rest 1 → isOpc 0x0A c.sqe = true → sqeDw c.sqe 10 % 256 = 1 →
      NextIs (exec (.getFeatures queue) s) fun t => Sent s t q [response q c 0 (s.reg CMDQ_ARB).toNat] ∧ t.red = s.red) ∧
  (∀ (s : State) (queue : Fin 17408) (q : Queue) (c : Capsule) (rest : List Capsule) (x : Assoc), s.AdminHead queue q c rest 1 → s.assoc? q.assoc = some x → isOpc 0x0A c.sqe = true → sqeDw c.sqe 10 % 256 = 0x0F →
      NextIs (exec (.getFeatures queue) s) fun t => Sent s t q [response q c 0 (x.kato * 100)]) ∧
  (∀ (s : State) (queue : Fin 17408) (q : Queue) (c : Capsule) (rest : List Capsule) (x : Assoc), s.AdminHead queue q c rest 1 → s.assoc? q.assoc = some x → isOpc 0x18 c.sqe = true →
      NextIs (exec (.keepAlive queue) s) fun t => Sent s t q [response q c 0 0] ∧ t.assoc? q.assoc = some { x with kaAt := s.clock.nowNs }) ∧
  (∀ (s : State) (queue : Fin 17408) (q : Queue) (c : Capsule) (rest : List Capsule) (x : Assoc) (h : Nat), s.AdminHead queue q c rest 1 → s.assoc? q.assoc = some x → isOpc 0x0C c.sqe = true → x.aers.length < 4 → x.events = [] → s.freeTag = some h →
      NextIs (exec (.asyncEventRequest queue) s) fun t => (t.assoc? q.assoc).map Assoc.aers = some (x.aers ++ [h]) ∧ (t.cmd? h).map Cmd.cid = some (sqeCid c.sqe) ∧ t.rdm = s.rdm ∧ t.fld CMDQ_TAGS_FREE = 65536 - t.tagsUsed) ∧
  (∀ (s : State) (queue : Fin 17408) (q : Queue) (c : Capsule) (rest : List Capsule) (x : Assoc), s.AdminHead queue q c rest 1 → s.assoc? q.assoc = some x → isOpc 0x0C c.sqe = true → 4 ≤ x.aers.length →
      NextIs (exec (.asyncEventRequest queue) s) fun t => Sent s t q [response q c 0x105 0])

/-- A Connect with QID 0 on a free association opens it, one outside R169's limits is refused and creates nothing, Disconnect of the admin queue and a keep-alive timeout close the association. An Abort that finds no target answers 1, one that finds a target before its lock grant ends it. Window Map answers the rkey and Window Revoke holds its tag until the window is FREE; ring commands attach, detach and re-initialise a ring; Commit Stage and Confirm need a steward. An unknown opcode is refused. Where the spec leaves a point open the clauses hold of the model's choice (log entries 72, 75, 76, 86, 90, 91, 92, 93, 94, 95, 99). -/
def Obligations.AssociationsWindowsRings : Prop :=
  (∀ (s : State) (qp : Fin 16384) (c : Capsule), s.RegsOk → s.inService = true → s.cmdq.connects = [(qp.val, c)] → isFct 1 c.sqe = true → (s.qp qp).assoc < 1024 → s.assoc? (s.qp qp).assoc = none → sqeOct c.sqe 42 2 = 0 → 1 ≤ sqeOct c.sqe 44 2 → sqeOct c.sqe 44 2 ≤ 31 →
      sqeOct c.sqe 46 1 / 4 % 2 = 0 → nqnNat c.data 256 ≠ discNqn →
      NextIs (exec (.connect qp) s) fun t => (t.assoc? (s.qp qp).assoc).map (fun x => (x.kato, x.port, x.disc, x.isLocal)) = some (cdiv (sqeOct c.sqe 48 4) 100, c.port, false, false) ∧
        (t.queue? (16384 + (s.qp qp).assoc)).map (fun x => (x.type, x.assoc, x.qid, x.entriesM1)) = some (0, (s.qp qp).assoc, 0, sqeOct c.sqe 44 2) ∧ t.flag (CMDQ_ASSOC_VALID (s.qp qp).assoc) = true ∧ t.cmdq.connects = []) ∧
  (∀ (s : State) (qp : Fin 16384) (c : Capsule), s.inService = true → s.cmdq.connects = [(qp.val, c)] → isFct 1 c.sqe = true → ((s.qp qp).state = 2 ∨ (s.qp qp).state = 3) → (64 < sqeOct c.sqe 42 2 ∨ sqeOct c.sqe 44 2 = 0 ∨ 1023 < sqeOct c.sqe 44 2 ∨ sqeOct c.sqe 46 1 / 4 % 2 = 1) →
      NextIs (exec (.connect qp) s) fun t => t.cmdq = { s.cmdq with connects := [] } ∧ t.qp qp = { s.qp qp with sendq := (s.qp qp).sendq ++ [⟨.cqe none (cqeWord 0 0 (sqeOct c.sqe 42 2) (sqeCid c.sqe) 0x182 false) none, 16⟩] }) ∧
  (∀ (s : State) (queue : Fin 17408) (q : Queue) (c : Capsule) (rest : List Capsule) (x : Assoc), s.AdminHead queue q c rest 1 → s.assoc? q.assoc = some x → isFct 8 c.sqe = true →
      NextIs (exec (.disconnect queue) s) fun t => t.assoc? q.assoc = none ∧ t.queue? queue = none ∧ t.fld CMDQ_STAT_ASSOC = t.cmdq.assocs.length % 2048) ∧
  (∀ (s : State) (assoc : Fin 1024) (dt : Nat) (x : Assoc), (s.pass dt).running = true → s.assoc? assoc = some x → x.kato ≠ 0 → x.kaAt + x.kato * 100000000 ≤ (s.pass dt).clock.nowNs →
      NextIs (exec (.keepAliveExpiry assoc dt) s) fun t => t.assoc? assoc = none ∧ (∀ e ∈ t.cmdq.queues, e.2.assoc ≠ assoc.val) ∧ t.get64 CNT_CMDQ_KA_EXPIRED = ((s.pass dt).get64 CNT_CMDQ_KA_EXPIRED + 1) % 2 ^ 64) ∧
  (∀ (s : State) (queue : Fin 17408) (q : Queue) (c : Capsule) (rest : List Capsule), s.AdminHead queue q c rest 1 → isOpc 0x08 c.sqe = true → (∀ e ∈ s.cmdq.queues, e.2.assoc = q.assoc → e.2.qid ≠ sqeDw c.sqe 10 % 2 ^ 16) → q.qid ≠ sqeDw c.sqe 10 % 2 ^ 16 →
      NextIs (exec (.abort queue) s) fun t => Sent s t q [response q c 0 1] ∧ t.get64 CNT_CMDQ_ABORT_MISSED = (s.get64 CNT_CMDQ_ABORT_MISSED + 1) % 2 ^ 64) ∧
  (∀ (s : State) (queue : Fin 17408) (q : Queue) (c : Capsule) (rest : List Capsule) (h : Nat) (x : Cmd) (y : Queue) (qi : Nat) (a : Assoc), s.AdminHead queue q c rest 1 → isOpc 0x08 c.sqe = true → s.assoc? q.assoc = some a → q.qid ≠ sqeDw c.sqe 10 % 2 ^ 16 →
      s.cmdq.queues.find? (fun e => e.2.assoc == q.assoc && e.2.qid == sqeDw c.sqe 10 % 2 ^ 16) = some (qi, y) → s.cmdq.cmds.find? (fun e => e.2.queue == some qi && e.2.cid == sqeDw c.sqe 10 / 2 ^ 16) = some (h, x) → (x.state = .waiting ∨ x.state = .placed) → s.queue? qi = some y → qi ≠ queue.val → y.qpn % 16384 ≠ q.qpn % 16384 →
      NextIs (exec (.abort queue) s) fun t => t.cmd? h = none ∧ Sent s t q [response q c 0 0] ∧ t.get64 CNT_CMDQ_ABORT_DONE = (s.get64 CNT_CMDQ_ABORT_DONE + 1) % 2 ^ 64) ∧
  (∀ (s : State) (queue : Fin 17408) (q : Queue) (c : Capsule) (rest : List Capsule) (data : Nat), s.AdminHead queue q c rest 2 → s.isLocalAssoc q.assoc = false → isOpc 0xC1 c.sqe = true → adminDataOk q false c.sqe = true → s.aclOk q.assoc c.port (winOf (fun k => c.data / 2 ^ (32 * k) % 2 ^ 32)).vol 2 = true →
      (s.win (sqeDw c.sqe 10 % 4096)).state = 0 → winFieldsOk (winOf (fun k => c.data / 2 ^ (32 * k) % 2 ^ 32)) = true →
      NextIs (exec (.windowMapCmd queue data) s) fun t => t.win (sqeDw c.sqe 10 % 4096) = winOf (fun k => c.data / 2 ^ (32 * k) % 2 ^ 32) ∧ Sent s t q [response q c 0 (c.data / 2 ^ 32 % 2 ^ 20 * 4096 + sqeDw c.sqe 10 % 4096)]) ∧
  (∀ (s : State) (queue : Fin 17408) (q : Queue) (c : Capsule) (rest : List Capsule), s.AdminHead queue q c rest 2 → isOpc 0xC4 c.sqe = true → (s.win (sqeDw c.sqe 10 % 4096)).state ≠ 1 →
      NextIs (exec (.windowRevokeCmd queue) s) fun t => t.rdm.wins = s.rdm.wins ∧ Sent s t q [response q c 0x7C2 0]) ∧
  (∀ (s : State) (queue : Fin 17408) (q : Queue) (c : Capsule) (rest : List Capsule) (h : Nat), s.AdminHead queue q c rest 2 → isOpc 0xC4 c.sqe = true → (s.win (sqeDw c.sqe 10 % 4096)).state = 1 → (s.win (sqeDw c.sqe 10 % 4096)).inFlight ≠ 0 → s.freeTag = some h →
      NextIs (exec (.windowRevokeCmd queue) s) fun t => t.win (sqeDw c.sqe 10 % 4096) = { s.win (sqeDw c.sqe 10 % 4096) with state := 2, finished := 0, naks := 0, waiter := some h } ∧ t.rdm.qps = s.rdm.qps ∧ (t.cmd? h).map Cmd.state = some .running) ∧
  (∀ (s : State) (queue : Fin 17408) (q : Queue) (c : Capsule) (rest : List Capsule) (data i : Nat), s.AdminHead queue q c rest 2 → s.isLocalAssoc q.assoc = false → isRingOp 0 c.sqe = true → adminDataOk q false c.sqe = true → q.qid = 0 →
      1 ≤ sqeDw c.sqe 10 % 2 ^ 16 → sqeDw c.sqe 10 % 2 ^ 16 ≤ 64 → (∀ e ∈ s.cmdq.queues, e.2.assoc = q.assoc → e.2.qid ≠ sqeDw c.sqe 10 % 2 ^ 16) → 63 ≤ c.data / 2 ^ 224 % 2 ^ 16 → c.data / 2 ^ 224 % 2 ^ 16 ≤ 1023 →
      c.data / 2 ^ 280 % 2 ^ 8 = 0 → c.data / 2 ^ 288 % 2 ^ 8 ≤ 3 → c.data % 64 = 0 → c.data / 2 ^ 64 % 64 = 0 → c.data / 2 ^ 128 % 8 = 0 →
      (s.qp (c.data / 2 ^ 256 % 2 ^ 24)).kind = 3 → (s.qp (c.data / 2 ^ 256 % 2 ^ 24)).assoc = q.assoc → ((s.qp (c.data / 2 ^ 256 % 2 ^ 24)).state = 2 ∨ (s.qp (c.data / 2 ^ 256 % 2 ^ 24)).state = 3) → (s.qp (c.data / 2 ^ 256 % 2 ^ 24)).number (c.data / 2 ^ 256 % 2 ^ 24) = c.data / 2 ^ 256 % 2 ^ 24 →
      (∀ e ∈ s.cmdq.queues, e.2.type ≠ 2) → keysRise s.cmdq.queues = true → s.freeIoq = some i → i ≠ queue.val →
      NextIs (exec (.ringAttach queue data) s) fun t => Sent s t q [response q c 0 0] ∧ t.queue? i = some { type := 2, cls := c.data / 2 ^ 288 % 2 ^ 8, assoc := q.assoc, qid := sqeDw c.sqe 10 % 2 ^ 16, entriesM1 := c.data / 2 ^ 224 % 2 ^ 16, epoch := c.data / 2 ^ 240 % 2 ^ 16, qpn := c.data / 2 ^ 256 % 2 ^ 24, vector := c.data / 2 ^ 304 % 2 ^ 16 % 2048, ien := c.data / 2 ^ 296 % 2 ^ 8 % 2 == 1, rkey := c.data / 2 ^ 192 % 2 ^ 32, sqBase := c.data % 2 ^ 64, cqBase := c.data / 2 ^ 64 % 2 ^ 64, dbAddr := c.data / 2 ^ 128 % 2 ^ 64 }) ∧
  (∀ (s : State) (queue : Fin 17408) (q : Queue) (c : Capsule) (rest : List Capsule), s.AdminHead queue q c rest 2 → isRingOp 1 c.sqe = true → (∀ e ∈ s.cmdq.queues, e.2.type < 2) →
      NextIs (exec (.ringDetach queue) s) fun t => Sent s t q [response q c 0x101 0]) ∧
  (∀ (s : State) (queue : Fin 17408) (q : Queue) (c : Capsule) (rest : List Capsule) (i : Nat) (x : Queue) (h : Nat), s.AdminHead queue q c rest 2 → isRingOp 1 c.sqe = true → s.cmdq.queues.find? (fun e => e.2.assoc == q.assoc && e.2.qid == sqeDw c.sqe 10 % 2 ^ 16 && decide (2 ≤ e.2.type)) = some (i, x) →
      s.queue? i = some x → s.ringQuiet i x = true → s.freeTag = some h → i ≠ queue.val →
      NextIs (exec (.ringDetach queue) s) fun t => t.queue? i = none ∧ (t.cmd? h).map Cmd.state = some .done ∧ t.rdm = s.rdm) ∧
  (∀ (s : State) (queue : Fin 17408) (q : Queue) (c : Capsule) (rest : List Capsule) (i : Nat) (x : Queue) (h data : Nat), s.AdminHead queue q c rest 2 → s.isLocalAssoc q.assoc = false → isRingOp 2 c.sqe = true → s.cmdq.queues.find? (fun e => e.2.assoc == q.assoc && e.2.qid == sqeDw c.sqe 10 % 2 ^ 16 && decide (2 ≤ e.2.type)) = some (i, x) →
      s.queue? i = some x → s.ringQuiet i x = true → s.freeTag = some h → i ≠ queue.val →
      NextIs (exec (.ringReepoch queue data) s) fun t => t.queue? i = some { x with epoch := c.data / 2 ^ 240 % 2 ^ 16, sqHead := 0, sqTail := 0, cqTail := 0, phase := true, stopped := false, action := none, dbDue := false } ∧ (t.cmd? h).map Cmd.state = some .done) ∧
  (∀ (s : State) (queue : Fin 17408) (q : Queue) (c : Capsule) (rest : List Capsule) (data : Nat), s.AdminHead queue q c rest 3 → isOpc 0xC9 c.sqe = true → s.stewardHost q.assoc c.port = false →
      NextIs (exec (.commitStage queue data) s) fun t => Sent s t q [response q c 0x7C6 0] ∧ t.prot = s.prot ∧ t.get64 CNT_PROT_PRIV_REFUSED = (s.get64 CNT_PROT_PRIV_REFUSED + 1) % 2 ^ 64) ∧
  (∀ (s : State) (queue : Fin 17408) (q : Queue) (c : Capsule) (rest : List Capsule) (data : Nat) (x : Assoc), s.AdminHead queue q c rest 3 → s.assoc? q.assoc = some x → x.isLocal = false → isOpc 0xC9 c.sqe = true → s.stewardHost q.assoc c.port = true → adminDataOk q false c.sqe = true →
      NextIs (exec (.commitStage queue data) s) fun t =>
        let r := ((s.setQueue queue (q.popped rest)).kaTouch q.assoc false).stage (toLe (min (sqeOct c.sqe 32 4) 8192) c.data) (portCode c.port)
        t.prot = r.1.prot ∧ Sent s t q [response q c (if r.2.1 = 0 then 0 else 0x002) (if r.2.1 = 0 then (r.1.prot.change.map Change.digest).getD 0 else r.2.1 + r.2.2 * 256)]) ∧
  (∀ (s : State) (queue : Fin 17408) (q : Queue) (c : Capsule) (rest : List Capsule), s.AdminHead queue q c rest 3 → isOpc 0xC8 c.sqe = true → s.stewardHost q.assoc c.port = true → s.prot.change = none →
      NextIs (exec (.commitConfirm queue) s) fun t => Sent s t q [response q c 0x002 2] ∧ t.prot = s.prot ∧ t.fld PROT_CMT_STAT_RESULT = 2) ∧
  (∀ (s : State) (queue : Fin 17408) (q : Queue) (c : Capsule) (rest : List Capsule), s.AdminHead queue q c rest 0 → adminKnown c.sqe = false → sqeOpc c.sqe ≠ 0xC5 → sqeOpc c.sqe ≠ 0x7F →
      NextIs (exec (.unsupportedCommand queue) s) fun t => Sent s t q [response q c 0x001 0] ∧ t.red = s.red)

/-- An I/O entry at the head of its queue leaves it for the waiting list with its kind, volume, blocks and the status of the first check of R175 that fails, 0 where none does; a CID already outstanding takes 0x003 and is counted. A due doorbell read is issued once; a returned word with a foreign EPOCH or a TAIL beyond the ring is only counted, and else its new entries are fetched. Fetched entries join the ring in order. A nudge beyond 256 sets OVF. A ring without new entries goes idle. Where the spec leaves a point open the clauses hold of the model's choice (log entries 48, 81, 86, 93, 96, 97, 98). -/
def Obligations.IoCommandsWait : Prop :=
  (∀ (s : State) (queue : Fin 17408) (q : Queue) (c : Capsule) (rest : List Capsule), s.inService = true → s.queue? queue = some q → q.isAdmin = false → q.inbox = c :: rest → sqeOpc c.sqe = 0x00 → sqeNsid c.sqe ≠ 0xFFFFFFFF → s.cmdq.cmds = [] → q.waiting = [] → s.ioCheck q c .flush [] = 0 →
      NextIs (exec (.ioFlush queue) s) fun t => (t.queue? queue).map Queue.inbox = some rest ∧ (t.queue? queue).map (fun y => y.waiting.map (fun x => (x.kind, x.cid, x.vol))) = some [(.flush, sqeCid c.sqe, sqeNsid c.sqe - 1)] ∧ (t.queue? queue).map (fun y => y.waiting.map (fun x => (x.ranges, x.status))) = some [([], 0)] ∧ t = { s with cmdq := { s.cmdq with queues := t.cmdq.queues } }) ∧
  (∀ (s : State) (queue : Fin 17408) (sgl : List (Nat × Nat)) (q : Queue) (c : Capsule) (rest : List Capsule), s.inService = true → s.queue? queue = some q → q.isAdmin = false → q.inbox = c :: rest → sqeOpc c.sqe = 0x01 → sqeNsid c.sqe ≠ 0xFFFFFFFF → s.cmdq.cmds = [] → q.waiting = [] → s.ioCheck q c .write [(sqeSlba c.sqe, sqeNlb c.sqe)] = 0x7C0 → s.keyRefusal (sqeNsid c.sqe - 1) = .noKey →
      NextIs (exec (.ioWrite queue sgl) s) fun t => (t.queue? queue).map Queue.inbox = some rest ∧ (t.queue? queue).map (fun y => y.waiting.map (fun x => (x.kind, x.cid, x.vol))) = some [(.write, sqeCid c.sqe, sqeNsid c.sqe - 1)] ∧ (t.queue? queue).map (fun y => y.waiting.map (fun x => (x.ranges, x.status))) = some [([(sqeSlba c.sqe, sqeNlb c.sqe)], 0x7C0)] ∧ t.get64 CNT_CIP_NO_KEY = (s.get64 CNT_CIP_NO_KEY + 1) % 2 ^ 64 ∧ t.red = s.red) ∧
  (∀ (s : State) (queue : Fin 17408) (sgl : List (Nat × Nat)) (q : Queue) (c : Capsule) (rest : List Capsule), s.inService = true → s.queue? queue = some q → q.isAdmin = false → q.inbox = c :: rest → sqeOpc c.sqe = 0x01 → sqeNsid c.sqe ≠ 0xFFFFFFFF → s.cmdq.cmds = [] → q.waiting = [] → s.ioCheck q c .write [(sqeSlba c.sqe, sqeNlb c.sqe)] = 0 →
      NextIs (exec (.ioWrite queue sgl) s) fun t => (t.queue? queue).map Queue.inbox = some rest ∧ (t.queue? queue).map (fun y => y.waiting.map (fun x => (x.kind, x.cid, x.vol))) = some [(.write, sqeCid c.sqe, sqeNsid c.sqe - 1)] ∧ (t.queue? queue).map (fun y => y.waiting.map (fun x => (x.ranges, x.status))) = some [([(sqeSlba c.sqe, sqeNlb c.sqe)], 0)] ∧ (t.queue? queue).map (fun y => y.waiting.map Cmd.host) = some [s.hostRanges q c.sqe (sqeNlb c.sqe * 4096) sgl] ∧ t = { s with cmdq := { s.cmdq with queues := t.cmdq.queues } }) ∧
  (∀ (s : State) (queue : Fin 17408) (sgl : List (Nat × Nat)) (q : Queue) (c : Capsule) (rest : List Capsule), s.inService = true → s.queue? queue = some q → q.isAdmin = false → q.inbox = c :: rest → sqeOpc c.sqe = 0x02 → sqeNsid c.sqe ≠ 0xFFFFFFFF → s.cmdq.cmds = [] → q.waiting = [] → s.ioCheck q c .read [(sqeSlba c.sqe, sqeNlb c.sqe)] = 0 →
      NextIs (exec (.ioRead queue sgl) s) fun t => (t.queue? queue).map Queue.inbox = some rest ∧ (t.queue? queue).map (fun y => y.waiting.map (fun x => (x.kind, x.cid, x.vol))) = some [(.read, sqeCid c.sqe, sqeNsid c.sqe - 1)] ∧ (t.queue? queue).map (fun y => y.waiting.map (fun x => (x.ranges, x.status, x.stamp))) = some [([(sqeSlba c.sqe, sqeNlb c.sqe)], 0, c.stamp)] ∧ t = { s with cmdq := { s.cmdq with queues := t.cmdq.queues } }) ∧
  (∀ (s : State) (queue : Fin 17408) (sgl : List (Nat × Nat)) (q : Queue) (c : Capsule) (rest : List Capsule) (v : Vol), s.inService = true → s.queue? queue = some q → q.isAdmin = false → q.inbox = c :: rest → sqeOpc c.sqe = 0x02 → s.cmdq.cmds = [] → q.waiting = [] →
      c.sqe / 256 % 4 = 0 → 1 ≤ s.cmdClass q.assoc c.port → 1 ≤ sqeNsid c.sqe → sqeNsid c.sqe ≤ 4096 → s.aclOk q.assoc c.port (sqeNsid c.sqe - 1) 0 = true → s.fld CMDQ_STAT_ANA = 1 → s.replyOk q c.sqe = true → s.isLocalAssoc q.assoc = false → sqeOct c.sqe 32 3 = sqeNlb c.sqe * 4096 → sqeNlb c.sqe ≤ 256 →
      tget? s.red.vols (sqeNsid c.sqe - 1) = some v → v.maxSlabs * 262144 < sqeSlba c.sqe + sqeNlb c.sqe →
      NextIs (exec (.ioRead queue sgl) s) fun t => (t.queue? queue).map (fun y => (y.inbox, y.waiting.map (fun x => x.status))) = some (rest, [0x080]) ∧ t.red = s.red) ∧
  (∀ (s : State) (queue : Fin 17408) (sgl : List (Nat × Nat)) (q : Queue) (c : Capsule) (rest : List Capsule) (w : Cmd), s.inService = true → s.queue? queue = some q → q.isAdmin = false → q.inbox = c :: rest → sqeOpc c.sqe = 0x02 → c.sqe / 256 % 4 = 0 → w ∈ q.waiting → w.cid = sqeCid c.sqe →
      NextIs (exec (.ioRead queue sgl) s) fun t => ((t.queue? queue).bind (fun y => y.waiting.getLast?)).map Cmd.status = some 0x003 ∧ t.get64 CNT_CMDQ_CID_CONFLICT = (s.get64 CNT_CMDQ_CID_CONFLICT + 1) % 2 ^ 64) ∧
  (∀ (s : State) (queue : Fin 17408) (sgl : List (Nat × Nat)) (q : Queue) (c : Capsule) (rest : List Capsule), s.inService = true → s.queue? queue = some q → q.isAdmin = false → q.inbox = c :: rest → sqeOpc c.sqe = 0x05 → sqeNsid c.sqe ≠ 0xFFFFFFFF → s.cmdq.cmds = [] → q.waiting = [] → s.ioCheck q c .compare [(sqeSlba c.sqe, sqeNlb c.sqe)] = 0 →
      NextIs (exec (.ioCompare queue sgl) s) fun t => (t.queue? queue).map Queue.inbox = some rest ∧ (t.queue? queue).map (fun y => y.waiting.map (fun x => (x.kind, x.cid, x.vol))) = some [(.compare, sqeCid c.sqe, sqeNsid c.sqe - 1)] ∧ (t.queue? queue).map (fun y => y.waiting.map (fun x => (x.ranges, x.status, x.stamp))) = some [([(sqeSlba c.sqe, sqeNlb c.sqe)], 0, c.stamp)] ∧ t = { s with cmdq := { s.cmdq with queues := t.cmdq.queues } }) ∧
  (∀ (s : State) (queue : Fin 17408) (q : Queue) (c : Capsule) (rest : List Capsule), s.inService = true → s.queue? queue = some q → q.isAdmin = false → q.inbox = c :: rest → sqeOpc c.sqe = 0x08 → sqeNsid c.sqe ≠ 0xFFFFFFFF → s.cmdq.cmds = [] → q.waiting = [] → s.ioCheck q c .zeroes [(sqeSlba c.sqe, sqeNlb c.sqe)] = 0 →
      NextIs (exec (.ioWriteZeroes queue) s) fun t => (t.queue? queue).map Queue.inbox = some rest ∧ (t.queue? queue).map (fun y => y.waiting.map (fun x => (x.kind, x.cid, x.vol))) = some [(.zeroes, sqeCid c.sqe, sqeNsid c.sqe - 1)] ∧ (t.queue? queue).map (fun y => y.waiting.map (fun x => (x.ranges, x.status, x.stamp))) = some [([(sqeSlba c.sqe, sqeNlb c.sqe)], 0, c.stamp)] ∧ t = { s with cmdq := { s.cmdq with queues := t.cmdq.queues } }) ∧
  (∀ (s : State) (queue : Fin 17408) (ranges : List (Nat × Nat)) (q : Queue) (c : Capsule) (rest : List Capsule), s.inService = true → s.queue? queue = some q → q.isAdmin = false → q.inbox = c :: rest → sqeOpc c.sqe = 0x09 → sqeNsid c.sqe ≠ 0xFFFFFFFF → s.cmdq.cmds = [] → q.waiting = [] → sqeDw c.sqe 11 / 4 % 2 = 1 → ranges.length = sqeDw c.sqe 10 % 256 + 1 → (∀ r ∈ ranges, r.2 ≠ 0) → s.ioCheck q c .dealloc ranges = 0 →
      NextIs (exec (.ioDatasetManagement queue ranges) s) fun t => (t.queue? queue).map Queue.inbox = some rest ∧ (t.queue? queue).map (fun y => y.waiting.map (fun x => (x.kind, x.cid, x.vol))) = some [(.dealloc, sqeCid c.sqe, sqeNsid c.sqe - 1)] ∧ (t.queue? queue).map (fun y => y.waiting.map (fun x => (x.ranges, x.status, x.stamp))) = some [(ranges, 0, c.stamp)] ∧ t = { s with cmdq := { s.cmdq with queues := t.cmdq.queues } }) ∧
  (∀ (s : State) (queue : Fin 17408) (q : Queue), s.inService = true → s.cmdq.nudges = [] → s.queue? queue = some q → q.type = 2 → q.stopped = false → q.dbOut = false → ((s.qp q.qpn).state = 2 ∨ (s.qp q.qpn).state = 3) →
      NextIs (exec (.doorbellReadDue queue false) s) fun t => t.queue? queue = some { q with dbOut := true } ∧ Sent s t q [⟨.read (.doorbell queue.val) q.rkey q.dbAddr, 8⟩] ∧ t.get64 CNT_CMDQ_DB_READS = (s.get64 CNT_CMDQ_DB_READS + 1) % 2 ^ 64) ∧
  (∀ (s : State) (queue : Fin 17408) (q : Queue) (w : Nat), s.inService = true → s.queue? queue = some q → q.dbWord = some w → q.stopped = false → q.dbDue = false → w / 2 ^ 16 % 2 ^ 16 ≠ q.epoch →
      NextIs (exec (.doorbellReadReturn queue) s) fun t => t.queue? queue = some { q with dbWord := none, dbOut := false, dbDue := false } ∧ t.get64 CNT_CMDQ_DB_EPOCH = (s.get64 CNT_CMDQ_DB_EPOCH + 1) % 2 ^ 64 ∧ CountsOnly [CNT_CMDQ_DB_EPOCH, CNT_CMDQ_DB_EPOCH + 4] { s with cmdq := t.cmdq } t) ∧
  (∀ (s : State) (queue : Fin 17408) (q : Queue) (w : Nat), s.inService = true → s.queue? queue = some q → q.dbWord = some w → q.stopped = false → q.dbDue = false → q.dbBad = true → w / 2 ^ 16 % 2 ^ 16 = q.epoch → q.entriesM1 < w % 2 ^ 16 →
      NextIs (exec (.doorbellReadReturn queue) s) fun t => t.queue? queue = some { q with dbWord := none, dbOut := false, dbDue := false } ∧ t.get64 CNT_CMDQ_DB_BAD = (s.get64 CNT_CMDQ_DB_BAD + 1) % 2 ^ 64) ∧
  (∀ (s : State) (queue : Fin 17408) (q : Queue) (w : Nat), s.inService = true → s.queue? queue = some q → q.type = 2 → q.dbWord = some w → q.stopped = false → q.dbDue = false → w / 2 ^ 16 % 2 ^ 16 = q.epoch → w % 2 ^ 16 ≤ q.entriesM1 → q.entriesM1 ≤ 1023 → q.sqHead ≤ q.entriesM1 → q.fetching = 0 → s.tagsUsed + 1024 ≤ 65536 →
      NextIs (exec (.doorbellReadReturn queue) s) fun t => (t.queue? queue).map (fun y => (y.fetching, y.sqHead, y.dbOut)) = some ((w % 2 ^ 16 + (q.entriesM1 + 1) - q.sqHead) % (q.entriesM1 + 1), q.sqHead, false)) ∧
  (∀ (s : State) (queue : Fin 17408) (q : Queue) (n data stamp port : Nat) (rest : List (Nat × Nat × Nat × Nat)), s.inService = true → s.queue? queue = some q → q.entryIn = (n, data, stamp, port) :: rest →
      NextIs (exec (.ringEntryReturn queue) s) fun t => (t.queue? queue).map (fun y => (y.sqHead, y.fetching)) = some ((q.sqHead + n) % (q.entriesM1 + 1), q.fetching - n) ∧ (t.queue? queue).map Queue.entryIn = some rest ∧ (t.queue? queue).map Queue.inbox = some (q.inbox ++ ringCapsules port data stamp n 0 q.lastStamp) ∧
        t.get64 CNT_CMDQ_RING_ENTRIES = (s.get64 CNT_CMDQ_RING_ENTRIES + n) % 2 ^ 64 ∧ t.rdm = s.rdm) ∧
  (∀ (s : State) (word : Word), s.powered = true → s.flag HEP_STAT_PF1_PRESENT = true → s.hep.pf1.d3hot = false → s.classOf .pf1 ≠ 0 → s.mode ≠ 7 → s.cmdq.nudges.length < 256 →
      NextIs (exec (.localNudge word true) s) fun t => t.cmdq = { s.cmdq with nudges := s.cmdq.nudges ++ [word.toNat % 2 ^ 16] } ∧ t.fld CMDQ_NUDGE_STAT_LEVEL = s.cmdq.nudges.length + 1 ∧ RegsOnly [CMDQ_NUDGE_STAT] { s with cmdq := t.cmdq } t) ∧
  (∀ (s : State) (word : Word) (held : Bool), s.powered = true → s.flag HEP_STAT_PF1_PRESENT = true → s.hep.pf1.d3hot = false → s.classOf .pf1 ≠ 0 → s.mode ≠ 7 → 256 ≤ s.cmdq.nudges.length → (∀ e ∈ s.cmdq.queues, e.2.type ≠ 3) →
      NextIs (exec (.localNudge word held) s) fun t => t.flag CMDQ_NUDGE_STAT_OVF = true ∧ t.get64 CNT_CMDQ_NUDGE_OVF = (s.get64 CNT_CMDQ_NUDGE_OVF + 1) % 2 ^ 64 ∧ t.cmdq = s.cmdq) ∧
  (∀ (s : State) (queue : Fin 17408) (q : Queue), s.inService = true → s.queue? queue = some q → 2 ≤ q.type →
      NextIs (exec (.ringIdleTimeout queue) s) fun t => t.queue? queue = some { q with active := false } ∧ t.regs = s.regs ∧ t.rdm = s.rdm)

/-- The arbiter admits the only waiting command of its cluster under the lowest free tag: a failed one is done at once, another is placed and pushed onto an engine's deque. A placed command is granted when all its entries may be; otherwise it stays. A done command posts one CQE with its status and frees its tag; one whose association is gone posts none and is counted. The last response of a window READ ends it and frees its place in flight. Where the spec leaves a point open the clauses hold of the model's choice (log entries 72, 76, 92, 99, 102, 105, 109). -/
def Obligations.AdmissionToRetirement : Prop :=
  (∀ (s : State) (cluster : Fin 16) (qi : Nat) (q : Queue) (x : Cmd), s.RegsOk → s.inService = true → s.cmdq.cmds = [] → s.cmdq.queues = [(qi, q)] → q.isAdmin = false → q.cls ≤ 3 → q.waiting = [x] → x.cluster = cluster.val → x.status ≠ 0 →
      NextIs (exec (.arbiterAdmit cluster) s) fun t => t.cmdq.cmds = [(0, { x with state := .done })] ∧ (t.queue? qi).map Queue.waiting = some [] ∧ t.fld CMDQ_TAGS_FREE = 65535 ∧ t.eng = s.eng) ∧
  (∀ (s : State) (cluster : Fin 16) (qi : Nat) (q : Queue) (x : Cmd), s.RegsOk → s.inService = true → s.cmdq.cmds = [] → s.cmdq.queues = [(qi, q)] → q.isAdmin = false → q.cls ≤ 3 → q.waiting = [x] → x.cluster = cluster.val → x.status = 0 → x.kind = .flush → x.ranges = [] → s.pushable cluster ≠ [] → s.gate cluster = .awake →
      NextIs (exec (.arbiterAdmit cluster) s) fun t => t.cmdq.cmds = [(0, { x with state := .placed })] ∧ (t.queue? qi).map Queue.waiting = some [] ∧ (∃ e ∈ s.pushable cluster, (t.engine e).deque = (s.engine e).deque ++ [0]) ∧ t.eng.locks = s.eng.locks) ∧
  (∀ (s : State) (cluster : Fin 16), s.inService = true → s.cmdq.cmds = [] → (∀ e ∈ s.cmdq.queues, e.2.waiting = []) → exec (.arbiterAdmit cluster) s = .next s) ∧
  (∀ (s : State) (handle : Nat) (c : Cmd), s.inService = true → s.cmd? handle = some c → c.state = .placed → (∀ e ∈ s.eng.locks, e.owner = handle → s.grantable e = true) →
      NextIs (exec (.lockGrant handle) s) fun t => t.cmd? handle = some { c with state := .granted } ∧ (∀ e ∈ t.eng.locks, e.owner = handle → e.granted = true) ∧ t.eng.locks.map LockEntry.owner = s.eng.locks.map LockEntry.owner ∧ t.red = s.red) ∧
  (∀ (s : State) (handle : Nat) (c : Cmd), s.inService = true → s.cmd? handle = some c → c.state = .placed → (∃ e ∈ s.eng.locks, e.owner = handle ∧ e.granted = false ∧ s.grantable e = false) →
      NextIs (exec (.lockGrant handle) s) fun t => t.cmd? handle = some c ∧ t.red = s.red) ∧
  (∀ (s : State) (handle : Nat) (c : Cmd) (qi : Nat) (q : Queue), s.inService = true → handle < 65536 → s.cmd? handle = some c → c.state = .done → c.orphan = false → c.queue = some qi → s.queue? qi = some q → q.type ≤ 1 → q.action = none → s.hep.affected = [] → ((s.qp q.qpn).state = 2 ∨ (s.qp q.qpn).state = 3) →
      NextIs (exec (.commandRetire handle) s) fun t => t.cmd? handle = none ∧ Sent s t q [⟨.cqe none (cqeWord c.result q.sqHead q.qid c.cid c.status q.phase) (invalKey c.sqe), 16⟩] ∧ (∀ e ∈ t.eng.locks, e.owner ≠ handle) ∧
        t.get64 CNT_CMDQ_CQE_POSTED = (s.get64 CNT_CMDQ_CQE_POSTED + 1) % 2 ^ 64 ∧ t.fld CMDQ_TAGS_FREE = (65536 - t.tagsUsed) % 2 ^ 17) ∧
  (∀ (s : State) (handle : Nat) (c : Cmd), s.inService = true → handle < 65536 → s.cmd? handle = some c → c.state = .done → c.orphan = true → c.queue = none →
      NextIs (exec (.commandRetire handle) s) fun t => t.cmd? handle = none ∧ t.rdm = s.rdm ∧ t.get64 CNT_CMDQ_RESET_ENDED = (s.get64 CNT_CMDQ_RESET_ENDED + 1) % 2 ^ 64) ∧
  (∀ (s : State) (handle : Nat) (c : Cmd), s.running = true → s.cmd? handle = some c → s.dataQueued handle = false → c.kind = .winRead → c.state = .done → c.sent = true → (s.win c.win).state = 1 →
      NextIs (exec (.lastFrameTransmitted handle) s) fun t => t.cmd? handle = none ∧ t.win c.win = { s.win c.win with inFlight := (s.win c.win).inFlight - 1 } ∧ t.rdm.qps = s.rdm.qps) ∧
  (∀ (s : State) (handle : Nat) (c : Cmd), s.running = true → s.cmd? handle = some c → s.dataQueued handle = false → c.kind = .read → c.state = .running → c.sent = true → c.lastSent = false → (segsOf c.ranges).length ≤ c.seg + 1 →
      exec (.lastFrameTransmitted handle) s = .next (s.setCmd handle { c with lastSent := true, state := .done }))

/-- An engine takes the head of its deque into a free context; a resumed context is no longer parked. A probe takes the tail of the next sibling's deque, or of an engine of the next running cluster, and counts the steal; an empty deque is a failed probe. Timeouts turn an idle engine to other clusters and put it to sleep; a HELP signal wakes the engines of running clusters. An engine whose memory fails retires and hands its commands to the next engine of its cluster. A command's next segment is placed under the command's own stamp and pushed. Where the spec leaves a point open the clauses hold of the model's choice (log entries 105, 106, 108, 109). -/
def Obligations.EngineWork : Prop :=
  (∀ (s : State) (engine : Fin 256) (h : Nat) (rest : List Nat) (c : Cmd), s.engineRuns engine = true → s.ctxFree engine = true → (s.engine engine).deque = h :: rest → s.cmd? h = some c →
      NextIs (exec (.engineTake engine) s) fun t => t.engine engine = { s.engine engine with deque := rest, ctxs := (s.engine engine).ctxs ++ [(h, c.waits)], remote := false, asleep := false } ∧ (∀ k : Fin 256, k ≠ engine → t.engine k = s.engine k) ∧ t.cmdq = s.cmdq ∧ t.eng.locks = s.eng.locks ∧ t.red = s.red) ∧
  (∀ (s : State) (engine : Fin 256), 17 ≤ (s.engine engine).ctxs.length → exec (.engineTake engine) s = .next s) ∧
  (∀ (s : State) (handle e : Nat) (c : Cmd), s.running = true → s.cmd? handle = some c → c.waits = false →
      NextIs (exec (.contextResume handle) s) fun t => (t.engine e).ctxs = (s.engine e).ctxs.map (fun x => if x.1 = handle then (handle, false) else x) ∧ (t.engine e).deque = (s.engine e).deque ∧ t = { s with eng := { s.eng with engines := t.eng.engines } }) ∧
  (∀ (s : State) (engine : Fin 256) (l : Nat) (pre : List Nat) (h : Nat) (c : Cmd), s.idle engine = true → (s.engine engine).remote = false → (s.engine engine).lastVictim = l → l < 16 → (l + 1) % 16 ≠ engine.val % 16 → s.retired (16 * (engine.val / 16) + (l + 1) % 16) = false →
      (s.engine (16 * (engine.val / 16) + (l + 1) % 16)).deque = pre ++ [h] → s.cmd? h = some c →
      NextIs (exec (.stealProbe engine) s) fun t => (t.engine (16 * (engine.val / 16) + (l + 1) % 16)).deque = pre ∧ t.engine engine = { s.engine engine with ctxs := (s.engine engine).ctxs ++ [(h, c.waits)], lastVictim := (l + 1) % 16, remote := false, asleep := false } ∧
        t.get64 CNT_ENG_STEAL_LOCAL = (s.get64 CNT_ENG_STEAL_LOCAL + 1) % 2 ^ 64 ∧ t.cmdq = s.cmdq ∧ t.eng.locks = s.eng.locks) ∧
  (∀ (s : State) (engine : Fin 256) (l : Nat), s.idle engine = true → (s.engine engine).remote = false → (s.engine engine).lastVictim = l → l < 16 → (l + 1) % 16 ≠ engine.val % 16 → s.retired (16 * (engine.val / 16) + (l + 1) % 16) = false → (s.engine (16 * (engine.val / 16) + (l + 1) % 16)).deque = [] →
      NextIs (exec (.stealProbe engine) s) fun t => t.engine engine = { s.engine engine with lastVictim := (l + 1) % 16 } ∧ t.get64 CNT_ENG_PROBE_FAIL = (s.get64 CNT_ENG_PROBE_FAIL + 1) % 2 ^ 64 ∧ CountsOnly [CNT_ENG_PROBE_FAIL, CNT_ENG_PROBE_FAIL + 4] { s with eng := t.eng } t) ∧
  (∀ (s : State) (engine : Fin 256), s.idle engine = true → s.flag ENG_CTL_XC_EN = true →
      NextIs (exec (.localProbeTimeout engine) s) fun t => t.engine engine = { s.engine engine with remote := true } ∧ (∀ k : Fin 256, k ≠ engine → t.engine k = s.engine k) ∧ t = { s with eng := { s.eng with engines := t.eng.engines } }) ∧
  (∀ (s : State) (engine : Fin 256), s.flag ENG_CTL_XC_EN = false → exec (.localProbeTimeout engine) s = .next s) ∧
  (∀ (s : State) (engine : Fin 256) (l i : Nat) (pre : List Nat) (h : Nat) (c : Cmd), s.idle engine = true → (s.engine engine).remote = true → s.flag ENG_CTL_XC_EN = true → (s.engine engine).lastCluster = l → l < 16 → (l + 1) % 16 ≠ engine.val / 16 → s.gate ((l + 1) % 16) = .awake →
      tget s.eng.probeIx ((l + 1) % 16) 0 = i → i < 16 → s.retired (16 * ((l + 1) % 16) + i) = false → (s.engine (16 * ((l + 1) % 16) + i)).deque = pre ++ [h] → s.cmd? h = some c →
      NextIs (exec (.remoteStealProbe engine) s) fun t => (t.engine (16 * ((l + 1) % 16) + i)).deque = pre ∧ t.engine engine = { s.engine engine with ctxs := (s.engine engine).ctxs ++ [(h, c.waits)], lastCluster := (l + 1) % 16, remote := false, asleep := false } ∧
        tget t.eng.probeIx ((l + 1) % 16) 0 = (i + 1) % 16 ∧ t.get64 CNT_ENG_STEAL_REMOTE = (s.get64 CNT_ENG_STEAL_REMOTE + 1) % 2 ^ 64 ∧ t.cmdq = s.cmdq) ∧
  (∀ (s : State) (engine : Fin 256), s.idle engine = true →
      NextIs (exec (.probeSleepTimeout engine) s) fun t => t.engine engine = { s.engine engine with asleep := true } ∧ (∀ k : Fin 256, k ≠ engine → t.engine k = s.engine k) ∧ t = { s with eng := { s.eng with engines := t.eng.engines } }) ∧
  (∀ (s : State) (cluster : Fin 16) (e : Nat), s.running = true → max 1 (s.fld ENG_CTL_HELP) < s.fld (ENG_CL_STAT_DEQ cluster) →
      NextIs (exec (.helpSignal cluster) s) fun t => (t.engine e).asleep = (if s.gate (e / 16) = .awake then false else (s.engine e).asleep) ∧ t.flag (ENG_CL_STAT_HELP cluster) = true ∧ t.eng.locks = s.eng.locks ∧ RegsOnly [ENG_CL_STAT cluster] { s with eng := t.eng } t) ∧
  (∀ (s : State) (engine : Fin 256), s.running = true → s.fld (ENG_CL_RETIRED_MASK (engine.val / 16)) = 0 →
      NextIs (exec (.engineUeRestart engine none) s) fun t => t.retired engine = true ∧ (t.engine engine).deque = [] ∧ (t.engine engine).ctxs = [] ∧
        (t.engine (16 * (engine.val / 16) + (engine.val + 1) % 16)).deque = (s.engine (16 * (engine.val / 16) + (engine.val + 1) % 16)).deque ++ (s.engine engine).deque ∧
        (t.engine (16 * (engine.val / 16) + (engine.val + 1) % 16)).ctxs = (s.engine (16 * (engine.val / 16) + (engine.val + 1) % 16)).ctxs ++ (s.engine engine).ctxs ∧ t.get64 CNT_ENG_ENG_RETIRED = (s.get64 CNT_ENG_ENG_RETIRED + 1) % 2 ^ 64 ∧ t.eng.locks = s.eng.locks) ∧
  (∀ (s : State) (handle : Nat) (c : Cmd), s.serving = true → s.cmd? handle = some c → c.state = .waiting → c.seg ≠ 0 → s.placeable handle c = true → s.pushable (c.cluster % 16) ≠ [] → s.gate (c.cluster % 16) = .awake → s.partnered = false →
      NextIs (exec (.segmentPlace handle) s) fun t => t.cmd? handle = some { c with state := .placed } ∧ t.eng.locks = s.eng.locks ++ s.entriesOf handle c ∧ (s.pushable (c.cluster % 16)).any (fun e => (t.engine e).deque == (s.engine e).deque ++ [handle]) = true ∧
        t.get64 CNT_ENG_SEGMENTS = (s.get64 CNT_ENG_SEGMENTS + 1) % 2 ^ 64)

/-- A GO while BUSY is discarded as malformed; outside its modes it is refused with RESULT 1. A barrier opens an epoch at its issue stamp and marks the tagged commands below it; it is done when none is left. A snapshot arms its maps between arrival and drain. Every engine switches its microcode bank once its old commands have drained; the last one ends the activation. Where the spec leaves a point open the clauses hold of the model's choice (log entries 100, 103, 104, 193, 195). -/
def Obligations.GlobalOperations : Prop :=
  (∀ (s : State) (req : Requester), s.Admits req ENG_GLOBAL_CMD → s.flag ENG_GLOBAL_STAT_BUSY = false → s.powered = true →
      NextIs (exec (.globalBroadcast req) s) fun t => t.out = .broadcast (s.reg ENG_GLOBAL_ARG) :: s.out ∧ t.fld ENG_GLOBAL_STAT_RESULT = 0 ∧ t.fld ENG_GLOBAL_CMD_OP = 1 ∧ RegsOnly [ENG_GLOBAL_CMD, ENG_GLOBAL_STAT] { s with out := t.out, eng := { s.eng with globalOp := 0 } } t) ∧
  (∀ (s : State) (req : Requester) (stamp : Nat), s.Admits req ENG_GLOBAL_CMD → s.flag ENG_GLOBAL_STAT_BUSY = true →
      exec (.globalBroadcast req) s = .next s.malformed ∧ exec (.globalBarrier req stamp) s = .next s.malformed ∧ exec (.globalSnapshot req stamp) s = .next s.malformed ∧ exec (.globalReset req) s = .next s.malformed) ∧
  (∀ (s : State) (req : Requester) (stamp : Nat), s.Admits req ENG_GLOBAL_CMD → s.flag ENG_GLOBAL_STAT_BUSY = false → s.serving = true →
      NextIs (exec (.globalBarrier req stamp) s) fun t => t.eng.globalOp = 2 ∧ t.flag ENG_GLOBAL_STAT_BUSY = true ∧ t.fld ENG_GLOBAL_STAT_PHASE = 1 ∧ t.fld ENG_EPOCH_EPOCH = (s.fld ENG_EPOCH_EPOCH + 1) % 2 ^ 32 ∧ t.get64 ENG_EPOCH_B = stamp % 2 ^ 64 ∧
        t.cmdq.cmds = s.cmdq.cmds.map (fun e => (e.1, { e.2 with oldEpoch := decide (e.1 < 65536 ∧ stampCount e.2.stamp < stamp) })) ∧ t.get64 CNT_ENG_BARRIERS = (s.get64 CNT_ENG_BARRIERS + 1) % 2 ^ 64) ∧
  (∀ (s : State) (req : Requester) (stamp : Nat), s.Admits req ENG_GLOBAL_CMD → s.flag ENG_GLOBAL_STAT_BUSY = false → s.serving = false →
      NextIs (exec (.globalBarrier req stamp) s) fun t => t.fld ENG_GLOBAL_STAT_RESULT = 1 ∧ t.flag ENG_GLOBAL_STAT_BUSY = false ∧ RegsOnly [ENG_GLOBAL_CMD, ENG_GLOBAL_STAT] s t) ∧
  (∀ (s : State) (req : Requester) (stamp : Nat), s.Admits req ENG_GLOBAL_CMD → s.flag ENG_GLOBAL_STAT_BUSY = false → s.serving = true → (∀ p ∈ s.snapPairs, ∀ x ∈ tget? s.red.vols p.2, x.slabs = []) → (∀ p ∈ s.snapPairs, ∀ q ∈ s.snapPairs, q.1 ≠ p.2) →
      NextIs (exec (.globalSnapshot req stamp) s) fun t => t.eng.globalOp = 3 ∧ t.eng.snap = s.snapPairs ∧ t.eng.armSent = false ∧ t.flag ENG_GLOBAL_STAT_ARMED = false ∧ t.flag ENG_GLOBAL_STAT_BUSY = true ∧ t.fld ENG_GLOBAL_STAT_PHASE = 1 ∧ t.get64 ENG_EPOCH_B = stamp % 2 ^ 64 ∧ t.red = s.red) ∧
  (∀ (s : State) (req : Requester) (stamp : Nat), s.Admits req ENG_GLOBAL_CMD → s.flag ENG_GLOBAL_STAT_BUSY = false → s.serving = true → (∃ p ∈ s.snapPairs, ∃ q ∈ s.snapPairs, q.1 = p.2) →
      NextIs (exec (.globalSnapshot req stamp) s) fun t => t.fld ENG_GLOBAL_STAT_RESULT = 2 ∧ t.flag ENG_GLOBAL_STAT_BUSY = false ∧ RegsOnly [ENG_GLOBAL_CMD, ENG_GLOBAL_STAT] s t) ∧
  (∀ (s : State) (req : Requester) (e : Nat) (k : Fin 16), s.Admits req ENG_GLOBAL_CMD → s.flag ENG_GLOBAL_STAT_BUSY = false → s.mode = 2 →
      NextIs (exec (.globalReset req) s) fun t => t.engine e = { bank := (s.engine e).bank } ∧ t.eng.locks = [] ∧ t.fld (ENG_CL_RETIRED_MASK k) = 0 ∧ t.eng.globalOp = 0 ∧ t.fld ENG_GLOBAL_STAT_RESULT = 0 ∧ (∀ x ∈ t.cmdq.cmds, x.2.oldEpoch = false)) ∧
  (∀ (s : State), s.powered = true → s.fld ENG_GLOBAL_STAT_PHASE = 1 → (s.eng.globalOp = 2 ∨ s.eng.globalOp = 3) →
      NextIs (exec .barrierArrived s) fun t => t.fld ENG_GLOBAL_STAT_PHASE = (if s.eng.globalOp = 3 then 2 else 3) ∧ RegsOnly [ENG_GLOBAL_STAT] s t) ∧
  (∀ (s : State) (e : Fin 256), s.powered = true → s.fld ENG_GLOBAL_STAT_PHASE = 1 → s.eng.globalOp = 5 →
      NextIs (exec .barrierArrived s) fun t => t.engine e = { s.engine e with switching := true } ∧ t.fld ENG_GLOBAL_STAT_PHASE = 3 ∧ RegsOnly [ENG_GLOBAL_STAT] { s with eng := { s.eng with engines := t.eng.engines } } t) ∧
  (∀ (s : State) (a b : Nat) (x : Vol), s.powered = true → s.fld ENG_GLOBAL_STAT_PHASE = 2 → s.eng.globalOp = 3 → s.eng.armSent = false → s.partnered = false → s.eng.snap = [(a, b)] → a ≠ b → tget? s.red.vols a = some x →
      NextIs (exec .snapshotLocalArm s) fun t => t.flag ENG_GLOBAL_STAT_ARMED = true ∧ t.fld ENG_GLOBAL_STAT_PHASE = 3 ∧ t.eng.armSent = true ∧ tget? t.red.vols b = some { x with imageOf := some a, imageB := s.get64 ENG_EPOCH_B, imageWait := true } ∧ t.cmdq = s.cmdq) ∧
  (∀ (s : State), s.powered = true → s.fld ENG_GLOBAL_STAT_PHASE = 3 → (∀ e ∈ s.cmdq.cmds, e.2.oldEpoch = false) → s.eng.globalOp = 2 → s.eng.ucWait = none →
      NextIs (exec .barrierDrainDone s) fun t => t.flag ENG_GLOBAL_STAT_BUSY = false ∧ t.fld ENG_GLOBAL_STAT_PHASE = 0 ∧ t.fld ENG_GLOBAL_STAT_RESULT = 0 ∧ RegsOnly [ENG_GLOBAL_STAT] { s with eng := { s.eng with globalOp := 0 } } t) ∧
  (∀ (s : State) (b : Nat), s.powered = true → s.fld ENG_GLOBAL_STAT_PHASE = 3 → (∀ e ∈ s.cmdq.cmds, e.2.oldEpoch = false) → s.eng.globalOp = 2 → s.eng.ucWait = some b → s.flag ENG_UC_STAT_INACT_VALID = true →
      NextIs (exec .barrierDrainDone s) fun t => t.eng.globalOp = 5 ∧ t.eng.ucWait = none ∧ t.get64 ENG_EPOCH_B = b % 2 ^ 64 ∧ t.fld SYS_UCODE_STATUS = 1 ∧ t.flag ENG_GLOBAL_STAT_BUSY = true ∧ t.fld ENG_GLOBAL_STAT_PHASE = 1) ∧
  (∀ (s : State), (∃ e ∈ s.cmdq.cmds, e.2.oldEpoch = true) → exec .barrierDrainDone s = .next s) ∧
  (∀ (s : State) (req : Requester) (stamp : Nat), s.Admits req SYS_UCODE → s.eng.ucWait = none → s.eng.globalOp ≠ 5 → s.flag ENG_GLOBAL_STAT_BUSY = false → s.flag ENG_UC_STAT_INACT_VALID = false →
      NextIs (exec (.ucodeActivate req stamp) s) fun t => t.fld SYS_UCODE_STATUS = 3 ∧ RegsOnly [SYS_UCODE] s t) ∧
  (∀ (s : State) (req : Requester) (stamp : Nat), s.Admits req SYS_UCODE → s.eng.ucWait = none → s.eng.globalOp ≠ 5 → s.flag ENG_GLOBAL_STAT_BUSY = false → s.flag ENG_UC_STAT_INACT_VALID = true →
      NextIs (exec (.ucodeActivate req stamp) s) fun t => t.fld SYS_UCODE_STATUS = 1 ∧ t.eng.globalOp = 5 ∧ t.fld SYS_UCODE_EPOCH = (s.fld ENG_EPOCH_EPOCH + 1) % 2 ^ 16 ∧ t.flag ENG_GLOBAL_STAT_BUSY = true ∧ t.flag SYS_UCODE_BANK = s.flag SYS_UCODE_BANK) ∧
  (∀ (s : State) (req : Requester) (stamp : Nat), s.Admits req SYS_UCODE → s.eng.ucWait = none → s.eng.globalOp ≠ 5 → s.flag ENG_GLOBAL_STAT_BUSY = true →
      NextIs (exec (.ucodeActivate req stamp) s) fun t => t.eng.ucWait = some stamp ∧ t.fld SYS_UCODE_STATUS = 1 ∧ RegsOnly [SYS_UCODE] { s with eng := { s.eng with ucWait := some stamp } } t) ∧
  (∀ (s : State) (engine k : Fin 256), s.powered = true → s.eng.globalOp = 5 → (s.engine engine).switching = true → s.holdsOld engine = false → k ≠ engine → (s.engine k).switching = true →
      NextIs (exec (.engineBankSwitch engine) s) fun t => t.engine engine = { s.engine engine with switching := false, bank := 1 - (s.engine engine).bank } ∧ t = { s with eng := { s.eng with engines := t.eng.engines } }) ∧
  (∀ (s : State) (engine : Fin 256), s.powered = true → s.eng.globalOp = 5 → (s.engine engine).switching = true → s.holdsOld engine = false → keysRise s.eng.engines = true → (∀ e ∈ s.eng.engines, e.2.switching = true → e.1 = engine.val) → s.eng.ucWait = none →
      NextIs (exec (.engineBankSwitch engine) s) fun t => (t.engine engine).bank = 1 - (s.engine engine).bank ∧ t.fld SYS_UCODE_STATUS = 2 ∧ t.flag SYS_UCODE_BANK = (!s.flag SYS_UCODE_BANK) ∧ t.fld ENG_UC_STAT_ACT_VER = s.eng.inactVer % 2 ^ 16 ∧ t.flag ENG_UC_STAT_INACT_VALID = false ∧
        t.eng.globalOp = 0 ∧ t.flag ENG_GLOBAL_STAT_BUSY = false) ∧
  (∀ (s : State) (i : Fin 4) (version : Fin 65536) (valid : Bool), s.mode ≠ 1 → s.mode ≠ 2 → s.powered = true → s.eng.globalOp ≠ 5 →
      NextIs (exec (.ucodeBankLoad (.mc i) version valid) s) fun t => t.eng.inactVer = version.val ∧ t.flag ENG_UC_STAT_INACT_VALID = valid ∧ t.fld ENG_UC_STAT_ACT_VER = s.fld ENG_UC_STAT_ACT_VER ∧ RegsOnly [ENG_UC_STAT] { s with eng := t.eng } t) ∧
  (∀ (s : State) (i : Fin 4) (version : Fin 65536), s.mode = 2 → s.powered = true → s.fld ENG_UC_STAT_ACT_VER = 0 →
      NextIs (exec (.ucodeBankLoad (.mc i) version true) s) fun t => t.fld ENG_UC_STAT_ACT_VER = version.val ∧ t.flag ENG_UC_STAT_INACT_VALID = s.flag ENG_UC_STAT_INACT_VALID ∧ RegsOnly [ENG_UC_STAT] s t)

/-- Levels are in 1/2048 µJ (a log entry says why). A granted write whose class passes its test is admitted and charged under entry 2; behind a waiting item it is deferred and counted. A slow tick credits the chip bucket up to its cap. An interval end computes TMAX, LIMIT and EMERG, counts, and judges the clamp: nine clamped intervals in a row set it. A host command deferred beyond MAX intervals ends with 0xC4. An idle member with a LOW_PS is sent Set Features. Where the spec leaves a point open the clauses hold of the model's choice (log entries 142, 143, 144, 145, 146, 147, 148, 150, 194). -/
def Obligations.Governor : Prop :=
  (∀ (s : State) (handle : Nat) (c : Cmd), s.serving = true → s.canAct handle = true → s.cmd? handle = some c → c.kind = .write → c.state = .granted → c.deferred = none → c.queue = none → c.blocks.any (fun b => s.lostBlock c.vol b) = false → s.gov.shared = [] → s.sharedOk = true → c.credit = 0 → c.mirror = none → c.cipher = false →
      NextIs (exec (.govAdmit handle) s) fun t => t.cmd? handle = some { c with pieces := [], state := .admitted } ∧ t.gov.chip = s.gov.chip - ((32 * c.blocks.length * s.fld (GOV_COST_CHIP 2) : Nat) : Int) ∧ t.eng = s.eng ∧ t.red = s.red ∧ RegsOnly [GOV_CHIP_LVL, GOV_DRV_LVL, GOV_STAT] { s with cmdq := t.cmdq, gov := t.gov } t) ∧
  (∀ (s : State) (handle : Nat) (c : Cmd), s.serving = true → s.canAct handle = true → s.cmd? handle = some c → c.kind = .write → c.state = .granted → c.deferred = none → c.queue = none → c.blocks.any (fun b => s.lostBlock c.vol b) = false → (s.gov.shared ≠ [] ∨ s.sharedOk = false) →
      NextIs (exec (.govAdmit handle) s) fun t => t.cmd? handle = some { c with pieces := [], deferred := some 0 } ∧ t.gov = { s.gov with shared := s.gov.shared ++ [handle], deferredNow := true } ∧ t.get64 CNT_GOV_DEFER_HOST = (s.get64 CNT_GOV_DEFER_HOST + 1) % 2 ^ 64 ∧ t.eng.locks = s.eng.locks) ∧
  (∀ (s : State) (n dt : Nat) (ts : List Int) (feed : Option Nat), s.mode = 0 → s.gov.alarm = some (n + 1) → exec (.govSlowTick dt ts feed) s = .next { s with gov := { s.gov with alarm := some n } }) ∧
  (∀ (s : State) (dt : Nat) (x : Int) (feed : Option Nat), (s.pass dt).running = true → (s.pass dt).serving = false → tget? s.gov.last 0 = none → -200 ≤ x → x ≤ 600 →
      NextIs (exec (.govSlowTick dt [x] feed) s) fun t =>
        t.gov.chip = min (((s.pass dt).burstIntervals * (s.pass dt).fld GOV_LIMIT_LIMIT * 500000 : Nat) : Int) (s.gov.chip + (((s.pass dt).fld GOV_LIMIT_LIMIT * 15625 : Nat) : Int) - (((s.pass dt).fld GOV_PMAX_BASE * 62500 + (s.pass dt).fld GOV_CTL_CL_IDLE * (s.pass dt).awake * 625 : Nat) : Int)) ∧
        t.reg GOV_CHIP_LVL = BitVec.ofInt 32 (t.gov.chip / 2048) ∧ t.gov.feedSum = s.gov.feedSum + feed.getD s.gov.feedLast ∧ t.gov.ticks = s.gov.ticks + 1 ∧ t.fld (GOV_TS_TEMP 0) = (x % 2048).toNat ∧ tget? t.gov.last 0 = some x ∧ t.cmdq = s.cmdq) ∧
  (∀ (s : State) (x : Int), s.running = true → 20 ≤ s.gov.valid.length → s.gov.tmax = some x → x ≤ s.tjTarget → x < s.emergTemp - ((4 * s.fld GOV_THERM_HYST : Nat) : Int) → s.gov.deferredNow = false → s.gov.urgent = [] → s.gov.shared = [] →
      NextIs (exec .govIntervalEnd s) fun t => t.fld GOV_LIMIT_TMAX = (x % 2048).toNat ∧ t.fld GOV_LIMIT_LIMIT = 4 * s.pmax ∧ t.flag GOV_STAT_EMERG = false ∧ t.flag GOV_STAT_THERM_LIMIT = false ∧ t.flag GOV_STAT_SENSOR_FAULT = false ∧ t.fld GOV_STAT_RUN = 0 ∧ t.gov.tmax = none ∧ t.gov.valid = [] ∧
        t.get64 CNT_GOV_INTERVALS = (s.get64 CNT_GOV_INTERVALS + 1) % 2 ^ 64 ∧ t.get64 CNT_GOV_CLAMPED = s.get64 CNT_GOV_CLAMPED) ∧
  (∀ (s : State), s.running = true → s.gov.valid.length < 20 →
      NextIs (exec .govIntervalEnd s) fun t => t.fld GOV_LIMIT_TMAX = (s.emergTemp % 2048).toNat ∧ t.flag GOV_STAT_EMERG = true ∧ t.flag GOV_STAT_SENSOR_FAULT = true ∧ t.fld GOV_STAT_RUN = min 15 (s.fld GOV_STAT_RUN + 1) ∧ t.fld GOV_FAN_DUTY = 100 ∧ (8 ≤ s.fld GOV_STAT_RUN → t.flag GOV_STAT_CLAMP = true ∧ t.flag SYS_MODE_CLAMP = true) ∧
        t.get64 CNT_GOV_CLAMPED = (s.get64 CNT_GOV_CLAMPED + 1) % 2 ^ 64 ∧ t.get64 CNT_GOV_EMERG_INTERVALS = (s.get64 CNT_GOV_EMERG_INTERVALS + 1) % 2 ^ 64 ∧ t.gov.resChip = 0 ∧ t.gov.resDrv = 0) ∧
  (∀ (s : State) (handle : Nat) (c : Cmd) (k : Nat), s.running = true → handle < 65536 → s.cmd? handle = some c → c.kind = .write → c.status = 0 → c.cipher = false → c.deferred = some k → max 1 (s.fld GOV_DEFER_MAX_MAX) < k →
      NextIs (exec (.deferExpiry handle) s) fun t => (t.cmd? handle).map (fun x => (x.state, x.status, x.deferred)) = some (.done, 0x7C4, none) ∧ handle ∉ t.gov.urgent ++ t.gov.shared ∧ (∀ e ∈ t.eng.locks, e.owner ≠ handle) ∧ t.get64 CNT_GOV_DEFER_EXPIRED = (s.get64 CNT_GOV_DEFER_EXPIRED + 1) % 2 ^ 64 ∧ t.red = s.red) ∧
  (∀ (s : State) (handle : Nat) (c : Cmd) (k : Nat), s.cmd? handle = some c → c.deferred = some k → k ≤ s.fld GOV_DEFER_MAX_MAX → exec (.deferExpiry handle) s = .next s) ∧
  (∀ (s : State) (member : Member), s.running = true → s.isMember member = true → s.dpt.cmds = [] → s.dpt.todo = [] → s.fld (GOV_DRV_LOW_PS member) ≠ 0 → s.fld GOV_CTL_DRV_IDLE ≠ 0 → s.flag (GOV_DRV_IN_LOW member) = false →
      NextIs (exec (.driveIdleLow member) s) fun t => (tget? t.dpt.cmds 0).map (fun x => (x.req.member, x.req.block, x.req.use)) = some (member.val, s.fld (GOV_DRV_LOW_PS member), .admin 1) ∧ t.get64 CNT_GOV_DRV_LOW = (s.get64 CNT_GOV_DRV_LOW + 1) % 2 ^ 64 ∧ t.cmdq = s.cmdq)

/-- A waiting command is posted under the lowest free pool entry in its cluster's queue; a member in low power is ordered to PS0 first. A drive reads a posted entry or zeros, and may touch only the buffers of its own commands. A completion with the right phase and CID ends its command; others are counted late. A timeout makes the member SUSPECT and sends an Abort; then a controller reset holds and reissues its commands; a second timeout or a lost controller fails the member. Where the spec leaves a point open the clauses hold of the model's choice (log entries 117, 118, 119, 120, 122, 126, 131, 196). -/
def Obligations.DriveCommands : Prop :=
  (∀ (s : State) (index : Nat) (r : DrvReq) (cid d : Nat), s.dpt.todo[index]? = some r → s.memIo r.member = true → s.fld (DPT_MEM_STAT_IOQ r.member) ≠ 0 → (s.mem r.member).lowPower = false → s.adminOut r.member (.admin 1) = false → r.write = true → r.use = .destage d → s.freeCid = some cid →
      s.onQueue r.member (s.queueFor r.member r.cluster) + 1 < (s.drvQueue r.member (s.queueFor r.member r.cluster)).depth →
      NextIs (exec (.driveCommandIssue index) s) fun t => t.dpt.todo = s.dpt.todo.eraseIdx index ∧
        tget? t.dpt.cmds cid = some { req := r, queue := s.queueFor r.member r.cluster, slot := (s.drvQueue r.member (s.queueFor r.member r.cluster)).tail, born := s.clock.nowNs, nth := s.dpt.next } ∧
        (.drvTail r.member (s.queueFor r.member r.cluster) (t.drvQueue r.member (s.queueFor r.member r.cluster)).tail :: s.out) <:+ t.out ∧
        (t.drvQueue r.member (s.queueFor r.member r.cluster)).tail = ((s.drvQueue r.member (s.queueFor r.member r.cluster)).tail + 1) % (s.drvQueue r.member (s.queueFor r.member r.cluster)).depth ∧ t.red = s.red) ∧
  (∀ (s : State) (index : Nat) (r : DrvReq) (cid : Nat), s.dpt.todo[index]? = some r → s.memIo r.member = true → s.fld (DPT_MEM_STAT_IOQ r.member) ≠ 0 → (s.mem r.member).lowPower = true → s.adminOut r.member (.admin 1) = false → s.freeCid = some cid →
      NextIs (exec (.driveCommandIssue index) s) fun t => t.dpt.todo = s.dpt.todo ∧ (tget? t.dpt.cmds cid).map (fun x => (x.req.member, x.req.use, x.req.block, x.queue)) = some (r.member, .admin 1, 0, 0)) ∧
  (∀ (s : State) (member : Member) (queue : Fin 17) (slot cid : Nat) (c : DrvCmd), s.powered = true → s.dpt.cmds = [(cid, c)] → c.req.member = member.val → c.held = false → c.waiting = false →
      exec (.driveSqRead member queue slot) s = .next (s.emit (.drvEntry member queue slot (if c.queue = queue.val ∧ c.slot = slot then some c.req else none)))) ∧
  (∀ (s : State) (member : Member) (cid i data : Nat) (c : DrvCmd), s.powered = true → s.memState member = 1 → tget? s.dpt.cmds cid = some c → c.req.member = member.val → c.req.write = false → i < c.req.count →
      NextIs (exec (.driveDmaAccess member (.writeBuf cid i data)) s) fun t => tget? t.dpt.cmds cid = some { c with got := tput c.got i (data % 2 ^ 33280) } ∧ t = { s with dpt := { s.dpt with cmds := t.dpt.cmds } }) ∧
  (∀ (s : State) (member : Member), s.powered = true → s.memState member = 1 →
      NextIs (exec (.driveDmaAccess member .outside) s) fun t => t.memState member = 2 ∧ t.fld (DPT_MEM_STAT_LADDER member) = 2 ∧ (∀ e ∈ t.dpt.cmds, e.2.req.member = member.val → e.2.held = true) ∧ t.get64 CNT_DPT_DMA_FAULT = (s.get64 CNT_DPT_DMA_FAULT + 1) % 2 ^ 64 ∧
        t.get64 CNT_DPT_CTRL_RESETS = (s.get64 CNT_DPT_CTRL_RESETS + 1) % 2 ^ 64) ∧
  (∀ (s : State) (member : Member) (queue : Fin 17) (slot cid : Nat) (c : DrvCmd) (d : Nat), s.powered = true → s.memState member = 1 → slot = (s.drvQueue member queue).head → tget? s.dpt.cmds cid = some c → c.req.member = member.val → c.queue = queue.val → queue.val ≠ 0 → c.held = false → c.waiting = false → c.req.use = .destage d → c.req.write = true →
      NextIs (exec (.driveCqeWrite member queue slot (s.drvQueue member queue).phase cid 0) s) fun t => tget? t.dpt.cmds cid = none ∧ (t.drvQueue member queue).head = (if (s.drvQueue member queue).depth ≤ slot + 1 then 0 else slot + 1) ∧ (t.drvQueue member queue).taken = (s.drvQueue member queue).taken + 1 ∧
        t.red.destages = s.red.destages.map (fun e => if e.1 = d then (e.1, { e.2 with left := e.2.left - 1 }) else e) ∧ t.memState member = 1) ∧
  (∀ (s : State) (member : Member) (queue : Fin 17) (slot cid status : Nat), s.powered = true → s.memState member = 1 → slot = (s.drvQueue member queue).head →
      NextIs (exec (.driveCqeWrite member queue slot (!(s.drvQueue member queue).phase) cid status) s) fun t => t.get64 CNT_DPT_LATE_CQE = (s.get64 CNT_DPT_LATE_CQE + 1) % 2 ^ 64 ∧ CountsOnly [CNT_DPT_LATE_CQE, CNT_DPT_LATE_CQE + 4] s t) ∧
  (∀ (s : State) (member : Member) (queue : Fin 17), s.powered = true → (s.drvQueue member queue).taken ≠ 0 →
      NextIs (exec (.cqHeadDoorbell member queue) s) fun t => t.out = .drvHead member queue (s.drvQueue member queue).head :: s.out ∧ t.drvQueue member queue = { s.drvQueue member queue with taken := 0 } ∧ t.dpt.cmds = s.dpt.cmds ∧ t.regs = s.regs) ∧
  (∀ (s : State) (cid : Nat) (c : DrvCmd), tget? s.dpt.cmds cid = some c → c.waiting = true → s.memIo c.req.member = true →
      NextIs (exec (.driveReissueTimer cid) s) fun t => tget? t.dpt.cmds cid = some { c with slot := (s.drvQueue c.req.member c.queue).tail, born := s.clock.nowNs, held := false, waiting := false, got := [] } ∧ t.red = s.red) ∧
  (∀ (s : State) (cid : Nat) (c : DrvCmd) (k : Nat), s.powered = true → tget? s.dpt.cmds cid = some c → c.held = false → c.waiting = false → c.reissue = false → c.req.member < 128 → s.memState c.req.member = 1 → s.freeCid = some k →
      NextIs (exec (.driveCmdTimeout cid) s) fun t => t.memState c.req.member = 2 ∧ t.fld (DPT_MEM_STAT_LADDER c.req.member) = 1 ∧ (tget? t.dpt.cmds k).map (fun x => x.req.use) = some (.abort cid) ∧ tget? t.dpt.cmds cid = some c ∧ (t.mem c.req.member).prev = 1 ∧
        t.get64 CNT_DPT_TIMEOUTS = (s.get64 CNT_DPT_TIMEOUTS + 1) % 2 ^ 64 ∧ t.get64 CNT_DPT_ABORTS_SENT = (s.get64 CNT_DPT_ABORTS_SENT + 1) % 2 ^ 64) ∧
  (∀ (s : State) (cid : Nat) (c : DrvCmd), s.powered = true → tget? s.dpt.cmds cid = some c → c.held = false → c.waiting = false → c.reissue = true → c.req.member < 128 → s.isMember c.req.member = true →
      NextIs (exec (.driveCmdTimeout cid) s) fun t => t.memState c.req.member = 3 ∧ t.fld (DPT_MEM_STAT_LADDER c.req.member) = 0 ∧ (∀ e ∈ t.dpt.cmds, e.2.req.member ≠ c.req.member) ∧ t.get64 CNT_DPT_MEMBERS_FAILED = (s.get64 CNT_DPT_MEMBERS_FAILED + 1) % 2 ^ 64) ∧
  (∀ (s : State) (member : Member), s.powered = true → s.memState member = 2 → s.fld (DPT_MEM_STAT_LADDER member) = 1 → (s.mem member).abortDone = false →
      NextIs (exec (.abortWaitExpiry member) s) fun t => t.memState member = 2 ∧ t.fld (DPT_MEM_STAT_LADDER member) = 2 ∧ t.out.head? = some (.drvEnable member false) ∧ s.out <:+ t.out ∧ (∀ e ∈ t.dpt.cmds, e.2.req.member = member.val → e.2.held = true ∧ e.2.queue ≠ 0) ∧ t.get64 CNT_DPT_CTRL_RESETS = (s.get64 CNT_DPT_CTRL_RESETS + 1) % 2 ^ 64) ∧
  (∀ (s : State) (member : Member) (q : Nat), s.powered = true → s.fld (DPT_MEM_STAT_LADDER member) = 2 → (s.mem member).disabled = false →
      NextIs (exec (.ctrlDisabled member) s) fun t => (t.mem member).disabled = true ∧ t.out = .drvEnable member true :: s.out ∧ t.drvQueue member q = { depth := (s.drvQueue member q).depth } ∧ t.dpt.cmds = s.dpt.cmds ∧ t.regs = s.regs) ∧
  (∀ (s : State) (member : Member), s.powered = true → s.fld (DPT_MEM_STAT_LADDER member) = 2 → (s.mem member).disabled = true → keysRise s.dpt.cmds = true →
      NextIs (exec (.ctrlReady member) s) fun t => (t.mem member).disabled = false ∧ (∀ e ∈ t.dpt.cmds, e.2.req.member = member.val → e.2.held = false) ∧ t.dpt.cmds.map (fun e => (e.1, e.2.req)) = s.dpt.cmds.map (fun e => (e.1, e.2.req)) ∧
        t.dpt.cmds.map (fun e => e.2.reissue) = s.dpt.cmds.map (fun e => e.2.reissue || (e.2.req.member == member.val && e.2.held)) ∧ t.red = s.red) ∧
  (∀ (s : State) (member : Member), s.powered = true → s.memState member = 2 → s.fld (DPT_MEM_STAT_LADDER member) = 2 →
      NextIs (exec (.ctrlReadyTimeout member) s) fun t => t.memState member = 3 ∧ t.fld (DPT_MEM_STAT_LADDER member) = 0 ∧ (∀ e ∈ t.dpt.cmds, e.2.req.member ≠ member.val) ∧ t.get64 CNT_DPT_MEMBERS_FAILED = (s.get64 CNT_DPT_MEMBERS_FAILED + 1) % 2 ^ 64) ∧
  (∀ (s : State) (member : Member), s.powered = true → s.memState member = 2 → s.fld (DPT_MEM_STAT_LADDER member) = 2 → (s.mem member).disabled = false → (∀ e ∈ s.dpt.cmds, e.2.req.member = member.val → e.2.held = false ∧ e.2.reissue = false) → (s.mem member).prev < 8 →
      NextIs (exec (.ctrlResetComplete member) s) fun t => t.memState member = (s.mem member).prev ∧ t.fld (DPT_MEM_STAT_LADDER member) = 0 ∧ t.dpt.cmds = s.dpt.cmds) ∧
  (∀ (s : State) (member : Member), s.powered = true → (s.memState member = 1 ∨ s.memState member = 4 ∨ s.memState member = 5) →
      NextIs (exec (.controllerFatalStatus member) s) fun t => t.memState member = 2 ∧ t.fld (DPT_MEM_STAT_LADDER member) = 2 ∧ (t.mem member).prev = s.memState member ∧ (∀ e ∈ t.dpt.cmds, e.2.req.member = member.val → e.2.held = true ∧ e.2.queue ≠ 0))

/-- A qualified drive without a label becomes SPARE_SPACE under the lowest free number; a failed check holds it out as UNQUALIFIED with its code. A removal under DPC contains the port and makes the member MISSING; so does an expansion link down, for every member behind it. A completed acquire gives the reservation; one that is late puts the member in SUSPECT. FAIL, RELEASE and REQUALIFY act in their states and else end with RESULT 1. Where the spec leaves a point open the clauses hold of the model's choice (log entries 121, 123, 175, 197). -/
def Obligations.DriveArrivalAndLoss : Prop :=
  (∀ (s : State) (half : Fin 64), s.powered = true → s.halfOk half = true → s.flag DPT_CTL_HP_EN = true → s.fld (SLP_CH_STAT_STATE (half.val / 2)) = 2 → s.flag (SLP_CH_STAT_PG (half.val / 2)) = true → tget? s.dpt.contained half.val = none → s.dpt.contained = [] → half.val ∉ s.dpt.released →
      exec (.slotResetRelease half) s = .next { s with dpt := { s.dpt with released := s.dpt.released ++ [half.val] } }) ∧
  (∀ (s : State) (h : Fin 64) (width : Fin 5) (rate : Fin 4), s.powered = true → s.halfOk h = true → h.val ∈ s.dpt.released → s.flag (DPT_PORT_STAT_UP (h.val / 2) (h.val % 2)) = false → width.val ≠ 0 →
      NextIs (exec (.driveLinkUp (.half h) width rate) s) fun t => t.flag (DPT_PORT_STAT_UP (h.val / 2) (h.val % 2)) = true ∧ t.fld (DPT_PORT_STAT_WIDTH (h.val / 2) (h.val % 2)) = min 3 width.val ∧ t.fld (DPT_PORT_STAT_RATE (h.val / 2) (h.val % 2)) = rate.val ∧ t.dpt.linked = s.dpt.linked ++ [h.val] ∧
        RegsOnly [DPT_PORT_STAT (h.val / 2)] { s with dpt := t.dpt } t) ∧
  (∀ (s : State) (h : Fin 64) (rate : Fin 4) (m : Nat), s.powered = true → s.halfOk h = true → h.val ∈ s.dpt.released → s.flag (DPT_PORT_STAT_UP (h.val / 2) (h.val % 2)) = false → s.freeNumber = some m →
      NextIs (exec (.driveLinkUp (.half h) 0 rate) s) fun t => t.memState m = 7 ∧ t.fld (DPT_MEM_STAT_QUAL_ERR m) = 1 ∧ t.fld (DPT_MEM_LOC_PORT m) = h.val / 2 ∧ t.get64 CNT_DPT_QUAL_FAIL = (s.get64 CNT_DPT_QUAL_FAIL + 1) % 2 ^ 64) ∧
  (∀ (s : State) (x : Fin 4) (slot : Fin 32) (width : Fin 5) (rate : Fin 4), s.powered = true → s.flag (DPT_XP_CFG_EN x) = true → width.val ≠ 0 →
      NextIs (exec (.driveLinkUp (.xp x slot) width rate) s) fun t => t.flag (DPT_XP_STAT_UP x) = true ∧ t.fld (DPT_XP_STAT_WIDTH x) = width.val ∧ t.fld (DPT_XP_STAT_RATE x) = rate.val ∧ t.flag (DPT_XP_STAT_SWITCH x) = true ∧ RegsOnly [DPT_XP_STAT x] s t) ∧
  (∀ (s : State) (place : DrvPlace), s.powered = true → place.key ∈ s.dpt.linked →
      NextIs (exec (.driveReady place) s) fun t => place.key ∉ t.dpt.linked ∧ t.dpt.ready = s.dpt.ready ++ [place.key] ∧ t.regs = s.regs ∧ t.dpt.cmds = s.dpt.cmds) ∧
  (∀ (s : State) (place : DrvPlace) (facts : DrvFacts) (fmt : Bool) (m : Nat), s.powered = true → place.key ∈ s.dpt.ready → s.memAt place = none → s.qualCode true facts = (0, fmt) → facts.label = none → s.freeNumber = some m →
      NextIs (exec (.driveQualify place facts) s) fun t => t.memState m = 5 ∧ t.flag (DPT_MEM_STAT_FMT m) = fmt ∧ t.fld (DPT_MEM_STAT_IOQ m) = min 16 facts.ioq ∧ t.fld (DPT_MEM_STAT_QUAL_ERR m) = 0 ∧ t.flag (DPT_MEM_LOC_DUAL m) = facts.dual ∧ (t.drvQueue m 0).depth = 32 ∧ place.key ∉ t.dpt.ready ∧ t.red = s.red) ∧
  (∀ (s : State) (place : DrvPlace) (facts : DrvFacts) (code m : Nat), s.powered = true → place.key ∈ s.dpt.ready → s.memAt place = none → (s.qualCode true facts).1 = code → code ≠ 0 → s.freeNumber = some m →
      NextIs (exec (.driveQualify place facts) s) fun t => t.memState m = 7 ∧ t.fld (DPT_MEM_STAT_QUAL_ERR m) = code ∧ t.get64 CNT_DPT_QUAL_FAIL = (s.get64 CNT_DPT_QUAL_FAIL + 1) % 2 ^ 64 ∧ place.key ∉ t.dpt.ready) ∧
  (∀ (s : State) (half : Fin 64) (presence : Bool) (m : Member), s.powered = true → s.flag DPT_CTL_HP_EN = true → s.flag DPT_CTL_DPC_EN = true → s.dpt.contained = [] → s.memAt (.half half) = some m.val → s.isMember m = true → s.flag (DPT_PORT_STAT_UP (half.val / 2) (half.val % 2)) = true →
      NextIs (exec (.driveRemoval half presence) s) fun t => t.memState m = 6 ∧ t.flag (DPT_PORT_STAT_DPC (half.val / 2) (half.val % 2)) = true ∧ t.flag (DPT_PORT_STAT_UP (half.val / 2) (half.val % 2)) = false ∧ tget? t.dpt.contained half.val = some presence ∧ (∀ e ∈ t.dpt.cmds, e.2.req.member ≠ m.val) ∧
        t.get64 CNT_DPT_REMOVALS = (s.get64 CNT_DPT_REMOVALS + 1) % 2 ^ 64 ∧ t.get64 CNT_DPT_DPC_EVENTS = (s.get64 CNT_DPT_DPC_EVENTS + 1) % 2 ^ 64) ∧
  (∀ (s : State) (half : Fin 64), s.powered = true → tget? s.dpt.contained half.val = some false →
      NextIs (exec (.dpcLinkRetrain half) s) fun t => tget? t.dpt.contained half.val = none ∧ t = { s with dpt := { s.dpt with contained := t.dpt.contained } }) ∧
  (∀ (s : State) (xp : Fin 4) (slot : Fin 32) (dpc : Bool), s.powered = true → s.flag (DPT_XP_STAT_UP xp) = true → s.flag DPT_CTL_HP_EN = true → 32 * xp.val + slot.val ∉ s.dpt.xdrives → slot.val < 24 → (s.dpt.xdrives.filter (fun x => x / 32 == xp.val)).length < 24 →
      NextIs (exec (.xpHotplugEvent xp slot true dpc) s) fun t => t.dpt.xdrives = s.dpt.xdrives ++ [32 * xp.val + slot.val] ∧ t.dpt.linked = s.dpt.linked ++ [64 + 32 * xp.val + slot.val] ∧ t.fld (DPT_XP_STAT_DRIVES xp) = (s.dpt.xdrives.filter (fun x => x / 32 == xp.val)).length + 1 ∧ RegsOnly [DPT_XP_STAT xp] { s with dpt := t.dpt } t) ∧
  (∀ (s : State) (xp : Fin 4) (slot : Fin 32) (m : Member), s.powered = true → s.flag (DPT_XP_STAT_UP xp) = true → s.flag DPT_CTL_HP_EN = true → s.memAt (.xp xp slot) = some m.val → s.isMember m = true →
      NextIs (exec (.xpHotplugEvent xp slot false true) s) fun t => t.memState m = 6 ∧ (t.mem m).gone = true ∧ 32 * xp.val + slot.val ∉ t.dpt.xdrives ∧ t.flag (DPT_XP_STAT_DPC xp) = true) ∧
  (∀ (s : State) (xp : Fin 4) (m : Member), s.powered = true → s.flag (DPT_XP_STAT_UP xp) = true → s.fld (DPT_MEM_LOC_TYPE m) = 4 → s.fld (DPT_MEM_LOC_PORT m) = xp.val → s.isMember m = true →
      NextIs (exec (.xpLinkDown xp) s) fun t => t.memState m = 6 ∧ t.flag (DPT_XP_STAT_UP xp) = false ∧ t.fld (DPT_XP_STAT_DRIVES xp) = 0 ∧ t.dpt.xdrives = s.dpt.xdrives.filter (fun x => x / 32 != xp.val)) ∧
  (∀ (s : State) (member : Member), s.powered = true → (s.mem member).acquiring = true →
      NextIs (exec (.reservationAcquireDone member) s) fun t => t.flag (DPT_MEM_STAT_RESV member) = true ∧ t.mem member = { s.mem member with acquiring := false } ∧ (∀ e ∈ t.dpt.cmds, ¬ (e.2.req.member = member.val ∧ e.2.req.use = .admin 2)) ∧ t.memState member = s.memState member) ∧
  (∀ (s : State) (member : Member) (k : Nat), s.powered = true → (s.mem member).acquiring = true → s.memState member = 1 → (∃ e ∈ s.dpt.cmds, e.2.req.member = member.val ∧ e.2.req.use = .admin 2) → s.freeCid = some k →
      NextIs (exec (.acquireTimeout member) s) fun t => t.memState member = 2 ∧ t.fld (DPT_MEM_STAT_LADDER member) = 1 ∧ (t.mem member).prev = 1 ∧ (tget? t.dpt.cmds k).isSome = true ∧ t.get64 CNT_DPT_ABORTS_SENT = (s.get64 CNT_DPT_ABORTS_SENT + 1) % 2 ^ 64) ∧
  (∀ (s : State) (req : Requester) (member : Member), s.Admits req DPT_MEM_CMD → s.flag DPT_MEM_CMD_STAT_BUSY = false → s.isMember member = true →
      NextIs (exec (.memberFailCmd req member) s) fun t => t.memState member = 3 ∧ t.fld DPT_MEM_CMD_STAT_RESULT = 0 ∧ (∀ e ∈ t.dpt.cmds, e.2.req.member ≠ member.val) ∧ t.get64 CNT_DPT_MEMBERS_FAILED = (s.get64 CNT_DPT_MEMBERS_FAILED + 1) % 2 ^ 64) ∧
  (∀ (s : State) (req : Requester) (member : Member), s.Admits req DPT_MEM_CMD → s.flag DPT_MEM_CMD_STAT_BUSY = false → (s.memState member = 6 ∨ s.memState member = 3) → (s.mem member).gone = true → s.placeOf member = none →
      NextIs (exec (.memberReleaseCmd req member) s) fun t => t.memState member = 0 ∧ t.reg (DPT_MEM_LOC member) = 0 ∧ t.fld DPT_MEM_CMD_STAT_RESULT = 0 ∧ t.red.sets = s.red.sets) ∧
  (∀ (s : State) (req : Requester) (member : Member), s.Admits req DPT_MEM_CMD → s.flag DPT_MEM_CMD_STAT_BUSY = false → s.memState member = 7 → s.fld (DPT_MEM_LOC_TYPE member) = 3 →
      NextIs (exec (.memberRequalifyCmd req member) s) fun t => 2 * s.fld (DPT_MEM_LOC_PORT member) + 1 ∈ t.dpt.linked ∧ t.fld DPT_MEM_CMD_STAT_RESULT = 0 ∧ t.fld DPT_MEM_CMD_OP = 3 ∧ t.fld DPT_MEM_CMD_INDEX = member.val ∧ RegsOnly [DPT_MEM_CMD, DPT_MEM_CMD_STAT] { s with dpt := t.dpt } t) ∧
  (∀ (s : State) (req : Requester) (member : Member), s.Admits req DPT_MEM_CMD → s.flag DPT_MEM_CMD_STAT_BUSY = false → s.memState member = 0 →
      NextIs (exec (.memberFailCmd req member) s) fun t => t.fld DPT_MEM_CMD_STAT_RESULT = 1 ∧ RegsOnly [DPT_MEM_CMD, DPT_MEM_CMD_STAT] s t)

/-- A write's data is read from the host only under staging and journal room. An append puts one record at the journal's end, completes the command and frees its locks. A destage opens an intent and queues its member writes; its end closes the intent; a stripe zeroed whole returns to UNINIT. A resynced intent and a rebuilt strip of a mirror are written from the copy read. Where the spec leaves a point open the clauses hold of the model's choice (log entries 105, 107, 110, 116, 124, 125, 126, 128, 129, 130, 132, 133, 134, 135). -/
def Obligations.JournalDestageRebuild : Prop :=
  (∀ (s : State) (handle : Nat) (c : Cmd) (qi : Nat) (q : Queue) (addr len : Nat), s.serving = true → s.canAct handle = true → s.cmd? handle = some c → c.kind = .write → c.state = .admitted → c.credit = 0 → c.arrived = false → c.blocks ≠ [] → c.host = [(addr, len)] → c.queue = some qi → s.queue? qi = some q → q.type = 1 → ((s.qp q.qpn).state = 2 ∨ (s.qp q.qpn).state = 3) →
      s.dirtyBytes + s.jrnReserved + 4160 * c.blocks.length ≤ s.fld RED_JRN_CAP_CAP * 2 ^ 20 → c.blocks.length ≤ s.stgWriteFree →
      NextIs (exec (.writeDataReadIssue handle) s) fun t => t.cmd? handle = some { c with credit := c.blocks.length, jrnWait := false } ∧ Sent s t q [⟨.read (.writeData handle) c.rkey addr, len⟩] ∧ t.red = s.red) ∧
  (∀ (s : State) (handle : Nat) (c : Cmd), s.serving = true → s.canAct handle = true → s.cmd? handle = some c → c.kind = .write → c.state = .admitted → c.credit = 0 → c.arrived = false → c.jrnWait = false → s.fld RED_JRN_CAP_CAP * 2 ^ 20 < s.dirtyBytes + s.jrnReserved + 4160 * c.blocks.length →
      NextIs (exec (.writeDataReadIssue handle) s) fun t => t.cmd? handle = some { c with jrnWait := true } ∧ t.flag RED_JRN_STAT_WAIT = true ∧ t.get64 CNT_RED_JRN_WAIT = (s.get64 CNT_RED_JRN_WAIT + 1) % 2 ^ 64 ∧ t.rdm = s.rdm ∧ t.red = s.red) ∧
  (∀ (s : State) (handle : Nat) (c : Cmd) (a n k : Nat) (x : Vol) (p : Machine.PSet) (sl : Slab), s.serving = true → s.canAct handle = true → handle < 65536 → s.cmd? handle = some c → c.kind = .zeroes → c.state = .admitted → c.mirror = none → c.status = 0 → c.seg = 0 → c.ranges = [(a, n)] → 0 < n → n ≤ 256 →
      s.flag RED_JRN_STAT_PFAIL = false → s.eng.globalOp ≠ 3 → s.partnered = false → s.mirroring = false → (∀ b ∈ c.blocks, s.lostBlock c.vol b = false) → slabsOf a n = [k] → tget? s.red.vols c.vol = some x → tget? s.red.sets x.set = some p → tget? x.slabs k = some sl → s.sharedSlab c.vol sl x.set = false → (∀ e ∈ s.red.vols, e.2.imageOf ≠ some c.vol) →
      NextIs (exec (.journalAppend handle) s) fun t =>
        t.red.journal.getLast? = some { seq := s.red.jseq, typ := 2, stamp := c.stamp, vol := c.vol, key := s.fld (CIP_VOL_KEY_SLOT c.vol), slba := a, nlb := n, tag := handle % 65536, dirty := [(a, n)], born := s.clock.nowNs } ∧
        t.red.jseq = s.red.jseq + 1 ∧ (t.cmd? handle).map (fun y => (y.state, y.status, y.durable)) = some (.done, 0, true) ∧ (∀ e ∈ t.eng.locks, e.owner ≠ handle) ∧ t.red.sets = s.red.sets ∧ t.red.vols = s.red.vols) ∧
  (∀ (s : State) (set : Fin 8) (stripe : Nat) (rd : List StripRead) (p : Machine.PSet) (j : StripeJob) (d : List (Nat × Nat × Nat × JRec)), s.serving = true → tget? s.red.sets set = some p → s.stripeJob set stripe = some j → s.jobDirty set stripe p j = d → s.ripe p j d = true → s.stripeBusy set stripe = false → p.intents.length < 1024 → (∀ i ∈ p.intents, i.stripe ≠ stripe) →
      (List.range p.width).any (s.stripWaits p stripe) = false → (∀ e ∈ d, e.2.2.2.typ = 1) → j.full p d.length = true → j.full p 0 = false → j.old = some stripe →
      NextIs (exec (.destageStart set stripe rd) s) fun t => (tget? t.red.sets set).map (fun q => q.intents.map Intent.stripe) = some (p.intents.map Intent.stripe ++ [stripe]) ∧
        tget? t.red.destages s.red.dnext = some { set := set, stripe := stripe, vol := j.vol, blocks := d.map (fun e => (e.2.2.1, e.2.2.2.seq)), left := t.dpt.todo.length - s.dpt.todo.length } ∧ t.red.dnext = s.red.dnext + 1 ∧ t.dpt.todo.take s.dpt.todo.length = s.dpt.todo ∧
        (t.dpt.todo.drop s.dpt.todo.length).all (fun r => r.write && r.use == .destage s.red.dnext) = true ∧ t.red.journal = s.red.journal) ∧
  (∀ (s : State) (set : Fin 8) (stripe : Nat) (p : Machine.PSet) (i : Intent) (d : Nat) (x : Destage), s.powered = true → s.red.destages = [(d, x)] → x.set = set.val → x.stripe = stripe → x.left = 0 → tget? s.red.sets set = some p → p.intents = [i] → i.stripe = stripe → s.cch.mnt = [] →
      NextIs (exec (.destageComplete set stripe) s) fun t => t.red.destages = [] ∧ (tget? t.red.sets set).map Machine.PSet.intents = some [] ∧ (tget? t.red.sets set).map Machine.PSet.iseq = some (p.iseq + 1) ∧ t.dpt.cmds = s.dpt.cmds) ∧
  (∀ (s : State) (m : Nat) (q : List IRec) (w : Nat), s.powered = true → s.red.iq = [(m, q)] → q ≠ [] → q.length ≤ 64 → s.memState m = 1 → tget s.red.ring m (0, []) = (w, []) →
      NextIs (exec .intentBlockWrite s) fun t => t.out = .memberWrite m (256 + w) [q.foldr (fun x n => x.word + n * 2 ^ 512) 0] :: s.out ∧ t.red.iq = [] ∧ (tget t.red.ring m (0, [])).1 = (w + 1) % 7936 ∧ t.regs = s.regs) ∧
  (∀ (s : State) (p : Machine.PSet) (stripe seq mask jseq : Nat), s.running = true → s.mode = 2 → s.partnered = false → s.red.sets = [(3, p)] → p.intents = [] →
      NextIs (exec (.intentReplay [(3, stripe, seq, mask, jseq)]) s) fun t => t.flag RED_JRN_STAT_REPLAY = true ∧ (tget? t.red.sets 3).map Machine.PSet.intents = some [{ stripe := stripe, seq := seq, mask := mask, jseq := jseq, replicas := s.replicaSlots p stripe, resync := true }] ∧ t.fld (RED_SET_STAT_STATE 3) = 5) ∧
  (∀ (s : State) (set : Fin 8) (stripe : Nat) (p : Machine.PSet) (i : Intent) (ws : List Nat) (pos m : Nat), s.running = true → (∀ e ∈ s.red.sets, e.1 < 8) → tget? s.red.sets set = some p → p.layout = 1 → p.intents = [i] → i.stripe = stripe → i.resync = true → s.red.journal = [] → s.stripeBusy set stripe = false →
      (List.range p.width).any (s.stripWaits p stripe) = false → ws.length = 16 → pos < p.width → s.stripReads p stripe pos = true → p.member (p.holder stripe pos) = some m →
      NextIs (exec (.intentResync set stripe (ws.mapIdx (fun r w => (0, r, some w)))) s) fun t => Out.memberWrite m (bandBlock (p.band stripe)) ws ∈ t.out ∧ (tget? t.red.sets set).map Machine.PSet.intents = some [] ∧ t.get64 CNT_RED_RESYNC = (s.get64 CNT_RED_RESYNC + 1) % 2 ^ 64) ∧
  (∀ (s : State) (req : Requester) (val : Word), s.Admits req RED_HOLDUP →
      NextIs (exec (.holdupWrite req val) s) fun t => t.reg RED_HOLDUP = val &&& 0x00FF03FF ∧ t.fld RED_JRN_CAP_CAP = min (s.fld RED_JRN_CAP_SIZE * 1024) (min 1000 (val.toNat % 1024) * (val.toNat / 2 ^ 16 % 256) * 1000000 / 2 / 2 ^ 20) ∧ RegsOnly [RED_HOLDUP, RED_JRN_CAP] s t) ∧
  (∀ (s : State) (member : Member) (pi : Nat) (p : Machine.PSet) (slot : Nat), s.powered = true → s.flag RED_CTL_AUTO_REPLACE = false → s.red.holding = [member.val] → s.memState member = 6 → s.placeOf member = some (pi, p, slot) → slot ∉ p.lostSlots →
      NextIs (exec (.missingHoldExpiry member) s) fun t => t.red.holding = [] ∧ tget? t.red.sets pi = some { p with lostSlots := p.lostSlots ++ [slot] } ∧ t.memState member = 6) ∧
  (∀ (s : State) (set : Fin 8) (stripe : Nat) (p : Machine.PSet) (g sp : Nat) (rest ws : List Nat) (m : Nat), s.serving = true → (∀ e ∈ s.red.sets, e.1 < 8) → s.flag RED_JRN_STAT_PFAIL = false → tget? s.red.sets set = some p → p.layout = 1 → s.rebuildNext set p = some stripe → s.stripeBusy set stripe = false → s.goneStrips p stripe = [g] → g ≠ 0 → g ≤ p.redund → 1 ≤ p.redund →
      s.freeSpares p (p.band stripe) = sp :: rest → p.member sp = some m → ws.length = 16 → s.gov.floor = [] → s.floorOk = true →
      NextIs (exec (.rebuildChunk set stripe (ws.mapIdx (fun r w => (0, r, some w)))) s) fun t => Out.memberWrite m (bandBlock (p.band stripe)) ws ∈ t.out ∧ ((tget? t.red.sets set).bind (fun q => tget? q.reloc (p.band stripe * 32 + p.slotOf stripe g))) = some sp ∧
        t.get64 CNT_RED_REBUILD_STRIPES = (s.get64 CNT_RED_REBUILD_STRIPES + 1) % 2 ^ 64) ∧
  (∀ (s : State) (member : Member) (rd : List StripRead) (pi : Nat) (p : Machine.PSet) (sl n0 : Nat) (whole : Bool), s.serving = true → s.memState member = 4 → s.flag RED_JRN_STAT_PFAIL = false → s.placeOf member = some (pi, p, sl) → tget? s.red.sets pi = some p → p.member sl = some member.val → tget? p.filling sl = some (n0, whole) → s.fillNext pi p sl n0 whole = none →
      NextIs (exec (.memberReturn member rd) s) fun t => t.memState member = 1 ∧ (tget? t.red.sets pi).map (fun q => (tget? q.filling sl, q.gen)) = some (none, (p.gen + 1) % 2 ^ 32) ∧ t.dpt.cmds = s.dpt.cmds) ∧
  (∀ (s : State) (member : Member) (rd : List StripRead) (pi : Nat) (p : Machine.PSet) (sl n0 : Nat) (whole : Bool) (b t0 pos : Nat), s.serving = true → s.memState member = 4 → s.flag RED_JRN_STAT_PFAIL = false → s.placeOf member = some (pi, p, sl) → tget? p.filling sl = some (n0, whole) → s.fillNext pi p sl n0 whole = some (b, false) → p.stripIn b sl = some (t0, pos) →
      NextIs (exec (.memberReturn member rd) s) fun t => (tget? t.red.sets pi).map (fun q => (tget? q.filling sl, tget? q.reloc (b * 32 + sl))) = some (some (b + 1, whole), none) ∧ t.memState member = 4 ∧ t.dpt = s.dpt)

/-- CREATE makes the set that its data registers describe, its members ONLINE; DELETE removes one without volumes; REPLACE fills a slot with a spare member; PATROL_NOW restarts a cycle. A patrolled stripe without findings only moves patrol on. Volume commands create, resize and delete; a lost entry can be read and cleared. Each ends with its RESULT; a GO while BUSY is malformed. A read of RED_EVLOG0 pops one entry. Where the spec leaves a point open the clauses hold of the model's choice (log entries 116, 134, 137, 138, 139). -/
def Obligations.SetsVolumesLosses : Prop :=
  (∀ (s : State) (req : Requester) (set : Fin 8), s.Admits req RED_SET_CMD → s.flag RED_SET_CMD_STAT_BUSY = false → (s.mode = 2 ∨ s.serving = true) → tget? s.red.sets set = none → s.createSet.valid = true → s.createOk = true →
      NextIs (exec (.setCreate req set) s) fun t => t.fld RED_SET_CMD_STAT_RESULT = 0 ∧ tget? t.red.sets set = some s.createSet ∧ (∀ m ∈ s.createMembers, t.memState m = 1) ∧ t.reg (RED_SET_CFG set) = BitVec.ofNat 32 s.createSet.cfg ∧ t.red.vols = s.red.vols) ∧
  (∀ (s : State) (req : Requester) (set : Fin 8), s.Admits req RED_SET_CMD → s.flag RED_SET_CMD_STAT_BUSY = false → (s.mode = 2 ∨ s.serving = true) → tget? s.red.sets set = none → s.createSet.valid = true → s.createOk = false →
      NextIs (exec (.setCreate req set) s) fun t => t.fld RED_SET_CMD_STAT_RESULT = 2 ∧ RegsOnly [RED_SET_CMD, RED_SET_CMD_STAT] s t) ∧
  (∀ (s : State) (req : Requester) (set : Fin 8) (p : Machine.PSet), s.Admits req RED_SET_CMD → s.flag RED_SET_CMD_STAT_BUSY = false → (s.mode = 2 ∨ s.serving = true) → tget? s.red.sets set = some p → (∀ e ∈ s.red.vols, e.2.set ≠ set.val) → (∀ e ∈ p.slots, e.2 < 128) →
      NextIs (exec (.setDelete req set) s) fun t => t.fld RED_SET_CMD_STAT_RESULT = 0 ∧ tget? t.red.sets set = none ∧ t.reg (RED_SET_CFG set) = 0 ∧ (∀ e ∈ p.slots, s.memState e.2 = 1 → t.memState e.2 = 5)) ∧
  (∀ (s : State) (req : Requester) (set : Fin 8) (slot : Fin 32) (member : Member) (p : Machine.PSet), s.Admits req RED_SET_CMD → s.flag RED_SET_CMD_STAT_BUSY = false → (s.mode = 2 ∨ s.serving = true) → tget? s.red.sets set = some p → p.xts = true → slot.val < p.n → (∀ o, p.member slot = some o → s.memState o = 3 ∨ s.memState o = 6) →
      s.memState member = 5 → s.placeOf member = none → p.bands ≤ (s.mem member).bands →
      NextIs (exec (.setReplace req set slot member) s) fun t => t.fld RED_SET_CMD_STAT_RESULT = 0 ∧ t.memState member = 4 ∧ (tget? t.red.sets set).map (fun q => (q.member slot, tget? q.filling slot, q.gen)) = some (some member.val, some (0, true), (p.gen + 1) % 2 ^ 32)) ∧
  (∀ (s : State) (req : Requester) (set : Fin 8) (p : Machine.PSet), s.Admits req RED_SET_CMD → s.flag RED_SET_CMD_STAT_BUSY = false → (s.mode = 2 ∨ s.serving = true) → tget? s.red.sets set = some p →
      NextIs (exec (.patrolNow req set) s) fun t => t.fld RED_SET_CMD_STAT_RESULT = 0 ∧ tget? t.red.sets set = some { p with patrol := 0, patrolled := 0, patrolAt := s.clock.nowNs } ∧ t.red.vols = s.red.vols) ∧
  (∀ (s : State) (req : Requester) (set : Fin 8), s.Admits req RED_SET_CMD → s.flag RED_SET_CMD_STAT_BUSY = true → exec (.setCreate req set) s = .next s.malformed ∧ exec (.setDelete req set) s = .next s.malformed ∧ exec (.patrolNow req set) s = .next s.malformed) ∧
  (∀ (s : State) (set : Fin 8) (stripe : Nat) (rd : List StripRead) (p : Machine.PSet), s.serving = true → (∀ e ∈ s.red.sets, e.1 < 8) → s.flag RED_CTL_PATROL_EN = true → s.flag RED_JRN_STAT_PFAIL = false → tget? s.red.sets set = some p → s.patrolNext set p = some stripe → s.stripeBusy set stripe = false → (List.range p.width).any (s.stripWaits p stripe) = false →
      s.backOk = true → (∀ r : Fin 16, ∀ i ∈ List.range p.width, ∃ e ∈ rd, e.1 = i ∧ e.2.1 = r.val) → (∀ r : Fin 16, s.patrolRow set p stripe rd r = none) →
      NextIs (exec (.patrolChunk set stripe rd) s) fun t => tget? t.red.sets set = some { p with patrol := stripe + 1, patrolled := p.patrolled + 1 } ∧ t.get64 CNT_RED_PATROL_STRIPES = (s.get64 CNT_RED_PATROL_STRIPES + 1) % 2 ^ 64 ∧
        t.gov.chip = s.gov.chip - ((32 * (16 * p.width) * s.fld (GOV_COST_CHIP 5) : Nat) : Int) ∧ t.red.lost = s.red.lost ∧ t.red.evlog = s.red.evlog) ∧
  (∀ (s : State) (req : Requester) (vol : Fin 4096) (set : Fin 8), s.Admits req RED_VOL_CMD → s.flag RED_VOL_STAT_BUSY = false → (s.mode = 2 ∨ s.serving = true) → tget? s.red.vols vol = none → tget? s.red.sets set ≠ none → s.fld RED_VOL_ARG_SLABS ≠ 0 →
      NextIs (exec (.volCreate req vol set) s) fun t => t.fld RED_VOL_STAT_RESULT = 0 ∧ tget? t.red.vols vol = some { set := set, maxSlabs := s.fld RED_VOL_ARG_SLABS } ∧ t.flag (RED_VOL0_EN vol) = true ∧ t.fld (RED_VOL0_MAX_SLABS vol) = s.fld RED_VOL_ARG_SLABS ∧ t.fld (RED_VOL1_ALLOC vol) = 0 ∧ t.red.sets = s.red.sets) ∧
  (∀ (s : State) (req : Requester) (vol : Fin 4096) (set : Fin 8), s.Admits req RED_VOL_CMD → s.flag RED_VOL_STAT_BUSY = false → (s.mode = 2 ∨ s.serving = true) →
      NextIs (exec (.volCreate req vol set) s) fun t => t.fld RED_VOL_CMD_VOLUME = vol.val ∧ (tget? s.red.vols vol ≠ none → t.fld RED_VOL_STAT_RESULT = 1 ∧ t.red = s.red) ∧ (tget? s.red.vols vol = none → tget? s.red.sets set = none → t.fld RED_VOL_STAT_RESULT = 2 ∧ t.red = s.red) ∧
        (tget? s.red.vols vol = none → tget? s.red.sets set ≠ none → s.fld RED_VOL_ARG_SLABS = 0 → t.fld RED_VOL_STAT_RESULT = 5 ∧ t.red = s.red)) ∧
  (∀ (s : State) (req : Requester) (vol : Fin 4096) (x : Vol), s.Admits req RED_VOL_CMD → s.flag RED_VOL_STAT_BUSY = false → (s.mode = 2 ∨ s.serving = true) → tget? s.red.vols vol = some x → x.set < 8 → s.fld RED_VOL_ARG_SLABS ≠ 0 → (∀ e ∈ x.slabs, e.1 < s.fld RED_VOL_ARG_SLABS) →
      NextIs (exec (.volResize req vol) s) fun t => t.fld RED_VOL_STAT_RESULT = 0 ∧ tget? t.red.vols vol = some { x with maxSlabs := s.fld RED_VOL_ARG_SLABS } ∧ t.fld (RED_VOL0_MAX_SLABS vol) = s.fld RED_VOL_ARG_SLABS ∧ t.red.sets = s.red.sets) ∧
  (∀ (s : State) (req : Requester) (vol : Fin 4096) (x : Vol), s.Admits req RED_VOL_CMD → s.flag RED_VOL_STAT_BUSY = false → (s.mode = 2 ∨ s.serving = true) → (∀ e ∈ s.red.sets, e.1 < 8) → tget? s.red.vols vol = some x → (∀ e ∈ s.rdm.wins, ¬ (e.2.state ≠ 0 ∧ e.2.vol = vol.val)) → (∀ e ∈ s.snapPairs, e.1 ≠ vol.val ∧ e.2 ≠ vol.val) →
      NextIs (exec (.volDelete req vol) s) fun t => t.fld RED_VOL_STAT_RESULT = 0 ∧ tget? t.red.vols vol = none ∧ t.reg (RED_VOL0 vol) = 0 ∧ t.reg (RED_VOL1 vol) = 0 ∧ (∀ r ∈ t.red.journal, r.vol = vol.val → r.dirty = []) ∧ t.red.sets = s.red.sets) ∧
  (∀ (s : State) (req : Requester) (index : Fin 8192) (e : Lost), s.Admits req RED_LOST_CMD → s.flag RED_LOST_STAT_BUSY = false → (s.mode = 2 ∨ s.serving = true) → tget? s.red.lost index = some e → e.set < 8 → e.first < 16 → 1 ≤ e.rows → e.rows ≤ 16 → e.vol < 4096 →
      NextIs (exec (.lostRead req index) s) fun t => t.fld RED_LOST_STAT_RESULT = 0 ∧ t.flag RED_LOST_DATA0_VALID = true ∧ t.fld RED_LOST_DATA0_SET = e.set ∧ t.fld RED_LOST_DATA0_FIRST = e.first ∧ t.fld RED_LOST_DATA0_COUNT_M1 = e.rows - 1 ∧ t.fld RED_LOST_DATA0_VOLUME = e.vol ∧ t.fld RED_LOST_DATA1_POS_MASK = e.mask % 2 ^ 32 ∧
        t.fld RED_LOST_DATA2_STRIPE_L = e.stripe % 2 ^ 32 ∧ t.fld RED_LOST_DATA3_STRIPE_H = e.stripe / 2 ^ 32 % 256 ∧ t.red = s.red) ∧
  (∀ (s : State) (req : Requester) (index : Fin 8192) (rd : List StripRead), s.Admits req RED_LOST_CMD → s.flag RED_LOST_STAT_BUSY = false → (s.mode = 2 ∨ s.serving = true) → tget? s.red.lost index = none →
      NextIs (exec (.lostClear req index rd) s) fun t => t.fld RED_LOST_STAT_RESULT = 1 ∧ t.red = s.red) ∧
  (∀ (s : State) (req : Requester) (index : Fin 8192) (e : Lost) (p : Machine.PSet) (j : StripeJob) (ws : List Nat) (m : Nat), s.Admits req RED_LOST_CMD → s.flag RED_LOST_STAT_BUSY = false → (s.mode = 2 ∨ s.serving = true) → tget? s.red.lost index = some e → tget? s.red.sets e.set = some p → e.set < 8 → s.stripeJob e.set e.stripe = some j → p.layout = 1 →
      e.mask = 2 → 1 < p.width → s.stripReads p e.stripe 1 = true → p.member (p.holder e.stripe 1) = some m → e.first + e.rows ≤ 16 → 1 ≤ e.rows → ws.length = 16 →
      NextIs (exec (.lostClear req index (ws.mapIdx (fun r w => (0, r, some w)))) s) fun t => t.fld RED_LOST_STAT_RESULT = 0 ∧ tget? t.red.lost index = none ∧ t.fld RED_LOST_STAT_COUNT = t.red.lost.length % 2 ^ 14 ∧ Out.memberWrite m (bandBlock (p.band e.stripe) + e.first) ((ws.drop e.first).take e.rows) ∈ t.out) ∧
  (∀ (s : State) (req : Requester) (a b c d : Nat) (rest : List (Nat × Nat × Nat × Nat)), s.reachable req = true → s.readOk req RED_EVLOG0 = true → s.mode ≠ 7 → s.red.evlog = (a, b, c, d) :: rest →
      NextIs (exec (.eventLogPop req) s) fun t => t.out = .read req RED_EVLOG0 (s.reg RED_EVLOG0) :: s.out ∧ t.red = { s.red with evlog := rest, evOvf := false, evLatch := tput s.red.evLatch (reqNum req) (b, c, d) } ∧ RegsOnly [RED_EVLOG0, RED_EVLOG1, RED_EVLOG2, RED_EVLOG3] { s with out := t.out, red := t.red } t)

/-- A complete demand fill is installed at age 2 under its PTAG in a way of its set, or dropped where it was cancelled; a prefetch fill goes to the side buffer, or is dropped as stale. An operation queued on an idle engine runs at once: INVALIDATE empties every store of its range and cancels its fills, sparing locked lines where told to; CLEAN waits while the journal holds dirt of the range; PREFETCH starts a fetch; LOCK and UNLOCK set and clear locks. A completion is read out oldest first. Disabling the cache empties its stores. Where the spec leaves a point open the clauses hold of the model's choice (log entries 114, 140). -/
def Obligations.CacheFillsMaintenance : Prop :=
  (∀ (s : State) (vol : Fin 4096) (stripe : Nat) (f : Fill), s.powered = true → s.cch.fills = [f] → f.vol = vol.val → f.stripe = stripe → f.kind = 0 → f.cancelled = false → f.complete = true → f.sectors ≠ [] → s.cchSets ≠ 0 → s.cch.main = [] → s.red.journal = [] →
      NextIs (exec (.fillInstall vol stripe) s) fun t => t.cch.fills = [] ∧ t.cch.main = [(16 * (lineH1 vol stripe % s.cchSets), { vol := vol, stripe := stripe, key := sectorsKey f.sectors, ptag := lineH2 vol stripe % 2 ^ 24, sectors := overSectors [] f.sectors, age := 2 })] ∧
        t.get64 CNT_CCH_FILL_INSTALLED = (s.get64 CNT_CCH_FILL_INSTALLED + 1) % 2 ^ 64 ∧ t.red = s.red) ∧
  (∀ (s : State) (vol : Fin 4096) (stripe : Nat) (f : Fill), s.powered = true → s.cch.fills = [f] → f.vol = vol.val → f.stripe = stripe → f.kind = 0 → f.cancelled = true → f.complete = true →
      NextIs (exec (.fillInstall vol stripe) s) fun t => t.cch = { s.cch with fills := [] } ∧ t.get64 CNT_CCH_FILL_CANCEL = (s.get64 CNT_CCH_FILL_CANCEL + 1) % 2 ^ 64 ∧ CountsOnly [CNT_CCH_FILL_CANCEL, CNT_CCH_FILL_CANCEL + 4] { s with cch := t.cch } t) ∧
  (∀ (s : State) (vol : Fin 4096) (stripe : Nat) (f : Fill), s.powered = true → s.cch.fills = [f] → f.vol = vol.val → f.stripe = stripe → f.kind = 1 → f.cancelled = false → f.stale = false → f.admitted = true → f.complete = true → f.sectors ≠ [] → s.cchSets ≠ 0 → s.cch.side = [] →
      exec (.prefetchFillComplete vol stripe) s = .next { s with cch := { s.cch with fills := [], side := [{ vol := vol, stripe := stripe, key := sectorsKey f.sectors, sectors := f.sectors, order := s.cch.order }], order := s.cch.order + 1 } }) ∧
  (∀ (s : State) (vol : Fin 4096) (stripe : Nat) (f : Fill), s.powered = true → s.cch.fills = [f] → f.vol = vol.val → f.stripe = stripe → f.kind = 1 → f.cancelled = false → f.stale = true → f.admitted = true → f.complete = true →
      NextIs (exec (.prefetchFillComplete vol stripe) s) fun t => t.cch = { s.cch with fills := [] } ∧ t.get64 CNT_CCH_FILL_STALE = (s.get64 CNT_CCH_FILL_STALE + 1) % 2 ^ 64 ∧ CountsOnly [CNT_CCH_FILL_STALE, CNT_CCH_FILL_STALE + 4] { s with cch := t.cch } t) ∧
  (∀ (s : State) (req : Requester) (id : Fin 256) (n : Nat), s.Admits req CCH_MNT_CMD → s.serving = true → s.cch.mnt = [] → s.cch.done = [] → s.flag CCH_MNT_ARG0_ALL = false → s.fld CCH_MNT_ARG2_COUNT = n → n ≠ 0 → (tget? s.red.vols (s.fld CCH_MNT_ARG0_VOLUME)).isSome = true →
      NextIs (exec (.mntInvalidate req false id) s) fun t =>
        t.cch.main = s.cch.main.filter (fun e => ! decide (e.2.vol = s.fld CCH_MNT_ARG0_VOLUME ∧ s.fld CCH_MNT_ARG1_START ≤ e.2.stripe ∧ e.2.stripe < s.fld CCH_MNT_ARG1_START + n)) ∧
        (∀ l ∈ t.cch.evb ++ t.cch.side, ¬ (l.vol = s.fld CCH_MNT_ARG0_VOLUME ∧ s.fld CCH_MNT_ARG1_START ≤ l.stripe ∧ l.stripe < s.fld CCH_MNT_ARG1_START + n)) ∧
        (∀ f ∈ t.cch.fills, f.vol = s.fld CCH_MNT_ARG0_VOLUME → s.fld CCH_MNT_ARG1_START ≤ f.stripe → f.stripe < s.fld CCH_MNT_ARG1_START + n → f.cancelled = true) ∧
        t.cch.mnt = [] ∧ t.cch.done.map (fun d => (d.1, d.2.1)) = [(id.val, 0)] ∧ t.fld CCH_MNT_DONE0_ID = id.val ∧ t.flag CCH_MNT_DONE0_VALID = true ∧ t.fld CCH_MNT_STAT_LEVEL = 1 ∧ t.red = s.red) ∧
  (∀ (s : State) (req : Requester) (id : Fin 256), s.Admits req CCH_MNT_CMD → s.serving = true → s.cch.mnt = [] → s.cch.done = [] → s.flag CCH_MNT_ARG0_ALL = true →
      NextIs (exec (.mntInvalidate req true id) s) fun t => t.cch.main = s.cch.main.filter (fun e => e.2.lock) ∧ t.cch.evb = [] ∧ t.cch.side = [] ∧ t.cch.done.map (fun d => (d.1, d.2.1)) = [(id.val, 0)] ∧ t.cch.done.map (fun d => (d.2.2.2.1, d.2.2.2.2)) = [(0, (s.cch.main.filter (fun e => e.2.lock)).length)] ∧ t.red = s.red) ∧
  (∀ (s : State) (req : Requester) (respect : Bool) (id : Fin 256), s.Admits req CCH_MNT_CMD → s.serving = true → s.cch.mnt = [] → s.cch.done = [] → s.flag CCH_MNT_ARG0_ALL = true → s.red.journal.any (fun r => !r.dirty.isEmpty) = true →
      NextIs (exec (.mntClean req respect id) s) fun t => t.cch.mnt.map (fun o => (o.op, o.id, o.lines)) = [(2, id.val, (s.cch.main.filter (fun e => e.2.dirty != 0)).length)] ∧ t.cch.done = [] ∧ t.flag CCH_MNT_STAT_BUSY = true ∧ t.cch.main = s.cch.main ∧ t.red = s.red) ∧
  (∀ (s : State) (req : Requester) (respect : Bool) (id : Fin 256), s.Admits req CCH_MNT_CMD → s.serving = true → s.cch.mnt = [] → s.cch.done = [] → s.flag CCH_MNT_ARG0_ALL = true → s.red.journal = [] →
      NextIs (exec (.mntClean req respect id) s) fun t => t.cch = { s.cch with done := [(id.val, 0, (s.cch.main.filter (fun e => e.2.dirty != 0)).length, 0, 0)] } ∧ t.flag CCH_MNT_STAT_BUSY = false ∧ t.red = s.red) ∧
  (∀ (s : State) (req : Requester) (respect : Bool) (id : Fin 256) (want : Nat), s.Admits req CCH_MNT_CMD → s.serving = true → s.cch.mnt = [] → s.cch.done = [] → s.cch.fills = [] → s.flag CCH_MNT_ARG0_ALL = false → s.fld CCH_MNT_ARG2_COUNT = 1 → s.fld CCH_MNT_ARG1_START < s.volBlocks (s.fld CCH_MNT_ARG0_VOLUME) / 16 →
      (tget? s.red.vols (s.fld CCH_MNT_ARG0_VOLUME)).isSome = true → s.mntWant (s.fld CCH_MNT_ARG0_VOLUME) (s.fld CCH_MNT_ARG1_START) = some want → want ≠ 0 →
      NextIs (exec (.mntPrefetch req respect id) s) fun t => t.cch.fills.map (fun f => (f.vol, f.stripe, f.kind)) = [(s.fld CCH_MNT_ARG0_VOLUME, s.fld CCH_MNT_ARG1_START, 2)] ∧ t.cch.fills.map (fun f => f.want) = [want] ∧ t.cch.mnt.map (fun o => (o.op, o.id, o.next)) = [(3, id.val, s.fld CCH_MNT_ARG1_START)] ∧
        t.flag CCH_MNT_STAT_BUSY = true ∧ t.cch.main = s.cch.main ∧ t.red = s.red) ∧
  (∀ (s : State) (req : Requester) (respect : Bool) (id : Fin 256) (k : Nat) (l : Line), s.Admits req CCH_MNT_CMD → s.serving = true → s.cch.mnt = [] → s.cch.done = [] → s.cch.fills = [] → s.flag CCH_MNT_ARG0_ALL = false → s.fld CCH_MNT_ARG2_COUNT = 1 → s.fld CCH_MNT_ARG1_START < s.volBlocks (s.fld CCH_MNT_ARG0_VOLUME) / 16 →
      (tget? s.red.vols (s.fld CCH_MNT_ARG0_VOLUME)).isSome = true → s.mntWant (s.fld CCH_MNT_ARG0_VOLUME) (s.fld CCH_MNT_ARG1_START) = some 0 → s.mainLine (s.fld CCH_MNT_ARG0_VOLUME) (s.fld CCH_MNT_ARG1_START) = some (k, l) → l.lock = false →
      (s.cch.main.filter (fun e => e.1 / 16 == k / 16 && e.2.lock)).length < s.fld CCH_CTL_LOCK_WAYS →
      NextIs (exec (.mntLock req respect id) s) fun t => t.cch = { s.cch with main := tput s.cch.main k { l with lock := true }, done := [(id.val, 0, 1, 0, 0)] } ∧ t.fld CCH_MNT_DONE1_LINES = 1 ∧ t.red = s.red) ∧
  (∀ (s : State) (req : Requester) (respect : Bool) (id : Fin 256), s.Admits req CCH_MNT_CMD → s.serving = true → s.cch.mnt = [] → s.cch.done = [] → s.flag CCH_MNT_ARG0_ALL = true →
      NextIs (exec (.mntUnlock req respect id) s) fun t => t.cch = { s.cch with main := s.cch.main.map (fun e => (e.1, { e.2 with lock := false })), done := [(id.val, 0, (s.cch.main.filter (fun e => e.2.lock)).length, 0, 0)] } ∧ t.fld CCH_LOCK_STAT_LOCKED = 0 ∧ t.red = s.red) ∧
  (∀ (s : State) (req : Requester) (respect : Bool) (id : Fin 256), s.mode = 7 → s.reachable req = true → 2 ≤ s.classOf req →
      NextIs (exec (.mntLock req respect id) s) fun t => t.cch = s.cch ∧ t.get64 CNT_HEP_MALFORMED = (s.get64 CNT_HEP_MALFORMED + 1) % 2 ^ 64) ∧
  (∀ (s : State) (req : Requester) (id st lines locks skip : Nat) (rest : List (Nat × Nat × Nat × Nat × Nat)), s.readOk req CCH_MNT_DONE0 = true → s.mode ≠ 7 → s.cch.done = (id, st, lines, locks, skip) :: rest →
      NextIs (exec (.mntDonePop req) s) fun t => t.out = .read req CCH_MNT_DONE0 (s.reg CCH_MNT_DONE0) :: s.out ∧ t.cch = { s.cch with done := rest, doneLatch := tput s.cch.doneLatch (reqNum req) (lines % 2 ^ 30, min 0xFFFF locks + min 0xFFFF skip * 65536) } ∧ t.fld CCH_MNT_STAT_LEVEL = (s.cch.mnt.length + rest.length) % 32 ∧
        t.flag CCH_MNT_DONE0_VALID = !rest.isEmpty) ∧
  (∀ (s : State) (req : Requester), s.Admits req CCH_CTL →
      NextIs (exec (.cacheDisable req) s) fun t => t.flag CCH_CTL_EN = false ∧ t.fld CCH_CTL_DEF_POLICY = s.fld CCH_CTL_DEF_POLICY ∧ t.cch = { s.cch with main := [], evb := [], side := [] } ∧ t.fld CCH_LOCK_STAT_LOCKED = 0 ∧ t.get64 CNT_CCH_PF_UNUSED = (s.get64 CNT_CCH_PF_UNUSED + s.cch.side.length) % 2 ^ 64 ∧
        CountsOnly [CCH_CTL, CCH_LOCK_STAT, CNT_CCH_PF_UNUSED, CNT_CCH_PF_UNUSED + 4] { s with cch := t.cch } t)

/-- An uncorrectable error outside the cache is recorded with its channel and partition and counted; without a partner a journal record is lost, and a word of the maps brings MIDNIGHT. In the cache it costs the line. A write payload is read from the host again; a retransmission hold found bad ends its queue pair with cause 10. The scrub is background work: charged where admitted, deferred where not. Where the spec leaves a point open the clauses hold of the model's choice (log entries 47, 113, 141). -/
def Obligations.MemoryErrors : Prop :=
  (∀ (s : State) (chan : Fin 12) (ce : Fin 1025), s.serving = true → s.running = true → s.fld DMC_SCRUB_HOURS ≠ 0 → s.backOk = true →
      NextIs (exec (.dramScrubLine chan ce none) s) fun t => t.get64 (DMC_CH_CE chan) = (s.get64 (DMC_CH_CE chan) + ce.val) % 2 ^ 64 ∧ t.gov.chip = s.gov.chip - ((32 * s.fld (GOV_COST_CHIP 11) : Nat) : Int) ∧ t.cch = s.cch ∧ t.red = s.red) ∧
  (∀ (s : State) (chan : Fin 12) (ce : Fin 1025) (ue : Option DramUe), s.serving = true → s.running = true → s.fld DMC_SCRUB_HOURS ≠ 0 → s.backOk = false → bitOf s.gov.bgDefer 5 = false →
      NextIs (exec (.dramScrubLine chan ce ue) s) fun t => t.get64 CNT_GOV_DEFER_BG = (s.get64 CNT_GOV_DEFER_BG + 1) % 2 ^ 64 ∧ t.gov.chip = s.gov.chip ∧ t.cch = s.cch ∧ t.get64 (DMC_CH_CE chan) = s.get64 (DMC_CH_CE chan)) ∧
  (∀ (s : State) (chan : Fin 12) (seq : Nat) (r : JRec), s.running = true → s.partnered = true ∨ r.dirty = [] ∨ (tget? s.red.vols r.vol).isNone = true → s.red.journal.find? (fun x => x.seq == seq) = some r →
      NextIs (exec (.dramUe chan (.journal seq)) s) fun t => (s.partnered = true → t.red = s.red) ∧ (s.partnered = false → t.red.journal = s.red.journal.filter (fun x => x.seq != r.seq)) ∧ t.fld DMC_UE_LAST_PART = 1 ∧ t.fld DMC_UE_LAST_CH = chan.val ∧ t.flag DMC_UE_LAST_VALID = true ∧
        t.get64 (DMC_CH_UE chan) = (s.get64 (DMC_CH_UE chan) + 1) % 2 ^ 64) ∧
  (∀ (s : State) (chan : Fin 12), s.running = true → s.partnered = false → NextIs (exec (.dramUe chan .maps) s) fun t => t.mode = 7 ∧ t.flag SYS_MIDNIGHT_CAUSE_SRAM_UE = true ∧ t.fld DMC_UE_LAST_PART = 2) ∧
  (∀ (s : State) (chan : Fin 12), s.running = true → s.partnered = true → NextIs (exec (.dramUe chan .maps) s) fun t => t.mode = s.mode ∧ t.fld DMC_UE_LAST_PART = 2 ∧ t.get64 (DMC_CH_UE chan) = (s.get64 (DMC_CH_UE chan) + 1) % 2 ^ 64 ∧ t.red = s.red) ∧
  (∀ (s : State) (chan : Fin 12) (v st : Nat), s.running = true → (s.mainLine v st).isSome = true →
      NextIs (exec (.dramUe chan (.cache v st)) s) fun t => (∀ e ∈ t.cch.main, ¬ (e.2.vol = v ∧ e.2.stripe = st)) ∧ t.get64 CNT_CCH_CACHE_UE = (s.get64 CNT_CCH_CACHE_UE + 1) % 2 ^ 64 ∧ t.red = s.red ∧ t.reg DMC_UE_LAST = s.reg DMC_UE_LAST) ∧
  (∀ (s : State) (h : Nat) (c : Cmd) (qi : Nat) (q : Queue) (addr len : Nat), s.running = true → s.cmd? h = some c → c.kind.isWrite = true → c.arrived = true → c.credit ≠ 0 → c.cipher = false → c.queue = some qi → s.queue? qi = some q → q.type = 1 → c.host = [(addr, len)] → ((s.qp q.qpn).state = 2 ∨ (s.qp q.qpn).state = 3) →
      NextIs (exec (.stagingUe (.write h)) s) fun t => t.cmd? h = some { c with arrived := false, data := 0 } ∧ Sent s t q [⟨.read (.writeData h) c.rkey addr, len⟩] ∧ t.get64 CNT_CCH_STG_UE = (s.get64 CNT_CCH_STG_UE + 1) % 2 ^ 64 ∧ t.fld MON_SRAM_LAST_UNIT = 0x11 ∧ t.flag MON_SRAM_LAST_UE = true) ∧
  (∀ (s : State) (qpn : Fin 16384) (psn : Nat), s.running = true → (s.qp qpn).outst.any (fun o => decide ((psn + 2 ^ 24 - o.first) % 2 ^ 24 < o.count)) = true → s.assoc? (s.qp qpn).assoc = none →
      NextIs (exec (.stagingUe (.hold qpn psn)) s) fun t => (t.qp qpn).state = 4 ∧ (t.qp qpn).outst = [] ∧ (t.qp qpn).sendq = [])

/-- A write of a GCM volume reserves one counter for each block and joins the chosen pipeline; beyond E it is refused, and past HWM it waits. A read's request names the slot of its sectors; a sector is released to its command only where it verifies, and one whose metadata does not match is an authentication failure: reread from the members where it came from the cache, an erasure where it came from a member, a lost range where it came from an unmirrored journal. Tests run pipeline by pipeline. An acknowledgement raises HWM by a block; a zeroize ends with the slot's last request. Where the spec leaves a point open the clauses hold of the model's choice (log entries 96, 105, 110, 111, 113, 199). -/
def Obligations.Cipher : Prop :=
  (∀ (s : State) (h : Nat) (c : Cmd) (slot p : Nat), s.serving = true → s.canAct h = true → s.cmd? h = some c → c.kind = .write → c.state = .admitted → c.arrived = true → c.cipher = false → slot = s.fld (CIP_VOL_KEY_SLOT c.vol) → s.keyRefusal c.vol = .none → s.volXts c.vol = false →
      (s.slot slot).ctr + c.blocks.length ≤ s.cipE → (s.slot slot).ctr + c.blocks.length ≤ (s.slot slot).hwm → s.choosePipe = some p → s.mirroring = false →
      NextIs (exec (.cipherRequest (.cmd h)) s) fun t => t.slot slot = { s.slot slot with ctr := (s.slot slot).ctr + c.blocks.length } ∧ t.pipe p = s.pipe p ++ [{ owner := h, slot := slot, enc := true, xts := false, blocks := c.blocks, base := (s.slot slot).ctr }] ∧ t.cmd? h = some { c with cipher := true, ctrWait := false } ∧
        t.cip.ptr = (p + 1) % 32 ∧ t.red = s.red) ∧
  (∀ (s : State) (h : Nat) (c : Cmd) (slot : Nat), s.serving = true → s.canAct h = true → s.cmd? h = some c → c.kind = .write → c.state = .admitted → c.arrived = true → c.cipher = false → c.ctrWait = false → slot = s.fld (CIP_VOL_KEY_SLOT c.vol) → s.keyRefusal c.vol = .none → s.volXts c.vol = false →
      (s.slot slot).ctr + c.blocks.length ≤ s.cipE → (s.slot slot).hwm < (s.slot slot).ctr + c.blocks.length →
      NextIs (exec (.cipherRequest (.cmd h)) s) fun t => t.cip = s.cip ∧ t.cmd? h = some { c with ctrWait := true } ∧ t.get64 CNT_CIP_CTR_WAIT = (s.get64 CNT_CIP_CTR_WAIT + 1) % 2 ^ 64 ∧ t.red = s.red) ∧
  (∀ (s : State) (h : Nat) (c : Cmd) (x : Piece) (rest : List Piece) (p : Nat), s.serving = true → s.canAct h = true → s.cmd? h = some c → c.kind = .read → c.state = .running → c.cipher = false → c.pieces.any (fun y => y.stored.isNone && y.src == .member) = false → s.keyRun c = x :: rest →
      (x :: rest).any (fun y => s.openPiece c.vol y == .absent) = false → s.choosePipe = some p →
      NextIs (exec (.cipherRequest (.cmd h)) s) fun t => t.pipe p = s.pipe p ++ [{ owner := h, slot := s.pieceKey c.vol x, enc := false, xts := s.volXts c.vol, blocks := x.block :: rest.map (fun y => y.block) }] ∧ t.cmd? h = some { c with cipher := true } ∧ t.cip.slots = s.cip.slots ∧ t.red = s.red) ∧
  (∀ (s : State) (n : Fin 4) (slot : Fin 4096) (bytes p : Nat), s.powered = true → 512 ≤ bytes → bytes ≤ 2 ^ 20 → s.fld (CIP_KS_STAT_STATE slot) = 1 → s.fld (CIP_KS_STAT_MODE slot) = 0 → (s.slot slot).ctr + 1 ≤ s.cipE → (s.slot slot).ctr + 1 ≤ (s.slot slot).hwm → s.choosePipe = some p →
      NextIs (exec (.cipherRequest (.core n slot true false bytes)) s) fun t => t.slot slot = { s.slot slot with ctr := (s.slot slot).ctr + 1 } ∧ (t.pipe p).length = (s.pipe p).length + 1 ∧ t.cmdq = s.cmdq ∧ t.red = s.red) ∧
  (∀ (s : State) (n : Fin 4) (slot : Fin 4096) (enc xts : Bool) (bytes : Nat), s.powered = true → (bytes < 512 ∨ (if xts then 4096 else 2 ^ 20) < bytes) →
      NextIs (exec (.cipherRequest (.core n slot enc xts bytes)) s) fun t => t.get64 CNT_CIP_LEN_REJECT = (s.get64 CNT_CIP_LEN_REJECT + 1) % 2 ^ 64 ∧ t.cip = s.cip ∧ t.cmdq = s.cmdq ∧ t.red = s.red) ∧
  (∀ (s : State) (pipe : Fin 32) (q : CipReq) (c : Cmd) (b b2 : Nat) (bs : List Nat) (x y : Piece), s.powered = true → s.pipe pipe = [q] → q.enc = false → q.owner < 2 ^ 32 → q.blocks = b :: b2 :: bs → s.cmd? q.owner = some c → c.cipher = true → c.pieces = [x, y] → x.block = b → y.block ≠ b → x.recon = false → y.plain = none →
      NextIs (exec (.sectorVerified pipe) s) fun t => (match s.openPiece c.vol x with
        | .ok w => decide (t.pipe pipe = [{ q with blocks := b2 :: bs }] ∧ t.cmd? q.owner = some { c with pieces := [{ x with plain := some w }, y] } ∧ t.get64 CNT_CIP_DEC_SECTORS = (s.get64 CNT_CIP_DEC_SECTORS + 1) % 2 ^ 64 ∧ t.rdm = s.rdm ∧ t.red = s.red)
        | _ => decide (t = s)) = true) ∧
  (∀ (s : State) (pipe : Fin 32) (q : CipReq), s.powered = true → s.pipe pipe = [q] → q.enc = false → 2 ^ 32 ≤ q.owner → q.blocks.length = 1 →
      NextIs (exec (.sectorVerified pipe) s) fun t => t.pipe pipe = [] ∧ t.fld (CIP_PIPE_STAT_QUEUED pipe) = 0 ∧ t.get64 CNT_CIP_DEC_SECTORS = (s.get64 CNT_CIP_DEC_SECTORS + 1) % 2 ^ 64 ∧ t.cmdq = s.cmdq ∧ t.cip.slots = s.cip.slots) ∧
  (∀ (s : State) (pipe : Fin 32) (partner : Option Nat) (q : CipReq) (c : Cmd) (x : Piece) (seq : Nat) (r : JRec), s.powered = true → s.partnered = false → s.pipe pipe = [q] → q.enc = false → q.blocks = [x.block] → s.cmd? q.owner = some c → c.pieces = [x] → x.src = .journal seq → s.openPiece c.vol x = .fail →
      s.red.journal.find? (fun y => y.seq == seq) = some r → r.dirty = [] → c.kind = .read → c.queue = none →
      NextIs (exec (.authFailure pipe partner) s) fun t => t.red.journal = s.red.journal.filter (fun y => y.seq != r.seq) ∧ t.pipe pipe = [] ∧ (t.cmd? q.owner).map (fun y => (y.state, y.status)) = some (.done, 0x7C1)) ∧
  (∀ (s : State) (pipe : Fin 32) (w : Nat) (q : CipReq) (c : Cmd) (x : Piece) (r : JRec), s.powered = true → s.partnered = true → s.pipe pipe = [q] → q.enc = false → q.blocks = [x.block] → s.cmd? q.owner = some c → c.pieces = [x] → x.src = .journal r.seq → s.openPiece c.vol x = .fail → s.red.journal = [r] →
      NextIs (exec (.authFailure pipe (some w)) s) fun t => t.red.journal = [{ r with data := r.data.set (x.block - r.slba) w }] ∧ t.cmd? q.owner = some { c with cipher := false, pieces := [{ x with stored := some w }] } ∧ t.pipe pipe = [] ∧ t.get64 CNT_CIP_AUTH_FAIL = (s.get64 CNT_CIP_AUTH_FAIL + 1) % 2 ^ 64) ∧
  (∀ (s : State) (req : Requester), s.Admits req CIP_CTL → s.cip.kat = [] →
      NextIs (exec (.katRun req) s) fun t => t.cip.kat = (List.range 32).filter (fun p => !s.flag (CIP_PIPE_STAT_RETIRED p)) ∧ t.flag CIP_STAT_KAT_BUSY = !t.cip.kat.isEmpty ∧ t.fld CIP_STAT_LIVE = t.cip.kat.length ∧ RegsOnly [CIP_STAT] { s with cip := t.cip } t) ∧
  (∀ (s : State) (pipe : Fin 32) (rest : List Nat), s.powered = true → s.cip.kat = pipe.val :: rest → s.pipe pipe = [] →
      NextIs (exec (.katComplete pipe true) s) fun t => t.cip = { s.cip with kat := rest } ∧ t.flag CIP_STAT_KAT_BUSY = !rest.isEmpty ∧ RegsOnly [CIP_STAT] { s with cip := t.cip } t) ∧
  (∀ (s : State) (pipe : Fin 32) (rest : List Nat), s.powered = true → s.cip.kat = pipe.val :: rest → s.pipe pipe = [] →
      NextIs (exec (.katComplete pipe false) s) fun t => t.cip = { s.cip with kat := rest } ∧ t.flag (CIP_PIPE_STAT_RETIRED pipe) = true ∧ t.get64 CNT_CIP_KAT_FAIL = (s.get64 CNT_CIP_KAT_FAIL + 1) % 2 ^ 64 ∧ CountsOnly [CIP_STAT, CIP_PIPE_STAT pipe, CNT_CIP_KAT_FAIL, CNT_CIP_KAT_FAIL + 4] { s with cip := t.cip } t) ∧
  (∀ (s : State) (n : Fin 4) (slot : Fin 4096), s.Admits (.mc n) CIP_HWM_ACK → s.flag (CIP_KS_STAT_REQ slot) = true → s.mirroring = false →
      NextIs (exec (.hwmAck (.mc n) slot) s) fun t => t.slot slot = { s.slot slot with hwm := min ((s.slot slot).hwm + 2 ^ (min 40 (max 20 (s.fld CIP_CTL_BLK_SHIFT)))) s.cipLimit } ∧
        (s.blkK / 4 ≤ (t.slot slot).hwm - (t.slot slot).ctr → t.flag (CIP_KS_STAT_REQ slot) = false ∧ t.cip.hwmReq = s.cip.hwmReq) ∧ t.fld (CIP_KS_STAT_STATE slot) = s.fld (CIP_KS_STAT_STATE slot) ∧ t.red = s.red) ∧
  (∀ (s : State) (req : Requester) (slot : Fin 4096), s.Admits req CIP_HWM_ACK → (s.flag (CIP_KS_STAT_REQ slot) = false ∨ ∀ n, req ≠ .mc n) → exec (.hwmAck req slot) s = .next s.malformed) ∧
  (∀ (s : State) (slot : Fin 4096), s.powered = true → s.fld (CIP_KS_STAT_STATE slot) = 3 → s.slotQueued slot = false → s.mirroring = false →
      NextIs (exec (.zeroizeComplete slot) s) fun t => t.reg (CIP_KS_STAT slot) = 0 ∧ tget? t.cip.slots slot = none ∧ t.cip.hwmReq = s.cip.hwmReq.filter (fun x => x != slot.val) ∧ t.fld CIP_KS_RESULT_RESULT = 0 ∧ t.fld CIP_KS_RESULT_SLOT = slot.val ∧ RegsOnly [CIP_KS_STAT slot, CIP_KS_RESULT, CIP_HWM_REQ] { s with cip := t.cip } t) ∧
  (∀ (s : State) (req : Requester) (slot : Fin 4096), s.Admits req CIP_KS_RDCMD →
      NextIs (exec (.keySlotRead req slot) s) fun t => t.get64 CIP_KS_CTR = (s.slot slot).ctr % 2 ^ 64 ∧ t.get64 CIP_KS_HWM = (s.slot slot).hwm % 2 ^ 64 ∧ t.fld CIP_KS_SALT_SALT = (s.slot slot).salt % 2 ^ 32 ∧ t.fld CIP_KS_RDCMD_INDEX = slot.val ∧ t.cip = s.cip)

/-- A trained group is up with a full credit limit; a group that fails starts a new attempt later. A message in order is applied and acknowledged by a HEARTBEAT; one out of order is discarded with a single NAK. A resend repeats the kept messages; after 8 the group is down and its messages move to another. MIRROR, META, CFG, EPOCH messages each have their effect on the receiver's copy. Where the spec leaves a point open the clauses hold of the model's choice (log entries 84, 85, 160, 161, 162, 163, 164, 178). -/
def Obligations.NarzanLink : Prop :=
  (∀ (s : State) (group : Fin 4) (codes : List (Fin 6)), s.running = true → s.mode ≠ 2 → s.flag NZL_CTL_EN = true → (s.grp group).training = true → s.grpUp group = false → (s.grp group).queue = [] → (∀ c ∈ codes, c = 0 ∨ c = 5) → s.liveGrps = [] →
      NextIs (exec (.nzlGroupTrained group codes) s) fun t => t.grpUp group = true ∧ t.flag (NZL_GRP_STAT_UP group) = true ∧ t.grp group = { heard := s.clock.nowNs } ∧ (t.grp group).limit = 1024 ∧ t.fld (NZL_GRP_STAT_CREDIT group) = 1024 ∧ t.nzl.applied = [] ∧ t.red = s.red) ∧
  (∀ (s : State) (group : Fin 4) (codes : List (Fin 6)), s.running = true → s.mode = 2 → s.fld NZL_STAT_HS = 0 → s.flag NZL_CTL_EN = true → (s.grp group).training = true → s.grpUp group = false → (s.grp group).queue = [] → (∀ c ∈ codes, c = 0 ∨ c = 5) → s.liveGrps = [] →
      NextIs (exec (.nzlGroupTrained group codes) s) fun t => t.grpUp group = true ∧ t.fld NZL_STAT_HS = 1 ∧ t.nzl.hsSent = true ∧ (t.grp group).kept.map (fun m => m.body) = [.cfg [s.handshake]]) ∧
  (∀ (s : State) (group : Fin 4) (codes : List (Fin 6)), s.running = true → s.flag NZL_CTL_EN = true → (s.grp group).training = false → s.grpUp group = false →
      NextIs (exec (.nzlGroupRetry group codes) s) fun t => (t.grp group).training = !(codes.any (fun c => decide (1 ≤ c.val ∧ c.val ≤ 4))) ∧ t.fld (NZL_GRP_STAT_LANE group) = laneCodes codes % 2 ^ 16 ∧ RegsOnly [NZL_GRP_STAT group] { s with nzl := t.nzl } t) ∧
  (∀ (s : State) (group : Fin 4), s.running = true → (s.grp group).training = true →
      exec (.nzlTrainingFail group) s = .next { s with nzl := { s.nzl with grps := tput s.nzl.grps group { s.grp group with training := false } } }) ∧
  (∀ (s : State) (group : Fin 4) (h : Nat), s.running = true → s.grpUp group = true → s.liveGrps.filter (fun g => g != group.val) = [h] → (s.grp h).queue = [] → ((s.grp group).kept ++ (s.grp group).queue).foldl (fun n m => n + m.frames) 0 ≤ (s.grp h).credit →
      NextIs (exec (.nzlGroupLinkLoss group) s) fun t => t.grpUp group = false ∧ t.flag (NZL_GRP_STAT_UP group) = false ∧ t.grp group = {} ∧ t.fld (NZL_GRP_STAT_CREDIT group) = 0 ∧ (t.grp h).queue = [] ∧
        (t.grp h).kept.map (fun m => (m.id, m.body)) = ((s.grp h).kept ++ (s.grp group).kept ++ (s.grp group).queue).map (fun m => (m.id, m.body))) ∧
  (∀ (s : State) (group : Fin 4), s.running = true → s.liveGrps = [group.val] →
      NextIs (exec (.nzlGroupLinkLoss group) s) fun t => t.liveGrps = [] ∧ t.flag NZL_STAT_PRESENT = false ∧ (t.grp group).queue.map (fun m => m.body) = ((s.grp group).kept ++ (s.grp group).queue).map (fun m => m.body) ∧ (t.grp group).kept = []) ∧
  (∀ (s : State) (group : Fin 4) (frames : Nat), s.running = true → s.grpUp group = true → (s.grp group).skip = false → (s.grp group).expect < 2 ^ 32 →
      NextIs (exec (.nzlBadFrame group frames) s) fun t => t.lastAck group ((s.grp group).ackSeq) true = true ∧ t.grp group = { s.grp group with skip := true } ∧ t.get64 CNT_NZL_RX_BAD = (s.get64 CNT_NZL_RX_BAD + 1) % 2 ^ 64 ∧ t.get64 CNT_NZL_NAK_TX = (s.get64 CNT_NZL_NAK_TX + 1) % 2 ^ 64 ∧
        t.get64 CNT_NZL_RX_FRAMES = (s.get64 CNT_NZL_RX_FRAMES + max 1 frames) % 2 ^ 64 ∧ t.red = s.red) ∧
  (∀ (s : State) (group : Fin 4) (m : NzlMsg) (r : JRec) (o n : Nat), s.running = true → s.grpUp group = true → m.seq ≠ (s.grp group).expect → (s.grp group).skip = true → m.body = .mirror r o n →
      NextIs (exec (.mirrorRx group m) s) fun t => t.red = s.red ∧ t.out = s.out ∧ t.nzl = s.nzl ∧ t.get64 CNT_NZL_RX_BAD = (s.get64 CNT_NZL_RX_BAD + 1) % 2 ^ 64 ∧ t.get64 CNT_NZL_NAK_TX = s.get64 CNT_NZL_NAK_TX) ∧
  (∀ (s : State) (group : Fin 4) (m : NzlMsg) (r : JRec) (len : Nat), s.RxReady group m → s.mode = 6 → s.flag NZL_STAT_STALE = false → m.body = .mirror r 0 len → len = r.bytes → tget? s.nzl.parts r.seq = none → (∀ x ∈ s.red.journal, x.seq < r.seq ∧ (x.vol ≠ r.vol ∨ ∀ y ∈ x.dirty, y.1 + y.2 ≤ r.slba)) → s.red.journal.all (fun x => !(x.dirty.isEmpty && x.img.isEmpty)) = true →
      NextIs (exec (.mirrorRx group m) s) fun t => t.red.journal = s.red.journal ++ [r] ∧ t.red.jseq = max s.red.jseq (r.seq + 1) ∧ t.nzl.applied = s.nzl.applied ++ [m.id] ∧ t.lastAck group m.seq false = true ∧
        t.grp group = { s.grp group with expect := ((s.grp group).expect + 1) % 2 ^ 32, skip := false, freed := (s.grp group).freed + m.frames, heard := s.clock.nowNs, limit := m.credit }) ∧
  (∀ (s : State) (group : Fin 4) (m : NzlMsg) (r : JRec) (o n : Nat), s.running = true → s.grpUp group = true → m.seq = (s.grp group).expect → (s.grp group).expect < 2 ^ 32 → (s.grp group).kept = [] → (s.grp group).queue = [] → s.nzl.stream = [] → s.nzl.applied.contains m.id = true → m.body = .mirror r o n →
      NextIs (exec (.mirrorRx group m) s) fun t => t.red = s.red ∧ t.lastAck group m.seq false = true ∧ t.get64 CNT_NZL_DUP_MSG = (s.get64 CNT_NZL_DUP_MSG + 1) % 2 ^ 64) ∧
  (∀ (s : State) (group : Fin 4) (m : NzlMsg) (v n k st hwm rec : Nat), s.RxReady group m → s.mode = 6 → s.flag NZL_STAT_STALE = false → v < 4096 → st ≠ 0 → m.body = .metaItems [.keyBind v n true, .keySlot k st hwm rec] →
      NextIs (exec (.metaRx group m) s) fun t => t.fld (CIP_VOL_KEY_SLOT v) = n % 4096 ∧ t.flag (CIP_VOL_KEY_EN v) = true ∧ t.nzl.keys = tput s.nzl.keys k (st, hwm, rec) ∧ t.lastAck group m.seq false = true ∧ t.red = s.red) ∧
  (∀ (s : State) (group : Fin 4) (m : NzlMsg) (l : List NzlItem) (kind : Nat), s.RxReady group m → s.mode = 6 → s.flag NZL_STAT_STALE = false → m.body = .metaItems (l ++ [.reserved kind]) →
      NextIs (exec (.metaRx group m) s) fun t => t.red = s.red ∧ t.get64 CNT_NZL_RX_BAD = (s.get64 CNT_NZL_RX_BAD + 1) % 2 ^ 64) ∧
  (∀ (s : State) (group : Fin 4) (m : NzlMsg) (off : Nat) (val : Word) (img mp base jrn map kcv gen : Nat), s.RxReady group m → s.inService = false → s.nzl.hsSent = true → s.prot.gen ≤ gen → m.body = .cfg [.reg off val, .handshake img mp base jrn map kcv gen] →
      NextIs (exec (.cfgRx group m) s) fun t => t.nzl.regs = tput s.nzl.regs off val ∧ t.nzl.peerHs = some ⟨img, mp, base, jrn, map, kcv, gen⟩ ∧ t.fld NZL_PEER_IMG_VER = img % 2 ^ 16 ∧ t.fld NZL_PEER_BASE = base % 16 ∧ t.lastAck group m.seq false = true) ∧
  (∀ (s : State) (group : Fin 4) (m : NzlMsg) (rest : List NzlMsg), s.running = true → s.grpUp group = true → (s.grp group).kept = m :: rest → m.tries < 8 →
      NextIs (exec (.nzlReplayTimeout group) s) fun t => (t.grp group).kept.map (fun x => (x.seq, x.body)) = (m :: rest).map (fun x => (x.seq, x.body)) ∧ (t.grp group).kept.map (fun x => (x.tries, x.sent)) = (m.tries + 1, s.clock.nowNs) :: rest.map (fun x => (x.tries, s.clock.nowNs)) ∧
        t.out.length = s.out.length + rest.length + 1 ∧ t.get64 CNT_NZL_REPLAYS = (s.get64 CNT_NZL_REPLAYS + 1) % 2 ^ 64) ∧
  (∀ (s : State) (group : Fin 4) (m : NzlMsg) (rest : List NzlMsg), s.running = true → s.grpUp group = true → (s.grp group).kept = m :: rest → 8 ≤ m.tries →
      NextIs (exec (.nzlReplayTimeout group) s) fun t => t.grpUp group = false ∧ t.get64 CNT_NZL_GROUP_DOWN = (s.get64 CNT_NZL_GROUP_DOWN + 1) % 2 ^ 64) ∧
  (∀ (s : State) (group : Fin 4), s.powered = true → s.grpUp group = true →
      NextIs (exec (.heartbeatSend group) s) fun t => t.out = .nzl group { seq := ((s.grp group).next + 2 ^ 32 - 1) % 2 ^ 32, ack := ((s.grp group).expect + 2 ^ 32 - 1) % 2 ^ 32, credit := (1024 + (s.grp group).freed) % 2 ^ 16, sent := s.clock.nowNs, body := .heartbeat (if s.nzl.leaving then 0 else s.mode) (s.flag NZL_STAT_STALE) (s.flag NZL_STAT_IN_STEP) (s.flag NZL_STAT_RESYNC) (s.flag NZL_STAT_LOSS_HOLD) s.sys.imgVersion (s.fld NZL_CLAIM_BASE) s.prot.gen false } :: s.out ∧ t.nzl = s.nzl ∧ t.red = s.red) ∧
  (∀ (s : State) (group : Fin 4) (m : NzlMsg) (epoch b v w : Nat) (x : Vol), s.RxReady group m → s.mode = 6 → s.flag NZL_STAT_STALE = false → m.body = .snapArm epoch b [(v, w)] → v ≠ w → tget? s.red.vols v = some x → s.MapsOk → v < 4096 → w < 4096 → s.liveGrps = [group.val] → (s.grp group).frames % 2 ^ 16 < m.credit → m.credit < 2 ^ 16 →
      NextIs (exec (.snapshotArmRx group m) s) fun t => (tget? t.red.vols w).map (fun y => (y.imageOf, y.imageB, y.imageWait)) = some (some v, b, true) ∧ tget? t.red.vols v = some x ∧ (t.out.drop 1).head?.map (fun o => match o with | .nzl _ y => decide (y.body = .armed epoch b) | _ => false) = some true) ∧
  (∀ (s : State) (group : Fin 4) (m : NzlMsg) (epoch b : Nat), s.RxReady group m → s.serving = true → m.body = .armed epoch b → s.eng.globalOp = 3 → s.eng.armSent = true → s.fld ENG_EPOCH_EPOCH = epoch → s.flag ENG_GLOBAL_STAT_ARMED = false →
      NextIs (exec (.snapshotArmedRx group m) s) fun t => t.flag ENG_GLOBAL_STAT_ARMED = true ∧ t.fld ENG_GLOBAL_STAT_PHASE = 3 ∧ t.lastAck group m.seq false = true ∧ t.red = s.red) ∧
  (∀ (s : State) (group : Fin 4) (m : NzlMsg) (epoch jseq : Nat), s.RxReady group m → s.mode = 6 → s.flag NZL_STAT_STALE = false → m.body = .swapEnd epoch jseq →
      NextIs (exec (.swapEndRx group m) s) fun t => t.nzl.swapEnd = some (m.id, jseq) ∧ t.nzl.applied = s.nzl.applied ++ [m.id] ∧ t.lastAck group m.seq false = true ∧ t.red = s.red ∧ t.mode = 6)

/-- A HEARTBEAT shows the partner's mode, image and base; NAK repeats the kept messages; a mode outside 3–6 is a loss. A loss is recorded with its cause, counted, and fences every live group; a serving part holds PARTNER for 300 µs, then clears it. A fence makes a standby STALE and turns a serving part into a STALE standby. The handshake is judged by sizes, KEK, bases and images. Resynchronisation ends on both sides. Where the spec leaves a point open the clauses hold of the model's choice (log entries 84, 160, 161, 162, 165, 166, 167, 168, 169, 170). -/
def Obligations.PartnerLoss : Prop :=
  (∀ (s : State) (group : Fin 4) (m : NzlMsg) (mode : Nat) (stale inStep resync hold : Bool) (img base gen : Nat), s.running = true → s.mode = 6 → s.grpUp group = true → (s.grp group).kept = [] → (s.grp group).queue = [] → s.nzl.stream = [] → s.nzl.lost = false → s.flag NZL_STAT_STALE = false → 3 ≤ mode % 8 → mode % 8 ≤ 6 → m.body = .heartbeat mode stale inStep resync hold img base gen false →
      NextIs (exec (.heartbeatRx group m) s) fun t => t.fld NZL_STAT_PEER_MODE = mode % 8 ∧ t.fld NZL_PEER_IMG_VER = img % 2 ^ 16 ∧ t.fld NZL_PEER_BASE = base % 16 ∧ t.flag NZL_STAT_PRESENT = true ∧ t.nzl.paired = true ∧ (t.nzl.peerStale, t.nzl.peerStep, t.nzl.peerResync) = (stale, inStep, resync) ∧
        t.grp group = { s.grp group with heard := s.clock.nowNs, limit := m.credit } ∧ t.get64 CNT_NZL_RX_FRAMES = (s.get64 CNT_NZL_RX_FRAMES + 1) % 2 ^ 64 ∧ t.red = s.red ∧ t.mode = 6) ∧
  (∀ (s : State) (group : Fin 4) (m : NzlMsg) (mode : Nat) (stale inStep resync hold : Bool) (img base gen : Nat), s.running = true → s.mode = 6 → s.grpUp group = true → (s.grp group).kept = [] → (s.grp group).queue = [] → s.nzl.stream = [] → s.nzl.paired = true → (mode % 8 < 3 ∨ mode % 8 = 7) → m.body = .heartbeat mode stale inStep resync hold img base gen false →
      NextIs (exec (.heartbeatRx group m) s) fun t => t.fld NZL_STAT_LOSS = 4 ∧ t.nzl.lost = true ∧ t.nzl.paired = false ∧ t.get64 CNT_NZL_PARTNER_LOST = (s.get64 CNT_NZL_PARTNER_LOST + 1) % 2 ^ 64 ∧ t.mode = 6 ∧ t.red = s.red) ∧
  (∀ (s : State) (group : Fin 4) (m x y : NzlMsg) (mode : Nat) (stale inStep resync hold : Bool) (img base gen : Nat), s.running = true → s.mode = 6 → s.grpUp group = true → (s.grp group).kept = [x, y] → (s.grp group).queue = [] → s.nzl.stream = [] → s.nzl.lost = false → s.flag NZL_STAT_STALE = false → 3 ≤ mode % 8 → mode % 8 ≤ 6 → x.seq = m.ack → y.seq ≠ m.ack →
      x.body.jseq = none → m.body = .heartbeat mode stale inStep resync hold img base gen true →
      NextIs (exec (.heartbeatRx group m) s) fun t => (t.grp group).kept.map (fun z => (z.seq, z.body, z.tries)) = [(y.seq, y.body, y.tries + 1)] ∧ t.out.length = s.out.length + 1 ∧ t.get64 CNT_NZL_REPLAYS = (s.get64 CNT_NZL_REPLAYS + 1) % 2 ^ 64) ∧
  (∀ (s : State) (group : Fin 4) (m : NzlMsg) (loss : Nat), s.RxReady group m → s.mode = 6 → s.MapsOk → m.body = .fence loss →
      NextIs (exec (.fenceRx group m) s) fun t => t.flag NZL_STAT_STALE = true ∧ t.mode = 6 ∧ (s.flag NZL_STAT_STALE = false → t.red.journal = [] ∧ t.red.sets = [] ∧ t.red.vols = [] ∧ t.nzl.keys = [] ∧ t.flag NZL_STAT_IN_STEP = false) ∧ (s.nzl.paired = true → t.fld NZL_STAT_LOSS = 3 ∧ t.nzl.lost = true)) ∧
  (∀ (s : State) (group : Fin 4) (m : NzlMsg) (loss : Nat), s.RxReady group m → s.serving = true → s.MapsOk → m.body = .fence loss →
      NextIs (exec (.fenceRx group m) s) fun t => t.mode = 6 ∧ t.fld SYS_MODE_CAUSE = 4 ∧ t.flag NZL_STAT_STALE = true ∧ t.flag SYS_MODE_PARTNER = false ∧ t.red.journal = [] ∧ t.red.sets = [] ∧ t.red.vols = [] ∧ t.dpt.todo = [] ∧ t.cch.fills = []) ∧
  (∀ (s : State) (group : Fin 4) (m : NzlMsg) (loss : Nat), s.RxReady group m → s.mode = 2 → m.body = .fence loss →
      NextIs (exec (.fenceRx group m) s) fun t => t.mode = 2 ∧ t.red = s.red ∧ t.flag NZL_STAT_STALE = s.flag NZL_STAT_STALE ∧ t.lastAck group m.seq false = true) ∧
  (∀ (s : State), s.running = true → s.serving = false → s.nzl.paired = true →
      NextIs (exec .partnerSilenceTimeout s) fun t => t.fld NZL_STAT_LOSS = 1 ∧ t.flag NZL_STAT_PRESENT = false ∧ t.nzl.lost = true ∧ t.nzl.won = false ∧ t.get64 CNT_NZL_PARTNER_LOST = (s.get64 CNT_NZL_PARTNER_LOST + 1) % 2 ^ 64 ∧ t.mode = s.mode ∧ t.red = s.red) ∧
  (∀ (s : State), s.running = true → s.serving = true → s.partnered = true → s.nzl.paired = true → s.nzl.pause = .none → s.nzl.grps.any (fun e => e.2.kept.any (fun m => m.body.isData)) = true →
      NextIs (exec .ackStallTimeout s) fun t => t.fld NZL_STAT_LOSS = 2 ∧ t.flag NZL_STAT_LOSS_HOLD = true ∧ t.flag SYS_MODE_PARTNER = true ∧ t.mode = s.mode ∧ t.nzl.lost = true ∧ t.cmdq = s.cmdq ∧ t.red = s.red ∧ t.get64 CNT_NZL_PARTNER_LOST = (s.get64 CNT_NZL_PARTNER_LOST + 1) % 2 ^ 64) ∧
  (∀ (s : State) (req : Requester), s.Admits req NZL_CTL → s.mode = 6 → s.nzl.lost = false → (∀ g ∈ s.liveGrps, (s.grp g).queue = [] ∧ (s.grp g).credit ≠ 0) →
      NextIs (exec (.fenceWrite req) s) fun t => t.fld NZL_STAT_LOSS = 5 ∧ t.nzl.lost = true ∧ (∀ g ∈ s.liveGrps, (t.grp g).kept.map (fun m => m.body) = (s.grp g).kept.map (fun m => m.body) ++ [.fence 5]) ∧ t.red = s.red ∧ t.mode = 6) ∧
  (∀ (s : State), s.mode = 6 → s.sys.hold = .none → s.nzl.lost = true → s.nzl.won = false → s.flag NZL_STAT_STALE = false → s.MapsOk →
      NextIs (exec .staleTimeout s) fun t => t.flag NZL_STAT_STALE = true ∧ t.red.journal = [] ∧ t.red.sets = [] ∧ t.red.vols = [] ∧ t.red.lost = [] ∧ t.nzl.keys = [] ∧ t.nzl.locks = [] ∧ t.mode = 6 ∧ (s.red.saved = none → t.red.saved.map (fun x => x.1) = some s.red.sets ∧ t.red.saved.map (fun x => x.2.1) = some s.red.vols)) ∧
  (∀ (s : State), s.serving = true → s.sys.hold = .none → s.flag NZL_STAT_LOSS_HOLD = true → s.flag NZL_STAT_RESYNC = false → keysRise s.cmdq.cmds = true → (∀ e ∈ s.cmdq.cmds, e.2.mirror.isSome = true → e.1 < 65536) →
      NextIs (exec .lossHoldExpiry s) fun t => t.flag NZL_STAT_LOSS_HOLD = false ∧ t.flag SYS_MODE_PARTNER = false ∧ t.mode = s.mode ∧ (∀ e ∈ t.nzl.grps, e.2.kept = [] ∧ e.2.queue = []) ∧ (∀ e ∈ t.cmdq.cmds, e.2.mirror = none)) ∧
  (∀ (s : State) (p : PeerHs), s.nzl.peerHs = some p → s.mode = 2 → s.sys.hold = .none → s.fld NZL_STAT_HS ≤ 1 → p.jrn = s.fld DMC_CFG_JRN_GIB → p.map = s.fld DMC_CFG_MAP_GIB → p.kcv = s.fld CIP_KEK_KCV → p.base ≠ s.fld NZL_CLAIM_BASE → s.sys.imgMinPartner ≤ p.img → p.minPartner ≤ s.sys.imgVersion →
      NextIs (exec .partnerHandshake s) fun t => t.fld NZL_STAT_HS = 2 ∧ t.red = s.red ∧ t.mode = 2) ∧
  (∀ (s : State) (p : PeerHs), s.nzl.peerHs = some p → s.mode = 2 → s.sys.hold = .none → s.fld NZL_STAT_HS ≤ 1 →
      NextIs (exec .partnerHandshake s) fun t => (p.jrn ≠ s.fld DMC_CFG_JRN_GIB ∨ p.map ≠ s.fld DMC_CFG_MAP_GIB → t.fld NZL_STAT_HS = 4) ∧
        (p.jrn = s.fld DMC_CFG_JRN_GIB → p.map = s.fld DMC_CFG_MAP_GIB → p.kcv ≠ s.fld CIP_KEK_KCV → t.fld NZL_STAT_HS = 5) ∧
        (p.jrn = s.fld DMC_CFG_JRN_GIB → p.map = s.fld DMC_CFG_MAP_GIB → p.kcv = s.fld CIP_KEK_KCV → p.base = s.fld NZL_CLAIM_BASE → t.fld NZL_STAT_HS = 6)) ∧
  (∀ (s : State), s.nzl.peerHs = none → s.mode = 2 → s.sys.hold = .none → s.fld NZL_STAT_HS ≤ 1 → NextIs (exec .handshakeTimeout s) fun t => t.fld NZL_STAT_HS = 3 ∧ RegsOnly [NZL_STAT] s t) ∧
  (∀ (s : State), s.serving = true → s.sys.hold = .none → s.flag NZL_STAT_RESYNC = true → s.nzl.stream = [] → s.nzl.grps = [(3, {})] → s.liveGrps = [3] →
      NextIs (exec .resyncComplete s) fun t => t.flag NZL_STAT_RESYNC = false ∧ t.fld NZL_RESYNC_PCT = 100 ∧ t.out.length = s.out.length + 1 ∧ t.red = s.red ∧ t.mode = s.mode) ∧
  (∀ (s : State), s.mode = 6 → s.sys.hold = .none → s.flag NZL_STAT_RESYNC = true → s.flag NZL_STAT_STALE = true → s.nzl.peerResync = false →
      NextIs (exec .resyncComplete s) fun t => t.flag NZL_STAT_RESYNC = false ∧ t.flag NZL_STAT_STALE = false ∧ t.flag NZL_STAT_IN_STEP = true ∧ t.nzl.paired = true ∧ t.nzl.lost = false ∧ t.red = { s.red with saved := none })

/-- A round sends the claim of its start: SERVING, READY, SCORE, BASE, or 0. At its end the value sampled is latched and the stages follow. A standby that lost its partner and wins takes over with CAUSE 5; a serving part that has sent SWAP_END and loses goes to TWILIGHT in step. A committed part learns its role. A disagreeing report sets CLAIM_FAULT, and 10 rounds without one clear it. Admission opens when every acquire has finished. Where the spec leaves a point open the clauses hold of the model's choice (log entries 134, 156, 169, 173, 174, 175, 176, 177). -/
def Obligations.ClaimsTakeoverSwaps : Prop :=
  (∀ (s : State) (score base : Nat), s.nzl.round = none → s.running = true → s.serving = true → s.flag NZL_STAT_STALE = false → s.nzl.hold0 = false → score = s.fld NZL_CLAIM_SCORE → score ≠ 0 → base = s.fld NZL_CLAIM_BASE → s.flag SLP_STAT_HELD = false → s.slp.vhvLow = false → s.nzl.pause = .none → s.nzl.leaving = false →
      NextIs (exec .claimRoundStart s) fun t => t.nzl = { s.nzl with round := some (0xC000 + score * 16 + base) } ∧ t.flag NZL_CLAIM_READY = true ∧ t.flag NZL_CLAIM_SERVING = true ∧ RegsOnly [NZL_CLAIM] { s with nzl := t.nzl } t) ∧
  (∀ (s : State), s.nzl.round = none → s.running = true → (s.flag NZL_STAT_STALE = true ∨ s.fld NZL_CLAIM_SCORE = 0 ∨ s.mode = 2 ∧ s.fld SYS_CFG_STATUS ≠ 3 ∨ s.flag NZL_STAT_CLAIM_FAULT = true ∧ s.serving = false) →
      NextIs (exec .claimRoundStart s) fun t => t.nzl = { s.nzl with round := some 0 } ∧ t.flag NZL_CLAIM_READY = false ∧ t.flag NZL_CLAIM_SERVING = false) ∧
  (∀ (s : State) (win : Fin 65536) (slots : Word) (feeds : Fin 4) (c : Nat), s.nzl.round = some c → s.running = true → s.serving = true → s.nzl.pause = .none → s.slp.vhvLow = false → s.nzl.stage = .drive → c = win.val → c ≠ 0 → s.flag NZL_STAT_CLAIM_FAULT = false → s.liveGrps = [] →
      NextIs (exec (.claimRoundEnd win slots feeds) s) fun t => t.fld NZL_CLAIM_STAT_SENT = c ∧ t.fld NZL_CLAIM_STAT_WIN = win.val ∧ t.nzl = { s.nzl with round := none } ∧ t.get64 CNT_NZL_CLAIM_ROUNDS = (s.get64 CNT_NZL_CLAIM_ROUNDS + 1) % 2 ^ 64 ∧ t.mode = s.mode ∧ t.slp = s.slp ∧
        RegsOnly [NZL_CLAIM_STAT, NZL_SWAP_LEFT, CNT_NZL_CLAIM_ROUNDS, CNT_NZL_CLAIM_ROUNDS + 4] { s with nzl := t.nzl } t) ∧
  (∀ (s : State) (win : Fin 65536) (slots : Word) (feeds : Fin 4) (c : Nat), s.nzl.round = some c → s.running = true → s.mode = 6 → s.flag NZL_STAT_STALE = false → s.nzl.lost = true → s.slp.vhvLow = false → s.nzl.stage = .watch → c = win.val → c ≠ 0 → s.flag NZL_STAT_CLAIM_FAULT = false → s.flag SYS_MODE_DEGRADED = false → s.flag SYS_MODE_CLAMP = false → s.red.sets = [] → s.nzl.keys = [] →
      s.liveGrps = [] →
      NextIs (exec (.claimRoundEnd win slots feeds) s) fun t => t.mode = 3 ∧ t.fld SYS_MODE_CAUSE = 5 ∧ t.flag SYS_MODE_PARTNER = false ∧ t.nzl.pause = .takeover ∧ t.nzl.stage = .drive ∧ t.fld CMDQ_STAT_ANA = 15 ∧ t.get64 CNT_NZL_TAKEOVERS = (s.get64 CNT_NZL_TAKEOVERS + 1) % 2 ^ 64 ∧ t.nzl.won = true ∧ t.cch.main = []) ∧
  (∀ (s : State) (win : Fin 65536) (slots : Word) (feeds : Fin 4) (c : Nat), s.nzl.round = some c → s.running = true → s.mode = 6 → s.flag NZL_STAT_STALE = false → s.nzl.lost = true → s.slp.vhvLow = false → claimWins c win.val = true → s.nzl.keys = [] → s.MapsOk → (∀ m ∈ s.setMembers, m < 128) → s.liveGrps = [] →
      NextIs (exec (.claimRoundEnd win slots feeds) s) fun t => t.serving = true ∧ t.flag SYS_MODE_PARTNER = false ∧ t.nzl.pause = .takeover ∧ t.nzl.stage = .drive ∧ t.fld CMDQ_STAT_ANA = 15 ∧ t.red.journal = s.red.journal ∧ t.red.vols = s.red.vols) ∧
  (∀ (s : State) (win : Fin 65536) (slots : Word) (feeds : Fin 4) (c : Nat), s.nzl.round = some c → s.running = true → s.mode = 6 → s.slp.vhvLow = false → claimWins c win.val = false → win.val ≠ 0 → s.flag NZL_STAT_CLAIM_FAULT = false → s.liveGrps = [] →
      NextIs (exec (.claimRoundEnd win slots feeds) s) fun t => t.mode = 6 ∧ t.nzl = { s.nzl with round := none, stage := .watch } ∧ t.fld SLP_STAT_STAGE = 2 ∧ t.slp = s.slp ∧ t.red = s.red ∧ t.fld NZL_CLAIM_STAT_WIN = win.val) ∧
  (∀ (s : State) (win : Fin 65536) (slots : Word) (feeds : Fin 4) (c : Nat), s.nzl.round = some c → s.slp.vhvLow = false → s.sys.hold = .none → s.nzl.stage = .drive → win.val = 0 → s.flag NZL_STAT_LOSS_HOLD = false →
      NextIs (exec (.claimRoundEnd win slots feeds) s) fun t => t.nzl.stage = .hold ∧ t.fld SLP_STAT_STAGE = 1 ∧ t.slp = s.slp) ∧
  (∀ (s : State) (win : Fin 65536) (slots : Word) (feeds : Fin 4), s.nzl.round = some 0 → s.running = true → s.serving = true → s.nzl.pause = .ended → s.nzl.handback = false → s.slp.vhvLow = false → win.val ≠ 0 → s.liveGrps = [] →
      NextIs (exec (.claimRoundEnd win slots feeds) s) fun t => t.mode = 6 ∧ t.fld SYS_MODE_CAUSE = 6 ∧ t.flag SYS_MODE_PARTNER = false ∧ t.flag NZL_STAT_IN_STEP = true ∧ t.nzl.pause = .none ∧ t.nzl.stage = .watch ∧ t.get64 CNT_NZL_SWAPS = (s.get64 CNT_NZL_SWAPS + 1) % 2 ^ 64 ∧ t.red.journal = s.red.journal ∧ t.dpt.todo = []) ∧
  (∀ (s : State) (win : Fin 65536) (slots : Word) (feeds : Fin 4) (c : Nat), s.nzl.round = some c → s.running = true → s.mode = 2 → s.fld SYS_CFG_STATUS = 3 → s.slp.vhvLow = false → claimWins c win.val = true → s.flag SYS_MODE_DEGRADED = false → s.flag SYS_MODE_CLAMP = false → s.red.sets = [] → s.liveGrps = [] →
      NextIs (exec (.claimRoundEnd win slots feeds) s) fun t => t.mode = 3 ∧ t.fld SYS_MODE_CAUSE = 3 ∧ t.nzl.stage = .drive ∧ t.sys.served = true ∧ t.fld SYS_BOOT_LOOP_CNT = 0) ∧
  (∀ (s : State) (win : Fin 65536) (slots : Word) (feeds : Fin 4), s.nzl.round = some 0 → s.running = true → s.mode = 6 → s.flag NZL_STAT_CLAIM_FAULT = true → s.liveGrps = [] →
      NextIs (exec (.claimRoundEnd win slots feeds) s) fun t => t.flag NZL_STAT_CLAIM_FAULT = decide (s.nzl.agree + 1 < 10) ∧ t.nzl.agree = (if s.nzl.agree + 1 < 10 then s.nzl.agree + 1 else 0) ∧ t.mode = 6) ∧
  (∀ (s : State) (group : Fin 4) (m : NzlMsg) (sent win round : Nat), s.RxReady group m → m.body = .report sent win round → (win ≠ s.fld NZL_CLAIM_STAT_WIN ∨ s.fld NZL_CLAIM_STAT_WIN < sent) → s.flag NZL_STAT_CLAIM_FAULT = false →
      NextIs (exec (.claimReportRx group m) s) fun t => t.flag NZL_STAT_CLAIM_FAULT = true ∧ t.nzl.agree = 0 ∧ t.get64 CNT_NZL_CLAIM_FAULTS = (s.get64 CNT_NZL_CLAIM_FAULTS + 1) % 2 ^ 64 ∧ t.lastAck group m.seq false = true ∧ t.mode = s.mode) ∧
  (∀ (s : State) (group : Fin 4) (m : NzlMsg) (sent round : Nat), s.RxReady group m → m.body = .report sent (s.fld NZL_CLAIM_STAT_WIN) round → sent ≤ s.fld NZL_CLAIM_STAT_WIN →
      NextIs (exec (.claimReportRx group m) s) fun t => t.flag NZL_STAT_CLAIM_FAULT = s.flag NZL_STAT_CLAIM_FAULT ∧ t.nzl.agree = s.nzl.agree ∧ t.get64 CNT_NZL_CLAIM_FAULTS = s.get64 CNT_NZL_CLAIM_FAULTS ∧ t.lastAck group m.seq false = true) ∧
  (∀ (s : State) (group : Fin 4) (m : NzlMsg), s.RxReady group m → m.body = .handback → s.serving = true → s.flag SYS_MODE_NIGHT_PEND = false → s.partnered = true → s.fld NZL_STAT_PEER_MODE = 6 → s.nzl.peerStale = false → s.nzl.peerStep = true → s.nzl.pause = .none →
      NextIs (exec (.handbackRx group m) s) fun t => t.nzl.pause = .swap ∧ t.nzl.handback = true ∧ t.fld CMDQ_STAT_ANA = 15 ∧ t.mode = s.mode ∧ t.red.journal = s.red.journal) ∧
  (∀ (s : State) (group : Fin 4) (m : NzlMsg), s.RxReady group m → m.body = .handback → s.swapRefusal ≠ 0 →
      NextIs (exec (.handbackRx group m) s) fun t => t.nzl.pause = s.nzl.pause ∧ t.mode = s.mode ∧ t.cmdq = s.cmdq ∧ t.lastAck group m.seq false = true) ∧
  (∀ (s : State), s.serving = true → s.sys.hold = .none → s.nzl.pause = .takeover → s.setMembers.any (fun m => (s.mem m).acquiring) = false →
      NextIs (exec .takeoverAdmissionOpen s) fun t => t.nzl.pause = .none ∧ t.nzl.locks = [] ∧ t.fld CMDQ_STAT_ANA = 1 ∧ t.mode = s.mode) ∧
  (∀ (s : State) (g : Nat) (x : NzlGrp), s.serving = true → s.sys.hold = .none → s.nzl.pause = .swap → s.liveGrps.head? = some g → s.grp g = x → s.cmdq.cmds.all (fun e => !e.2.kind.isWrite && decide (e.1 < 65536)) = true → s.eng.locks = [] → x.queue = [] → x.credit ≠ 0 →
      NextIs (exec .swapDrainTimeout s) fun t => t.nzl.pause = .ended ∧ (t.grp g).kept.map (fun m => m.body) = x.kept.map (fun m => m.body) ++ [.swapEnd (s.fld ENG_EPOCH_EPOCH) (s.red.jseq - 1)] ∧ t.mode = s.mode ∧ t.claim = 0) ∧
  (∀ (s : State) (g : Nat), s.mode = 6 → s.sys.hold = .none → s.flag NZL_CTL_REVERT_EN = true → s.flag NZL_STAT_IN_STEP = true → s.flag NZL_STAT_STALE = false → s.fld NZL_PEER_BASE < s.fld NZL_CLAIM_BASE → s.liveGrps = [g] → (s.grp g).queue = [] → (s.grp g).credit ≠ 0 →
      NextIs (exec .handbackHoldoff s) fun t => t.nzl.handback = true ∧ (t.grp g).kept.map (fun m => m.body) = (s.grp g).kept.map (fun m => m.body) ++ [.handback] ∧ t.mode = 6 ∧ t.red = s.red) ∧
  (∀ (s : State), s.serving = true → s.sys.hold = .none → s.flag NZL_CTL_SWAP_EN = true → 24 * max 1 (s.fld NZL_CTL_SWAP_DAYS) ≤ s.roleHours → s.devSec / 3600 % 24 = min 23 (s.fld NZL_CTL_SWAP_HOUR) → s.flag SYS_MODE_NIGHT_PEND = false → s.partnered = true → s.fld NZL_STAT_PEER_MODE = 6 → s.nzl.peerStale = false → s.nzl.peerStep = true → s.nzl.pause = .none →
      NextIs (exec .scheduledSwap s) fun t => t.nzl.pause = .swap ∧ t.nzl.handback = false ∧ t.fld CMDQ_STAT_ANA = 15 ∧ t.mode = s.mode) ∧
  (∀ (s : State), s.serving = true → s.sys.hold = .none → s.flag NZL_CTL_SWAP_EN = true → 24 * max 1 (s.fld NZL_CTL_SWAP_DAYS) ≤ s.roleHours → s.devSec / 3600 % 24 = min 23 (s.fld NZL_CTL_SWAP_HOUR) → s.swapRefusal ≠ 0 →
      exec .scheduledSwap s = .next { s with nzl := { s.nzl with swapRetry := true } })

/-- STAGE takes the record in the buffer through the checks of R381 in order; on acceptance its digest, stager and 120 s window stand, and nothing else changes. CONFIRM from the stager gets RESULT 6, a wrong digest 7, the third of them a lapse; a right one from another steward port applies the record and increments GEN. CANCEL is the stager's alone. A port below STEWARD gets RESULT 8. Where the spec leaves a point open the clauses hold of the model's choice (log entries 28, 35, 95). -/
def Obligations.ProtectionCommit : Prop :=
  (∀ (s : State) (req : Requester) (r : List (BitVec 8)), s.reachable req = true → (∀ n, req ≠ .mc n) → s.classOf req = 3 → s.mode ≠ 7 → r = s.bufOctets.take (64 + 128 * recCount s.bufOctets) → s.stageCheck r = (0, 0) →
      NextIs (exec (.cmtStage req) s) fun t => t.prot = { s.prot with change := some { record := r, stager := reqCode req, digest := recDigest r, start := s.clock.nowNs } } ∧ t.reg PROT_CMT_DIGEST = BitVec.ofNat 32 (recDigest r) ∧ t.flag PROT_CMT_STAT_PENDING = true ∧ t.fld PROT_CMT_STAT_STAGER = reqCode req ∧
        t.fld PROT_CMT_STAT_LEFT = 120 ∧ t.fld PROT_CMT_STAT_RESULT = 0 ∧ t.get64 CNT_PROT_STAGED = (s.get64 CNT_PROT_STAGED + 1) % 2 ^ 64 ∧ RegsOnly [PROT_CMT_CMD, PROT_CMT_STAT, PROT_CMT_DIGEST, CNT_PROT_STAGED, CNT_PROT_STAGED + 4] { s with prot := t.prot } t) ∧
  (∀ (s : State) (req : Requester) (r : List (BitVec 8)) (e i : Nat), s.reachable req = true → (∀ n, req ≠ .mc n) → s.classOf req = 3 → s.mode ≠ 7 → r = s.bufOctets.take (64 + 128 * recCount s.bufOctets) → s.stageCheck r = (e, i) → e ≠ 0 →
      NextIs (exec (.cmtStage req) s) fun t => t.prot = s.prot ∧ t.fld PROT_CMT_STAT_RESULT = e % 16 ∧ t.fld PROT_CMT_STAT_ITEM = i % 32 ∧ t.get64 CNT_PROT_REFUSED = (s.get64 CNT_PROT_REFUSED + 1) % 2 ^ 64 ∧ RegsOnly [PROT_CMT_CMD, PROT_CMT_STAT, CNT_PROT_REFUSED, CNT_PROT_REFUSED + 4] s t) ∧
  (∀ (s : State) (req : Requester), s.reachable req = true → (∀ n, req ≠ .mc n) → s.classOf req = 3 → (s.mode = 2 ∨ s.serving = true) → s.prot.change ≠ none →
      NextIs (exec (.cmtStage req) s) fun t => t.prot = s.prot ∧ t.fld PROT_CMT_STAT_RESULT = 2 ∧ t.get64 CNT_PROT_REFUSED = (s.get64 CNT_PROT_REFUSED + 1) % 2 ^ 64) ∧
  (∀ (s : State) (req : Requester), s.reachable req = true → (∀ n, req ≠ .mc n) → s.classOf req < 3 → s.mode ≠ 7 →
      NextIs (exec (.cmtConfirm req) s) fun t => t.prot = s.prot ∧ t.fld PROT_CMT_STAT_RESULT = 8 ∧ t.get64 CNT_PROT_PRIV_REFUSED = (s.get64 CNT_PROT_PRIV_REFUSED + 1) % 2 ^ 64 ∧ RegsOnly [PROT_CMT_STAT, CNT_PROT_PRIV_REFUSED, CNT_PROT_PRIV_REFUSED + 4] s t) ∧
  (∀ (s : State) (req : Requester) (c : Change), s.reachable req = true → (∀ n, req ≠ .mc n) → s.classOf req = 3 → s.mode ≠ 7 → s.prot.change = some c → c.stager = reqCode req →
      NextIs (exec (.cmtConfirm req) s) fun t => t.prot = s.prot ∧ t.fld PROT_CMT_STAT_RESULT = 6 ∧ t.get64 CNT_PROT_REFUSED = (s.get64 CNT_PROT_REFUSED + 1) % 2 ^ 64) ∧
  (∀ (s : State) (req : Requester) (c : Change), s.reachable req = true → (∀ n, req ≠ .mc n) → s.classOf req = 3 → s.mode ≠ 7 → s.prot.change = some c → c.stager ≠ reqCode req → s.prot.quote ≠ c.digest →
      NextIs (exec (.cmtConfirm req) s) fun t => t.prot.change = (if c.wrong < 2 then some { c with wrong := c.wrong + 1 } else none) ∧ t.fld PROT_CMT_STAT_RESULT = 7 ∧ t.get64 CNT_PROT_DIGEST_FAIL = (s.get64 CNT_PROT_DIGEST_FAIL + 1) % 2 ^ 64 ∧ t.prot.gen = s.prot.gen ∧
        t.get64 CNT_PROT_LAPSED = (s.get64 CNT_PROT_LAPSED + (if c.wrong < 2 then 0 else 1)) % 2 ^ 64) ∧
  (∀ (s : State) (req : Requester) (c : Change), s.reachable req = true → (∀ n, req ≠ .mc n) → s.classOf req = 3 → s.mode ≠ 7 → s.prot.change = some c → c.stager ≠ reqCode req → s.prot.quote = c.digest → s.itemsFail c.record = none →
      NextIs (exec (.cmtConfirm req) s) fun t => t.prot.gen = (s.prot.gen + 1) % 2 ^ 64 ∧ t.prot.change = none ∧ t.flag PROT_CMT_STAT_PENDING = false ∧ t.fld PROT_CMT_STAT_RESULT = 0 ∧ t.flag PROT_STAT_PROV = true ∧ t.fld PROT_GEN_L_GEN = t.prot.gen % 2 ^ 32 ∧
        t.get64 CNT_PROT_CONFIRMED = (s.get64 CNT_PROT_CONFIRMED + 1) % 2 ^ 64 ∧ t.mode = s.mode) ∧
  (∀ (s : State) (req : Requester) (c : Change), s.reachable req = true → (∀ n, req ≠ .mc n) → s.classOf req = 3 → s.mode ≠ 7 → s.prot.change = some c → c.stager ≠ reqCode req → s.prot.quote = c.digest → s.itemsFail c.record = none → recCount c.record = 1 → itemType c.record 0 = 9 → s.mirroring = false →
      NextIs (exec (.cmtConfirm req) s) fun t => t.fld PROT_BOOT_POLICY_MIN_SVN = itemN c.record 0 2 2 % 2 ^ 16 ∧ t.prot.acl = s.prot.acl ∧ t.prot.stewards = s.prot.stewards ∧ t.cip = s.cip ∧ t.reg PROT_PRIV_LOCAL = s.reg PROT_PRIV_LOCAL) ∧
  (∀ (s : State) (req : Requester) (c : Change), s.reachable req = true → (∀ n, req ≠ .mc n) → s.classOf req = 3 → s.mode ≠ 7 → s.prot.change = some c → c.stager = reqCode req →
      NextIs (exec (.cmtCancel req) s) fun t => t.prot = { s.prot with change := none } ∧ t.fld PROT_CMT_STAT_RESULT = 0 ∧ t.flag PROT_CMT_STAT_PENDING = false ∧ t.get64 CNT_PROT_CANCELLED = (s.get64 CNT_PROT_CANCELLED + 1) % 2 ^ 64) ∧
  (∀ (s : State) (req : Requester) (c : Change), s.reachable req = true → (∀ n, req ≠ .mc n) → s.classOf req = 3 → s.mode ≠ 7 → s.prot.change = some c → c.stager ≠ reqCode req →
      NextIs (exec (.cmtCancel req) s) fun t => t.prot = s.prot ∧ t.fld PROT_CMT_STAT_RESULT = 6 ∧ t.get64 CNT_PROT_REFUSED = (s.get64 CNT_PROT_REFUSED + 1) % 2 ^ 64) ∧
  (∀ (s : State), s.powered = true → s.prot.change ≠ none →
      NextIs (exec .commitWindowLapse s) fun t => t.prot = { s.prot with change := none } ∧ t.flag PROT_CMT_STAT_PENDING = false ∧ t.get64 CNT_PROT_LAPSED = (s.get64 CNT_PROT_LAPSED + 1) % 2 ^ 64 ∧ t.prot.gen = s.prot.gen ∧ t.mode = s.mode) ∧
  (∀ (s : State) (req : Requester) (index : Fin 16384) (e : AclEntry), s.Admits req PROT_ACL_RD → tget? s.prot.acl index = some e →
      NextIs (exec (.aclRead req index) s) fun t => t.fld PROT_ACL_DATA0_VOLUME = e.vol % 4096 ∧ t.flag PROT_ACL_DATA0_VALID = true ∧ (t.flag PROT_ACL_DATA0_RD, t.flag PROT_ACL_DATA0_WR, t.flag PROT_ACL_DATA0_PF1) = (e.rd, e.wr, e.pf1) ∧ t.get64 PROT_ACL_DATA1 = e.digest % 2 ^ 64 ∧ t.get64 PROT_ACL_DATA3 = e.ports % 2 ^ 64 ∧
        t.fld PROT_ACL_RD_INDEX = index.val ∧ t.prot = s.prot) ∧
  (∀ (s : State) (req : Requester) (index : Fin 16384), s.Admits req PROT_ACL_RD → tget? s.prot.acl index = none →
      NextIs (exec (.aclRead req index) s) fun t => t.reg PROT_ACL_DATA0 = 0 ∧ t.get64 PROT_ACL_DATA1 = 0 ∧ t.get64 PROT_ACL_DATA3 = 0 ∧ t.prot = s.prot) ∧
  (∀ (s : State), s.fld PROT_STAT_JTAG_HOURS ≠ 0 →
      NextIs (exec .jtagClose s) fun t => t.classOf .jtag = 0 ∧ t.fld PROT_STAT_JTAG_HOURS = 0 ∧ t.classOf .uart = s.classOf .uart ∧ t.classOf .pf0 = s.classOf .pf0 ∧ RegsOnly [PROT_STAT, PROT_PRIV_LOCAL] s t)

/-- A completion that brings the whole of a read hands its data on and frees the tag; a failed one, or a timeout, fails the request by its kind; a timed-out tag is quarantined for twice the timeout; what comes for no outstanding tag is late. Bus Master Enable cleared ends PF1's unplaced commands into the report list, and set again reports them. FLR and PERST_N act on the endpoint only. Configuration requests are retried in DAWN. Where the spec leaves a point open the clauses hold of the model's choice (log entries 40, 82, 179, 180, 181, 182, 183, 184, 186, 198). -/
def Obligations.HostEndpoint : Prop :=
  (∀ (s : State) (tag : Fin 1024) (bytes data stamp : Nat) (r : PciRead) (c : Cmd) (h : Nat), s.powered = true → s.hep.reads = [(tag.val, r)] → s.hep.waiting = [] → r.dead = false → r.purpose = .writeData h → r.got + bytes = r.bytes → s.cmd? h = some c →
      NextIs (exec (.pcieCompletionRx tag 0 bytes data stamp) s) fun t => t.cmd? h = some { c with arrived := true, data := c.data + (r.data + data % 2 ^ (8 * bytes) * 2 ^ (8 * r.got)) % 2 ^ (8 * r.bytes) * 2 ^ (8 * r.off) } ∧ t.hep.reads = [] ∧ t.red = s.red ∧ t.hep.quar = s.hep.quar) ∧
  (∀ (s : State) (tag : Fin 1024) (bytes data stamp : Nat) (r : PciRead), s.powered = true → tget? s.hep.reads tag = some r → r.got + bytes < r.bytes →
      NextIs (exec (.pcieCompletionRx tag 0 bytes data stamp) s) fun t => tget? t.hep.reads tag = some { r with got := r.got + bytes, data := r.data + data % 2 ^ (8 * bytes) * 2 ^ (8 * r.got) } ∧ t.cmdq = s.cmdq ∧ t.out = s.out) ∧
  (∀ (s : State) (tag : Fin 1024) (status : Fin 4) (bytes data stamp : Nat) (r : PciRead) (c : Cmd) (h : Nat), s.powered = true → status ≠ 0 → s.hep.reads = [(tag.val, r)] → r.dead = false → r.purpose = .writeData h → (∀ x ∈ s.hep.waiting, x.purpose = .writeData h) → s.cmd? h = some c → h < 65536 → c.status = 0 → c.kind = .write → c.state = .admitted → c.arrived = false →
      NextIs (exec (.pcieCompletionRx tag status bytes data stamp) s) fun t => (t.cmd? h).map (fun x => (x.state, x.status)) = some (.done, 4) ∧ t.hep.reads = [] ∧ t.hep.waiting = [] ∧ t.get64 CNT_HEP_CPL_ERR = (s.get64 CNT_HEP_CPL_ERR + 1) % 2 ^ 64 ∧ t.hep.pf1.aerUnc = s.hep.pf1.aerUnc ||| cplBit status) ∧
  (∀ (s : State) (tag : Fin 1024) (status : Fin 4) (bytes data stamp : Nat), s.powered = true → tget? s.hep.reads tag = none →
      NextIs (exec (.pcieCompletionRx tag status bytes data stamp) s) fun t => t.get64 CNT_HEP_LATE_CPL = (s.get64 CNT_HEP_LATE_CPL + 1) % 2 ^ 64 ∧ t.hep.pf1.aerCor = s.hep.pf1.aerCor ||| 2 ^ 13 ∧ t.hep.reads = s.hep.reads ∧ t.hep.quar = s.hep.quar ∧ t.cmdq = s.cmdq ∧ t.red = s.red) ∧
  (∀ (s : State) (tag : Fin 1024) (dt : Nat) (r : PciRead) (qi : Nat) (q : Queue), (s.pass dt).powered = true → s.hep.reads = [(tag.val, r)] → s.hep.waiting = [] → r.dead = false → r.purpose = .doorbell qi → s.queue? qi = some q → r.born + ctoNs r.cto ≤ (s.pass dt).clock.nowNs →
      NextIs (exec (.completionTimeout tag dt) s) fun t => t.queue? qi = some { q with dbOut := false, dbDue := false } ∧ t.hep.reads = [] ∧ t.hep.quar = tput s.hep.quar tag ((s.pass dt).clock.nowNs + 2 * ctoNs r.cto) ∧ t.get64 CNT_HEP_CPL_TIMEOUT = ((s.pass dt).get64 CNT_HEP_CPL_TIMEOUT + 1) % 2 ^ 64 ∧
        t.hep.pf1.aerUnc = s.hep.pf1.aerUnc ||| 2 ^ 14 ∧ t.fld HEP_TAG_STAT_QUAR = (tput s.hep.quar tag.val ((s.pass dt).clock.nowNs + 2 * ctoNs r.cto)).length % 2 ^ 11) ∧
  (∀ (s : State) (tag : Fin 1024) (dt due : Nat), s.hep.quar = [(tag.val, due)] → due ≤ (s.pass dt).clock.nowNs → s.hep.reads = [] → s.hep.waiting = [] →
      NextIs (exec (.tagQuarantineEnd tag dt) s) fun t => t.hep.quar = [] ∧ t.hep.tags = (if s.hep.pf1.tag10 then 1024 else if s.hep.pf1.extTag then 256 else 32) ∧ t.fld HEP_TAG_STAT_QUAR = 0 ∧ t.fld HEP_TAG_STAT_FREE = t.hep.tags ∧ t.cmdq = s.cmdq) ∧
  (∀ (s : State) (tag : Fin 1024) (dt due : Nat), tget? s.hep.quar tag = some due → (s.pass dt).clock.nowNs < due → exec (.tagQuarantineEnd tag dt) s = .next (s.pass dt)) ∧
  (∀ (s : State) (tag : Nat) (r : PciRead) (q : Nat), s.powered = true → s.flag HEP_STAT_PF1_PRESENT = true → s.hep.pf1.bme = true → s.hep.reads = [(tag, r)] → s.hep.waiting = [] → r.purpose = .doorbell q → s.cmdq.cmds.all (fun e => e.2.state.past || e.2.state == .done) = true → keysRise s.cmdq.queues = true →
      NextIs (exec .bmeClear s) fun t => t.hep.pf1.bme = false ∧ t.flag HEP_STAT_PF1_BME = false ∧ t.hep.reads = [] ∧ t.hep.quar = tput s.hep.quar tag (s.clock.nowNs + 2 * ctoNs r.cto) ∧ t.cmdq.cmds = s.cmdq.cmds ∧ (∀ e ∈ t.cmdq.queues, e.2.type = 3 → e.2.inbox = [] ∧ e.2.waiting = []) ∧ t.red = s.red ∧ t.mode = s.mode) ∧
  (∀ (s : State), s.powered = true → s.flag HEP_STAT_PF1_PRESENT = true → s.hep.pf1.bme = false → (∀ e ∈ s.hep.report, s.cmdq.queues.any (fun x => x.2.type == 3 && x.2.qid == e.2.1) = true) → s.cmdq.nudges = [] → keysRise s.cmdq.queues = true →
      NextIs (exec .bmeSet s) fun t => t.hep.pf1.bme = true ∧ t.flag HEP_STAT_PF1_BME = true ∧ t.hep.report = [] ∧ t.flag HEP_STAT_REPORT_PEND = false ∧ t.get64 CNT_HEP_BME_ABORTS = (s.get64 CNT_HEP_BME_ABORTS + s.hep.report.length) % 2 ^ 64 ∧ t.red = s.red ∧ t.mode = s.mode) ∧
  (∀ (s : State) (tag : Nat) (r : PciRead), s.powered = true → s.flag HEP_STAT_PF1_PRESENT = true → s.localAssoc = none → s.hep.reads = [(tag, r)] →
      NextIs (exec .flrPf1 s) fun t => t.hep.pf1 = { mps := s.hep.pf1.mps, aspm := s.hep.pf1.aspm, aerUnc := s.hep.pf1.aerUnc, aerCor := s.hep.pf1.aerCor } ∧ t.hep.report = [] ∧ t.hep.affected = [] ∧ t.hep.reads = [] ∧ t.hep.quar = tput s.hep.quar tag (s.clock.nowNs + 2 * ctoNs r.cto) ∧ t.cmdq.nudges = [] ∧ t.reg ADM_CTL = regPor ADM_CTL ∧
        t.get64 CNT_HEP_FLR_EVENTS = (s.get64 CNT_HEP_FLR_EVENTS + 1) % 2 ^ 64 ∧ t.red = s.red ∧ t.hep.pf0 = s.hep.pf0 ∧ t.mode = s.mode) ∧
  (∀ (s : State) (a qi : Nat), s.powered = true → s.flag HEP_STAT_PF1_PRESENT = true → s.localAssoc = some a → (s.cmdq.queues.any (fun e => e.1 == qi && e.2.assoc == a) = true) →
      NextIs (exec .flrPf1 s) fun t => t.assoc? a = none ∧ t.queue? qi = none ∧ t.hep.report = [] ∧ t.hep.pf1.bme = false) ∧
  (∀ (s : State), s.powered = true → s.mbx.backlog = [] →
      NextIs (exec .flrPf0 s) fun t => t.hep.pf0 = { mps := s.hep.pf0.mps, aspm := s.hep.pf0.aspm, aerUnc := s.hep.pf0.aerUnc, aerCor := s.hep.pf0.aerCor } ∧ t.mbx = { s.mbx with dirs := s.mbx.dirs.filter (fun e => 8 ≤ e.1), part := [] } ∧ t.flag HEP_DIAG_EN = false ∧ t.fld HEP_DIAG_BASE = s.fld HEP_DIAG_BASE ∧
        t.get64 CNT_HEP_FLR_EVENTS = (s.get64 CNT_HEP_FLR_EVENTS + 1) % 2 ^ 64 ∧ t.hep.pf1 = s.hep.pf1 ∧ t.cmdq = s.cmdq ∧ t.red = s.red ∧ t.mode = s.mode) ∧
  (∀ (s : State), s.powered = true → s.localAssoc = none → s.mbx.backlog = [] →
      NextIs (exec .perstAssert s) fun t => t.hep.linkUp = false ∧ t.fld HEP_STAT_LPS = 0 ∧ t.fld HEP_STAT_WIDTH = 0 ∧ t.fld HEP_STAT_RATE = 0 ∧ t.hep.pf0 = {} ∧ t.hep.pf1 = {} ∧ t.flag HEP_DIAG_EN = false ∧ t.mbx.dirs = s.mbx.dirs.filter (fun e => 8 ≤ e.1) ∧ t.hep.report = [] ∧ t.red = s.red ∧ t.mode = s.mode) ∧
  (∀ (s : State), s.powered = true → s.fld HEP_STAT_LPS = 1 → s.flag HEP_LINK_PM_L0S_AUTO = true → bitOf s.hep.pf0.aspm 0 = true →
      NextIs (exec .l0sEntry s) fun t => t.fld HEP_STAT_LPS = 2 ∧ t.get64 CNT_HEP_L0S_ENTRIES = (s.get64 CNT_HEP_L0S_ENTRIES + 1) % 2 ^ 64 ∧ RegsOnly [HEP_STAT, CNT_HEP_L0S_ENTRIES, CNT_HEP_L0S_ENTRIES + 4] s t) ∧
  (∀ (s : State), s.powered = true → (s.fld HEP_STAT_LPS = 1 ∨ s.fld HEP_STAT_LPS = 2) → s.flag HEP_LINK_PM_L1_AUTO = true → bitOf s.hep.pf0.aspm 1 = true → s.hep.reads = [] → s.hep.waiting = [] → s.hep.pf0.pba = [] → s.hep.pf1.pba = [] →
      NextIs (exec .l1Entry s) fun t => t.fld HEP_STAT_LPS = 3 ∧ t.get64 CNT_HEP_L1_ENTRIES = (s.get64 CNT_HEP_L1_ENTRIES + 1) % 2 ^ 64 ∧ RegsOnly [HEP_STAT, CNT_HEP_L1_ENTRIES, CNT_HEP_L1_ENTRIES + 4] s t) ∧
  (∀ (s : State) (val : Word) (a : Nat), s.RegsOk → s.powered = true → s.flag HEP_STAT_PF1_PRESENT = true → s.hep.pf1.d3hot = false → s.classOf .pf1 ≠ 0 → s.mode ≠ 7 → s.flag ADM_STAT_RDY = false → s.get64 ASQ_BASE % 64 = 0 → s.get64 ACQ_BASE % 64 = 0 → s.get64 ADB_ADDR % 8 = 0 → s.freeAssoc = some a →
      NextIs (exec (.localAdminEnable val) s) fun t => t.flag ADM_STAT_RDY = true ∧ t.fld ADM_STAT_ASSOC = a ∧ t.fld ADM_STAT_ERR = 0 ∧ t.assoc? a = some { isLocal := true, kato := val.toNat / 2 ^ 18 % 2 ^ 14, port := 84, kaAt := s.clock.nowNs } ∧
        (t.queue? (16384 + a)).map (fun q => (q.type, q.qid, q.entriesM1)) = some (3, 0, max 1 (val.toNat / 2 % 32)) ∧ (t.queue? (16384 + a)).map (fun q => (q.vector, q.ien, q.sqBase)) = some (val.toNat / 2 ^ 7 % 2 ^ 11, bitOf val.toNat 6, s.get64 ASQ_BASE)) ∧
  (∀ (s : State) (val : Word), s.powered = true → s.flag HEP_STAT_PF1_PRESENT = true → s.hep.pf1.d3hot = false → s.classOf .pf1 ≠ 0 → s.mode ≠ 7 → s.flag ADM_STAT_RDY = false → (s.get64 ASQ_BASE % 64 ≠ 0 ∨ s.get64 ACQ_BASE % 64 ≠ 0 ∨ s.get64 ADB_ADDR % 8 ≠ 0) →
      NextIs (exec (.localAdminEnable val) s) fun t => t.flag ADM_STAT_RDY = false ∧ t.fld ADM_STAT_ERR = 2 ∧ t.cmdq = s.cmdq) ∧
  (∀ (s : State) (val : Word) (a : Nat), s.powered = true → s.flag HEP_STAT_PF1_PRESENT = true → s.hep.pf1.d3hot = false → s.classOf .pf1 ≠ 0 → s.mode ≠ 7 → s.localAssoc = some a → (s.assoc? a).map (fun x => x.isLocal) = some true →
      NextIs (exec (.localAdminDisable val) s) fun t => t.assoc? a = none ∧ t.flag ADM_STAT_RDY = false) ∧
  (∀ (s : State) (off : Fin 134217728) (data : Word) (ue : Bool), s.reachable .pf0 = true → off.val % 4 = 0 → (s.flag HEP_DIAG_EN = false ∨ s.classOf .pf0 < 2 ∨ s.fld DMC_PART_STAT_USABLE_GIB * 2 ^ 30 ≤ s.fld HEP_DIAG_BASE * 2 ^ 27 + off) → exec (.diagApertureRead off data ue) s = .next (s.emit (.diagData off (some 0)))) ∧
  (∀ (s : State) (off : Fin 134217728) (data : Word), s.reachable .pf0 = true → off.val % 4 = 0 → s.flag HEP_DIAG_EN = true → 2 ≤ s.classOf .pf0 → s.fld HEP_DIAG_BASE * 2 ^ 27 + off < s.fld DMC_PART_STAT_USABLE_GIB * 2 ^ 30 →
      exec (.diagApertureRead off data false) s = .next (s.emit (.diagData off (some data))) ∧ exec (.diagApertureRead off data true) s = .next ((s.bump CNT_HEP_DIAG_UE).emit (.diagData off none))) ∧
  (∀ (s : State) (pf1 : Bool) (what : CfgReq), s.mode = 1 → s.sys.hold = .none → s.hep.linkUp = true → exec (.configurationRequest pf1 what) s = .next (s.emit .cfgRetry)) ∧
  (∀ (s : State) (v : Fin 16), s.hep.linkUp = true → s.powered = true → s.mode ≠ 1 → s.flag HEP_STAT_PF1_PRESENT = true → s.hep.waiting = [] → s.hep.pf0.pba = [] → s.hep.pf1.pba = [] →
      NextIs (exec (.configurationRequest true (.cto v)) s) fun t => t.hep.pf1 = { s.hep.pf1 with cto := v.val } ∧ t.fld HEP_TAG_STAT_CTV = v.val ∧ t.hep.pf0 = s.hep.pf0 ∧ t.cmdq = s.cmdq ∧ t.mode = s.mode) ∧
  (∀ (s : State) (b : Bool), s.hep.linkUp = true → s.powered = true → s.mode ≠ 1 → s.hep.pf0.pba = [] → s.hep.pf1.pba = [] →
      NextIs (exec (.configurationRequest false (.d3hot b)) s) fun t => t.hep.pf0 = { s.hep.pf0 with d3hot := b } ∧ t.flag HEP_STAT_PF0_D3 = b ∧ t.reachable .pf0 = !b ∧ t.hep.pf1 = s.hep.pf1 ∧ t.cmdq = s.cmdq)

/-- A word pushed joins the direction; the last word closes the message, which is delivered, or kept in compatible mode while the far end is down, or carried to the partner on MB4–MB7. A push to a far end that is down, or that finds no room, is discarded, flagged and counted. A pop returns the next word, the last one frees the direction in EMPTY_IRQ mode, an acknowledgement in ACK_REG mode. MC0's messages join the notice backlog. The other end of a Narzan channel delivers and frees by MBOX messages. Where the spec leaves a point open the clauses hold of the model's choice (log entries 79, 187, 188, 201). -/
def Obligations.Mailboxes : Prop :=
  (∀ (s : State) (who : MbxEnd) (chan : Fin 24) (w : Word) (d : Nat), (who = .mgmt ∨ who = .cluster) → s.mbxSend who chan = some d → d ≠ 1 → (s.farDown d = false ∨ bitOf (s.fld MBX_CTL_COMPAT) chan = true) → (s.mbxDir d).closed = false → (s.mbxDir d).words.length < 8 →
      NextIs (exec (.mbxTx who chan w) s) fun t => t.mbx = { s.mbx with dirs := tput s.mbx.dirs d { s.mbxDir d with words := (s.mbxDir d).words ++ [w] } } ∧ t.fld (MBX_STAT_TX_LEVEL chan) = (t.mbxDir (txDir chan)).words.length % 16 ∧ t.fld (MBX_STAT_RX_LEVEL chan) = (t.mbxDir (rxDir chan)).words.length % 16 ∧ RegsOnly [MBX_STAT chan] { s with mbx := t.mbx } t) ∧
  (∀ (s : State) (r : Requester) (chan : Fin 24) (w : Word), s.Admits r (MBX_TX chan) → s.farDown (2 * chan) = false → (s.mbxDir (2 * chan)).closed = false → (s.mbxDir (2 * chan)).words.length < 8 →
      NextIs (exec (.mbxTx (.bar0 r) chan w) s) fun t => t.mbx = { s.mbx with dirs := tput s.mbx.dirs (2 * chan) { s.mbxDir (2 * chan) with words := (s.mbxDir (2 * chan)).words ++ [w] } } ∧ RegsOnly [MBX_STAT chan] { s with mbx := t.mbx } t) ∧
  (∀ (s : State) (who : MbxEnd) (chan : Fin 24) (w : Word) (d : Nat), (who = .mgmt ∨ who = .cluster) → s.mbxSend who chan = some d → s.farDown d = true → bitOf (s.fld MBX_CTL_COMPAT) chan = false →
      NextIs (exec (.mbxTx who chan w) s) fun t => t.mbx = s.mbx ∧ t.get64 CNT_MBX_FAR_DOWN_ERR = (s.get64 CNT_MBX_FAR_DOWN_ERR + 1) % 2 ^ 64 ∧ (d = txDir chan → t.flag (MBX_STAT_FAR_DOWN chan) = true ∧ t.flag (MBX_IRQ_ERR chan) = true)) ∧
  (∀ (s : State) (who : MbxEnd) (chan : Fin 24) (w : Word) (d : Nat), (who = .mgmt ∨ who = .cluster) → s.mbxSend who chan = some d → d ≠ 1 → s.farDown d = false → ((s.mbxDir d).closed = true ∨ 8 ≤ (s.mbxDir d).words.length) →
      NextIs (exec (.mbxTxEom who chan w) s) fun t => t.mbx = s.mbx ∧ t.get64 CNT_MBX_OVERRUN = (s.get64 CNT_MBX_OVERRUN + 1) % 2 ^ 64 ∧ (d = txDir chan → t.flag (MBX_STAT_OVR chan) = true ∧ t.flag (MBX_IRQ_ERR chan) = true)) ∧
  (∀ (s : State) (who : MbxEnd) (chan : Fin 24) (w : Word) (d : Nat), (who = .mgmt ∨ who = .cluster) → s.mbxSend who chan = some d → d ≠ 1 → isNarzanChan chan = false → s.farDown d = false → (s.mbxDir d).closed = false → (s.mbxDir d).words.length < 8 →
      NextIs (exec (.mbxTxEom who chan w) s) fun t => t.mbxDir d = { words := (s.mbxDir d).words ++ [w], closed := true, ackReg := s.ackMode chan, held := false } ∧ t.get64 CNT_MBX_MSG_SENT = (s.get64 CNT_MBX_MSG_SENT + 1) % 2 ^ 64 ∧ t.get64 CNT_MBX_MSG_RECV = (s.get64 CNT_MBX_MSG_RECV + 1) % 2 ^ 64 ∧
        (d = rxDir chan → t.flag (MBX_STAT_RX_EOM chan) = true ∧ t.flag (MBX_IRQ_RX_MSG chan) = true) ∧ (d = txDir chan → t.flag (MBX_STAT_TX_BUSY chan) = true) ∧ (∀ n : Fin 48, n.val ≠ d → t.mbxDir n = s.mbxDir n)) ∧
  (∀ (s : State) (who : MbxEnd) (chan : Fin 24) (w : Word) (d : Nat), (who = .mgmt ∨ who = .cluster) → s.mbxSend who chan = some d → d ≠ 1 → s.farDown d = true → bitOf (s.fld MBX_CTL_COMPAT) chan = true → (s.mbxDir d).closed = false → (s.mbxDir d).words.length < 8 →
      NextIs (exec (.mbxTxEom who chan w) s) fun t => t.mbxDir d = { words := (s.mbxDir d).words ++ [w], closed := true, ackReg := s.ackMode chan, held := true } ∧ t.get64 CNT_MBX_MSG_SENT = (s.get64 CNT_MBX_MSG_SENT + 1) % 2 ^ 64 ∧ t.get64 CNT_MBX_MSG_RECV = s.get64 CNT_MBX_MSG_RECV) ∧
  (∀ (s : State) (chan : Fin 24) (w : Word) (g : Nat) (gs : List Nat), s.powered = true → isNarzanChan chan = true → s.flag NZL_STAT_PRESENT = true → s.liveGrps = g :: gs → (s.grp g).queue = [] → 1 ≤ (s.grp g).credit → (s.mbxDir (2 * chan + 1)).closed = false → (s.mbxDir (2 * chan + 1)).words.length < 8 →
      NextIs (exec (.mbxTxEom .mgmt chan w) s) fun t => t.mbxDir (2 * chan + 1) = { words := (s.mbxDir (2 * chan + 1)).words ++ [w], closed := true, ackReg := s.ackMode chan, held := false } ∧ t.get64 CNT_MBX_MSG_SENT = (s.get64 CNT_MBX_MSG_SENT + 1) % 2 ^ 64 ∧ t.flag (MBX_STAT_TX_BUSY chan) = true ∧
        t.out.any (fun o => match o with | .nzl h y => h == g && decide (y.body = .mbox chan 1 ((s.mbxDir (2 * chan + 1)).words ++ [w]) 0) | _ => false) = true) ∧
  (∀ (s : State) (w v : Word), s.powered = true → bitOf s.mbx.halted 0 = false → s.farDown 1 = false → s.mbx.part.length < 8 → s.mbx.backlog = [] → (s.mbxDir 1).closed = false →
      exec (.mbxTx .mgmt 0 w) s = .next { s with mbx := { s.mbx with part := s.mbx.part ++ [w] } } ∧
        NextIs (exec (.mbxTxEom .mgmt 0 v) s) fun t => t.mbx.part = [] ∧ t.mbx.backlog = [] ∧ t.mbxDir 1 = { words := s.mbx.part ++ [v], closed := true, ackReg := s.ackMode 0, held := false } ∧ t.fld MBX_NOTICE_LEVEL = 0 ∧ t.flag (MBX_IRQ_RX_MSG 0) = true) ∧
  (∀ (s : State) (w : Word), s.powered = true → bitOf s.mbx.halted 0 = false → s.farDown 1 = false → s.mbx.part.length < 8 → s.mbx.backlog.length < 4096 → (s.mbxDir 1).closed = true →
      NextIs (exec (.mbxTxEom .mgmt 0 w) s) fun t => t.mbx = { s.mbx with part := [], backlog := s.mbx.backlog ++ [s.mbx.part ++ [w]] } ∧ t.fld MBX_NOTICE_LEVEL = s.mbx.backlog.length + 1 ∧ RegsOnly [MBX_NOTICE] { s with mbx := t.mbx } t) ∧
  (∀ (s : State) (who : MbxEnd) (chan : Fin 24) (d : Nat) (x y : Word) (l : List Word), (who = .mgmt ∨ who = .cluster) → s.mbxRecv who chan = some d → (s.mbxDir d).closed = true → (s.mbxDir d).held = false → (s.mbxDir d).words = x :: y :: l →
      NextIs (exec (.mbxRx who chan) s) fun t => t.out = .mbxRead d x :: s.out ∧ t.mbx = { s.mbx with dirs := tput s.mbx.dirs d { s.mbxDir d with words := y :: l } } ∧ RegsOnly [MBX_STAT chan] { s with mbx := t.mbx, out := t.out } t) ∧
  (∀ (s : State) (who : MbxEnd) (chan : Fin 24) (d : Nat) (x : Word), (who = .mgmt ∨ who = .cluster) → s.mbxRecv who chan = some d → isNarzanChan chan = false → (s.mbxDir d).closed = true → (s.mbxDir d).held = false → (s.mbxDir d).ackReg = false → (s.mbxDir d).words = [x] →
      NextIs (exec (.mbxRx who chan) s) fun t => .mbxRead d x ∈ t.out ∧ (d ≠ 1 → t.mbxDir d = {}) ∧ (d = txDir chan → t.flag (MBX_IRQ_TX_FREE chan) = true ∧ t.flag (MBX_STAT_TX_BUSY chan) = false ∧ t.fld (MBX_STAT_ACK_CODE chan) = s.fld (MBX_STAT_ACK_CODE chan))) ∧
  (∀ (s : State) (r : Requester) (chan : Fin 24) (x y : Word) (l : List Word), s.readOk r (MBX_RX chan) = true → s.mode ≠ 7 → (s.mbxDir (2 * chan + 1)).closed = true → (s.mbxDir (2 * chan + 1)).held = false → (s.mbxDir (2 * chan + 1)).words = x :: y :: l →
      NextIs (exec (.mbxRx (.bar0 r) chan) s) fun t => t.out = .read r (MBX_RX chan) x :: s.out ∧ t.mbxDir (2 * chan + 1) = { s.mbxDir (2 * chan + 1) with words := y :: l }) ∧
  (∀ (s : State) (who : MbxEnd) (chan : Fin 24) (d : Nat), (who = .mgmt ∨ who = .cluster) → s.mbxRecv who chan = some d → (s.mbxDir d).closed = false → (s.mbxSend who chan).map s.farDown = some false → exec (.mbxRx who chan) s = .next (s.emit (.mbxRead d 0))) ∧
  (∀ (s : State) (chan : Fin 24), s.powered = true → 4 ≤ chan.val → (s.mbxDir (2 * chan)).closed = false → s.farDown (2 * chan + 1) = true → bitOf (s.fld MBX_CTL_COMPAT) chan = false →
      NextIs (exec (.mbxRx .mgmt chan) s) fun t => t.out = .mbxRead (2 * chan) 0xDEAD0D00 :: s.out ∧ t.mbx = s.mbx ∧ t.flag (MBX_STAT_FAR_DOWN chan) = true ∧ t.flag (MBX_IRQ_ERR chan) = true) ∧
  (∀ (s : State) (who : MbxEnd) (chan : Fin 24) (d : Nat) (code : Fin 65536), (who = .mgmt ∨ who = .cluster) → s.mbxRecv who chan = some d → isNarzanChan chan = false → (s.mbxDir d).closed = true → (s.mbxDir d).held = false → (s.mbxDir d).ackReg = true → d ≠ 1 →
      NextIs (exec (.mbxAck who chan code) s) fun t => t.mbxDir d = {} ∧ (d = txDir chan → t.fld (MBX_STAT_ACK_CODE chan) = code ∧ t.flag (MBX_IRQ_TX_FREE chan) = true) ∧ (∀ n : Fin 48, n.val ≠ d → t.mbxDir n = s.mbxDir n)) ∧
  (∀ (s : State) (who : MbxEnd) (chan : Fin 24) (d : Nat) (code : Fin 65536), (who = .mgmt ∨ who = .cluster) → s.mbxRecv who chan = some d → (s.mbxDir d).closed = true → (s.mbxDir d).held = false → (s.mbxDir d).ackReg = false → exec (.mbxAck who chan code) s = .next s) ∧
  (∀ (s : State) (who : MbxEnd) (chan : Fin 24) (d : Nat) (code : Fin 65536), (who = .mgmt ∨ who = .cluster) → s.mbxRecv who chan = some d → (s.mbxDir d).closed = false → exec (.mbxAck who chan code) s = .next s.malformed) ∧
  (∀ (s : State) (code : Fin 65536) (m : List Word) (l : List (List Word)), s.Admits .pf0 (MBX_ACK 0) → (s.mbxDir 1).closed = true → (s.mbxDir 1).held = false → (s.mbxDir 1).ackReg = true → s.mbx.backlog = m :: l → s.farDown 1 = false →
      NextIs (exec (.mbxAck (.bar0 .pf0) 0 code) s) fun t => t.mbxDir 1 = { words := m, closed := true, ackReg := s.ackMode 0, held := false } ∧ t.mbx.backlog = l ∧ t.fld MBX_NOTICE_LEVEL = l.length % 2 ^ 13) ∧
  (∀ (s : State) (chan : Fin 24) (code : Fin 65536) (g : Nat) (gs : List Nat), s.powered = true → isNarzanChan chan = true → s.liveGrps = g :: gs → (s.grp g).queue = [] → 1 ≤ (s.grp g).credit → (s.mbxDir (2 * chan)).closed = true → (s.mbxDir (2 * chan)).held = false → (s.mbxDir (2 * chan)).ackReg = true →
      NextIs (exec (.mbxAck .mgmt chan code) s) fun t => t.mbxDir (2 * chan) = {} ∧ t.out.any (fun o => match o with | .nzl h y => h == g && decide (y.body = .mbox chan 3 [] code) | _ => false) = true) ∧
  (∀ (s : State) (dir : Fin 48), s.powered = true → s.farDown dir = true → bitOf (s.fld MBX_CTL_COMPAT) (dir / 2) = false → (s.mbxDir dir).closed = true → (isNarzanChan (dir / 2) = false ∨ dir.val % 2 = 1) →
      NextIs (exec (.mbxFarEndDown dir) s) fun t => t.mbx = { s.mbx with dirs := tput s.mbx.dirs dir {} } ∧ (dir.val = txDir (dir / 2) → t.flag (MBX_STAT_FAR_DOWN (dir / 2)) = true ∧ t.flag (MBX_IRQ_ERR (dir / 2)) = true ∧ t.flag (MBX_STAT_TX_BUSY (dir / 2)) = false)) ∧
  (∀ (s : State) (dir : Fin 48), (s.farDown dir = false ∨ bitOf (s.fld MBX_CTL_COMPAT) (dir / 2) = true ∨ (s.mbxDir dir).closed = false) → exec (.mbxFarEndDown dir) s = .next s) ∧
  (∀ (s : State) (dir : Fin 48), s.powered = true → s.farDown dir = false → (s.mbxDir dir).held = true → isNarzanChan (dir / 2) = false → dir.val ≠ 1 →
      NextIs (exec (.mbxFarEndUp dir) s) fun t => t.mbxDir dir = { s.mbxDir dir with held := false } ∧ t.get64 CNT_MBX_COMPAT_HELD = (s.get64 CNT_MBX_COMPAT_HELD + 1) % 2 ^ 64 ∧ t.get64 CNT_MBX_MSG_RECV = (s.get64 CNT_MBX_MSG_RECV + 1) % 2 ^ 64 ∧ (∀ n : Fin 48, n ≠ dir → t.mbxDir n = s.mbxDir n)) ∧
  (∀ (s : State) (group : Fin 4) (m : NzlMsg) (c code : Nat) (w : List Word), s.RxReady group m → m.body = .mbox c 1 w code → 4 ≤ c → c ≤ 7 → 1 ≤ w.length → w.length ≤ 8 → (s.mbxDir (2 * c)).closed = false →
      NextIs (exec (.mboxRx group m) s) fun t => t.mbxDir (2 * c) = { words := w, closed := true, ackReg := s.ackMode c, held := false } ∧ t.flag (MBX_STAT_RX_EOM c) = true ∧ t.flag (MBX_IRQ_RX_MSG c) = true ∧ t.fld (MBX_STAT_RX_LEVEL c) = w.length ∧ t.get64 CNT_MBX_MSG_RECV = (s.get64 CNT_MBX_MSG_RECV + 1) % 2 ^ 64 ∧ t.lastAck group m.seq false = true) ∧
  (∀ (s : State) (group : Fin 4) (m : NzlMsg) (c code : Nat) (w : List Word), s.RxReady group m → m.body = .mbox c 3 w code → 4 ≤ c → c ≤ 7 → (s.mbxDir (2 * c + 1)).closed = true →
      NextIs (exec (.mboxRx group m) s) fun t => t.mbxDir (2 * c + 1) = {} ∧ t.fld (MBX_STAT_ACK_CODE c) = code % 2 ^ 16 ∧ t.flag (MBX_IRQ_TX_FREE c) = true ∧ t.flag (MBX_STAT_TX_BUSY c) = false ∧ t.lastAck group m.seq false = true)

/-- A channel whose condition holds ramps in DRIVE; an open sense pin or a gate that will not rise makes it DAMAGED. Power good turns RAMP into ON. The fault timer, a fast trip and a reverse current turn the gate off, and the channel retries or latches; a reverse current after a sag ramps again without an attempt. CLEAR and a removal free a latched channel. Every other channel, and every register but those named, stays. Where the spec leaves a point open the clauses hold of the model's choice (log entries 152, 153, 158). -/
def Obligations.SlotChannels : Prop :=
  (∀ (s : State) (ch : Fin 32), s.pdDrives = true → s.chState ch = 0 → s.slotCond ch = true →
      NextIs (exec (.slotRampStart ch false) s) fun t => t.chState ch = 1 ∧ t.slp.gates = s.slp.gates ||| 2 ^ ch.val ∧ RegsOnly [SLP_CH_STAT ch] { s with slp := t.slp, dpt := t.dpt } t ∧ (∀ h : Fin 64, h.val / 2 = ch.val → h.val ∉ t.dpt.released)) ∧
  (∀ (s : State) (ch : Fin 32), s.pdDrives = true → s.chState ch = 0 → s.slotCond ch = true →
      NextIs (exec (.slotRampStart ch true) s) fun t => t.chState ch = 5 ∧ t.fld (SLP_CH_STAT_CAUSE ch) = 5 ∧ t.gateOn ch = false ∧ (∀ n : Fin 32, n ≠ ch → t.gateOn n = s.gateOn n) ∧ RegsOnly [SLP_CH_STAT ch] { s with slp := t.slp, dpt := t.dpt } t) ∧
  (∀ (s : State) (ch : Fin 32) (vout vgs : Nat), s.pdProtects = true → s.gateOn ch = true → s.chState ch = 1 → 100 * s.fld (SLP_CH_PG_PG_HI ch) ≤ vout → 100 * min 100 (max 40 (s.fld (SLP_CH_PG_VGS_ON ch))) ≤ vgs →
      NextIs (exec (.slotPowerGood ch vout vgs) s) fun t => t.chState ch = 2 ∧ t.flag (SLP_CH_STAT_PG ch) = true ∧ t.slp.gates = s.slp.gates ∧ ch.val ∉ t.slp.retry ∧ RegsOnly [SLP_CH_STAT ch] { s with slp := t.slp } t) ∧
  (∀ (s : State) (ch : Fin 32) (vout vgs : Nat), (s.gateOn ch = false ∨ vout < 100 * s.fld (SLP_CH_PG_PG_HI ch) ∨ vgs < 100 * min 100 (max 40 (s.fld (SLP_CH_PG_VGS_ON ch)))) → exec (.slotPowerGood ch vout vgs) s = .next s) ∧
  (∀ (s : State) (ch : Fin 32) (v1 v2 : Nat), s.pdProtects = true → s.flag (SLP_CH_STAT_PG ch) = true → s.chState ch = 2 → v1 < 100 * min (s.fld (SLP_CH_PG_PG_HI ch)) (s.fld (SLP_CH_PG_PG_LO ch)) → v2 < 100 * min (s.fld (SLP_CH_PG_PG_HI ch)) (s.fld (SLP_CH_PG_PG_LO ch)) →
      NextIs (exec (.slotPgLoss ch v1 v2) s) fun t => t.flag (SLP_CH_STAT_PG ch) = false ∧ t.chState ch = 2 ∧ t.slp = s.slp ∧ t.get64 CNT_SLP_PG_LOSS = (s.get64 CNT_SLP_PG_LOSS + 1) % 2 ^ 64 ∧ RegsOnly [SLP_CH_STAT ch, CNT_SLP_PG_LOSS, CNT_SLP_PG_LOSS + 4] s t) ∧
  (∀ (s : State) (ch : Fin 32) (v1 v2 : Nat), (100 * min (s.fld (SLP_CH_PG_PG_HI ch)) (s.fld (SLP_CH_PG_PG_LO ch)) ≤ v1 ∨ 100 * min (s.fld (SLP_CH_PG_PG_HI ch)) (s.fld (SLP_CH_PG_PG_LO ch)) ≤ v2) → exec (.slotPgLoss ch v1 v2) s = .next s) ∧
  (∀ (s : State) (ch : Fin 32) (vgs : Nat), s.pdProtects = true → s.gateOn ch = true → s.chState ch = 1 → s.flag (SLP_CH_STAT_LIMITING ch) = false → vgs < 100 * min 100 (max 40 (s.fld (SLP_CH_PG_VGS_ON ch))) →
      NextIs (exec (.gateNoRise ch vgs) s) fun t => t.chState ch = 5 ∧ t.fld (SLP_CH_STAT_CAUSE ch) = 4 ∧ t.gateOn ch = false ∧ (∀ n : Fin 32, n ≠ ch → t.gateOn n = s.gateOn n) ∧ t.get64 CNT_SLP_GATE_NO_RISE = (s.get64 CNT_SLP_GATE_NO_RISE + 1) % 2 ^ 64) ∧
  (∀ (s : State) (ch : Fin 32) (vgs : Nat), s.flag (SLP_CH_STAT_LIMITING ch) = true → exec (.gateNoRise ch vgs) s = .next s) ∧
  (∀ (s : State) (ch : Fin 32) (uv : Nat), s.pdProtects = true → s.gateOn ch = true → 250 * min 200 (max 20 (s.fld (SLP_CH_CFG_ILIM ch))) ≤ uv →
      NextIs (exec (.currentLimit ch uv) s) fun t => t.flag (SLP_CH_STAT_LIMITING ch) = true ∧ t.chState ch = s.chState ch ∧ RegsOnly [SLP_CH_STAT ch] s t) ∧
  (∀ (s : State) (ch : Fin 32) (uv : Nat), s.pdProtects = true → s.gateOn ch = true → 10 * uv < 9 * (250 * min 200 (max 20 (s.fld (SLP_CH_CFG_ILIM ch)))) →
      NextIs (exec (.currentLimit ch uv) s) fun t => t.flag (SLP_CH_STAT_LIMITING ch) = false ∧ t.chState ch = s.chState ch ∧ RegsOnly [SLP_CH_STAT ch] s t) ∧
  (∀ (s : State) (ch : Fin 32), s.pdProtects = true → s.gateOn ch = true → s.flag (SLP_CH_STAT_LIMITING ch) = true → (s.chState ch = 1 ∨ s.chState ch = 2) → (s.fld (SLP_CH_STAT_ATTEMPTS ch) < s.fld (SLP_CH_CFG_RETRIES ch) ∨ s.flag (SLP_CH_CFG_UNLIM ch) = true) →
      NextIs (exec (.faultTimerExpiry ch) s) fun t => t.chState ch = 3 ∧ t.fld (SLP_CH_STAT_CAUSE ch) = 1 ∧ t.fld (SLP_CH_STAT_ATTEMPTS ch) = s.fld (SLP_CH_STAT_ATTEMPTS ch) ∧ t.flag (SLP_CH_STAT_LIMITING ch) = false ∧ t.gateOn ch = false ∧ (∀ n : Fin 32, n ≠ ch → t.gateOn n = s.gateOn n) ∧
        t.get64 CNT_SLP_TIMER_FAULT = (s.get64 CNT_SLP_TIMER_FAULT + 1) % 2 ^ 64 ∧ RegsOnly [SLP_CH_STAT ch, CNT_SLP_TIMER_FAULT, CNT_SLP_TIMER_FAULT + 4] { s with slp := t.slp, dpt := t.dpt } t) ∧
  (∀ (s : State) (ch : Fin 32), s.pdProtects = true → s.gateOn ch = true → s.flag (SLP_CH_STAT_LIMITING ch) = true → (s.chState ch = 1 ∨ s.chState ch = 2) → s.fld (SLP_CH_CFG_RETRIES ch) ≤ s.fld (SLP_CH_STAT_ATTEMPTS ch) → s.flag (SLP_CH_CFG_UNLIM ch) = false →
      NextIs (exec (.faultTimerExpiry ch) s) fun t => t.chState ch = 4 ∧ t.fld (SLP_CH_STAT_CAUSE ch) = 1 ∧ t.gateOn ch = false ∧ t.get64 CNT_SLP_TIMER_FAULT = (s.get64 CNT_SLP_TIMER_FAULT + 1) % 2 ^ 64 ∧ t.get64 CNT_SLP_LATCHES = (s.get64 CNT_SLP_LATCHES + 1) % 2 ^ 64) ∧
  (∀ (s : State) (ch : Fin 32) (uv : Nat), s.pdProtects = true → s.gateOn ch = true → (4 + min 4 (s.fld (SLP_CH_CFG_FT_MULT ch))) * s.ilim ch ≤ 2 * uv → (s.chState ch = 1 ∨ s.chState ch = 2) → (s.fld (SLP_CH_STAT_ATTEMPTS ch) < s.fld (SLP_CH_CFG_RETRIES ch) ∨ s.flag (SLP_CH_CFG_UNLIM ch) = true) →
      NextIs (exec (.fastTrip ch uv) s) fun t => t.chState ch = 3 ∧ t.fld (SLP_CH_STAT_CAUSE ch) = 2 ∧ t.gateOn ch = false ∧ t.slp.sagEvent = true ∧ (∀ n : Fin 32, n ≠ ch → t.gateOn n = s.gateOn n ∧ t.chState n = s.chState n) ∧ t.get64 CNT_SLP_FAST_TRIP = (s.get64 CNT_SLP_FAST_TRIP + 1) % 2 ^ 64) ∧
  (∀ (s : State) (ch : Fin 32) (since : Nat), s.pdProtects = true → s.gateOn ch = true → s.slp.sagEvent = true → since ≤ 1000 →
      NextIs (exec (.slotReverseCurrent ch since) s) fun t => t.chState ch = s.chState ch ∧ t.fld (SLP_CH_STAT_CAUSE ch) = 3 ∧ t.gateOn ch = false ∧ ch.val ∈ t.slp.sagWait ∧ t.fld (SLP_CH_STAT_ATTEMPTS ch) = s.fld (SLP_CH_STAT_ATTEMPTS ch) ∧ t.get64 CNT_SLP_SAG_REVERSE = (s.get64 CNT_SLP_SAG_REVERSE + 1) % 2 ^ 64 ∧ t.get64 CNT_SLP_REVERSE = s.get64 CNT_SLP_REVERSE) ∧
  (∀ (s : State) (ch : Fin 32) (since : Nat), s.pdProtects = true → s.gateOn ch = true → (s.slp.sagEvent = false ∨ 1000 < since) → (s.chState ch = 1 ∨ s.chState ch = 2) →
      NextIs (exec (.slotReverseCurrent ch since) s) fun t => t.chState ch = (if s.fld (SLP_CH_STAT_ATTEMPTS ch) < s.fld (SLP_CH_CFG_RETRIES ch) ∨ s.flag (SLP_CH_CFG_UNLIM ch) = true then 3 else 4) ∧ t.fld (SLP_CH_STAT_CAUSE ch) = 3 ∧ t.gateOn ch = false ∧ t.get64 CNT_SLP_REVERSE = (s.get64 CNT_SLP_REVERSE + 1) % 2 ^ 64) ∧
  (∀ (s : State) (ch : Fin 32), s.pdDrives = true → ch.val ∈ s.slp.sagWait →
      NextIs (exec (.sagReramp ch false) s) fun t => t.chState ch = 1 ∧ t.slp.gates = s.slp.gates ||| 2 ^ ch.val ∧ ch.val ∉ t.slp.sagWait ∧ t.fld (SLP_CH_STAT_ATTEMPTS ch) = s.fld (SLP_CH_STAT_ATTEMPTS ch) ∧ RegsOnly [SLP_CH_STAT ch] { s with slp := t.slp, dpt := t.dpt } t) ∧
  (∀ (s : State) (ch : Fin 32), s.pdDrives = true → s.chState ch = 3 → s.slotCond ch = true →
      NextIs (exec (.retryWaitExpiry ch false) s) fun t => t.chState ch = 1 ∧ t.fld (SLP_CH_STAT_ATTEMPTS ch) = min 15 (s.fld (SLP_CH_STAT_ATTEMPTS ch) + 1) ∧ t.slp.gates = s.slp.gates ||| 2 ^ ch.val ∧ ch.val ∈ t.slp.retry ∧ t.get64 CNT_SLP_RETRIES_RUN = (s.get64 CNT_SLP_RETRIES_RUN + 1) % 2 ^ 64) ∧
  (∀ (s : State) (ch : Fin 32) (openPin : Bool), s.pdDrives = true → s.chState ch = 3 → s.slotCond ch = false →
      NextIs (exec (.retryWaitExpiry ch openPin) s) fun t => t.chState ch = 0 ∧ t.gateOn ch = false ∧ t.fld (SLP_CH_STAT_ATTEMPTS ch) = s.fld (SLP_CH_STAT_ATTEMPTS ch) ∧ RegsOnly [SLP_CH_STAT ch] { s with slp := t.slp, dpt := t.dpt } t) ∧
  (∀ (s : State) (ch : Fin 32), s.pdProtects = true → s.flag (SLP_CH_STAT_PG ch) = true → NextIs (exec (.attemptsClear ch) s) fun t => t.fld (SLP_CH_STAT_ATTEMPTS ch) = 0 ∧ t.chState ch = s.chState ch ∧ RegsOnly [SLP_CH_STAT ch] s t) ∧
  (∀ (s : State) (req : Requester) (ch : Fin 32), s.Admits req (SLP_CH_CFG ch) → (s.chState ch = 4 ∨ s.chState ch = 5) →
      NextIs (exec (.slotClear req ch) s) fun t => t.chState ch = 0 ∧ t.fld (SLP_CH_STAT_ATTEMPTS ch) = 0 ∧ t.fld (SLP_CH_STAT_CAUSE ch) = s.fld (SLP_CH_STAT_CAUSE ch) ∧ t.slp = s.slp ∧ (∀ n : Fin 32, n ≠ ch → t.chState n = s.chState n)) ∧
  (∀ (s : State) (req : Requester) (ch : Fin 32), s.Admits req (SLP_CH_CFG ch) → s.chState ch < 4 → s.chState ch ≠ 0 → s.pdDrives = true → (s.fld (SLP_CH_CFG_MODE ch) = 2 ∨ s.fld (SLP_CH_CFG_MODE ch) = 0) →
      NextIs (exec (.slotClear req ch) s) fun t => t.chState ch = (if s.fld (SLP_CH_CFG_MODE ch) = 2 then s.chState ch else 0) ∧ t.fld (SLP_CH_STAT_ATTEMPTS ch) = s.fld (SLP_CH_STAT_ATTEMPTS ch)) ∧
  (∀ (s : State) (req : Requester) (ch : Fin 32) (mode : Fin 4), s.Admits req (SLP_CH_CFG ch) → s.pdDrives = true → (mode = 0 ∨ mode = 3) → s.chState ch ≠ 5 → (s.reg (SLP_CH_CFG ch)).toNat < 2 ^ 31 →
      NextIs (exec (.slotModeWrite req ch mode) s) fun t => t.fld (SLP_CH_CFG_MODE ch) = mode ∧ t.chState ch = 0 ∧ (s.chState ch ≠ 0 → t.gateOn ch = false ∧ ∀ h : Fin 64, h.val / 2 = ch.val → h.val ∉ t.dpt.released) ∧ (∀ n : Fin 32, n ≠ ch → t.gateOn n = s.gateOn n ∧ t.chState n = s.chState n)) ∧
  (∀ (s : State) (port : Fin 32), s.pdRuns = true → s.powered = true → bitOf s.slp.presIn (2 * port.val) = true → s.presAt (2 * port.val) = false → s.presAt (2 * port.val + 1) = false → tget? s.dpt.contained (2 * port.val) = none →
      NextIs (exec (.presenceDebounced (Fin.ofNat 64 (2 * port.val)) true) s) fun t => t.presAt (2 * port.val) = true ∧ t.flag (SLP_CH_STAT_PRESENT port) = true ∧ t.flag (DPT_PORT_STAT_PRESENT port 0) = true ∧ t.chState port = s.chState port ∧ t.slp = s.slp ∧ t.dpt = s.dpt) ∧
  (∀ (s : State) (port : Fin 32), s.pdRuns = true → bitOf s.slp.presIn (2 * port.val) = false → s.presAt (2 * port.val) = true → s.presAt (2 * port.val + 1) = false → s.flag (SLP_CH_STAT_PRESENT port) = true → s.chState port = 4 →
      NextIs (exec (.presenceDebounced (Fin.ofNat 64 (2 * port.val)) false) s) fun t => t.presAt (2 * port.val) = false ∧ t.flag (SLP_CH_STAT_PRESENT port) = false ∧ t.chState port = 0 ∧ t.fld (SLP_CH_STAT_ATTEMPTS port) = 0 ∧ t.get64 CNT_SLP_REMOVALS_SEEN = (s.get64 CNT_SLP_REMOVALS_SEEN + 1) % 2 ^ 64) ∧
  (∀ (s : State) (pos : Fin 64) (present : Bool), (bitOf s.slp.presIn pos ≠ present ∨ s.presAt pos = present ∨ s.posOk pos = false) → exec (.presenceDebounced pos present) s = .next s)

/-- Each row of the feed table has its effect on the gates, the state and the counter it names. An open wire sets its bit; IN or BUS puts the feed in BLOCKING only while the other is ON, SNSP or SNSN makes the current reading invalid. The warning is set and cleared against PF_TH. A frame carries activity, locate and fail of the positions that exist and samples presence. The third recovery in a row disables an SMBus master. The lockout turns every gate off. Where the spec leaves a point open the clauses hold of the model's choice (log entries 152, 154, 155, 156, 157, 158, 200). -/
def Obligations.FeedsAndSideband : Prop :=
  (∀ (s : State) (feed : Fin 2) (vin : Int), s.pdProtects = true → vin < -500 →
      NextIs (exec (.feedReversed feed vin) s) fun t => t.fdState feed = 5 ∧ bitOf t.slp.feedGate feed = false ∧ bitOf t.slp.pcg feed = false ∧ (∀ f : Fin 2, f ≠ feed → bitOf t.slp.feedGate f = bitOf s.slp.feedGate f) ∧ RegsOnly [SLP_FD_STAT feed] { s with slp := t.slp } t) ∧
  (∀ (s : State) (feed : Fin 2), s.pdRuns = true → s.fdState feed = 5 → NextIs (exec (.feedPolarityRestored feed) s) fun t => t.fdState feed = 0 ∧ bitOf t.slp.feedGate feed = false ∧ (∀ f : Fin 2, f ≠ feed → bitOf t.slp.feedGate f = bitOf s.slp.feedGate f) ∧ RegsOnly [SLP_FD_STAT feed] { s with slp := t.slp } t) ∧
  (∀ (s : State) (feed : Fin 2) (vin : Int), s.pdDrives = true → s.fdState feed = 0 → s.flag (SLP_FD_CFG_EN feed) = true → 100 * (s.fld (SLP_FD_CFG_UV_TH feed) : Int) ≤ vin → vin ≤ 100 * (s.fld (SLP_FD_CFG_OV_TH feed) : Int) →
      NextIs (exec (.feedPrechargeStart feed vin) s) fun t => t.fdState feed = 1 ∧ bitOf t.slp.pcg feed = true ∧ bitOf t.slp.feedGate feed = false ∧ RegsOnly [SLP_FD_STAT feed] { s with slp := t.slp } t) ∧
  (∀ (s : State) (feed : Fin 2) (vin : Int), (s.flag (SLP_FD_CFG_EN feed) = false ∨ vin < 100 * (s.fld (SLP_FD_CFG_UV_TH feed) : Int) ∨ 100 * (s.fld (SLP_FD_CFG_OV_TH feed) : Int) < vin) → exec (.feedPrechargeStart feed vin) s = .next s) ∧
  (∀ (s : State) (feed : Fin 2) (vin vbus : Int), s.pdDrives = true → s.fdState feed = 1 → vin - 500 ≤ vbus →
      NextIs (exec (.feedPrechargeDone feed vin vbus) s) fun t => t.fdState feed = 2 ∧ bitOf t.slp.feedGate feed = true ∧ bitOf t.slp.pcg feed = false ∧ RegsOnly [SLP_FD_STAT feed] { s with slp := t.slp } t) ∧
  (∀ (s : State) (feed : Fin 2), s.pdProtects = true → s.fdState feed = 1 →
      NextIs (exec (.feedPrechargeTimeout feed) s) fun t => t.fdState feed = 4 ∧ bitOf t.slp.pcg feed = false ∧ t.get64 CNT_SLP_FEED_PCG_FAIL = (s.get64 CNT_SLP_FEED_PCG_FAIL + 1) % 2 ^ 64 ∧ RegsOnly [SLP_FD_STAT feed, CNT_SLP_FEED_PCG_FAIL, CNT_SLP_FEED_PCG_FAIL + 4] { s with slp := t.slp } t) ∧
  (∀ (s : State) (feed : Fin 2) (vin vbus : Int), s.pdProtects = true → bitOf s.slp.feedGate feed = true → s.fdSees feed = true → vin < vbus →
      NextIs (exec (.feedReverse feed vin vbus) s) fun t => t.fdState feed = 3 ∧ bitOf t.slp.feedGate feed = false ∧ t.slp.sagEvent = true ∧ t.get64 CNT_SLP_FEED_REVERSE = (s.get64 CNT_SLP_FEED_REVERSE + 1) % 2 ^ 64 ∧ (∀ f : Fin 2, f ≠ feed → bitOf t.slp.feedGate f = bitOf s.slp.feedGate f)) ∧
  (∀ (s : State) (feed : Fin 2) (vin vbus : Int), s.pdDrives = true → s.fdState feed = 3 → s.fdSees feed = true → vbus + 50 ≤ vin → 100 * (s.fld (SLP_FD_CFG_UV_TH feed) : Int) ≤ vin →
      NextIs (exec (.feedUnblock feed vin vbus) s) fun t => t.fdState feed = 2 ∧ bitOf t.slp.feedGate feed = true ∧ RegsOnly [SLP_FD_STAT feed] { s with slp := t.slp } t) ∧
  (∀ (s : State) (feed : Fin 2) (vin vbus : Int), s.fdSees feed = false → exec (.feedUnblock feed vin vbus) s = .next s ∧ exec (.feedReverse feed vbus vin) s = .next s) ∧
  (∀ (s : State) (feed : Fin 2) (vin : Int), s.pdProtects = true → s.fdState feed = 2 → 100 * (s.fld (SLP_FD_CFG_OV_TH feed) : Int) < vin →
      NextIs (exec (.feedOvervoltage feed vin) s) fun t => t.fdState feed = 4 ∧ bitOf t.slp.feedGate feed = false ∧ t.get64 CNT_SLP_FEED_OV = (s.get64 CNT_SLP_FEED_OV + 1) % 2 ^ 64) ∧
  (∀ (s : State) (feed : Fin 2) (vin : Int), s.pdProtects = true → s.fdState feed = 2 → vin < 100 * (s.fld (SLP_FD_CFG_UV_TH feed) : Int) →
      NextIs (exec (.feedUndervoltage feed vin) s) fun t => t.fdState feed = 0 ∧ bitOf t.slp.feedGate feed = false ∧ RegsOnly [SLP_FD_STAT feed] { s with slp := t.slp } t) ∧
  (∀ (s : State) (feed : Fin 2), s.pdProtects = true → s.fdState feed = 4 → NextIs (exec (.feedFaultWaitExpiry feed) s) fun t => t.fdState feed = 0 ∧ bitOf t.slp.feedGate feed = false ∧ RegsOnly [SLP_FD_STAT feed] { s with slp := t.slp } t) ∧
  (∀ (s : State) (req : Requester) (feed : Fin 2), s.Admits req (SLP_FD_CFG feed) → s.pdDrives = true → s.fdState feed ≠ 5 →
      NextIs (exec (.feedDisable req feed) s) fun t => t.flag (SLP_FD_CFG_EN feed) = false ∧ t.fdState feed = 0 ∧ bitOf t.slp.feedGate feed = false ∧ bitOf t.slp.pcg feed = false ∧ t.fld (SLP_FD_CFG_UV_TH feed) = s.fld (SLP_FD_CFG_UV_TH feed) ∧ (∀ f : Fin 2, f ≠ feed → bitOf t.slp.feedGate f = bitOf s.slp.feedGate f)) ∧
  (∀ (s : State) (feed : Fin 2) (wire : Fin 4), s.pdProtects = true → bitOf (s.fld (SLP_FD_STAT_OPEN feed)) wire = false → wire.val < 2 → s.fdState feed = 2 → s.fdState (1 - feed.val) = 2 →
      NextIs (exec (.senseWireOpen feed wire) s) fun t => t.fld (SLP_FD_STAT_OPEN feed) = s.fld (SLP_FD_STAT_OPEN feed) ||| 2 ^ wire.val ∧ t.fdState feed = 3 ∧ bitOf t.slp.feedGate feed = false ∧ t.fdSees feed = false ∧ t.get64 CNT_SLP_SENSE_OPEN_EV = (s.get64 CNT_SLP_SENSE_OPEN_EV + 1) % 2 ^ 64) ∧
  (∀ (s : State) (feed : Fin 2) (wire : Fin 4), s.pdRuns = true → bitOf (s.fld (SLP_FD_STAT_OPEN feed)) wire = false → wire.val < 2 → s.fdState (1 - feed.val) ≠ 2 →
      NextIs (exec (.senseWireOpen feed wire) s) fun t => t.slp = s.slp ∧ t.fdState feed = s.fdState feed ∧ t.fdSees feed = false ∧ RegsOnly [SLP_FD_STAT feed, CNT_SLP_SENSE_OPEN_EV, CNT_SLP_SENSE_OPEN_EV + 4] s t) ∧
  (∀ (s : State) (feed : Fin 2) (wire : Fin 4), s.pdRuns = true → bitOf (s.fld (SLP_FD_STAT_OPEN feed)) wire = false → 2 ≤ wire.val →
      NextIs (exec (.senseWireOpen feed wire) s) fun t => t.fld (SLP_FD_MEAS_IIN feed) = 0x8000 ∧ t.fld (SLP_FD_MEAS_VIN feed) = s.fld (SLP_FD_MEAS_VIN feed) ∧ t.slp = s.slp ∧ t.fdState feed = s.fdState feed) ∧
  (∀ (s : State) (va vb : Int), s.pdRuns = true → s.flag SLP_STAT_PFAIL = false → va < 100 * (s.fld SLP_PF_CFG_PF_TH : Int) → vb < 100 * (s.fld SLP_PF_CFG_PF_TH : Int) →
      NextIs (exec (.powerFailWarning va vb) s) fun t => t.flag SLP_STAT_PFAIL = true ∧ t.flag RED_JRN_STAT_PFAIL = s.serving ∧ t.alertLow = s.flag SLP_PF_CFG_ALERT_EN ∧ t.get64 CNT_SLP_PFAIL_EVENTS = (s.get64 CNT_SLP_PFAIL_EVENTS + 1) % 2 ^ 64 ∧ RegsOnly [SLP_STAT, RED_JRN_STAT, CNT_SLP_PFAIL_EVENTS, CNT_SLP_PFAIL_EVENTS + 4] s t) ∧
  (∀ (s : State) (va vb : Int), (100 * (s.fld SLP_PF_CFG_PF_TH : Int) ≤ va ∨ 100 * (s.fld SLP_PF_CFG_PF_TH : Int) ≤ vb) → exec (.powerFailWarning va vb) s = .next s) ∧
  (∀ (s : State) (va vb : Int), s.pdRuns = true → s.flag SLP_STAT_PFAIL = true → (100 * (s.fld SLP_PF_CFG_PF_TH : Int) + 300 ≤ va ∨ 100 * (s.fld SLP_PF_CFG_PF_TH : Int) + 300 ≤ vb) →
      NextIs (exec (.powerFailClear va vb) s) fun t => t.flag SLP_STAT_PFAIL = false ∧ t.flag RED_JRN_STAT_PFAIL = false ∧ t.alertLow = false ∧ RegsOnly [SLP_STAT, RED_JRN_STAT] s t) ∧
  (∀ (s : State) (inputs : Nat) (p : Fin 64) (fail pol : Bool), s.pdRuns = true → s.flag SLP_CTL_SGP_EN = true → s.nzl.stage = .drive → s.flag SLP_STAT_HELD = false → s.posOk p = true → fail = (s.chState (p.val / 2) == 4 || s.chState (p.val / 2) == 5 || s.flag (SLP_CH_CFG_FAIL_LAMP (p.val / 2)) || (s.posMem p).any (fun m => s.memState m == 3)) → pol = (bitOf inputs p != s.flag SLP_CTL_PRES_POL) →
      NextIs (exec (.sgpioFrame inputs) s) fun t => bitOf t.slp.presIn p = pol ∧ (match t.out with | .sgpio act loc f :: l => decide (l = s.out) && bitOf act p == s.posActive p && bitOf loc p == bitOf (s.fld (if p.val < 32 then SLP_LOCATE_L_LOC else SLP_LOCATE_H_LOC)) (p.val % 32) && bitOf f p == fail | _ => false) = true ∧ t.regs = s.regs) ∧
  (∀ (s : State) (inputs : Nat), s.flag SLP_CTL_SGP_EN = false → exec (.sgpioFrame inputs) s = .next s) ∧
  (∀ (s : State) (bus : Fin 4) (fresh : Bool) (n : Nat), s.powered = true → bitOf (s.fld SLP_SMB_CFG_EN) bus = true → n = (if fresh then 0 else tget s.slp.smbRec bus 0) →
      NextIs (exec (.smbusStuck bus fresh) s) fun t => t.out = .smbRecover bus :: s.out ∧ bitOf (t.fld SLP_SMB_CFG_EN) bus = decide (n < 2) ∧ (2 ≤ n → bitOf (t.fld SLP_SMB_CFG_STUCK) bus = true ∧ t.get64 CNT_SLP_SMB_STUCK = (s.get64 CNT_SLP_SMB_STUCK + 1) % 2 ^ 64) ∧ (n < 2 → t.regs = s.regs ∧ tget t.slp.smbRec bus 0 = n + 1)) ∧
  (∀ (s : State), s.slp.vhvLow = false →
      NextIs (exec .vhvUvlo s) fun t => t.slp.vhvLow = true ∧ t.slp.gates = 0 ∧ t.slp.feedGate = 0 ∧ t.slp.pcg = 0 ∧ t.pdRuns = false ∧ (∀ n : Fin 32, t.chState n = if s.chState n = 4 ∨ s.chState n = 5 then s.chState n else 0) ∧ (∀ f : Fin 2, t.fdState f = if s.fdState f = 5 then 5 else 0)) ∧
  (∀ (s : State), exec .vhvUvloRecovery s = .next { s with slp := { s.slp with vhvLow := false } })

/-- SNAP copies a group's CYC and PC0–PC7 into its shadow and CLEAR clears them; SNAP_ALL takes every group. A selection is stored, its meaning judged, and its counter cleared. A programmable counter wraps at 2^48, sets OVF and raises source 12 where OVF_ALERT asks. A window's end latches all values and increments SEQ; a write of MON_BW_CFG restarts the window. A health window's end returns every count to 0. Where the spec leaves a point open the clauses hold of the model's choice (log entries 83, 189, 190, 202). -/
def Obligations.Monitoring : Prop :=
  (∀ (s : State) (req : Requester) (group : Fin 129) (val : Word), s.Admits req (MON_GRP_CTL group) → bitOf val.toNat 3 = false →
      NextIs (exec (.groupSnap req group val) s) fun t => tget? t.mon.shadow group = some (groupCycles group (tget s.mon.ran group 0) :: (List.range 8).map (fun k => tget s.mon.pc (8 * group + k) 0)) ∧ t.mon.pc = s.mon.pc ∧ t.mon.ran = s.mon.ran ∧ (∀ g : Fin 129, g ≠ group → tget? t.mon.shadow g = tget? s.mon.shadow g) ∧
        t.flag (MON_GRP_CTL_EN group) = bitOf val.toNat 0 ∧ t.flag (MON_GRP_CTL_VIEW group) = bitOf val.toNat 2 ∧ t.fld (MON_GRP_CTL_OVF_ALERT group) = val.toNat / 2 ^ 8 % 2 ^ 8 ∧ RegsOnly [MON_GRP_CTL group] { s with mon := t.mon } t) ∧
  (∀ (s : State) (req : Requester) (group : Fin 129) (val : Word), s.Admits req (MON_GRP_CTL group) → bitOf val.toNat 1 = false →
      NextIs (exec (.groupClear req group val) s) fun t => tget t.mon.ran group 0 = 0 ∧ (∀ k : Fin 8, tget t.mon.pc (8 * group + k.val) 0 = 0) ∧ t.mon.shadow = s.mon.shadow ∧ t.mon.ovf = s.mon.ovf ∧ (∀ g : Fin 129, ∀ k : Fin 8, g ≠ group → tget t.mon.pc (8 * g.val + k.val) 0 = tget s.mon.pc (8 * g.val + k.val) 0) ∧ RegsOnly [MON_GRP_CTL group] { s with mon := t.mon } t) ∧
  (∀ (s : State) (req : Requester) (val : Word), s.Admits req MON_CTL →
      NextIs (exec (.snapAll req val) s) fun t => (∀ g : Fin 129, tget? t.mon.shadow g = some (groupCycles g (tget s.mon.ran g 0) :: (List.range 8).map (fun k => tget s.mon.pc (8 * g.val + k) 0))) ∧ t.mon.pc = s.mon.pc ∧ t.mon.ran = s.mon.ran ∧ t.flag MON_CTL_USER_EN = bitOf val.toNat 0 ∧ t.flag MON_CTL_REMOTE_EN = bitOf val.toNat 1 ∧ t.flag MON_CTL_REMOTE_SCOPE = bitOf val.toNat 2 ∧
        RegsOnly [MON_CTL] { s with mon := t.mon } t) ∧
  (∀ (s : State) (req : Requester) (group : Fin 129) (k : Fin 8) (val : Word), s.Admits req (MON_PC_SEL group k) →
      NextIs (exec (.pcSelect req group k val) s) fun t => t.fld (MON_PC_SEL_CODE group k) = val.toNat % 2 ^ 10 ∧ t.flag (MON_PC_SEL_BAD group k) = !codeMeans group (val.toNat % 2 ^ 10) ∧ tget t.mon.pc (8 * group + k) 0 = 0 ∧ t.mon = { s.mon with pc := t.mon.pc } ∧ (∀ g : Fin 129, ∀ j : Fin 8, (g ≠ group ∨ j ≠ k) → tget t.mon.pc (8 * g.val + j.val) 0 = tget s.mon.pc (8 * g.val + j.val) 0) ∧
        RegsOnly [MON_PC_SEL group k] { s with mon := t.mon } t) ∧
  (∀ (s : State) (g : Fin 129) (k : Fin 8) (n : Nat), 2 ^ 48 ≤ tget s.mon.pc (8 * g + k) 0 + n → (s.fld (MON_GRP_CTL_OVF_ALERT g) >>> k.val) % 2 = 1 →
      tget (s.pcAdd g k n).mon.pc (8 * g + k) 0 = (tget s.mon.pc (8 * g + k) 0 + n) % 2 ^ 48 ∧ bitOf (tget (s.pcAdd g k n).mon.ovf g 0) k = true ∧ tget (s.pcAdd g k n).mon.count 12 0 = (tget s.mon.count 12 0 + 1) % 2 ^ 64 ∧ (s.pcAdd g k n).regs = (if s.fld MON_HEALTH_EN_EN / 2 ^ 12 % 2 = 1 ∧ s.mon.src = 0 then (s.msix0 4).regs else s.regs)) ∧
  (∀ (s : State) (dt : Nat), s.powered = true → s.flag MON_BW_CFG_EN = true → (s.pass dt).mon.bwFrom + 1000 * max 1 (min 4000000 (s.fld MON_BW_CFG_WIN_US)) ≤ (s.pass dt).clock.nowNs → s.mon.bwRx.all (fun e => e.2 < 2 ^ 64) = true → s.mon.bwTx.all (fun e => e.2 < 2 ^ 64) = true →
      NextIs (exec (.bwWindowEnd dt) s) fun t => (∀ p : Fin 64, t.get64 (MON_BW_RX p) = tget s.mon.bwRx p 0 ∧ t.get64 (MON_BW_TX p) = tget s.mon.bwTx p 0) ∧ t.fld MON_BW_SEQ_SEQ = (s.fld MON_BW_SEQ_SEQ + 1) % 2 ^ 32 ∧ t.mon.bwRx = [] ∧ t.mon.bwTx = [] ∧ t.mon.bwFrom = t.clock.nowNs) ∧
  (∀ (s : State) (dt : Nat), ((s.pass dt).flag MON_BW_CFG_EN = false ∨ (s.pass dt).clock.nowNs < (s.pass dt).mon.bwFrom + 1000 * (s.pass dt).bwWindow) → exec (.bwWindowEnd dt) s = .next (s.pass dt)) ∧
  (∀ (s : State) (req : Requester) (val : Word), s.Admits req MON_BW_CFG →
      NextIs (exec (.bwCfgWrite req val) s) fun t => t.reg MON_BW_CFG = val &&& 0x7FFFFF ∧ t.mon = { s.mon with bwRx := [], bwTx := [], bwFrom := s.clock.nowNs } ∧ RegsOnly [MON_BW_CFG] { s with mon := t.mon } t) ∧
  (∀ (s : State), s.powered = true → max 1 (s.fld MON_HEALTH_WIN_WIN) ≤ s.mon.hwin →
      NextIs (exec .healthWindowEnd s) fun t => t = { s with mon := { s.mon with hcount := [], hdone := 0, hwin := 0 } }) ∧
  (∀ (s : State), s.mon.hwin < max 1 (s.fld MON_HEALTH_WIN_WIN) → exec .healthWindowEnd s = .next s)
end

