-- ==== Sys2Proof/Laws/State.lean ====
section
/-! SUPPORT. What each named update of State leaves alone: one lemma per field and update, each true by computation. -/

namespace Sys2Proof.Machine

/-! ### setReg -/

@[simp] theorem State.setReg_pending (s : State) (off : Nat) (w : Word) : (s.setReg off w).pending = s.pending := rfl
@[simp] theorem State.setReg_out (s : State) (off : Nat) (w : Word) : (s.setReg off w).out = s.out := rfl
@[simp] theorem State.setReg_free (s : State) (off : Nat) (w : Word) : (s.setReg off w).free = s.free := rfl
@[simp] theorem State.setReg_clock (s : State) (off : Nat) (w : Word) : (s.setReg off w).clock = s.clock := rfl
@[simp] theorem State.setReg_sys (s : State) (off : Nat) (w : Word) : (s.setReg off w).sys = s.sys := rfl
@[simp] theorem State.setReg_ports (s : State) (off : Nat) (w : Word) : (s.setReg off w).ports = s.ports := rfl
@[simp] theorem State.setReg_cls (s : State) (off : Nat) (w : Word) : (s.setReg off w).cls = s.cls := rfl
@[simp] theorem State.setReg_swc (s : State) (off : Nat) (w : Word) : (s.setReg off w).swc = s.swc := rfl
@[simp] theorem State.setReg_egs (s : State) (off : Nat) (w : Word) : (s.setReg off w).egs = s.egs := rfl
@[simp] theorem State.setReg_rdm (s : State) (off : Nat) (w : Word) : (s.setReg off w).rdm = s.rdm := rfl
@[simp] theorem State.setReg_cmdq (s : State) (off : Nat) (w : Word) : (s.setReg off w).cmdq = s.cmdq := rfl
@[simp] theorem State.setReg_eng (s : State) (off : Nat) (w : Word) : (s.setReg off w).eng = s.eng := rfl
@[simp] theorem State.setReg_prot (s : State) (off : Nat) (w : Word) : (s.setReg off w).prot = s.prot := rfl
@[simp] theorem State.setReg_hep (s : State) (off : Nat) (w : Word) : (s.setReg off w).hep = s.hep := rfl
@[simp] theorem State.setReg_mbx (s : State) (off : Nat) (w : Word) : (s.setReg off w).mbx = s.mbx := rfl
@[simp] theorem State.setReg_mon (s : State) (off : Nat) (w : Word) : (s.setReg off w).mon = s.mon := rfl
@[simp] theorem State.setReg_gov (s : State) (off : Nat) (w : Word) : (s.setReg off w).gov = s.gov := rfl
@[simp] theorem State.setReg_red (s : State) (off : Nat) (w : Word) : (s.setReg off w).red = s.red := rfl
@[simp] theorem State.setReg_cip (s : State) (off : Nat) (w : Word) : (s.setReg off w).cip = s.cip := rfl
@[simp] theorem State.setReg_dpt (s : State) (off : Nat) (w : Word) : (s.setReg off w).dpt = s.dpt := rfl
@[simp] theorem State.setReg_cch (s : State) (off : Nat) (w : Word) : (s.setReg off w).cch = s.cch := rfl
@[simp] theorem State.setReg_nzl (s : State) (off : Nat) (w : Word) : (s.setReg off w).nzl = s.nzl := rfl
@[simp] theorem State.setReg_slp (s : State) (off : Nat) (w : Word) : (s.setReg off w).slp = s.slp := rfl

/-! ### setFld -/

@[simp] theorem State.setFld_pending (s : State) (f : Fld) (v : Nat) : (s.setFld f v).pending = s.pending := rfl
@[simp] theorem State.setFld_out (s : State) (f : Fld) (v : Nat) : (s.setFld f v).out = s.out := rfl
@[simp] theorem State.setFld_free (s : State) (f : Fld) (v : Nat) : (s.setFld f v).free = s.free := rfl
@[simp] theorem State.setFld_clock (s : State) (f : Fld) (v : Nat) : (s.setFld f v).clock = s.clock := rfl
@[simp] theorem State.setFld_sys (s : State) (f : Fld) (v : Nat) : (s.setFld f v).sys = s.sys := rfl
@[simp] theorem State.setFld_ports (s : State) (f : Fld) (v : Nat) : (s.setFld f v).ports = s.ports := rfl
@[simp] theorem State.setFld_cls (s : State) (f : Fld) (v : Nat) : (s.setFld f v).cls = s.cls := rfl
@[simp] theorem State.setFld_swc (s : State) (f : Fld) (v : Nat) : (s.setFld f v).swc = s.swc := rfl
@[simp] theorem State.setFld_egs (s : State) (f : Fld) (v : Nat) : (s.setFld f v).egs = s.egs := rfl
@[simp] theorem State.setFld_rdm (s : State) (f : Fld) (v : Nat) : (s.setFld f v).rdm = s.rdm := rfl
@[simp] theorem State.setFld_cmdq (s : State) (f : Fld) (v : Nat) : (s.setFld f v).cmdq = s.cmdq := rfl
@[simp] theorem State.setFld_eng (s : State) (f : Fld) (v : Nat) : (s.setFld f v).eng = s.eng := rfl
@[simp] theorem State.setFld_prot (s : State) (f : Fld) (v : Nat) : (s.setFld f v).prot = s.prot := rfl
@[simp] theorem State.setFld_hep (s : State) (f : Fld) (v : Nat) : (s.setFld f v).hep = s.hep := rfl
@[simp] theorem State.setFld_mbx (s : State) (f : Fld) (v : Nat) : (s.setFld f v).mbx = s.mbx := rfl
@[simp] theorem State.setFld_mon (s : State) (f : Fld) (v : Nat) : (s.setFld f v).mon = s.mon := rfl
@[simp] theorem State.setFld_gov (s : State) (f : Fld) (v : Nat) : (s.setFld f v).gov = s.gov := rfl
@[simp] theorem State.setFld_red (s : State) (f : Fld) (v : Nat) : (s.setFld f v).red = s.red := rfl
@[simp] theorem State.setFld_cip (s : State) (f : Fld) (v : Nat) : (s.setFld f v).cip = s.cip := rfl
@[simp] theorem State.setFld_dpt (s : State) (f : Fld) (v : Nat) : (s.setFld f v).dpt = s.dpt := rfl
@[simp] theorem State.setFld_cch (s : State) (f : Fld) (v : Nat) : (s.setFld f v).cch = s.cch := rfl
@[simp] theorem State.setFld_nzl (s : State) (f : Fld) (v : Nat) : (s.setFld f v).nzl = s.nzl := rfl
@[simp] theorem State.setFld_slp (s : State) (f : Fld) (v : Nat) : (s.setFld f v).slp = s.slp := rfl

/-! ### setFlag -/

@[simp] theorem State.setFlag_pending (s : State) (f : Fld) (b : Bool) : (s.setFlag f b).pending = s.pending := rfl
@[simp] theorem State.setFlag_out (s : State) (f : Fld) (b : Bool) : (s.setFlag f b).out = s.out := rfl
@[simp] theorem State.setFlag_free (s : State) (f : Fld) (b : Bool) : (s.setFlag f b).free = s.free := rfl
@[simp] theorem State.setFlag_clock (s : State) (f : Fld) (b : Bool) : (s.setFlag f b).clock = s.clock := rfl
@[simp] theorem State.setFlag_sys (s : State) (f : Fld) (b : Bool) : (s.setFlag f b).sys = s.sys := rfl
@[simp] theorem State.setFlag_ports (s : State) (f : Fld) (b : Bool) : (s.setFlag f b).ports = s.ports := rfl
@[simp] theorem State.setFlag_cls (s : State) (f : Fld) (b : Bool) : (s.setFlag f b).cls = s.cls := rfl
@[simp] theorem State.setFlag_swc (s : State) (f : Fld) (b : Bool) : (s.setFlag f b).swc = s.swc := rfl
@[simp] theorem State.setFlag_egs (s : State) (f : Fld) (b : Bool) : (s.setFlag f b).egs = s.egs := rfl
@[simp] theorem State.setFlag_rdm (s : State) (f : Fld) (b : Bool) : (s.setFlag f b).rdm = s.rdm := rfl
@[simp] theorem State.setFlag_cmdq (s : State) (f : Fld) (b : Bool) : (s.setFlag f b).cmdq = s.cmdq := rfl
@[simp] theorem State.setFlag_eng (s : State) (f : Fld) (b : Bool) : (s.setFlag f b).eng = s.eng := rfl
@[simp] theorem State.setFlag_prot (s : State) (f : Fld) (b : Bool) : (s.setFlag f b).prot = s.prot := rfl
@[simp] theorem State.setFlag_hep (s : State) (f : Fld) (b : Bool) : (s.setFlag f b).hep = s.hep := rfl
@[simp] theorem State.setFlag_mbx (s : State) (f : Fld) (b : Bool) : (s.setFlag f b).mbx = s.mbx := rfl
@[simp] theorem State.setFlag_mon (s : State) (f : Fld) (b : Bool) : (s.setFlag f b).mon = s.mon := rfl
@[simp] theorem State.setFlag_gov (s : State) (f : Fld) (b : Bool) : (s.setFlag f b).gov = s.gov := rfl
@[simp] theorem State.setFlag_red (s : State) (f : Fld) (b : Bool) : (s.setFlag f b).red = s.red := rfl
@[simp] theorem State.setFlag_cip (s : State) (f : Fld) (b : Bool) : (s.setFlag f b).cip = s.cip := rfl
@[simp] theorem State.setFlag_dpt (s : State) (f : Fld) (b : Bool) : (s.setFlag f b).dpt = s.dpt := rfl
@[simp] theorem State.setFlag_cch (s : State) (f : Fld) (b : Bool) : (s.setFlag f b).cch = s.cch := rfl
@[simp] theorem State.setFlag_nzl (s : State) (f : Fld) (b : Bool) : (s.setFlag f b).nzl = s.nzl := rfl
@[simp] theorem State.setFlag_slp (s : State) (f : Fld) (b : Bool) : (s.setFlag f b).slp = s.slp := rfl

/-! ### set64 -/

@[simp] theorem State.set64_pending (s : State) (off v : Nat) : (s.set64 off v).pending = s.pending := rfl
@[simp] theorem State.set64_out (s : State) (off v : Nat) : (s.set64 off v).out = s.out := rfl
@[simp] theorem State.set64_free (s : State) (off v : Nat) : (s.set64 off v).free = s.free := rfl
@[simp] theorem State.set64_clock (s : State) (off v : Nat) : (s.set64 off v).clock = s.clock := rfl
@[simp] theorem State.set64_sys (s : State) (off v : Nat) : (s.set64 off v).sys = s.sys := rfl
@[simp] theorem State.set64_ports (s : State) (off v : Nat) : (s.set64 off v).ports = s.ports := rfl
@[simp] theorem State.set64_cls (s : State) (off v : Nat) : (s.set64 off v).cls = s.cls := rfl
@[simp] theorem State.set64_swc (s : State) (off v : Nat) : (s.set64 off v).swc = s.swc := rfl
@[simp] theorem State.set64_egs (s : State) (off v : Nat) : (s.set64 off v).egs = s.egs := rfl
@[simp] theorem State.set64_rdm (s : State) (off v : Nat) : (s.set64 off v).rdm = s.rdm := rfl
@[simp] theorem State.set64_cmdq (s : State) (off v : Nat) : (s.set64 off v).cmdq = s.cmdq := rfl
@[simp] theorem State.set64_eng (s : State) (off v : Nat) : (s.set64 off v).eng = s.eng := rfl
@[simp] theorem State.set64_prot (s : State) (off v : Nat) : (s.set64 off v).prot = s.prot := rfl
@[simp] theorem State.set64_hep (s : State) (off v : Nat) : (s.set64 off v).hep = s.hep := rfl
@[simp] theorem State.set64_mbx (s : State) (off v : Nat) : (s.set64 off v).mbx = s.mbx := rfl
@[simp] theorem State.set64_mon (s : State) (off v : Nat) : (s.set64 off v).mon = s.mon := rfl
@[simp] theorem State.set64_gov (s : State) (off v : Nat) : (s.set64 off v).gov = s.gov := rfl
@[simp] theorem State.set64_red (s : State) (off v : Nat) : (s.set64 off v).red = s.red := rfl
@[simp] theorem State.set64_cip (s : State) (off v : Nat) : (s.set64 off v).cip = s.cip := rfl
@[simp] theorem State.set64_dpt (s : State) (off v : Nat) : (s.set64 off v).dpt = s.dpt := rfl
@[simp] theorem State.set64_cch (s : State) (off v : Nat) : (s.set64 off v).cch = s.cch := rfl
@[simp] theorem State.set64_nzl (s : State) (off v : Nat) : (s.set64 off v).nzl = s.nzl := rfl
@[simp] theorem State.set64_slp (s : State) (off v : Nat) : (s.set64 off v).slp = s.slp := rfl

/-! ### clearRegs -/

@[simp] theorem State.clearRegs_pending (s : State) (lo hi : Nat) : (s.clearRegs lo hi).pending = s.pending := rfl
@[simp] theorem State.clearRegs_out (s : State) (lo hi : Nat) : (s.clearRegs lo hi).out = s.out := rfl
@[simp] theorem State.clearRegs_free (s : State) (lo hi : Nat) : (s.clearRegs lo hi).free = s.free := rfl
@[simp] theorem State.clearRegs_clock (s : State) (lo hi : Nat) : (s.clearRegs lo hi).clock = s.clock := rfl
@[simp] theorem State.clearRegs_sys (s : State) (lo hi : Nat) : (s.clearRegs lo hi).sys = s.sys := rfl
@[simp] theorem State.clearRegs_ports (s : State) (lo hi : Nat) : (s.clearRegs lo hi).ports = s.ports := rfl
@[simp] theorem State.clearRegs_cls (s : State) (lo hi : Nat) : (s.clearRegs lo hi).cls = s.cls := rfl
@[simp] theorem State.clearRegs_swc (s : State) (lo hi : Nat) : (s.clearRegs lo hi).swc = s.swc := rfl
@[simp] theorem State.clearRegs_egs (s : State) (lo hi : Nat) : (s.clearRegs lo hi).egs = s.egs := rfl
@[simp] theorem State.clearRegs_rdm (s : State) (lo hi : Nat) : (s.clearRegs lo hi).rdm = s.rdm := rfl
@[simp] theorem State.clearRegs_cmdq (s : State) (lo hi : Nat) : (s.clearRegs lo hi).cmdq = s.cmdq := rfl
@[simp] theorem State.clearRegs_eng (s : State) (lo hi : Nat) : (s.clearRegs lo hi).eng = s.eng := rfl
@[simp] theorem State.clearRegs_prot (s : State) (lo hi : Nat) : (s.clearRegs lo hi).prot = s.prot := rfl
@[simp] theorem State.clearRegs_hep (s : State) (lo hi : Nat) : (s.clearRegs lo hi).hep = s.hep := rfl
@[simp] theorem State.clearRegs_mbx (s : State) (lo hi : Nat) : (s.clearRegs lo hi).mbx = s.mbx := rfl
@[simp] theorem State.clearRegs_mon (s : State) (lo hi : Nat) : (s.clearRegs lo hi).mon = s.mon := rfl
@[simp] theorem State.clearRegs_gov (s : State) (lo hi : Nat) : (s.clearRegs lo hi).gov = s.gov := rfl
@[simp] theorem State.clearRegs_red (s : State) (lo hi : Nat) : (s.clearRegs lo hi).red = s.red := rfl
@[simp] theorem State.clearRegs_cip (s : State) (lo hi : Nat) : (s.clearRegs lo hi).cip = s.cip := rfl
@[simp] theorem State.clearRegs_dpt (s : State) (lo hi : Nat) : (s.clearRegs lo hi).dpt = s.dpt := rfl
@[simp] theorem State.clearRegs_cch (s : State) (lo hi : Nat) : (s.clearRegs lo hi).cch = s.cch := rfl
@[simp] theorem State.clearRegs_nzl (s : State) (lo hi : Nat) : (s.clearRegs lo hi).nzl = s.nzl := rfl
@[simp] theorem State.clearRegs_slp (s : State) (lo hi : Nat) : (s.clearRegs lo hi).slp = s.slp := rfl

/-! ### setBit -/

@[simp] theorem State.setBit_pending (s : State) (f : Fld) (i : Nat) : (s.setBit f i).pending = s.pending := rfl
@[simp] theorem State.setBit_out (s : State) (f : Fld) (i : Nat) : (s.setBit f i).out = s.out := rfl
@[simp] theorem State.setBit_free (s : State) (f : Fld) (i : Nat) : (s.setBit f i).free = s.free := rfl
@[simp] theorem State.setBit_clock (s : State) (f : Fld) (i : Nat) : (s.setBit f i).clock = s.clock := rfl
@[simp] theorem State.setBit_sys (s : State) (f : Fld) (i : Nat) : (s.setBit f i).sys = s.sys := rfl
@[simp] theorem State.setBit_ports (s : State) (f : Fld) (i : Nat) : (s.setBit f i).ports = s.ports := rfl
@[simp] theorem State.setBit_cls (s : State) (f : Fld) (i : Nat) : (s.setBit f i).cls = s.cls := rfl
@[simp] theorem State.setBit_swc (s : State) (f : Fld) (i : Nat) : (s.setBit f i).swc = s.swc := rfl
@[simp] theorem State.setBit_egs (s : State) (f : Fld) (i : Nat) : (s.setBit f i).egs = s.egs := rfl
@[simp] theorem State.setBit_rdm (s : State) (f : Fld) (i : Nat) : (s.setBit f i).rdm = s.rdm := rfl
@[simp] theorem State.setBit_cmdq (s : State) (f : Fld) (i : Nat) : (s.setBit f i).cmdq = s.cmdq := rfl
@[simp] theorem State.setBit_eng (s : State) (f : Fld) (i : Nat) : (s.setBit f i).eng = s.eng := rfl
@[simp] theorem State.setBit_prot (s : State) (f : Fld) (i : Nat) : (s.setBit f i).prot = s.prot := rfl
@[simp] theorem State.setBit_hep (s : State) (f : Fld) (i : Nat) : (s.setBit f i).hep = s.hep := rfl
@[simp] theorem State.setBit_mbx (s : State) (f : Fld) (i : Nat) : (s.setBit f i).mbx = s.mbx := rfl
@[simp] theorem State.setBit_mon (s : State) (f : Fld) (i : Nat) : (s.setBit f i).mon = s.mon := rfl
@[simp] theorem State.setBit_gov (s : State) (f : Fld) (i : Nat) : (s.setBit f i).gov = s.gov := rfl
@[simp] theorem State.setBit_red (s : State) (f : Fld) (i : Nat) : (s.setBit f i).red = s.red := rfl
@[simp] theorem State.setBit_cip (s : State) (f : Fld) (i : Nat) : (s.setBit f i).cip = s.cip := rfl
@[simp] theorem State.setBit_dpt (s : State) (f : Fld) (i : Nat) : (s.setBit f i).dpt = s.dpt := rfl
@[simp] theorem State.setBit_cch (s : State) (f : Fld) (i : Nat) : (s.setBit f i).cch = s.cch := rfl
@[simp] theorem State.setBit_nzl (s : State) (f : Fld) (i : Nat) : (s.setBit f i).nzl = s.nzl := rfl
@[simp] theorem State.setBit_slp (s : State) (f : Fld) (i : Nat) : (s.setBit f i).slp = s.slp := rfl

/-! ### clrBit -/

@[simp] theorem State.clrBit_pending (s : State) (f : Fld) (i : Nat) : (s.clrBit f i).pending = s.pending := rfl
@[simp] theorem State.clrBit_out (s : State) (f : Fld) (i : Nat) : (s.clrBit f i).out = s.out := rfl
@[simp] theorem State.clrBit_free (s : State) (f : Fld) (i : Nat) : (s.clrBit f i).free = s.free := rfl
@[simp] theorem State.clrBit_clock (s : State) (f : Fld) (i : Nat) : (s.clrBit f i).clock = s.clock := rfl
@[simp] theorem State.clrBit_sys (s : State) (f : Fld) (i : Nat) : (s.clrBit f i).sys = s.sys := rfl
@[simp] theorem State.clrBit_ports (s : State) (f : Fld) (i : Nat) : (s.clrBit f i).ports = s.ports := rfl
@[simp] theorem State.clrBit_cls (s : State) (f : Fld) (i : Nat) : (s.clrBit f i).cls = s.cls := rfl
@[simp] theorem State.clrBit_swc (s : State) (f : Fld) (i : Nat) : (s.clrBit f i).swc = s.swc := rfl
@[simp] theorem State.clrBit_egs (s : State) (f : Fld) (i : Nat) : (s.clrBit f i).egs = s.egs := rfl
@[simp] theorem State.clrBit_rdm (s : State) (f : Fld) (i : Nat) : (s.clrBit f i).rdm = s.rdm := rfl
@[simp] theorem State.clrBit_cmdq (s : State) (f : Fld) (i : Nat) : (s.clrBit f i).cmdq = s.cmdq := rfl
@[simp] theorem State.clrBit_eng (s : State) (f : Fld) (i : Nat) : (s.clrBit f i).eng = s.eng := rfl
@[simp] theorem State.clrBit_prot (s : State) (f : Fld) (i : Nat) : (s.clrBit f i).prot = s.prot := rfl
@[simp] theorem State.clrBit_hep (s : State) (f : Fld) (i : Nat) : (s.clrBit f i).hep = s.hep := rfl
@[simp] theorem State.clrBit_mbx (s : State) (f : Fld) (i : Nat) : (s.clrBit f i).mbx = s.mbx := rfl
@[simp] theorem State.clrBit_mon (s : State) (f : Fld) (i : Nat) : (s.clrBit f i).mon = s.mon := rfl
@[simp] theorem State.clrBit_gov (s : State) (f : Fld) (i : Nat) : (s.clrBit f i).gov = s.gov := rfl
@[simp] theorem State.clrBit_red (s : State) (f : Fld) (i : Nat) : (s.clrBit f i).red = s.red := rfl
@[simp] theorem State.clrBit_cip (s : State) (f : Fld) (i : Nat) : (s.clrBit f i).cip = s.cip := rfl
@[simp] theorem State.clrBit_dpt (s : State) (f : Fld) (i : Nat) : (s.clrBit f i).dpt = s.dpt := rfl
@[simp] theorem State.clrBit_cch (s : State) (f : Fld) (i : Nat) : (s.clrBit f i).cch = s.cch := rfl
@[simp] theorem State.clrBit_nzl (s : State) (f : Fld) (i : Nat) : (s.clrBit f i).nzl = s.nzl := rfl
@[simp] theorem State.clrBit_slp (s : State) (f : Fld) (i : Nat) : (s.clrBit f i).slp = s.slp := rfl

/-! ### emit -/

@[simp] theorem State.emit_regs (s : State) (o : Out) : (s.emit o).regs = s.regs := rfl
@[simp] theorem State.emit_pending (s : State) (o : Out) : (s.emit o).pending = s.pending := rfl
@[simp] theorem State.emit_free (s : State) (o : Out) : (s.emit o).free = s.free := rfl
@[simp] theorem State.emit_clock (s : State) (o : Out) : (s.emit o).clock = s.clock := rfl
@[simp] theorem State.emit_sys (s : State) (o : Out) : (s.emit o).sys = s.sys := rfl
@[simp] theorem State.emit_ports (s : State) (o : Out) : (s.emit o).ports = s.ports := rfl
@[simp] theorem State.emit_cls (s : State) (o : Out) : (s.emit o).cls = s.cls := rfl
@[simp] theorem State.emit_swc (s : State) (o : Out) : (s.emit o).swc = s.swc := rfl
@[simp] theorem State.emit_egs (s : State) (o : Out) : (s.emit o).egs = s.egs := rfl
@[simp] theorem State.emit_rdm (s : State) (o : Out) : (s.emit o).rdm = s.rdm := rfl
@[simp] theorem State.emit_cmdq (s : State) (o : Out) : (s.emit o).cmdq = s.cmdq := rfl
@[simp] theorem State.emit_eng (s : State) (o : Out) : (s.emit o).eng = s.eng := rfl
@[simp] theorem State.emit_prot (s : State) (o : Out) : (s.emit o).prot = s.prot := rfl
@[simp] theorem State.emit_hep (s : State) (o : Out) : (s.emit o).hep = s.hep := rfl
@[simp] theorem State.emit_mbx (s : State) (o : Out) : (s.emit o).mbx = s.mbx := rfl
@[simp] theorem State.emit_mon (s : State) (o : Out) : (s.emit o).mon = s.mon := rfl
@[simp] theorem State.emit_gov (s : State) (o : Out) : (s.emit o).gov = s.gov := rfl
@[simp] theorem State.emit_red (s : State) (o : Out) : (s.emit o).red = s.red := rfl
@[simp] theorem State.emit_cip (s : State) (o : Out) : (s.emit o).cip = s.cip := rfl
@[simp] theorem State.emit_dpt (s : State) (o : Out) : (s.emit o).dpt = s.dpt := rfl
@[simp] theorem State.emit_cch (s : State) (o : Out) : (s.emit o).cch = s.cch := rfl
@[simp] theorem State.emit_nzl (s : State) (o : Out) : (s.emit o).nzl = s.nzl := rfl
@[simp] theorem State.emit_slp (s : State) (o : Out) : (s.emit o).slp = s.slp := rfl

/-! ### useFree -/

@[simp] theorem State.useFree_regs (s : State) : (s.useFree).regs = s.regs := rfl
@[simp] theorem State.useFree_pending (s : State) : (s.useFree).pending = s.pending := rfl
@[simp] theorem State.useFree_out (s : State) : (s.useFree).out = s.out := rfl
@[simp] theorem State.useFree_clock (s : State) : (s.useFree).clock = s.clock := rfl
@[simp] theorem State.useFree_sys (s : State) : (s.useFree).sys = s.sys := rfl
@[simp] theorem State.useFree_ports (s : State) : (s.useFree).ports = s.ports := rfl
@[simp] theorem State.useFree_cls (s : State) : (s.useFree).cls = s.cls := rfl
@[simp] theorem State.useFree_swc (s : State) : (s.useFree).swc = s.swc := rfl
@[simp] theorem State.useFree_egs (s : State) : (s.useFree).egs = s.egs := rfl
@[simp] theorem State.useFree_rdm (s : State) : (s.useFree).rdm = s.rdm := rfl
@[simp] theorem State.useFree_cmdq (s : State) : (s.useFree).cmdq = s.cmdq := rfl
@[simp] theorem State.useFree_eng (s : State) : (s.useFree).eng = s.eng := rfl
@[simp] theorem State.useFree_prot (s : State) : (s.useFree).prot = s.prot := rfl
@[simp] theorem State.useFree_hep (s : State) : (s.useFree).hep = s.hep := rfl
@[simp] theorem State.useFree_mbx (s : State) : (s.useFree).mbx = s.mbx := rfl
@[simp] theorem State.useFree_mon (s : State) : (s.useFree).mon = s.mon := rfl
@[simp] theorem State.useFree_gov (s : State) : (s.useFree).gov = s.gov := rfl
@[simp] theorem State.useFree_red (s : State) : (s.useFree).red = s.red := rfl
@[simp] theorem State.useFree_cip (s : State) : (s.useFree).cip = s.cip := rfl
@[simp] theorem State.useFree_dpt (s : State) : (s.useFree).dpt = s.dpt := rfl
@[simp] theorem State.useFree_cch (s : State) : (s.useFree).cch = s.cch := rfl
@[simp] theorem State.useFree_nzl (s : State) : (s.useFree).nzl = s.nzl := rfl
@[simp] theorem State.useFree_slp (s : State) : (s.useFree).slp = s.slp := rfl

/-! ### latch -/

@[simp] theorem State.latch_regs (s : State) (r : Requester) (w : Word) : (s.latch r w).regs = s.regs := rfl
@[simp] theorem State.latch_pending (s : State) (r : Requester) (w : Word) : (s.latch r w).pending = s.pending := rfl
@[simp] theorem State.latch_out (s : State) (r : Requester) (w : Word) : (s.latch r w).out = s.out := rfl
@[simp] theorem State.latch_free (s : State) (r : Requester) (w : Word) : (s.latch r w).free = s.free := rfl
@[simp] theorem State.latch_clock (s : State) (r : Requester) (w : Word) : (s.latch r w).clock = s.clock := rfl
@[simp] theorem State.latch_ports (s : State) (r : Requester) (w : Word) : (s.latch r w).ports = s.ports := rfl
@[simp] theorem State.latch_cls (s : State) (r : Requester) (w : Word) : (s.latch r w).cls = s.cls := rfl
@[simp] theorem State.latch_swc (s : State) (r : Requester) (w : Word) : (s.latch r w).swc = s.swc := rfl
@[simp] theorem State.latch_egs (s : State) (r : Requester) (w : Word) : (s.latch r w).egs = s.egs := rfl
@[simp] theorem State.latch_rdm (s : State) (r : Requester) (w : Word) : (s.latch r w).rdm = s.rdm := rfl
@[simp] theorem State.latch_cmdq (s : State) (r : Requester) (w : Word) : (s.latch r w).cmdq = s.cmdq := rfl
@[simp] theorem State.latch_eng (s : State) (r : Requester) (w : Word) : (s.latch r w).eng = s.eng := rfl
@[simp] theorem State.latch_prot (s : State) (r : Requester) (w : Word) : (s.latch r w).prot = s.prot := rfl
@[simp] theorem State.latch_hep (s : State) (r : Requester) (w : Word) : (s.latch r w).hep = s.hep := rfl
@[simp] theorem State.latch_mbx (s : State) (r : Requester) (w : Word) : (s.latch r w).mbx = s.mbx := rfl
@[simp] theorem State.latch_mon (s : State) (r : Requester) (w : Word) : (s.latch r w).mon = s.mon := rfl
@[simp] theorem State.latch_gov (s : State) (r : Requester) (w : Word) : (s.latch r w).gov = s.gov := rfl
@[simp] theorem State.latch_red (s : State) (r : Requester) (w : Word) : (s.latch r w).red = s.red := rfl
@[simp] theorem State.latch_cip (s : State) (r : Requester) (w : Word) : (s.latch r w).cip = s.cip := rfl
@[simp] theorem State.latch_dpt (s : State) (r : Requester) (w : Word) : (s.latch r w).dpt = s.dpt := rfl
@[simp] theorem State.latch_cch (s : State) (r : Requester) (w : Word) : (s.latch r w).cch = s.cch := rfl
@[simp] theorem State.latch_nzl (s : State) (r : Requester) (w : Word) : (s.latch r w).nzl = s.nzl := rfl
@[simp] theorem State.latch_slp (s : State) (r : Requester) (w : Word) : (s.latch r w).slp = s.slp := rfl

/-! ### What they change -/

@[simp] theorem State.setReg_regs (s : State) (off : Nat) (w : Word) : (s.setReg off w).regs = writeRegs s.regs off w := rfl
@[simp] theorem State.emit_out (s : State) (o : Out) : (s.emit o).out = o :: s.out := rfl
@[simp] theorem State.useFree_free (s : State) : s.useFree.free = s.free + 1 := rfl
@[simp] theorem State.latch_sys (s : State) (r : Requester) (w : Word) : (s.latch r w).sys = { s.sys with latches := tput s.sys.latches (reqNum r) w } := rfl
@[simp] theorem State.cond_true (s : State) (f : State → State) : s.cond true f = f s := rfl
@[simp] theorem State.cond_false (s : State) (f : State → State) : s.cond false f = s := rfl
@[simp] theorem State.each_nil {α : Type} (s : State) (f : State → α → State) : s.each [] f = s := rfl
@[simp] theorem State.each_cons {α : Type} (s : State) (a : α) (l : List α) (f : State → α → State) : s.each (a :: l) f = (f s a).each l f := rfl

end Sys2Proof.Machine
end

