-- ==== Sys2Proof/Laws/Ops.lean ====
section
/-! SUPPORT. What the shared operations do: tables, the register file, its fields, and register accesses. -/

namespace Sys2Proof.Machine

/-! ### Tables -/

theorem tget?_tput {α : Type} (t : List (Nat × α)) (q p : Nat) (x : α) : tget? (tput t q x) p = if q = p then some x else tget? t p := by
  induction t with
  | nil => simp [tput, tget?]
  | cons h t ih =>
    obtain ⟨k, v⟩ := h
    by_cases hk : k = q
    · subst hk; by_cases hp : k = p <;> simp [tput, tget?, hp]
    · by_cases hlt : q < k
      · simp [tput, hk, hlt, tget?]
      · by_cases hp : k = p
        · subst hp; simp [tput, hk, hlt, tget?, Ne.symm hk]
        · simp [tput, hk, hlt, tget?, hp, ih]

theorem tget?_tdel {α : Type} (t : List (Nat × α)) (q p : Nat) : tget? (tdel t q) p = if q = p then none else tget? t p := by
  induction t with
  | nil => simp [tdel, tget?]
  | cons h t ih =>
    obtain ⟨k, v⟩ := h
    simp only [tdel] at ih
    by_cases hk : k = q
    · subst hk
      by_cases hp : k = p
      · subst hp; simpa [tdel] using ih
      · simpa [tdel, tget?, hp] using ih
    · by_cases hp : k = p
      · subst hp; simp [tdel, tget?, hk, Ne.symm hk]
      · simp [tdel, tget?, hk, hp, ih]

theorem tget_tput_same {α : Type} (t : List (Nat × α)) (q : Nat) (x d : α) : tget (tput t q x) q d = x := by simp [tget, tget?_tput]

theorem tget_tput_other {α : Type} (t : List (Nat × α)) (q p : Nat) (x d : α) (h : q ≠ p) : tget (tput t q x) p d = tget t p d := by
  simp [tget, tget?_tput, h]

/-! ### The register file -/

/-- A read after a write: the implemented bits of the written word at its offset, the old word elsewhere. -/
theorem readRegs_writeRegs (r : List (Nat × Word)) (off off' : Nat) (w : Word) :
    readRegs (writeRegs r off w) off' = if off = off' then w &&& regImpl off else readRegs r off' := by
  unfold readRegs writeRegs
  by_cases hv : (w &&& regImpl off) = regPor off
  · by_cases ho : off = off'
    · subst ho; simp [hv, tget?_tdel]
    · simp [hv, tget?_tdel, ho]
  · by_cases ho : off = off'
    · subst ho; simp [hv, tget?_tput]
    · simp [hv, tget?_tput, ho]

theorem State.reg_setReg (s : State) (off off' : Nat) (w : Word) : (s.setReg off w).reg off' = if off = off' then w &&& regImpl off else s.reg off' :=
  readRegs_writeRegs s.regs off off' w

@[simp] theorem State.reg_setReg_same (s : State) (off : Nat) (w : Word) : (s.setReg off w).reg off = w &&& regImpl off := by simp [State.reg_setReg]

theorem State.reg_setReg_other (s : State) (off off' : Nat) (w : Word) (h : off ≠ off') : (s.setReg off w).reg off' = s.reg off' := by
  simp [State.reg_setReg, h]

theorem State.reg_setFld_other (s : State) (f : Fld) (v off : Nat) (h : f.off ≠ off) : (s.setFld f v).reg off = s.reg off :=
  State.reg_setReg_other s f.off off _ h

@[simp] theorem State.reg_emit (s : State) (o : Out) (off : Nat) : (s.emit o).reg off = s.reg off := rfl
@[simp] theorem State.fld_emit (s : State) (o : Out) (f : Fld) : (s.emit o).fld f = s.fld f := rfl
@[simp] theorem State.flag_emit (s : State) (o : Out) (f : Fld) : (s.emit o).flag f = s.flag f := rfl
@[simp] theorem State.reg_useFree (s : State) (off : Nat) : s.useFree.reg off = s.reg off := rfl

/-- Fields of other registers keep their value when a register is written. -/
theorem State.fld_setReg_other (s : State) (f : Fld) (off : Nat) (w : Word) (h : off ≠ f.off) : (s.setReg off w).fld f = s.fld f := by
  simp [State.fld, State.reg_setReg, h]

theorem State.fld_setFld_other (s : State) (f g : Fld) (v : Nat) (h : f.off ≠ g.off) : (s.setFld f v).fld g = s.fld g :=
  State.fld_setReg_other s g f.off _ h

/-- The bits of a word with a field replaced. -/
theorem getLsbD_withField (w : Word) (lo wd v i : Nat) :
    (withField w lo wd v).getLsbD i = (decide (i < 32) && if lo ≤ i ∧ i < lo + wd then v.testBit (i - lo) else w.getLsbD i) := by
  have hw : w.toNat = 2 ^ lo * (2 ^ wd * (w.toNat / 2 ^ lo / 2 ^ wd) + fieldOf w lo wd) + w.toNat % 2 ^ lo := by
    unfold fieldOf
    rw [Nat.shiftRight_eq_div_pow, Nat.div_add_mod, Nat.div_add_mod]
  have hl : w.toNat % 2 ^ lo < 2 ^ lo := Nat.mod_lt _ (Nat.two_pow_pos lo)
  have hv : v % 2 ^ wd < 2 ^ wd := Nat.mod_lt _ (Nat.two_pow_pos wd)
  have he : w.toNat - fieldOf w lo wd * 2 ^ lo + v % 2 ^ wd * 2 ^ lo = 2 ^ lo * (2 ^ wd * (w.toNat / 2 ^ lo / 2 ^ wd) + v % 2 ^ wd) + w.toNat % 2 ^ lo := by
    generalize w.toNat / 2 ^ lo / 2 ^ wd = a at *
    generalize fieldOf w lo wd = f at *
    generalize w.toNat % 2 ^ lo = l at *
    rw [hw]
    have : 2 ^ lo * (2 ^ wd * a + f) + l = f * 2 ^ lo + (2 ^ lo * (2 ^ wd * a) + l) := by ring
    rw [this, Nat.add_sub_cancel_left]; ring
  unfold withField
  rw [he, BitVec.getLsbD_ofNat, Nat.testBit_two_pow_mul_add _ hl, Nat.testBit_two_pow_mul_add _ hv, Nat.testBit_mod_two_pow, Nat.testBit_mod_two_pow,
    Nat.testBit_div_two_pow, Nat.testBit_div_two_pow]
  by_cases h32 : i < 32 <;> by_cases h1 : i < lo
  · have : ¬ lo ≤ i := by omega
    simp [h1, this, BitVec.getLsbD]
  · by_cases h2 : i - lo < wd
    · have h3 : lo ≤ i ∧ i < lo + wd := by omega
      simp [h1, h2, h3]
    · have h3 : ¬ (lo ≤ i ∧ i < lo + wd) := by omega
      have h4 : i - lo - wd + wd + lo = i := by omega
      simp only [h1, h2, h3, if_false, h4, BitVec.getLsbD]
  · simp [h32]
  · simp [h32]

/-- The bits of a field. -/
theorem testBit_fieldOf (w : Word) (lo wd i : Nat) : (fieldOf w lo wd).testBit i = (decide (i < wd) && w.getLsbD (lo + i)) := by
  unfold fieldOf
  rw [Nat.testBit_mod_two_pow, Nat.testBit_shiftRight]
  rfl

/-- The register of a field implements all of its bits. -/
def Fld.whole (f : Fld) : Bool := decide (f.lo + f.wd ≤ 32) && fieldOf (regImpl f.off) f.lo f.wd == 2 ^ f.wd - 1

/-- A field reads back what is written, cut to its width. -/
theorem State.fld_setFld_same (s : State) (f : Fld) (v : Nat) (h : f.whole = true) : (s.setFld f v).fld f = v % 2 ^ f.wd := by
  simp only [Fld.whole, Bool.and_eq_true, decide_eq_true_eq, beq_iff_eq] at h
  apply Nat.eq_of_testBit_eq
  intro i
  simp only [State.fld, State.setFld, State.reg_setReg_same]
  rw [testBit_fieldOf, BitVec.getLsbD_and, getLsbD_withField, Nat.testBit_mod_two_pow]
  by_cases hi : i < f.wd
  · have h1 : f.lo + i < 32 := by omega
    have h2 : (regImpl f.off).getLsbD (f.lo + i) = true := by
      have := testBit_fieldOf (regImpl f.off) f.lo f.wd i
      rw [h.2, Nat.testBit_two_pow_sub_one] at this
      simpa [hi] using this.symm
    simp [hi, h1, h2]
  · simp [hi]

/-- Writing a field keeps every other field, of its own register too. -/
theorem State.fld_setFld_apart (s : State) (f g : Fld) (v : Nat) (hg : g.whole = true) (h : f.off ≠ g.off ∨ f.lo + f.wd ≤ g.lo ∨ g.lo + g.wd ≤ f.lo) :
    (s.setFld f v).fld g = s.fld g := by
  by_cases ho : f.off = g.off
  · have hd : f.lo + f.wd ≤ g.lo ∨ g.lo + g.wd ≤ f.lo := by
      rcases h with h | h
      · exact absurd ho h
      · exact h
    simp only [Fld.whole, Bool.and_eq_true, decide_eq_true_eq, beq_iff_eq] at hg
    apply Nat.eq_of_testBit_eq
    intro i
    simp only [State.fld, State.setFld, ho, State.reg_setReg_same]
    rw [testBit_fieldOf, testBit_fieldOf, BitVec.getLsbD_and, getLsbD_withField]
    by_cases hi : i < g.wd
    · have h1 : g.lo + i < 32 := by omega
      have h2 : (regImpl g.off).getLsbD (g.lo + i) = true := by
        have := testBit_fieldOf (regImpl g.off) g.lo g.wd i
        rw [hg.2, Nat.testBit_two_pow_sub_one] at this
        simpa [hi] using this.symm
      have h3 : ¬ (f.lo ≤ g.lo + i ∧ g.lo + i < f.lo + f.wd) := by omega
      simp [hi, h1, h2, h3]
    · simp [hi]
  · exact State.fld_setFld_other s f g v ho

theorem State.flag_setFlag_same (s : State) (f : Fld) (b : Bool) (h : f.whole = true) (h1 : f.wd = 1) : (s.setFlag f b).flag f = b := by
  unfold State.flag State.setFlag
  rw [State.fld_setFld_same s f _ h, h1]
  cases b <;> rfl

theorem State.flag_setFld_apart (s : State) (f g : Fld) (v : Nat) (hg : g.whole = true) (h : f.off ≠ g.off ∨ f.lo + f.wd ≤ g.lo ∨ g.lo + g.wd ≤ f.lo) :
    (s.setFld f v).flag g = s.flag g := by
  unfold State.flag
  rw [State.fld_setFld_apart s f g v hg h]

/-- The rest of the register file is unlisted exactly where it was. -/
theorem State.reg_clearRegs (s : State) (lo hi off : Nat) (h : off < lo ∨ hi ≤ off) : (s.clearRegs lo hi).reg off = s.reg off := by
  have key : ∀ r : List (Nat × Word), tget? (r.filter (fun e => e.1 < lo || hi ≤ e.1)) off = tget? r off := by
    intro r
    induction r with
    | nil => rfl
    | cons e r ih =>
      obtain ⟨k, v⟩ := e
      by_cases hk : k = off
      · subst hk; rcases h with h | h <;> simp [tget?, h]
      · by_cases hin : (decide (k < lo) || decide (hi ≤ k)) = true
        · simp [hin, tget?, hk, ih]
        · simp [hin, tget?, hk, ih]
  simp only [State.reg, State.clearRegs, readRegs]
  rw [key]

/-! ### The register file's canonical form -/

theorem keysRise_cons {α : Type} (k : Nat) (v : α) (t : List (Nat × α)) : keysRise ((k, v) :: t) = true ↔ (∀ e ∈ t, k < e.1) ∧ keysRise t = true := by
  induction t generalizing k v with
  | nil => simp [keysRise]
  | cons h t ih =>
    obtain ⟨k', v'⟩ := h
    simp only [keysRise, Bool.and_eq_true, decide_eq_true_eq]
    constructor
    · rintro ⟨h1, h2⟩
      have h3 := (ih k' v').1 h2
      refine ⟨?_, h2⟩
      intro e he
      rcases List.mem_cons.1 he with rfl | he
      · exact h1
      · exact Nat.lt_trans h1 (h3.1 e he)
    · rintro ⟨h1, h2⟩
      exact ⟨h1 (k', v') (by simp), h2⟩

theorem mem_tput {α : Type} (t : List (Nat × α)) (q : Nat) (x : α) (e : Nat × α) (h : e ∈ tput t q x) : e = (q, x) ∨ e ∈ t := by
  induction t with
  | nil => simpa [tput] using h
  | cons a t ih =>
    obtain ⟨k, v⟩ := a
    by_cases hk : k = q
    · simp only [tput, hk, if_true, List.mem_cons] at h
      rcases h with h | h
      · exact .inl h
      · exact .inr (List.mem_cons_of_mem _ h)
    · by_cases hlt : q < k
      · simp only [tput, hk, hlt, if_true, if_false, List.mem_cons] at h
        rcases h with h | h | h
        · exact .inl h
        · exact .inr (by simp [h])
        · exact .inr (by simp [h])
      · simp only [tput, hk, hlt, if_false, List.mem_cons] at h
        rcases h with h | h
        · exact .inr (by simp [h])
        · rcases ih h with h | h
          · exact .inl h
          · exact .inr (List.mem_cons_of_mem _ h)

theorem keysRise_tput {α : Type} (t : List (Nat × α)) (q : Nat) (x : α) (h : keysRise t = true) : keysRise (tput t q x) = true := by
  induction t with
  | nil => simp [tput, keysRise]
  | cons a t ih =>
    obtain ⟨k, v⟩ := a
    have h' := (keysRise_cons k v t).1 h
    by_cases hk : k = q
    · subst hk
      have e : tput ((k, v) :: t) k x = (k, x) :: t := by simp [tput]
      rw [e]; exact (keysRise_cons k x t).2 h'
    · by_cases hlt : q < k
      · have e : tput ((k, v) :: t) q x = (q, x) :: (k, v) :: t := by simp [tput, hk, hlt]
        rw [e]
        refine (keysRise_cons q x _).2 ⟨?_, h⟩
        intro e he
        rcases List.mem_cons.1 he with rfl | he
        · exact hlt
        · exact Nat.lt_trans hlt (h'.1 e he)
      · have e : tput ((k, v) :: t) q x = (k, v) :: tput t q x := by simp [tput, hk, hlt]
        rw [e]
        refine (keysRise_cons k v _).2 ⟨?_, ih h'.2⟩
        intro e he
        rcases mem_tput t q x e he with rfl | he
        · show k < q; omega
        · exact h'.1 e he

theorem keysRise_filter {α : Type} (t : List (Nat × α)) (p : Nat × α → Bool) (h : keysRise t = true) : keysRise (t.filter p) = true := by
  induction t with
  | nil => rfl
  | cons a t ih =>
    obtain ⟨k, v⟩ := a
    have h' := (keysRise_cons k v t).1 h
    by_cases hp : p (k, v) = true
    · rw [List.filter_cons_of_pos hp]
      exact (keysRise_cons k v _).2 ⟨fun e he => h'.1 e (List.mem_of_mem_filter he), ih h'.2⟩
    · rw [List.filter_cons_of_neg hp]; exact ih h'.2

theorem regsWf_filter (r : List (Nat × Word)) (p : Nat × Word → Bool) (h : regsWf r = true) : regsWf (r.filter p) = true := by
  simp only [regsWf, Bool.and_eq_true, List.all_eq_true] at h ⊢
  exact ⟨keysRise_filter r p h.1, fun e he => h.2 e (List.mem_of_mem_filter he)⟩

/-- Every write keeps the canonical form. -/
theorem regsWf_writeRegs (r : List (Nat × Word)) (off : Nat) (w : Word) (h : regsWf r = true) : regsWf (writeRegs r off w) = true := by
  unfold writeRegs
  by_cases hv : (w &&& regImpl off) = regPor off
  · simp only [hv, if_true]; exact regsWf_filter r _ h
  · simp only [hv, if_false]
    simp only [regsWf, Bool.and_eq_true, List.all_eq_true] at h ⊢
    refine ⟨keysRise_tput r off _ h.1, ?_⟩
    intro e he
    rcases mem_tput r off _ e he with rfl | he
    · constructor
      · simpa using hv
      · simp [BitVec.and_assoc]
    · exact h.2 e he

theorem State.RegsOk_setReg {s : State} (h : s.RegsOk) (off : Nat) (w : Word) : (s.setReg off w).RegsOk := regsWf_writeRegs s.regs off w h
theorem State.RegsOk_setFld {s : State} (h : s.RegsOk) (f : Fld) (v : Nat) : (s.setFld f v).RegsOk := regsWf_writeRegs s.regs f.off _ h
theorem State.RegsOk_setFlag {s : State} (h : s.RegsOk) (f : Fld) (b : Bool) : (s.setFlag f b).RegsOk := regsWf_writeRegs s.regs f.off _ h
theorem State.RegsOk_set64 {s : State} (h : s.RegsOk) (off v : Nat) : (s.set64 off v).RegsOk :=
  State.RegsOk_setReg (State.RegsOk_setReg h off _) (off + 4) _
theorem State.RegsOk_clearRegs {s : State} (h : s.RegsOk) (lo hi : Nat) : (s.clearRegs lo hi).RegsOk := regsWf_filter s.regs _ h
theorem State.RegsOk_cond {s : State} (h : s.RegsOk) (c : Bool) (f : State → State) (hf : (f s).RegsOk) : (s.cond c f).RegsOk := by
  cases c
  · exact h
  · exact hf
theorem State.RegsOk_each {α : Type} {s : State} (h : s.RegsOk) (l : List α) (f : State → α → State) (hf : ∀ t a, State.RegsOk t → (f t a).RegsOk) : (s.each l f).RegsOk := by
  induction l generalizing s with
  | nil => exact h
  | cons a l ih => exact ih (hf s a h)

/-! ### Register accesses -/

/-- A write that every check admits takes its effect. -/
theorem State.accessWrite_ok (s : State) (r : Requester) (off : Nat) (f : State → State) (h1 : s.reachable r = true) (h2 : 2 ≤ s.classOf r)
    (h3 : s.mode ≠ 7 ∨ midnightWrite off = true) (h4 : s.absent r off = false) : s.accessWrite r off f = f s := by
  have h2' : ¬ s.classOf r < 2 := by omega
  rcases h3 with h3 | h3 <;> simp [State.accessWrite, h1, h2', h3, h4]

/-- A write refused by class changes the two counters only (R374). -/
theorem State.accessWrite_refused (s : State) (r : Requester) (off : Nat) (f : State → State) (h1 : s.reachable r = true) (h2 : s.classOf r < 2) :
    s.accessWrite r off f = s.privRefused := by
  simp [State.accessWrite, h1, h2]

/-- Nothing answers an unreachable requester. -/
theorem State.accessWrite_unreachable (s : State) (r : Requester) (off : Nat) (f : State → State) (h : s.reachable r = false) : s.accessWrite r off f = s := by
  simp [State.accessWrite, h]

end Sys2Proof.Machine
end

