-- ==== Sys2Proof/Laws/Frames.lean ====
section
/-! SUPPORT. Frames: what the shared operations leave unchanged, and how frames compose. -/

namespace Sys2Proof.Machine

theorem NextIs.of_eq {o : Host.Outcome State Fault Refusal} {P : State → Prop} {t : State} (h : o = .next t) (hp : P t) : NextIs o P := ⟨t, h, hp⟩

theorem RegsOnly.refl (offs : List Nat) (s : State) : RegsOnly offs s s := ⟨rfl, fun _ _ => rfl⟩

theorem RegsOnly.trans {offs : List Nat} {s t u : State} (h : RegsOnly offs s t) (h' : RegsOnly offs t u) : RegsOnly offs s u := by
  refine ⟨?_, fun off ho => (h'.2 off ho).trans (h.2 off ho)⟩
  have h1 := h.1; have h2 := h'.1
  rw [h1] at h2; exact h2

theorem RegsOnly.setReg {offs : List Nat} {s t : State} (h : RegsOnly offs s t) (off : Nat) (w : Word) (hm : off ∈ offs) : RegsOnly offs s (t.setReg off w) :=
  h.trans ⟨rfl, fun o ho => State.reg_setReg_other t off o w (fun e => ho (e ▸ hm))⟩

theorem RegsOnly.setFld {offs : List Nat} {s t : State} (h : RegsOnly offs s t) (f : Fld) (v : Nat) (hm : f.off ∈ offs) : RegsOnly offs s (t.setFld f v) :=
  h.setReg f.off _ hm

theorem RegsOnly.setFlag {offs : List Nat} {s t : State} (h : RegsOnly offs s t) (f : Fld) (b : Bool) (hm : f.off ∈ offs) : RegsOnly offs s (t.setFlag f b) :=
  h.setReg f.off _ hm

theorem RegsOnly.set64 {offs : List Nat} {s t : State} (h : RegsOnly offs s t) (off v : Nat) (h0 : off ∈ offs) (h1 : off + 4 ∈ offs) : RegsOnly offs s (t.set64 off v) :=
  (h.setReg off _ h0).setReg (off + 4) _ h1

theorem RegsOnly.counts {offs : List Nat} {s t : State} (h : RegsOnly offs s t) : CountsOnly offs s t :=
  ⟨by have h1 := h.1; rw [h1], fun off ho _ => h.2 off ho⟩

theorem CountsOnly.refl (offs : List Nat) (s : State) : CountsOnly offs s s := (RegsOnly.refl offs s).counts

theorem CountsOnly.trans {offs : List Nat} {s t u : State} (h : CountsOnly offs s t) (h' : CountsOnly offs t u) : CountsOnly offs s u := by
  refine ⟨?_, fun off ho hh => (h'.2 off ho hh).trans (h.2 off ho hh)⟩
  have h1 := h.1; have h2 := h'.1
  rw [h1] at h2; exact h2

theorem CountsOnly.setReg {offs : List Nat} {s t : State} (h : CountsOnly offs s t) (off : Nat) (w : Word) (hm : off ∈ offs ∨ off = HEP_STAT) :
    CountsOnly offs s (t.setReg off w) := by
  refine h.trans ⟨rfl, fun o ho hh => State.reg_setReg_other t off o w (fun e => ?_)⟩
  rcases hm with hm | hm
  · exact ho (e ▸ hm)
  · exact hh (e ▸ hm)

theorem CountsOnly.setFld {offs : List Nat} {s t : State} (h : CountsOnly offs s t) (f : Fld) (v : Nat) (hm : f.off ∈ offs ∨ f.off = HEP_STAT) :
    CountsOnly offs s (t.setFld f v) := h.setReg f.off _ hm

theorem CountsOnly.setFlag {offs : List Nat} {s t : State} (h : CountsOnly offs s t) (f : Fld) (b : Bool) (hm : f.off ∈ offs ∨ f.off = HEP_STAT) :
    CountsOnly offs s (t.setFlag f b) := h.setReg f.off _ hm

theorem CountsOnly.emit {offs : List Nat} {s t : State} (h : CountsOnly offs s t) (o : Out) : CountsOnly offs s (t.emit o) :=
  h.trans ⟨rfl, fun _ _ _ => rfl⟩

theorem CountsOnly.mon {offs : List Nat} {s t : State} (h : CountsOnly offs s t) (m : Mon) : CountsOnly offs s { t with mon := m } :=
  h.trans ⟨rfl, fun _ _ _ => rfl⟩

theorem CountsOnly.cond {offs : List Nat} {s t : State} (h : CountsOnly offs s t) (c : Bool) (f : State → State) (hf : CountsOnly offs s (f t)) : CountsOnly offs s (t.cond c f) := by
  cases c
  · exact h
  · exact hf

theorem CountsOnly.each {α : Type} {offs : List Nat} {s t : State} (h : CountsOnly offs s t) (l : List α) (f : State → α → State)
    (hf : ∀ u a, CountsOnly offs s u → CountsOnly offs s (f u a)) : CountsOnly offs s (t.each l f) := by
  induction l generalizing t with
  | nil => exact h
  | cons a l ih => exact ih (hf t a h)

/-! ### Messages, health events and counters -/

theorem CountsOnly.wakeLink {offs : List Nat} {s t : State} (h : CountsOnly offs s t) : CountsOnly offs s t.wakeLink := by
  unfold State.wakeLink
  split
  · exact h.setFld _ _ (.inr rfl)
  · exact h

theorem CountsOnly.msix1 {offs : List Nat} {s t : State} (h : CountsOnly offs s t) (v : Nat) : CountsOnly offs s (t.msix1 v) := by
  unfold State.msix1
  split
  · exact h.wakeLink.emit _
  · exact h.trans ⟨by unfold Func.pend; split <;> rfl, fun _ _ _ => rfl⟩

theorem CountsOnly.msix0 {offs : List Nat} {s t : State} (h : CountsOnly offs s t) (v : Nat) : CountsOnly offs s (t.msix0 v) := by
  unfold State.msix0
  split
  · exact h.wakeLink.emit _
  · exact h.trans ⟨by unfold Func.pend; split <;> rfl, fun _ _ _ => rfl⟩

theorem CountsOnly.health {offs : List Nat} {s t : State} (h : CountsOnly offs s t) (b : Nat) : CountsOnly offs s (t.health b) := by
  unfold State.health
  dsimp only
  split
  · exact h.mon _
  · split
    · exact ((h.mon _).mon _).msix0 4
    · exact (h.mon _).mon _

theorem CountsOnly.pcAdd {offs : List Nat} {s t : State} (h : CountsOnly offs s t) (g k n : Nat) : CountsOnly offs s (t.pcAdd g k n) := by
  unfold State.pcAdd
  dsimp only
  split
  · exact h.mon _
  · split
    · exact ((h.mon _).mon _).health 12
    · exact (h.mon _).mon _

theorem CountsOnly.slotAdd {offs : List Nat} {s t : State} (h : CountsOnly offs s t) (k n : Nat) : CountsOnly offs s (t.slotAdd k n) := by
  unfold State.slotAdd
  dsimp only
  split
  · exact ((h.mon _).mon _).health 13
  · exact h.mon _

theorem CountsOnly.monEvent {offs : List Nat} {s t : State} (h : CountsOnly offs s t) (g code n : Nat) : CountsOnly offs s (t.monEvent g code n) := by
  unfold State.monEvent
  split
  · exact h
  · exact (h.each _ _ (fun u a hu => hu.pcAdd g a.2 n)).each _ _ (fun u a hu => hu.slotAdd a n)

theorem CountsOnly.set64 {offs : List Nat} {s t : State} (h : CountsOnly offs s t) (off v : Nat) (h0 : off ∈ offs) (h1 : off + 4 ∈ offs) :
    CountsOnly offs s (t.set64 off v) := (h.setReg off _ (.inl h0)).setReg (off + 4) _ (.inl h1)

theorem CountsOnly.bumpBy {offs : List Nat} {s t : State} (h : CountsOnly offs s t) (off n : Nat) (h0 : off ∈ offs) (h1 : off + 4 ∈ offs) :
    CountsOnly offs s (t.bumpBy off n) := by
  unfold State.bumpBy
  dsimp only
  split
  · exact (h.set64 _ _ h0 h1).monEvent _ _ _
  · exact h.set64 _ _ h0 h1

theorem CountsOnly.bump {offs : List Nat} {s t : State} (h : CountsOnly offs s t) (off : Nat) (h0 : off ∈ offs) (h1 : off + 4 ∈ offs) :
    CountsOnly offs s (t.bump off) := h.bumpBy off 1 h0 h1

/-- A 64-bit counter whose words are whole registers reads back what is written, modulo 2^64. -/
theorem State.get64_set64 (s : State) (off v : Nat) (h0 : regImpl off = 0xFFFFFFFF) (h1 : regImpl (off + 4) = 0xFFFFFFFF) : (s.set64 off v).get64 off = v % 2 ^ 64 := by
  have a : ∀ w : Word, w &&& 0xFFFFFFFF#32 = w := by intro w; exact BitVec.and_allOnes (x := w)
  have e : (s.set64 off v).reg off = BitVec.ofNat 32 v := by
    unfold State.set64
    rw [State.reg_setReg_other _ _ _ _ (by omega), State.reg_setReg_same, h0]; exact a _
  have e' : (s.set64 off v).reg (off + 4) = BitVec.ofNat 32 (v / 2 ^ 32) := by
    unfold State.set64
    rw [State.reg_setReg_same, h1]; exact a _
  unfold State.get64
  rw [e, e', BitVec.toNat_ofNat, BitVec.toNat_ofNat]
  omega

/-- Counting goes up by what is counted, modulo 2^64 (R85, R440). -/
theorem State.get64_bumpBy (s : State) (off n : Nat) (h0 : regImpl off = 0xFFFFFFFF) (h1 : regImpl (off + 4) = 0xFFFFFFFF) (hh : off ≠ HEP_STAT ∧ off + 4 ≠ HEP_STAT) :
    (s.bumpBy off n).get64 off = (s.get64 off + n) % 2 ^ 64 := by
  have key : ∀ t : State, CountsOnly [] (s.set64 off ((s.get64 off + n) % 2 ^ 64)) t → t.get64 off = (s.get64 off + n) % 2 ^ 64 := by
    intro t ht
    have e0 := ht.2 off (by simp) hh.1
    have e1 := ht.2 (off + 4) (by simp) hh.2
    have := State.get64_set64 s off ((s.get64 off + n) % 2 ^ 64) h0 h1
    have e : t.get64 off = (s.set64 off ((s.get64 off + n) % 2 ^ 64)).get64 off := by
      show (t.reg off).toNat + (t.reg (off + 4)).toNat * 2 ^ 32 = _
      rw [e0, e1]; rfl
    rw [e, this]; omega
  unfold State.bumpBy
  dsimp only
  split
  · exact key _ ((CountsOnly.refl [] _).monEvent _ _ _)
  · exact key _ (CountsOnly.refl [] _)

end Sys2Proof.Machine
end

