-- ==== Sys2Proof/Laws/Canonical.lean ====
section
/-! SUPPORT. The register file stays canonical under the shared operations: messages, health events, counters, admitted accesses, time. -/

namespace Sys2Proof.Machine

theorem State.RegsOk_of_regs {s t : State} (h : s.RegsOk) (e : t.regs = s.regs) : t.RegsOk := by
  unfold State.RegsOk at *; rw [e]; exact h

theorem State.RegsOk_emit {s : State} (h : s.RegsOk) (o : Out) : (s.emit o).RegsOk := h

theorem State.RegsOk_wakeLink {s : State} (h : s.RegsOk) : s.wakeLink.RegsOk := by
  unfold State.wakeLink; split
  · exact State.RegsOk_setFld h _ _
  · exact h

theorem State.RegsOk_msix0 {s : State} (h : s.RegsOk) (v : Nat) : (s.msix0 v).RegsOk := by
  unfold State.msix0; split
  · exact State.RegsOk_wakeLink h
  · exact h

theorem State.RegsOk_msix1 {s : State} (h : s.RegsOk) (v : Nat) : (s.msix1 v).RegsOk := by
  unfold State.msix1; split
  · exact State.RegsOk_wakeLink h
  · exact h

theorem State.RegsOk_health {s : State} (h : s.RegsOk) (b : Nat) : (s.health b).RegsOk := by
  unfold State.health; dsimp only; split
  · exact h
  · split
    · refine State.RegsOk_msix0 ?_ 4; exact h
    · exact h

theorem State.RegsOk_pcAdd {s : State} (h : s.RegsOk) (g k n : Nat) : (s.pcAdd g k n).RegsOk := by
  unfold State.pcAdd; dsimp only; split
  · exact h
  · split
    · refine State.RegsOk_health ?_ 12; exact h
    · exact h

theorem State.RegsOk_slotAdd {s : State} (h : s.RegsOk) (k n : Nat) : (s.slotAdd k n).RegsOk := by
  unfold State.slotAdd; dsimp only; split
  · refine State.RegsOk_health ?_ 13; exact h
  · exact h

theorem State.RegsOk_monEvent {s : State} (h : s.RegsOk) (g code n : Nat) : (s.monEvent g code n).RegsOk := by
  unfold State.monEvent; split
  · exact h
  · exact State.RegsOk_each (State.RegsOk_each h _ _ (fun t _ ht => State.RegsOk_pcAdd ht _ _ _)) _ _ (fun t _ ht => State.RegsOk_slotAdd ht _ _)

theorem State.RegsOk_bumpBy {s : State} (h : s.RegsOk) (off n : Nat) : (s.bumpBy off n).RegsOk := by
  unfold State.bumpBy; split
  · exact State.RegsOk_monEvent (State.RegsOk_set64 h _ _) _ _ _
  · exact State.RegsOk_set64 h _ _

theorem State.RegsOk_bump {s : State} (h : s.RegsOk) (off : Nat) : (s.bump off).RegsOk := State.RegsOk_bumpBy h off 1

theorem State.RegsOk_bumpC {s : State} (h : s.RegsOk) (c off : Nat) : (s.bumpC c off).RegsOk := State.RegsOk_monEvent (State.RegsOk_bump h off) _ _ _

theorem State.RegsOk_bumpCBy {s : State} (h : s.RegsOk) (c off n : Nat) : (s.bumpCBy c off n).RegsOk := State.RegsOk_monEvent (State.RegsOk_bumpBy h off n) _ _ _

theorem State.RegsOk_bumpD {s : State} (h : s.RegsOk) (p off : Nat) : (s.bumpD p off).RegsOk := by
  unfold State.bumpD; split
  · exact State.RegsOk_monEvent (State.RegsOk_bump h off) _ _ _
  · exact State.RegsOk_bump h off

theorem State.RegsOk_malformed {s : State} (h : s.RegsOk) : s.malformed.RegsOk := State.RegsOk_bump h _

theorem State.RegsOk_privRefused {s : State} (h : s.RegsOk) : s.privRefused.RegsOk := State.RegsOk_malformed (State.RegsOk_bump h _)

/-- An access leaves the register file canonical where its effect does. -/
theorem State.RegsOk_accessWrite {s : State} (h : s.RegsOk) (r : Requester) (off : Nat) (f : State → State) (hf : (f s).RegsOk) : (s.accessWrite r off f).RegsOk := by
  unfold State.accessWrite
  split
  · exact h
  split
  · exact State.RegsOk_privRefused h
  split
  · exact State.RegsOk_malformed h
  split
  · exact State.RegsOk_malformed h
  · exact hf

theorem State.RegsOk_readRefused {s : State} (h : s.RegsOk) (r : Requester) (off : Nat) : (s.readRefused r off).RegsOk := by
  unfold State.readRefused
  split
  · exact h
  split
  · exact State.RegsOk_privRefused h
  split
  · exact State.RegsOk_malformed h
  · exact h

theorem State.RegsOk_accessRead {s : State} (h : s.RegsOk) (r : Requester) (off : Nat) (w : Word) (f : State → State) (hf : ∀ t, State.RegsOk t → (f t).RegsOk) :
    (s.accessRead r off w f).RegsOk := by
  unfold State.accessRead
  split
  · exact h
  split
  · dsimp only
    split
    · exact State.RegsOk_emit h _
    · exact hf _ (State.RegsOk_emit h _)
  · exact State.RegsOk_emit (State.RegsOk_readRefused h r off) _

theorem State.RegsOk_cycleEvents {s t : State} (h : t.RegsOk) (dt code : Nat) : (s.cycleEvents dt code t).RegsOk := by
  unfold State.cycleEvents
  exact State.RegsOk_each (State.RegsOk_each h _ _ (fun _ _ hu => State.RegsOk_pcAdd hu _ _ _)) _ _ (fun _ _ hu => State.RegsOk_slotAdd hu _ _)

theorem State.RegsOk_monPass {s : State} (h : s.RegsOk) (dt : Nat) : (s.monPass dt).RegsOk := by
  unfold State.monPass
  refine State.RegsOk_cycleEvents (State.RegsOk_cycleEvents (State.RegsOk_cycleEvents ?_ dt 1) dt 0x081) dt 0x083
  exact h

/-- Time passes. -/
theorem State.RegsOk_pass {s : State} (h : s.RegsOk) (dt : Nat) : (s.pass dt).RegsOk := by
  unfold State.pass
  split
  · exact h
  · refine State.RegsOk_monPass (State.RegsOk_setFld (State.RegsOk_setFld ?_ _ _) _ _) dt
    exact h

end Sys2Proof.Machine
end

