-- ==== Sys2Proof/Laws/RegMap.lean ====
section
/-! SUPPORT. The register map: which descriptors an offset can find, PORn values against implemented bits, and registers under a reset. -/

namespace Sys2Proof.Machine

/-- What is found lies in the table searched. -/
theorem findReg_mem {l : List RegDesc} {off : Nat} {d : RegDesc} {ix : List Nat} (h : findReg l off = some (d, ix)) : d ∈ l := by
  induction l with
  | nil => simp [findReg] at h
  | cons a l ih =>
    unfold findReg at h
    split at h
    · split at h
      · split at h
        · simp only [Option.some.injEq, Prod.mk.injEq] at h
          exact h.1 ▸ List.mem_cons_self
        · exact List.mem_cons_of_mem _ (ih h)
      · exact List.mem_cons_of_mem _ (ih h)
    · exact List.mem_cons_of_mem _ (ih h)

/-- A property of every block's descriptors holds of what is found at an offset. -/
theorem regAt_all (p : RegDesc → Bool)
    (h0 : (regsSys.all p && regsGov.all p && regsMbx.all p && regsProt.all p && regsHep.all p) = true)
    (h1 : (regsNet.all p && regsCls.all p && regsSwc.all p && regsEgs.all p && regsRdm.all p) = true)
    (h2 : (regsCmdq.all p && regsEng.all p && regsDpt.all p && regsRed.all p && regsCch.all p) = true)
    (h3 : (regsCip.all p && regsNzl.all p && regsSlp.all p && regsMon.all p && regsDmc.all p && regsAdm.all p) = true)
    {off : Nat} {d : RegDesc} {ix : List Nat} (hr : regAt off = some (d, ix)) : p d = true := by
  simp only [Bool.and_eq_true, List.all_eq_true] at h0 h1 h2 h3
  have hm := findReg_mem hr
  unfold regBlock at hm
  split at hm
  · exact h3.2 d hm
  · split at hm
    · split at hm <;> first | exact (List.not_mem_nil hm).elim | skip
      · exact h0.1.1.1.1 d hm
      · exact h0.1.1.1.2 d hm
      · exact h0.1.1.2 d hm
      · exact h0.1.2 d hm
      · exact h0.2 d hm
    · exact h1.1.1.1.1 d hm
    · exact h1.1.1.1.2 d hm
    · exact h1.1.1.2 d hm
    · exact h1.1.2 d hm
    · exact h1.2 d hm
    · exact h2.1.1.1.1 d hm
    · exact h2.1.1.1.2 d hm
    · exact h2.1.1.2 d hm
    · exact h2.1.2 d hm
    · exact h2.2 d hm
    · exact h3.1.1.1.1.1 d hm
    · exact h3.1.1.1.1.2 d hm
    · exact h3.1.1.1.2 d hm
    · exact h3.1.1.2 d hm
    · exact h3.1.2 d hm
    · exact (List.not_mem_nil hm).elim

/-- Every PORn value of a descriptor, whatever its index. -/
def RegDesc.pors (d : RegDesc) : List Nat := (List.range 26).map (fun i => porAt d [i])

theorem porAt_mem (d : RegDesc) (ix : List Nat) (hk : d.kind ≤ 5) : porAt d ix ∈ d.pors := by
  unfold RegDesc.pors
  rw [List.mem_map]
  have hr : ∀ j, j < 26 → j ∈ List.range 26 := fun j hj => List.mem_range.2 hj
  rcases (by omega : d.kind = 0 ∨ d.kind = 1 ∨ d.kind = 2 ∨ d.kind = 3 ∨ d.kind = 4 ∨ d.kind = 5) with h | h | h | h | h | h
  · exact ⟨0, hr 0 (by omega), by simp [porAt, h]⟩
  · exact ⟨ix.headD 0 % 4, hr _ (by omega), by simp [porAt, h]⟩
  · exact ⟨ix.headD 0 % 16 % 8, hr _ (by omega), by simp [porAt, h]⟩
  · by_cases hi : ix.headD 0 < 12
    · exact ⟨ix.headD 0, hr _ (by omega), by simp [porAt, h]⟩
    · refine ⟨12, hr _ (by omega), ?_⟩
      simp only [porAt, h, List.headD_cons]
      generalize ix.headD 0 = i at hi
      match i, hi with
      | 0, hi | 1, hi | 2, hi | 3, hi | 4, hi | 5, hi | 6, hi | 7, hi | 8, hi | 9, hi | 10, hi | 11, hi => exact absurd hi (by omega)
      | n + 12, _ => rfl
  · by_cases hi : ix.headD 0 = 24
    · exact ⟨24, hr _ (by omega), by simp only [porAt, h, List.headD_cons, hi]⟩
    · exact ⟨0, hr _ (by omega), by simp only [porAt, h, List.headD_cons, if_neg hi]; rfl⟩
  · exact ⟨0, hr _ (by omega), by simp [porAt, h]⟩

/-- A descriptor's PORn values set implemented bits only. -/
def RegDesc.sound (d : RegDesc) : Bool := decide (d.kind ≤ 5) && d.pors.all (fun v => BitVec.ofNat 32 v &&& BitVec.ofNat 32 d.impl == BitVec.ofNat 32 v)

set_option maxRecDepth 100000 in
theorem regs_sound0 : (regsSys.all RegDesc.sound && regsGov.all RegDesc.sound && regsMbx.all RegDesc.sound && regsProt.all RegDesc.sound && regsHep.all RegDesc.sound) = true := by decide
set_option maxRecDepth 100000 in
theorem regs_sound1 : (regsNet.all RegDesc.sound && regsCls.all RegDesc.sound && regsSwc.all RegDesc.sound && regsEgs.all RegDesc.sound && regsRdm.all RegDesc.sound) = true := by decide
set_option maxRecDepth 100000 in
theorem regs_sound2 : (regsCmdq.all RegDesc.sound && regsEng.all RegDesc.sound && regsDpt.all RegDesc.sound && regsRed.all RegDesc.sound && regsCch.all RegDesc.sound) = true := by decide
set_option maxRecDepth 100000 in
theorem regs_sound3 : (regsCip.all RegDesc.sound && regsNzl.all RegDesc.sound && regsSlp.all RegDesc.sound && regsMon.all RegDesc.sound && regsDmc.all RegDesc.sound && regsAdm.all RegDesc.sound) = true := by decide

/-- A PORn value sets implemented bits only. -/
theorem regPor_impl (off : Nat) : regPor off &&& regImpl off = regPor off := by
  unfold regPor regImpl
  cases hr : regAt off with
  | none => rfl
  | some e =>
    obtain ⟨d, ix⟩ := e
    have hs := regAt_all RegDesc.sound regs_sound0 regs_sound1 regs_sound2 regs_sound3 hr
    simp only [RegDesc.sound, Bool.and_eq_true, decide_eq_true_eq, List.all_eq_true, beq_iff_eq] at hs
    exact hs.2 _ (porAt_mem d ix hs.1)

/-- In a canonical register file every word holds implemented bits only. -/
theorem State.reg_impl (s : State) (h : s.RegsOk) (off : Nat) : s.reg off &&& regImpl off = s.reg off := by
  unfold State.reg readRegs
  cases hg : tget? s.regs off with
  | none => exact regPor_impl off
  | some w =>
    simp only [State.RegsOk, regsWf, Bool.and_eq_true, List.all_eq_true] at h
    have hm : (off, w) ∈ s.regs := by
      revert hg; generalize s.regs = r
      induction r with
      | nil => simp [tget?]
      | cons e r ih =>
        obtain ⟨k, v⟩ := e
        intro hg
        by_cases hk : k = off
        · subst hk; simp [tget?] at hg; simp [hg]
        · simp [tget?, hk] at hg; exact List.mem_cons_of_mem _ (ih hg)
    have := (h.2 (off, w) hm).2
    simpa using this

/-! ### Registers under a reset -/

theorem keysRise_unlisted {α : Type} (k : Nat) (v : α) (t : List (Nat × α)) (h : keysRise ((k, v) :: t) = true) : tget? t k = none := by
  have hh := ((keysRise_cons k v t).1 h).1
  clear h
  induction t with
  | nil => rfl
  | cons e t ih =>
    obtain ⟨k', v'⟩ := e
    have h1 : k < k' := hh (k', v') (by simp)
    have h2 : ¬ k' = k := by omega
    simp only [tget?, h2, if_false]
    exact ih (fun e he => hh e (List.mem_cons_of_mem _ he))

theorem readRegs_foldl (g : Nat × Word → Word) (r : List (Nat × Word)) (acc : List (Nat × Word)) (off : Nat) (h : keysRise r = true) :
    readRegs (r.foldl (fun acc e => writeRegs acc e.1 (g e)) acc) off = match tget? r off with
      | some v => g (off, v) &&& regImpl off
      | none => readRegs acc off := by
  induction r generalizing acc with
  | nil => rfl
  | cons e r ih =>
    obtain ⟨k, v⟩ := e
    have h' := ((keysRise_cons k v r).1 h).2
    rw [List.foldl_cons, ih _ h']
    by_cases hk : k = off
    · subst hk
      rw [keysRise_unlisted k v r h]
      simp [tget?, readRegs_writeRegs]
    · simp only [tget?, hk, if_false]
      cases tget? r off with
      | some v => rfl
      | none => simp [readRegs_writeRegs, hk]

/-- A register after a reset: kept bits and reset value where the reset reaches it, unchanged elsewhere. -/
theorem readRegs_resetRegs (r : List (Nat × Word)) (inn : Nat → Bool) (keep : Nat → Word) (off : Nat) (h : regsWf r = true) :
    readRegs (resetRegs r inn keep) off = if inn off then mixWord (keep off) (readRegs r off) (regPor off) else readRegs r off := by
  have hk : keysRise r = true := by simp only [regsWf, Bool.and_eq_true] at h; exact h.1
  have mixPor : ∀ m p : Word, mixWord m p p = p := by
    intro m p
    unfold mixWord
    apply BitVec.eq_of_getLsbD_eq
    intro i hi
    simp only [BitVec.getLsbD_or, BitVec.getLsbD_and, BitVec.getLsbD_not, hi, decide_true, Bool.true_and]
    cases p.getLsbD i <;> cases m.getLsbD i <;> rfl
  have himpl := State.reg_impl { regs := r } h off
  have mixImpl : ∀ m a p i : Word, a &&& i = a → p &&& i = p → mixWord m a p &&& i = mixWord m a p := by
    intro m a p i ha hp
    unfold mixWord
    apply BitVec.eq_of_getLsbD_eq
    intro j hj
    have ha' := congrArg (fun x => x.getLsbD j) ha
    have hp' := congrArg (fun x => x.getLsbD j) hp
    simp only [BitVec.getLsbD_and] at ha' hp'
    simp only [BitVec.getLsbD_or, BitVec.getLsbD_and, BitVec.getLsbD_not, hj, decide_true, Bool.true_and]
    revert ha' hp'
    cases a.getLsbD j <;> cases p.getLsbD j <;> cases i.getLsbD j <;> cases m.getLsbD j <;> simp
  unfold resetRegs
  rw [readRegs_foldl (fun e => if inn e.1 then mixWord (keep e.1) e.2 (regPor e.1) else e.2) r [] off hk]
  simp only [State.reg, readRegs] at himpl ⊢
  cases hg : tget? r off with
  | none =>
    have : tget? ([] : List (Nat × Word)) off = none := rfl
    simp only [this, Option.getD_none, mixPor, ite_self]
  | some v =>
    rw [hg] at himpl
    simp only [Option.getD_some] at himpl ⊢
    by_cases hi : inn off = true
    · simp only [hi, if_true]; exact mixImpl _ _ _ _ himpl (regPor_impl off)
    · simp only [hi]; exact himpl

theorem regsWf_resetRegs (r : List (Nat × Word)) (inn : Nat → Bool) (keep : Nat → Word) : regsWf (resetRegs r inn keep) = true := by
  unfold resetRegs
  suffices h : ∀ (l acc : List (Nat × Word)), regsWf acc = true →
      regsWf (l.foldl (fun acc (e : Nat × Word) => writeRegs acc e.1 (if inn e.1 then mixWord (keep e.1) e.2 (regPor e.1) else e.2)) acc) = true from h r [] rfl
  intro l
  induction l with
  | nil => exact fun acc h => h
  | cons e l ih => exact fun acc h => ih _ (regsWf_writeRegs acc _ _ h)

end Sys2Proof.Machine
end

