-- ==== Sys2Proof/Tests/Slice0.lean ====
section
/-! SUPPORT. Tests of single commands on small states, of the well-formedness checks, and witnesses of the statements' hypotheses. -/

namespace Sys2Proof.Tests

open Sys2Proof.Machine

/-! ### Small states -/

/-- Registers set one after another, in the file's canonical form. -/
def regsOf (l : List (Nat × Word)) : List (Nat × Word) := l.foldl (fun r e => writeRegs r e.1 e.2) State.reset.regs

/-- The part in a mode, with some registers set. -/
def st (mode : Word) (l : List (Nat × Word)) : State := { State.reset with regs := regsOf ((SYS_MODE, mode) :: l) }

/-! ### Well-formedness -/

/-- A register offset lies in its space and is a multiple of 4. -/
theorem test_wf_register_place : Instr.wf (.registerWrite (.bar0 .pf0 2) 0 {}) = false ∧ Instr.wf (.registerWrite (.bar0 .pf0 0x4000000) 0 {}) = false ∧ Instr.wf (.registerWrite (.bar2 true 0x10000000) 0 {}) = false ∧ Instr.wf (.registerWrite (.rom 0x100000) 0 {}) = false ∧ Instr.wf (.registerWrite (.bar2 false 6) 0 {}) = false ∧ Instr.wf (.registerWrite (.rom 1) 0 {}) = false := by decide

/-- The same for reads. -/
theorem test_wf_register_read : Instr.wf (.read64bitLowWord (.bar0 .pf0 2)) = false ∧ Instr.wf (.rcRead (.bar2 true 2)) = false ∧ Instr.wf (.rwcWriteAttempt .pf0 2) = false ∧ Instr.wf (.counterClear .pf0 0x4000000 1) = false := by decide

/-- A status frame carries 32 channels and two feeds. -/
theorem test_wf_pdi_frame : Instr.wf (.pdiStatusFrame [] [(0, 0, 0), (0, 0, 0)]) = false ∧ Instr.wf (.pdiStatusFrame (List.replicate 32 (0, 0)) []) = false := by decide

/-- A KEK check value has 16 bits. -/
theorem test_wf_pll_kek : Instr.wf (.pllLock 16 5 (some 65536) false false) = false := by decide

set_option maxRecDepth 100000 in
/-- An image header has at most 1,024 octets, its digest 384 bits. -/
theorem test_wf_image : Instr.wf (.imageVerified 0 (List.replicate 1025 0) 0) = false ∧ Instr.wf (.imageVerified 0 [] (2 ^ 384)) = false ∧ Instr.wf (.imageFailed 1 (List.replicate 1025 0) 0 false) = false ∧ Instr.wf (.imageFailed 1 [] (2 ^ 384) true) = false := by decide

/-- Twelve channels report a density. -/
theorem test_wf_densities : Instr.wf (.dramTrainingComplete [1, 1]) = false := by decide

/-- A stamp has 40 bits. -/
theorem test_wf_stamps : Instr.wf (.ucodeActivate .pf0 (2 ^ 40)) = false ∧ Instr.wf (.globalBarrier .pf0 (2 ^ 40)) = false ∧ Instr.wf (.globalSnapshot .pf0 (2 ^ 40)) = false := by decide

/-- A port or group has at most four lanes. -/
theorem test_wf_lanes : Instr.wf (.laneCheckComplete 0 [0, 1, 2, 3, 4]) = false ∧ Instr.wf (.nzlGroupTrained 0 [0, 1, 2, 3, 0]) = false ∧ Instr.wf (.nzlGroupRetry 0 [0, 1, 2, 3, 0]) = false := by decide

/-- The resolved ability word has five bits. -/
theorem test_wf_ability : Instr.wf (.anResolved 0 32 false) = false := by decide

/-- A frame has an octet. -/
theorem test_wf_frame : Instr.wf (.rxFrame 0 0 1 [] true []) = false := by decide

/-- Each field of a packet fits. -/
theorem test_wf_packet_header : Instr.wf (.rdmaRequestRx { qpn := 2 ^ 24, psn := 0, opcode := 4 } 0) = false ∧ Instr.wf (.rdmaRequestRx { qpn := 6, psn := 2 ^ 24, opcode := 4 } 0) = false ∧ Instr.wf (.rdmaRequestRx { qpn := 6, psn := 0, opcode := 256 } 0) = false ∧ Instr.wf (.rdmaRequestRx { qpn := 6, psn := 0, opcode := 4, pKey := 65536 } 0) = false ∧ Instr.wf (.rdmaRequestRx { qpn := 6, psn := 0, opcode := 4, ecn := 4 } 0) = false ∧ Instr.wf (.rdmaRequestRx { qpn := 6, psn := 0, opcode := 4, va := 2 ^ 64 } 0) = false ∧ Instr.wf (.rdmaRequestRx { qpn := 6, psn := 0, opcode := 4, rkey := 2 ^ 32 } 0) = false ∧ Instr.wf (.rdmaRequestRx { qpn := 6, psn := 0, opcode := 4, dmaLen := 2 ^ 32 } 0) = false ∧ Instr.wf (.rdmaRequestRx { qpn := 6, psn := 0, opcode := 4, imm := 2 ^ 32 } 0) = false ∧ Instr.wf (.rdmaRequestRx { qpn := 6, psn := 0, opcode := 4, port := 88 } 0) = false := by decide

/-- Each field of a reply fits. -/
theorem test_wf_packet_reply : Instr.wf (.ackRx { qpn := 6, psn := 0, opcode := 4, syndrome := 256 } 0) = false ∧ Instr.wf (.nakRx { qpn := 6, psn := 0, opcode := 4, msn := 2 ^ 24 } 0) = false ∧ Instr.wf (.readResponseRx { qpn := 6, psn := 0, opcode := 4, len := 1, payload := 256 } 0) = false ∧ Instr.wf (.cnpRx { qpn := 6, psn := 0, opcode := 4, pKey := 65536 } 0) = false := by decide

set_option maxRecDepth 100000 in
/-- The data of an admin command fits its transfer. -/
theorem test_wf_admin_data : Instr.wf (.windowMapCmd 16384 (2 ^ 512)) = false ∧ Instr.wf (.ringAttach 16384 (2 ^ 512)) = false ∧ Instr.wf (.ringReepoch 16384 (2 ^ 512)) = false ∧ Instr.wf (.commitStage 16384 (2 ^ 32256)) = false := by decide

set_option maxRecDepth 100000 in
/-- Descriptors and ranges fit, and there are at most 256 ranges. -/
theorem test_wf_io_data : Instr.wf (.ioWrite 3 [(2 ^ 64, 1)]) = false ∧ Instr.wf (.ioRead 3 [(0, 2 ^ 32)]) = false ∧ Instr.wf (.ioCompare 3 [(2 ^ 64, 1)]) = false ∧ Instr.wf (.ioDatasetManagement 3 [(0, 2 ^ 32)]) = false ∧ Instr.wf (.ioDatasetManagement 3 (List.replicate 257 (0, 1))) = false := by decide

set_option maxRecDepth 100000 in
/-- A drive's completion holds a CID of 16 bits and a status of 15. -/
theorem test_wf_cqe : Instr.wf (.driveCqeWrite 0 1 0 true 65536 0) = false ∧ Instr.wf (.driveCqeWrite 0 1 0 true 0 32768) = false := by decide

/-- A strip read names a position below 32 and a row below 16. -/
theorem test_wf_strips : Instr.wf (.destageStart 0 0 [(32, 0, none)]) = false ∧ Instr.wf (.intentResync 0 0 [(0, 16, none)]) = false ∧ Instr.wf (.rebuildChunk 0 0 [(32, 0, none)]) = false ∧ Instr.wf (.memberReturn 0 [(0, 16, none)]) = false ∧ Instr.wf (.patrolChunk 0 0 [(32, 0, none)]) = false ∧ Instr.wf (.lostClear .pf0 0 [(0, 16, none)]) = false := by decide

set_option maxRecDepth 100000 in
/-- A feed voltage fits the measurement. -/
theorem test_wf_feed_voltages : Instr.wf (.powerFailWarning 65536 0) = false ∧ Instr.wf (.powerFailClear 0 (-65536)) = false ∧ Instr.wf (.feedReversed 0 (-65536)) = false ∧ Instr.wf (.feedPrechargeStart 0 65536) = false ∧ Instr.wf (.feedPrechargeDone 0 0 65536) = false ∧ Instr.wf (.feedReverse 0 65536 0) = false ∧ Instr.wf (.feedUnblock 0 0 65536) = false ∧ Instr.wf (.feedOvervoltage 0 65536) = false ∧ Instr.wf (.feedUndervoltage 0 65536) = false := by decide

set_option maxRecDepth 100000 in
/-- A slot voltage fits the measurement. -/
theorem test_wf_slot_voltages : Instr.wf (.slotPowerGood 0 65536 0) = false ∧ Instr.wf (.slotPgLoss 0 0 65536) = false ∧ Instr.wf (.gateNoRise 0 65536) = false := by decide

/-- A slow tick brings 25 temperatures. -/
theorem test_wf_sensors : Instr.wf (.govSlowTick 0 [] none) = false := by decide

/-- A completion carries at most 4,096 octets, and no more data than it says. -/
theorem test_wf_completion : Instr.wf (.pcieCompletionRx 0 0 4097 0 0) = false ∧ Instr.wf (.pcieCompletionRx 0 0 1 256 0) = false := by decide

/-- The aperture is read by aligned words. -/
theorem test_wf_aperture : Instr.wf (.diagApertureRead 2 0 false) = false := by decide

/-- An SGPIO frame has 64 inputs. -/
theorem test_wf_sgpio : Instr.wf (.sgpioFrame (2 ^ 64)) = false := by decide

/-- Well-formed commands pass. -/
theorem test_wf_good : Instr.wf (.registerWrite (.bar0 .pf0 4) 0 {}) = true ∧ Instr.wf (.anResolved 0 31 true) = true ∧ Instr.wf (.pcieCompletionRx 0 0 1 255 0) = true ∧
    Instr.wf (.feedReversed 0 (-700)) = true := by decide

/-! ### Single operations, against the worked examples of the spec -/

/-- SYS_IDREV reads 0x48E9_6310 (R4). -/
theorem test_idrev : NextIs (exec (.rcRead (.bar0 .pf0 0)) (st 3 [])) (fun t => t.out.head? = some (.read .pf0 0 0x48E96310)) := ⟨_, rfl, by decide⟩

set_option maxRecDepth 100000 in
/-- Slot 1 of the worked example of R114: P64 serves P0 and P65 serves P2; only the first iteration moves pointers. -/
theorem test_matching : (let r := [(0, 64), (0, 65), (1, 64), (2, 64), (2, 65)]
    matchIter r false (matchIter r true { grant := [], accept := [(0, 64), (1, 64), (2, 64)] })) =
      { pairs := [(0, 64), (2, 65)], grant := [(64, 1)], accept := [(0, 65), (1, 64), (2, 64)] } := by decide

/-- A frame of 1,086 bytes at 10,000 Mbit/s: 868.8 ns, held in sixteenths and rounded up (worked example of R125). -/
theorem test_interval : interval16 1086 10000 = 13901 := by decide

/-- PS1 of the worked example of R252: 22 members, 8 + 2, 2 spares; stripe 4,391 lies in band 2,195 at member block 43,312. -/
theorem test_band : (let p : Machine.PSet := { layout := 0, k := 8, m := 2, n := 22, spare := 2, xts := false, seed := 0, setId := 5, gen := 1, bands := 100000, slots := [] }
    (p.groups, p.perSlab, p.band 4391, 4391 % p.groups, bandBlock (p.band 4391))) = (2, 2048, 2195, 1, 43312) := by decide

set_option maxRecDepth 100000 in
/-- The check value of CRC-32C over the digits 1 to 9 (RFC 3720). -/
theorem test_crc32c : crc32c [0x31, 0x32, 0x33, 0x34, 0x35, 0x36, 0x37, 0x38, 0x39] = 0xE3069283 := by decide

/-- An event counted past 2^48 wraps and sets OVF (R442). -/
theorem test_counter_wrap : (((st 3 [(MON_GRP_CTL 0, 1), (MON_PC_SEL 0 0, 0x80)]).pcAdd 0 0 (2 ^ 48 + 5)).mon.pc, ((st 3 []).pcAdd 0 0 (2 ^ 48 + 5)).mon.ovf) = ([(0, 5)], [(0, 1)]) := by decide

/-- A PTP frame over Ethernet that came back through P86 in its second pass. -/
def ptpFrame : Frame := { id := 1, inPort := 3, icls := 2, bytes := 64, data := List.replicate 12 0 ++ [0x88, 0xF7] ++ List.replicate 46 0, pass := 1 }

/-- A state with that frame in the recirculation queue and a match entry that every such frame hits. -/
def recircSt (act : Nat) : State := { st 3 [(CLS_CLASS_MAP, 1), (CLS_PROF_CTL 0, 1)] with cls := { slots := [(65536 + keyPos false 1 0, ⟨0, act⟩)] }, swc := { recirc := [ptpFrame] } }

/-- A submission entry with some octets set: (offset, octets, value). -/
def sqeOf (fs : List (Nat × Nat × Nat)) : Nat := overlay 0 fs

/-- The admin queue of association 0 on queue pair 5, with one capsule at its head. -/
def adminQ (sqe data : Nat) : Queue := { type := 0, cls := 0, assoc := 0, qid := 0, entriesM1 := 31, sqHead := 31, qpn := 0x4005, inbox := [⟨sqe, data, 9, 3⟩] }

/-- A serving part with that queue, its class STEWARD, and some registers set. -/
def adminSt (sqe data : Nat) (l : List (Nat × Word)) : State :=
  { st 3 ((NET_PRIV 3, 3) :: l) with rdm := { qps := [(5, { state := 3, gen := 1, kind := 2 })] }, cmdq := { assocs := [(0, { nqn := 77, kato := 5, cc := 9 })], queues := [(16384, adminQ sqe data)] }, prot := { stewards := [77] } }

/-- An I/O capsule queue with one capsule at its head. -/
def ioQ (sqe : Nat) : Queue := { type := 1, assoc := 0, qid := 3, entriesM1 := 31, qpn := 6, inbox := [⟨sqe, 0, 9, 3⟩] }

/-- A serving part, ANA state Optimized, with that queue at index 7, volume 9 of one slab, and an access-list entry for it. -/
def ioSt (sqe : Nat) (l : List (Nat × Word)) : State :=
  { st 3 ((NET_PRIV 3, 1) :: (CMDQ_STAT, 0x10000) :: l) with cmdq := { assocs := [(0, { nqn := 77 })], queues := [(7, ioQ sqe)] }, red := { vols := [(9, { set := 0, maxSlabs := 1 })] }, prot := { acl := [(0, { vol := 9, digest := 0, ports := 8, pf1 := false, rd := true, wr := true })] } }

/-- An entry for NSID 10, its keyed descriptor of so many octets, at an LBA. -/
def ioSqe (opc lba nlb len : Nat) : Nat := sqeOf [(0, 1, opc), (2, 2, 0xABCD), (4, 4, 10), (32, 3, len), (39, 1, 0x40), (40, 8, lba), (48, 2, nlb - 1)]

/-- A two-way mirror over members 10–13 as set 3: an XTS set, whose sectors carry no tag. -/
def mirSet : Machine.PSet := { layout := 1, k := 2, m := 0, n := 4, spare := 0, xts := true, seed := 0, setId := 5, gen := 1, bands := 100000, slots := [(0, 10), (1, 11), (2, 12), (3, 13)] }

/-- The journal record of a ZEROES over the 16 blocks of stripe 5. -/
def zeroRec : JRec := { seq := 9, typ := 2, stamp := 1, vol := 7, key := 0, slba := 80, nlb := 16, tag := 0, dirty := [(80, 16)] }

/-- A WRITE record over the 16 blocks of stripe 5. -/
def writeRec : JRec := { seq := 9, typ := 1, stamp := 1, vol := 7, key := 0, slba := 80, nlb := 16, tag := 0, data := List.range 16, dirty := [(80, 16)] }

/-- A serving part with that set, its members ONLINE, volume 7 with stripe 5 written, a journal, and some registers set. -/
def redSt (p : Machine.PSet) (j : List JRec) (l : List (Nat × Word)) : State :=
  { st 3 ((DPT_MEM_STAT 10, 0x201) :: (DPT_MEM_STAT 11, 0x201) :: (DPT_MEM_STAT 12, 0x201) :: (DPT_MEM_STAT 13, 0x201) :: l) with clock := { nowNs := 10 ^ 12 }, red := { sets := [(3, p)], vols := [(7, { set := 3, maxSlabs := 1, slabs := [(0, { layers := [(0, [(5, true)])], owner := 7 })] })], journal := j } }

/-! ### Witnesses -/

set_option maxRecDepth 100000 in
/-- The hypotheses of StepKeepsCanonicalRegisters, clause by clause, hold somewhere. -/
theorem witness_StepKeepsCanonicalRegisters :
    ((fun (s t : State) => ((s.RegsOk) ∧ (step s = .next t) : Prop)) (st 3 []) (st 3 [])) := by
  exact ⟨by decide, rfl⟩

set_option maxRecDepth 100000 in
/-- The hypotheses of ReservedBitsReadZero, clause by clause, hold somewhere. -/
theorem witness_ReservedBitsReadZero :
    ((fun (s : State) (_off : Nat) => ((s.RegsOk) : Prop)) (st 3 []) (SYS_IDREV)) ∧
    ((fun (_s : State) (off : Nat) (w w' : Word) => ((w &&& regImpl off = w' &&& regImpl off) : Prop)) (st 3 []) (SYS_WAKE_EN) (0xFFFFFFFF) (0xF)) := by
  refine ⟨?_, ?_⟩ <;> decide

set_option maxRecDepth 100000 in
/-- The hypotheses of ResetEvents, clause by clause, hold somewhere. -/
theorem witness_ResetEvents :
    ((fun (s : State) => ((s.RegsOk) ∧ (s.sys.pwronLow = false) ∧ (s.sys.hold ≠ .porn) : Prop)) (st 3 [])) ∧
    ((fun (s : State) (_pf1 : Bool) (_base : Fin 16) => ((s.sys.pwronLow = true) ∧ (s.sys.supplyLow = false) : Prop)) ({ st 3 [] with sys := { pwronLow := true } }) (true) (5)) ∧
    ((fun (s : State) => ((s.RegsOk) ∧ (s.sys.supplyLow = false) ∧ (s.sys.hold ≠ .porn) : Prop)) (st 3 [])) ∧
    ((fun (s : State) (_pf1 : Bool) (_base : Fin 16) => ((s.sys.supplyLow = true) ∧ (s.sys.pwronLow = false) : Prop)) ({ st 3 [] with sys := { supplyLow := true } }) (true) (5)) ∧
    ((fun (s : State) => ((s.RegsOk) ∧ (s.sys.hold = .none) : Prop)) (st 3 [(SYS_WAKE_EN, 0)])) ∧
    ((fun (s : State) => ((s.sys.hold = .chip) : Prop)) ({ st 3 [] with sys := { hold := .chip } })) ∧
    ((fun (s : State) (req : Requester) (val : Word) => ((s.RegsOk) ∧ (s.Admits req SYS_RST) ∧ (fieldOf val 8 8 = 0xA5) ∧ (fieldOf val 0 1 = 1) : Prop)) (st 3 []) (.uart) (0xA501)) ∧
    ((fun (s : State) (req : Requester) (val : Word) => ((s.Admits req SYS_RST) ∧ (fieldOf val 8 8 ≠ 0xA5) : Prop)) (st 3 []) (.uart) (0xA401)) := by
  refine ⟨?_, ?_, ?_, ?_, ?_, ?_, ?_, ?_⟩ <;> decide

set_option maxRecDepth 100000 in
/-- The hypotheses of BlockResets, clause by clause, hold somewhere. -/
theorem witness_BlockResets :
    ((fun (s : State) (req : Requester) (val : Word) => ((s.RegsOk) ∧ (s.Admits req SYS_BLKRST) ∧ (s.mode = 2) ∧ (val = 2) ∧ (s.fld SYS_BLKRST_BLK = 0) : Prop)) (st 2 []) (.uart) (2)) ∧
    ((fun (s : State) (req : Requester) (val : Word) => ((s.RegsOk) ∧ (s.Admits req SYS_BLKRST) ∧ (s.mode = 7) ∧ (val = 4) ∧ (s.fld SYS_BLKRST_BLK = 0) : Prop)) (st 7 []) (.uart) (4)) ∧
    ((fun (s : State) (req : Requester) (val : Word) => ((s.Admits req SYS_BLKRST) ∧ (s.mode ≠ 2) ∧ (s.mode ≠ 7) ∧ (fieldOf val 0 14 ≠ 0) ∧ (fieldOf val 12 1 = 0) : Prop)) (st 3 []) (.uart) (0x10)) ∧
    ((fun (s : State) (block : Fin 14) => ((s.powered = true) ∧ (bitOf (s.fld SYS_BLKRST_BLK) block.val = true) ∧ (s.mode ≠ 2) : Prop)) (st 7 [(SYS_BLKRST, 0x3FFF)]) (0)) ∧
    ((fun (s : State) (block : Fin 14) => ((s.powered = true) ∧ (bitOf (s.fld SYS_BLKRST_BLK) block.val = true) ∧ (s.mode = 2) ∧ (block.val ≠ 8) ∧ (block.val ≠ 11) : Prop)) (st 2 [(SYS_BLKRST, 0x3FFF)]) (13)) := by
  refine ⟨?_, ?_, ?_, ?_, ?_⟩ <;> decide

set_option maxRecDepth 100000 in
/-- The hypotheses of WakeSources, clause by clause, hold somewhere. -/
theorem witness_WakeSources :
    ((fun (s : State) => ((s.RegsOk) ∧ (s.mode = 0) ∧ (s.sys.hold = .none) ∧ (s.sys.gatesClosing = false) ∧ (s.flag SYS_WAKE_EN_WAKE_PIN = true) : Prop)) (st 0 [])) ∧
    ((fun (s : State) (_lanes : Fin 17) (_rate : Fin 6) => ((s.RegsOk) ∧ (s.mode = 0) ∧ (s.sys.hold = .none) ∧ (s.sys.gatesClosing = false) ∧ (s.flag SYS_WAKE_EN_PERST = true) : Prop)) (st 0 []) (16) (3)) ∧
    ((fun (s : State) => ((s.RegsOk) ∧ (s.mode = 0) ∧ (s.sys.hold = .none) ∧ (s.sys.gatesClosing = false) ∧ (s.flag SYS_WAKE_EN_CLAIM_LOSS = true) : Prop)) (st 0 [])) ∧
    ((fun (s : State) => ((s.RegsOk) ∧ (s.gov.alarm = some 0) ∧ (s.mode = 0) ∧ (s.sys.hold = .none) ∧ (s.sys.gatesClosing = false) ∧ (s.flag SYS_WAKE_EN_ALARM = true) : Prop)) ({ st 0 [(SYS_WAKE_EN, 4)] with gov := { alarm := some 0 } })) ∧
    ((fun (s : State) => ((s.mode = 0) ∧ (s.sys.hold = .none) ∧ (s.sys.gatesClosing = true) ∧ (s.flag SYS_WAKE_EN_WAKE_PIN = true) : Prop)) ({ st 0 [] with sys := { gatesClosing := true } })) ∧
    ((fun (s : State) => ((s.mode = 0) ∧ (s.sys.hold = .none) ∧ (s.sys.gatesClosing = true) ∧ (s.sys.heldWake = false) : Prop)) ({ st 0 [] with sys := { gatesClosing := true } })) ∧
    ((fun (s : State) => ((s.RegsOk) ∧ (s.mode = 0) ∧ (s.sys.hold = .none) ∧ (s.sys.gatesClosing = true) ∧ (s.sys.heldWake = true) : Prop)) ({ st 0 [] with sys := { gatesClosing := true, heldWake := true } })) := by
  refine ⟨?_, ?_, ?_, ?_, ?_, ?_, ?_⟩ <;> decide

set_option maxRecDepth 100000 in
/-- The hypotheses of NightRequests, clause by clause, hold somewhere. -/
theorem witness_NightRequests :
    ((fun (s : State) (req : Requester) => ((s.Admits req SYS_MODE_REQ) ∧ (s.flag SYS_MODE_NIGHT_PEND = false) ∧ (s.mode = 6) : Prop)) (st 6 []) (.uart)) ∧
    ((fun (s : State) (req : Requester) => ((s.Admits req SYS_MODE_REQ) ∧ (s.flag SYS_MODE_NIGHT_PEND = false) ∧ ((s.mode = 3 ∨ s.mode = 4)) ∧ (s.flag SYS_MODE_DEGRADED = false) ∧ (s.flag SYS_MODE_PARTNER = false) : Prop)) (st 4 []) (.uart)) ∧
    ((fun (s : State) (req : Requester) => ((s.Admits req SYS_MODE_REQ) ∧ (s.flag SYS_MODE_NIGHT_PEND = false) ∧ ((s.mode = 2 ∨ s.mode = 5 ∨ s.mode = 7)) : Prop)) (st 5 []) (.uart)) ∧
    ((fun (s : State) (req : Requester) => ((s.Admits req SYS_MODE_REQ) ∧ (s.flag SYS_MODE_NIGHT_PEND = true) : Prop)) (st 0x4B []) (.uart)) ∧
    ((fun (s : State) (req : Requester) => ((s.Admits req SYS_MODE_REQ) ∧ (s.flag SYS_MODE_NIGHT_PEND = true) ∧ (s.mode = 6) : Prop)) (st 14 []) (.uart)) ∧
    ((fun (s : State) (req : Requester) => ((s.Admits req SYS_MODE_REQ) ∧ (s.flag SYS_MODE_NIGHT_PEND = false) : Prop)) (st 6 []) (.uart)) ∧
    ((fun (s : State) => ((s.running = true) ∧ (s.flag SYS_MODE_NIGHT_PEND = true) ∧ (s.mode = 6) ∧ (max 1 (s.fld SYS_NIGHT_CTL_DRAIN_MAX) ≤ s.sys.drainCount) : Prop)) ({ st 14 [(SYS_NIGHT_CTL, 0)] with sys := { drainCount := 1 } })) ∧
    ((fun (s : State) => ((s.running = true) ∧ (s.flag SYS_MODE_NIGHT_PEND = true) ∧ (s.mode ≠ 6) ∧ (s.drained = true) : Prop)) (st 11 [])) := by
  refine ⟨?_, ?_, ?_, ?_, ?_, ?_, ?_, ?_⟩ <;> decide

set_option maxRecDepth 100000 in
/-- The hypotheses of DawnSteps, clause by clause, hold somewhere. -/
theorem witness_DawnSteps :
    ((fun (s : State) => ((s.mode = 1) ∧ (s.sys.hold = .none) : Prop)) (st 1 [])) ∧
    ((fun (s : State) (lanes : Fin 17) (_rate : Fin 6) (_kek : Option Nat) (_prov _ikh : Bool) => ((s.mode = 1) ∧ (s.sys.hold = .none) ∧ (s.sys.gatesOpen = true) ∧ (s.sys.pllLocked = false) ∧ (s.fld SYS_BOOT_LOOP_CNT ≠ 4) ∧ (s.hep.linkUp = false) ∧ (0 < lanes.val) : Prop)) ({ st 1 [] with sys := { gatesOpen := true } }) (16) (5) (none) (true) (false)) ∧
    ((fun (s : State) (_lanes : Fin 17) (_rate : Fin 6) (_kek : Option Nat) (_prov _ikh : Bool) => ((s.mode = 1) ∧ (s.sys.hold = .none) ∧ (s.sys.gatesOpen = true) ∧ (s.sys.pllLocked = false) ∧ (s.fld SYS_BOOT_LOOP_CNT = 4) ∧ (s.flag SYS_BOOT_LOOP_SW = true) : Prop)) ({ st 1 [(SYS_BOOT, 0x48)] with sys := { gatesOpen := true } }) (16) (5) (none) (true) (false)) ∧
    ((fun (s : State) (_acked : Bool) => ((s.mode ≠ 0) ∧ (s.sys.hold = .none) ∧ (s.sys.pllLocked = true) ∧ (s.sys.avsTries = 0) : Prop)) ({ st 1 [] with sys := { pllLocked := true } }) (true)) ∧
    ((fun (s : State) (_acked : Bool) => ((s.mode ≠ 0) ∧ (s.sys.hold = .none) ∧ (s.sys.pllLocked = true) ∧ (s.sys.avsTries ≠ 0) ∧ (s.sys.avsDone = false) : Prop)) ({ st 1 [] with sys := { pllLocked := true, avsTries := 2 } }) (false)) ∧
    ((fun (s : State) (_nor : Nat) (_header : List (BitVec 8)) (_body c : Nat) => ((s.mode = 1) ∧ (s.sys.hold = .none) ∧ (s.sys.pllLocked = true) ∧ (s.sys.imageRunning = false) ∧ (s.bootCopy = some c) : Prop)) ({ st 1 [] with sys := { pllLocked := true } }) (0) ([]) (0) (0)) ∧
    ((fun (s : State) (_nor : Nat) (header : List (BitVec 8)) (_body : Nat) => ((s.mode = 1) ∧ (s.sys.hold = .none) ∧ (s.sys.pllLocked = true) ∧ (s.sys.imageRunning = false) ∧ (s.bootCopy = some 0) ∧ (s.fld SYS_BOOT_PREF = 0) ∧ (headerOk header = false) ∧ (bitOf s.sys.copiesFailed 1 = false) : Prop)) ({ st 1 [] with sys := { pllLocked := true } }) (0) ([]) (0)) ∧
    ((fun (s : State) (_nor : Nat) (_header : List (BitVec 8)) (_body : Nat) => ((s.mode = 1) ∧ (s.sys.hold = .none) ∧ (s.sys.pllLocked = true) ∧ (s.sys.imageRunning = false) ∧ (s.bootCopy = some 0) ∧ (s.fld SYS_BOOT_PREF = 0) ∧ (bitOf s.sys.copiesFailed 1 = true) : Prop)) ({ st 1 [] with sys := { pllLocked := true, copiesFailed := 2 } }) (0) ([]) (0)) ∧
    ((fun (s : State) => ((s.mode = 1) ∧ (s.sys.hold = .none) ∧ (s.sys.gatesOpen = true) : Prop)) ({ st 1 [] with sys := { gatesOpen := true } })) ∧
    ((fun (s : State) (_u : Fin 9) => ((s.mode = 1) ∧ (s.sys.hold = .none) ∧ (s.sys.gatesOpen = true) : Prop)) ({ st 1 [] with sys := { gatesOpen := true } }) (8)) ∧
    ((fun (s : State) => ((s.mode = 1) ∧ (s.sys.hold = .none) ∧ (s.sys.bistDone = true) ∧ (s.sys.sramInit = false) : Prop)) ({ st 1 [] with sys := { bistDone := true } })) ∧
    ((fun (s : State) (densities : List (Fin 64)) => ((s.mode = 1) ∧ (s.sys.hold = .none) ∧ (s.sys.pllLocked = true) ∧ (densities = [4,4,4,4,4,4,4,4,0,0,0,0]) : Prop)) ({ st 1 [] with sys := { pllLocked := true } }) ([4,4,4,4,4,4,4,4,0,0,0,0])) ∧
    ((fun (s : State) => ((s.mode = 1) ∧ (s.sys.hold = .none) ∧ (s.sys.imageRunning = true) ∧ (s.sys.bistDone = true) ∧ (s.sys.sramInit = true) ∧ (s.sys.dramTrained = true) ∧ (s.red.saved = none) : Prop)) ({ st 1 [] with sys := { imageRunning := true, bistDone := true, sramInit := true, dramTrained := true } })) := by
  refine ⟨?_, ?_, ?_, ?_, ?_, ?_, ?_, ?_, ?_, ?_, ?_, ?_, ?_⟩ <;> decide

set_option maxRecDepth 100000 in
/-- The hypotheses of WatchdogAndMidnight, clause by clause, hold somewhere. -/
theorem witness_WatchdogAndMidnight :
    ((fun (s : State) (_unit : Fin 9) => ((1 ≤ s.mode) ∧ (s.mode ≤ 6) ∧ (s.sys.hold = .none) ∧ (s.flag SYS_MIDNIGHT_CAUSE_SRAM_UE = false) ∧ (s.prot.change = none) : Prop)) (st 3 []) (4)) ∧
    ((fun (s : State) (n : Fin 4) => ((s.Admits (.mc n) SYS_WDOG_KICK) ∧ (s.sys.wdogArmed = true) ∧ (s.mode ≠ 1) : Prop)) ({ st 3 [] with sys := { wdogArmed := true, wdogStage2 := true } }) (2)) ∧
    ((fun (s : State) (req : Requester) (val : Word) => ((s.Admits req SYS_WDOG_KICK) ∧ (s.mode ≠ 1) ∧ ((val ≠ 0x4B1C ∨ req = .pf0 ∨ req = .uart ∨ req = .jtag)) : Prop)) ({ st 3 [] with sys := { wdogArmed := true } }) (.uart) (0x4B1C)) ∧
    ((fun (s : State) => ((s.sys.wdogArmed = true) ∧ (s.sys.wdogStage2 = false) ∧ (s.fld SYS_WDOG_STAT_REMAIN = 0) ∧ (s.sys.hold = .none) ∧ (s.inService = true) : Prop)) ({ st 4 [] with sys := { wdogArmed := true } })) ∧
    ((fun (s : State) => ((s.RegsOk) ∧ (s.sys.wdogArmed = true) ∧ (s.sys.wdogStage2 = false) ∧ (s.fld SYS_WDOG_STAT_REMAIN = 0) ∧ (s.sys.hold = .none) ∧ (s.mode = 2) ∧ (s.sys.served = false) ∧ (s.fld SYS_BOOT_LOOP_CNT < 3) : Prop)) ({ st 2 [] with sys := { wdogArmed := true } })) ∧
    ((fun (s : State) => ((s.RegsOk) ∧ (s.mode = 7) ∧ (s.sys.wdogArmed = true) ∧ (s.sys.wdogStage2 = true) ∧ (s.fld SYS_WDOG_STAT_REMAIN = 0) ∧ (s.sys.hold = .none) ∧ (s.flag SYS_WDOG_CTL_STAGE2_EN = true) ∧ (s.sys.served = true) : Prop)) ({ st 7 [] with sys := { wdogArmed := true, wdogStage2 := true, served := true } })) ∧
    ((fun (s : State) => ((s.flag SYS_WDOG_CTL_STAGE2_EN = false) : Prop)) ({ st 7 [(SYS_WDOG_CTL, 0x80)] with sys := { wdogArmed := true, wdogStage2 := true } })) := by
  refine ⟨?_, ?_, ?_, ?_, ?_, ?_, ?_⟩ <;> decide

set_option maxRecDepth 100000 in
/-- The hypotheses of CommitAndSwap, clause by clause, hold somewhere. -/
theorem witness_CommitAndSwap :
    ((fun (s : State) (req : Requester) => ((s.Admits req SYS_CFG) ∧ (s.mode = 2) ∧ (s.fld SYS_CFG_STATUS ≠ 1) ∧ (s.fld NZL_STAT_HS < 4) : Prop)) (st 2 []) (.uart)) ∧
    ((fun (s : State) (req : Requester) => ((s.Admits req SYS_CFG) ∧ (s.mode = 2) ∧ (s.fld SYS_CFG_STATUS = 1) : Prop)) (st 2 [(SYS_CFG, 0x10)]) (.uart)) ∧
    ((fun (s : State) (req : Requester) => ((s.Admits req SYS_CFG) ∧ (s.mode ≠ 2) : Prop)) (st 3 []) (.uart)) ∧
    ((fun (s : State) (b : Nat) (l : List Nat) => ((s.running = true) ∧ (s.mode = 2) ∧ (s.fld SYS_CFG_STATUS = 1) ∧ (s.commitReady = true) ∧ (s.commitRefusals = b :: l) : Prop)) (st 2 [(SYS_CFG, 0x10), (NZL_CTL, 0)]) (0x90) ([0xF0])) ∧
    ((fun (s : State) (req : Requester) => ((s.Admits req SYS_MODE_REQ) ∧ (s.serving = true) ∧ (s.flag SYS_MODE_NIGHT_PEND = false) ∧ (s.flag SYS_MODE_PARTNER = false) : Prop)) (st 0x03 []) (.uart)) ∧
    ((fun (s : State) (req : Requester) => ((s.Admits req SYS_MODE_REQ) ∧ ((s.serving = false ∨ s.flag SYS_MODE_NIGHT_PEND = true)) : Prop)) (st 6 []) (.uart)) ∧
    ((fun (s : State) (req : Requester) => ((s.Admits req SYS_MODE_REQ) ∧ (s.swapRefusal = 0) ∧ (s.cmdq.cmds = []) ∧ (s.cmdq.assocs = []) : Prop)) ({ st 0x43 [(NZL_STAT, 0x1800)] with nzl := { peerStep := true } }) (.uart)) ∧
    ((fun (s : State) (x : Setup) => ((s.running = true) ∧ (s.mode = 2) ∧ (s.flag PROT_STAT_PROV = true) ∧ (s.flag PROT_STAT_REINST = false) ∧ (s.bestCopy = some x) ∧ (x.records = []) ∧ (x.binds = []) : Prop)) ({ st 2 [(PROT_STAT, 1)] with prot := { copy0 := some {} } }) ({})) := by
  refine ⟨?_, ?_, ?_, ?_, ?_, ?_, ?_, ?_⟩ <;> decide

set_option maxRecDepth 100000 in
/-- The hypotheses of PowerDieAndGating, clause by clause, hold somewhere. -/
theorem witness_PowerDieAndGating :
    ((fun (s : State) (chans : List (Fin 65536 × Fin 65536)) (feeds : List (Fin 65536 × Fin 65536 × Fin 65536)) (_n : Fin 32) => ((s.pdRuns = true) ∧ (s.flag SLP_STAT_HELD = false) ∧ (chans.length = 32) ∧ (feeds.length = 2) : Prop)) (st 3 []) (List.replicate 32 (7, 9)) (List.replicate 2 (1, 2, 3)) (31)) ∧
    ((fun (s : State) => ((s.pdRuns = true) : Prop)) (st 3 [])) ∧
    ((fun (s : State) => ((s.pdRuns = true) ∧ (s.flag SLP_STAT_HELD = true) ∧ (s.nzl.stage = .watch) : Prop)) ({ st 3 [(SLP_STAT, 2)] with nzl := { stage := .watch } })) ∧
    ((fun (s : State) (c : Fin 16) => ((s.running = true) ∧ (s.clusterIdle c.val = true) ∧ (s.gate c.val = .awake) : Prop)) (st 3 []) (15)) ∧
    ((fun (s : State) (c : Fin 16) => ((s.running = true) ∧ (s.clusterIdle c.val = true) ∧ (s.gate c.val = .clockGated) ∧ (s.fld GOV_STAT_MIN_AWAKE ≤ c.val) : Prop)) ({ st 3 [] with eng := { gates := [(15, .clockGated)] } }) (15)) ∧
    ((fun (s : State) (c : Fin 16) => ((s.powered = true) ∧ (s.gate c.val = .enteringPg) ∧ (tget s.eng.wakeDue c.val false = false) : Prop)) ({ st 3 [] with eng := { gates := [(15, .enteringPg)] } }) (15)) ∧
    ((fun (s : State) (c : Fin 16) => ((s.powered = true) ∧ (s.gate c.val = .enteringCg) ∧ (tget s.eng.wakeDue c.val false = true) : Prop)) ({ st 3 [] with eng := { gates := [(15, .enteringCg)], wakeDue := [(15, true)] } }) (15)) ∧
    ((fun (s : State) (p : Fin 32) => ((s.powered = true) ∧ ((s.pipe p.val).isEmpty = true) ∧ (s.cip.kat = []) : Prop)) (st 3 []) (31)) ∧
    ((fun (s : State) (_p : Fin 32) => ((s.powered = true) : Prop)) (st 3 []) (31)) ∧
    ((fun (s : State) (c : Fin 16) => ((s.powered = true) ∧ (s.gate c.val = .powerGated) : Prop)) ({ st 3 [] with eng := { gates := [(3, .powerGated)] } }) (3)) ∧
    ((fun (s : State) => ((s.sys.hold ≠ .porn) : Prop)) (st 3 [])) ∧
    ((fun (s : State) => ((s.mode ≠ 7) : Prop)) (st 3 [])) ∧
    ((fun (s : State) => ((s.mode = 7) ∧ (s.sys.hold = .none) : Prop)) (st 7 [])) ∧
    ((fun (s : State) (_n : Fin 4) (_halt : Bool) => ((s.classOf .jtag ≠ 3) : Prop)) (st 3 [(PROT_PRIV_LOCAL, 0)]) (1) (true)) := by
  refine ⟨?_, ?_, ?_, ?_, ?_, ?_, ?_, ?_, ?_, ?_, ?_, ?_, ?_, ?_⟩ <;> decide

set_option maxRecDepth 100000 in
/-- The hypotheses of WritesBelowAdminAreRefused, clause by clause, hold somewhere. -/
theorem witness_WritesBelowAdminAreRefused :
    ((fun (c : Instr) (s : State) (req : Requester) (off : Nat) => ((writerOf c = some (req, off)) ∧ (s.reachable req = true) ∧ (s.classOf req < 2) : Prop)) (.portEnable .uart 63) (st 3 [(PROT_PRIV_LOCAL, 0x1000)]) (.uart) (NET_PORT_CFG 63)) := by
  decide

set_option maxRecDepth 100000 in
/-- The hypotheses of WritesInMidnightAreFrozen, clause by clause, hold somewhere. -/
theorem witness_WritesInMidnightAreFrozen :
    ((fun (c : Instr) (s : State) (req : Requester) (off : Nat) => ((writerOf c = some (req, off)) ∧ (s.reachable req = true) ∧ (2 ≤ s.classOf req) ∧ (s.mode = 7) ∧ (midnightWrite off = false) : Prop)) (.volDelete (.mc 0) 4095) (st 7 []) (.mc 0) (RED_VOL_CMD)) := by
  decide

set_option maxRecDepth 100000 in
/-- The hypotheses of UnreachableWritesDoNothing, clause by clause, hold somewhere. -/
theorem witness_UnreachableWritesDoNothing :
    ((fun (c : Instr) (s : State) (req : Requester) (off : Nat) => ((writerOf c = some (req, off)) ∧ (s.reachable req = false) ∧ ((off ≠ SYS_WDOG_KICK ∨ s.mode ≠ 1)) : Prop)) (.nightRequest .pf1) (st 3 []) (.pf1) (SYS_MODE_REQ)) := by
  decide

set_option maxRecDepth 100000 in
/-- The hypotheses of RwcAttempts, clause by clause, hold somewhere. -/
theorem witness_RwcAttempts :
    ((fun (s : State) (req : Requester) (off : Nat) => ((isRwc off = true) ∧ (s.reachable req = true) ∧ (s.mode ≠ 7) ∧ (s.absent req off = false) ∧ (2 ≤ s.classOf req) : Prop)) (st 3 []) (.uart) (PROT_PRIV_LOCAL)) ∧
    ((fun (s : State) (req : Requester) (off : Nat) => ((isRwc off = true) ∧ (s.reachable req = true) ∧ (s.mode ≠ 7) ∧ (s.absent req off = false) ∧ (s.classOf req < 2) : Prop)) (st 3 [(PROT_PRIV_LOCAL, 0x1000)]) (.uart) (PROT_PRIV_LOCAL)) ∧
    ((fun (_s : State) (_req : Requester) (off : Nat) (_val : Word) (_aux : WriteAux) => ((isRwc off = true) : Prop)) (st 3 []) (.uart) (PROT_PRIV_LOCAL) (0xFFFFFFFF) ({})) := by
  refine ⟨?_, ?_, ?_⟩ <;> decide

set_option maxRecDepth 100000 in
/-- The hypotheses of RegisterAccess, clause by clause, hold somewhere. -/
theorem witness_RegisterAccess :
    ((fun (s : State) (req : Requester) (_val : Word) (_aux : WriteAux) => ((s.Admits req SYS_WAKE_EN) : Prop)) (st 3 []) (.uart) (9) ({})) ∧
    ((fun (s : State) (req : Requester) (_val : Word) (_aux : WriteAux) => ((s.RegsOk) ∧ (s.Admits req SYS_WAKE_SRC) : Prop)) (st 3 [(SYS_WAKE_SRC, 3)]) (.uart) (1) ({})) ∧
    ((fun (s : State) (req : Requester) (_val : Word) (_aux : WriteAux) => ((s.RegsOk) ∧ (s.Admits req SYS_IDREV) : Prop)) (st 3 []) (.uart) (0xFFFFFFFF) ({})) ∧
    ((fun (s : State) (req : Requester) => ((s.readOk req CNT_GOV_WAKE_CG = true) ∧ (s.mode ≠ 7) : Prop)) (st 3 []) (.uart)) ∧
    ((fun (s : State) (req : Requester) => ((s.readOk req (CNT_GOV_WAKE_CG + 4) = true) : Prop)) (st 3 []) (.uart)) ∧
    ((fun (s : State) (req : Requester) => ((s.readOk req RDM_ERRQP = true) ∧ (s.mode ≠ 7) ∧ (s.rdm.errq = [(5, 1), (6, 2)]) : Prop)) ({ st 3 [(RDM_ERRQP, 0)] with rdm := { errq := [(5, 1), (6, 2)] } }) (.uart)) ∧
    ((fun (s : State) (req : Requester) (_off : Nat) => ((s.reachable req = true) : Prop)) (st 3 []) (.uart) (SYS_IDREV)) ∧
    ((fun (s : State) (req : Requester) (_off : Nat) => ((s.reachable req = true) : Prop)) (st 3 []) (.uart) (SYS_IDREV)) ∧
    ((fun (s : State) (req : Requester) (off : Nat) => ((s.reachable req = true) ∧ (2 ≤ s.classOf req) ∧ (s.absent req off = true) : Prop)) (st 3 []) (.uart) (0x50000)) := by
  refine ⟨?_, ?_, ?_, ?_, ?_, ?_, ?_, ?_, ?_⟩ <;> decide

set_option maxRecDepth 100000 in
/-- The hypotheses of NarrowAccesses, clause by clause, hold somewhere. -/
theorem witness_NarrowAccesses :
    ((fun (s : State) (req : Requester) (_off : Nat) => ((s.reachable req = true) : Prop)) (st 3 []) (.pf0) (NZL_CTL)) ∧
    ((fun (s : State) (req : Requester) (_off : Nat) => ((s.reachable req = true) : Prop)) (st 7 []) (.jtag) (0xFFFFFFFF)) := by
  refine ⟨?_, ?_⟩ <;> decide

set_option maxRecDepth 100000 in
/-- The hypotheses of UnoccupiedOffsets, clause by clause, hold somewhere. -/
theorem witness_UnoccupiedOffsets :
    ((fun (s : State) (req : Requester) (off : Nat) (_val : Word) (_aux : WriteAux) => ((s.reachable req = true) ∧ (regAt off = none) : Prop)) (st 3 []) (.pf0) (0x50000) (0xFFFFFFFF) ({})) ∧
    ((fun (s : State) (req : Requester) (off : Nat) => ((s.reachable req = true) ∧ (regAt off = none) : Prop)) (st 3 []) (.mc 3) (0x3FFFFFC)) ∧
    ((fun (off : Nat) => (((0x50000 ≤ off ∧ off < 0x100000 ∨ 0x140000 ≤ off ∧ off < 0x200000 ∨ 0x1000000 ≤ off ∧ off < 0x4000000)) : Prop)) (0xFFFFC)) := by
  refine ⟨?_, ?_, ?_⟩ <;> decide

set_option maxRecDepth 100000 in
/-- The hypotheses of LinkStates, clause by clause, hold somewhere. -/
theorem witness_LinkStates :
    ((fun (s : State) (req : Requester) (p : Port) (val : Word) => ((s.Admits req (NET_PORT_CFG p)) ∧ (s.mode = 2) ∧ (p.val % 4 ≠ 0) ∧ (s.grpMode p = 0) ∧ (s.flag (NET_PORT_CFG_EN p) = false) ∧ (fieldOf val 0 1 = 1) : Prop)) (st 2 []) (.uart) (1) (0x24000181)) ∧
    ((fun (s : State) (req : Requester) (p : Port) (val : Word) => ((s.Admits req (NET_PORT_CFG p)) ∧ (s.mode = 2) ∧ (p.val % 4 = 0) ∧ (fieldOf val 8 3 ≠ fieldOf (s.reg (NET_PORT_CFG p)) 8 3) ∧ (s.flag (NET_PORT_CFG_EN p) = true) : Prop)) (st 2 [(NET_PORT_CFG 0, 0x24000085)]) (.uart) (0) (0x24000185)) ∧
    ((fun (s : State) (req : Requester) (p : Port) => ((s.RegsOk) ∧ (s.Admits req (NET_PORT_CFG p)) ∧ (s.mode = 2) ∧ (s.grpMode p = 0) ∧ (s.flag (NET_PORT_CFG_EN p) = false) : Prop)) (st 2 []) (.uart) (63)) ∧
    ((fun (s : State) (req : Requester) (p : Port) => ((s.RegsOk) ∧ (s.Admits req (NET_PORT_CFG p)) ∧ (s.mode = 2) ∧ (s.flag (NET_PORT_CFG_EN p) = true) ∧ (s.linkUsable p = false) : Prop)) (st 2 [(NET_PORT_CFG 63, 0x24000085), (NET_PORT_STAT 63, 3)]) (.uart) (63)) ∧
    ((fun (s : State) (req : Requester) (p : Port) => ((s.RegsOk) ∧ (s.Admits req (NET_PORT_CFG p)) ∧ (s.mode = 2) ∧ (s.flag (NET_PORT_CFG_EN p) = true) ∧ (s.linkUsable p = true) ∧ (s.swc.outq = []) ∧ (s.swc.voq = []) : Prop)) (st 2 [(NET_PORT_CFG 63, 0x24000085), (NET_PORT_STAT 63, 5)]) (.uart) (63)) ∧
    ((fun (s : State) (req : Requester) (p : Port) => ((s.RegsOk) ∧ (s.Admits req (NET_PORT_CFG p)) ∧ (s.mode = 2) ∧ (s.grpMode p = 0) ∧ (s.flag (NET_PORT_CFG_EN p) = true) ∧ (s.linkUsable p = false) : Prop)) (st 2 [(NET_PORT_CFG 63, 0x24000085), (NET_PORT_STAT 63, 7)]) (.uart) (63)) ∧
    ((fun (s : State) (p : Port) (code : Fin 6) => ((s.running = true) ∧ (s.link p = 1) ∧ (s.portWidth p = 1) ∧ ((code.val = 0 ∨ code.val = 5)) ∧ (s.flag (NET_PORT_CFG_AN_EN p) = true) : Prop)) (st 3 [(NET_PORT_CFG 63, 0x24000085), (NET_PORT_STAT 63, 1)]) (63) (5)) ∧
    ((fun (s : State) (p : Port) (code : Fin 6) => ((s.running = true) ∧ (s.link p = 1) ∧ (s.portWidth p = 1) ∧ (1 ≤ code.val) ∧ (code.val ≤ 4) : Prop)) (st 3 [(NET_PORT_CFG 63, 0x24000085), (NET_PORT_STAT 63, 1)]) (63) (4)) ∧
    ((fun (s : State) (p : Port) (partner : Nat) (_rs528 : Bool) => ((s.running = true) ∧ (s.link p = 2) ∧ (s.advertised p = 4) ∧ (partner % 8 = 4) : Prop)) (st 3 [(NET_PORT_CFG 63, 0x24000085), (NET_PORT_STAT 63, 2)]) (63) (4) (false)) ∧
    ((fun (s : State) (p : Port) (partner : Nat) (_rs528 : Bool) => ((s.running = true) ∧ (s.link p = 2) ∧ (s.advertised p &&& partner = 0) : Prop)) (st 3 [(NET_PORT_CFG 63, 0x24000085), (NET_PORT_STAT 63, 2)]) (63) (3) (false)) ∧
    ((fun (s : State) (p : Port) => ((s.running = true) ∧ (s.link p = 2) ∧ (s.fld (NET_PORT_STAT_CFG_ERR p) = 6) ∧ (s.flag (NET_LINK_CFG_AUTO_RETRY p) = true) : Prop)) (st 3 [(NET_PORT_CFG 63, 0x24000085), (NET_PORT_STAT 63, 0xC02)]) (63)) ∧
    ((fun (s : State) (p : Port) => ((s.running = true) ∧ (s.link p = 3) : Prop)) (st 3 [(NET_PORT_STAT 63, 3)]) (63)) ∧
    ((fun (s : State) (p : Port) => ((s.running = true) ∧ (s.link p = 3) ∧ (s.flag (NET_LINK_CFG_AUTO_RETRY p) = true) : Prop)) (st 3 [(NET_PORT_STAT 63, 3)]) (63)) ∧
    ((fun (s : State) (p : Port) => ((s.running = true) ∧ (s.link p = 3) ∧ (s.flag (NET_LINK_CFG_AUTO_RETRY p) = false) : Prop)) (st 3 [(NET_PORT_STAT 63, 3), (NET_LINK_CFG 63, 0)]) (63)) ∧
    ((fun (s : State) (p : Port) => ((s.running = true) ∧ (s.link p = 4) : Prop)) (st 3 [(NET_PORT_STAT 63, 4)]) (63)) ∧
    ((fun (s : State) (p : Port) => ((s.running = true) ∧ (s.link p = 4) : Prop)) (st 3 [(NET_PORT_STAT 63, 4)]) (63)) ∧
    ((fun (s : State) (p : Port) => ((s.running = true) ∧ (s.link p = 5) ∧ (s.fld (NET_LINK_CFG_DOWN_HOLD p) ≠ 0) : Prop)) (st 3 [(NET_PORT_STAT 63, 0xD)]) (63)) ∧
    ((fun (s : State) (p : Port) => ((s.running = true) ∧ (s.link p = 6) : Prop)) (st 3 [(NET_PORT_STAT 63, 0xE)]) (63)) ∧
    ((fun (s : State) (p : Port) => ((s.running = true) ∧ (s.link p = 6) ∧ (s.flag (NET_LINK_CFG_AUTO_RETRY p) = true) ∧ (s.swc.outq = []) ∧ (s.swc.voq = []) : Prop)) ({ st 3 [(NET_PORT_STAT 63, 0xE)] with ports := [(63, { stopped := 3, tsFifo := [(1, 2, 3)] })] }) (63)) ∧
    ((fun (s : State) (p : Port) => ((s.running = true) ∧ (s.link p = 7) ∧ (s.flag (NET_LINK_CFG_AUTO_RETRY p) = true) ∧ (s.flag (NET_PORT_CFG_EN p) = true) : Prop)) (st 3 [(NET_PORT_CFG 63, 0x24000085), (NET_PORT_STAT 63, 7)]) (63)) := by
  refine ⟨?_, ?_, ?_, ?_, ?_, ?_, ?_, ?_, ?_, ?_, ?_, ?_, ?_, ?_, ?_, ?_, ?_, ?_, ?_, ?_⟩ <;> decide

set_option maxRecDepth 100000 in
/-- The hypotheses of PauseTimeAndCounters, clause by clause, hold somewhere. -/
theorem witness_PauseTimeAndCounters :
    ((fun (s : State) (p : Port) (_stop _go : Fin 256) => ((s.running = true) ∧ (s.linkUsable p = true) ∧ (s.fld (NET_FC_CFG_MODE p) = 2) : Prop)) ({ st 3 [(NET_PORT_STAT 63, 0xD), (NET_FC_CFG 63, 0xFF02)] with ports := [(63, { stopped := 3 })] }) (63) (4) (1)) ∧
    ((fun (s : State) (p : Port) (_stop _go : Fin 256) => ((s.running = true) ∧ (s.linkUsable p = true) ∧ (s.fld (NET_FC_CFG_MODE p) ≠ 2) : Prop)) (st 3 [(NET_PORT_STAT 63, 0xD), (NET_FC_CFG 63, 0xFF01)]) (63) (4) (1)) ∧
    ((fun (s : State) (_p : Port) (_classes : Fin 256) => ((s.running = true) : Prop)) ({ st 3 [] with ports := [(63, { stopped := 7 })] }) (63) (4)) ∧
    ((fun (s : State) (req : Requester) (dt : Nat) => (((s.pass dt).readOk req NET_TIME_NS = true) ∧ ((s.pass dt).mode ≠ 7) : Prop)) ({ st 3 [] with clock := { dev := 7000000001 * 1024000000000 } }) (.uart) (5)) ∧
    ((fun (s : State) (req : Requester) (_step : Word) (dt : Nat) => (((s.pass dt).Admits req NET_TIME_STEP) ∧ ((∀ p : Port, (s.pass dt).flag (EGS_GATE_CTL_EN p) = false)) : Prop)) ({ st 3 [] with clock := { dev := 5 * 1024000000000 } }) (.uart) (0xFFFFFFF0) (0)) ∧
    ((fun (s : State) (req : Requester) (_freq : Word) (dt : Nat) => (((s.pass dt).Admits req NET_TIME_ADJ) : Prop)) (st 3 []) (.uart) (0x80000000) (3)) ∧
    ((fun (s : State) (dt : Nat) => (((s.pass dt).running = true) ∧ ((s.pass dt).flag NET_TIME_CTL_OUT_EN = true) ∧ ((s.pass dt).flag NET_TIME_CTL_VALID = true) : Prop)) (st 3 [(NET_TIME_CTL, 9)]) (0)) ∧
    ((fun (s : State) (dt : Nat) => (((s.pass dt).running = true) ∧ ((s.pass dt).flag NET_TIME_CTL_IN_EN = true) ∧ ((s.pass dt).flag NET_TIME_CTL_IN_EDGE = true) : Prop)) (st 3 [(NET_TIME_CTL, 6)]) (4)) ∧
    ((fun (s : State) (req : Requester) (p : Port) => ((s.readOk req (NET_TS_LOW p) = true) ∧ (s.mode ≠ 7) : Prop)) ({ st 3 [(NET_TS_LOW 63, 0xC0000001), (NET_TS_HIGH 63, 0x20003)] with ports := [(63, { tsFifo := [(1, 2, 3), (4, 5, 6)] })] }) (.uart) (63)) ∧
    ((fun (s : State) (req : Requester) (p : Port) => ((s.readOk req (NET_TS_LOW p) = true) ∧ (s.mode = 7) : Prop)) (st 7 [(NET_TS_LOW 63, 0xC0000001)]) (.uart) (63)) ∧
    ((fun (s : State) (req : Requester) (p : Port) (val : Word) => ((s.Admits req (NET_CNT_CTL p)) ∧ (fieldOf val 0 1 = 1) : Prop)) (st 3 [(CNT_NET_RX_FRAMES 63, 5)]) (.uart) (63) (1)) := by
  refine ⟨?_, ?_, ?_, ?_, ?_, ?_, ?_, ?_, ?_, ?_, ?_⟩ <;> decide

set_option maxRecDepth 100000 in
/-- The hypotheses of FrameReception, clause by clause, hold somewhere. -/
theorem witness_FrameReception :
    ((fun (s : State) (p : Port) (dt _id : Nat) (data : List (BitVec 8)) (_fcsOk : Bool) (_errs : List SlotErr) => (((s.pass dt).powered = true) ∧ ((s.pass dt).linkUsable p = true) ∧ ((data.length + 4 < 64 ∨ (s.pass dt).maxFrame p < data.length + 4)) : Prop)) (st 3 [(NET_PORT_STAT 63, 5)]) (63) (7) (1) (List.replicate 20 0) (true) ([])) ∧
    ((fun (s : State) (p : Port) (dt _id : Nat) (data : List (BitVec 8)) (_errs : List SlotErr) => (((s.pass dt).powered = true) ∧ ((s.pass dt).linkUsable p = true) ∧ (60 ≤ data.length) ∧ (data.length + 4 ≤ (s.pass dt).maxFrame p) : Prop)) (st 3 [(NET_PORT_STAT 63, 6)]) (63) (7) (1) (List.replicate 60 0) ([])) ∧
    ((fun (s : State) (p : Port) (dt _id : Nat) (data : List (BitVec 8)) (_errs : List SlotErr) => (((s.pass dt).running = true) ∧ ((s.pass dt).linkUsable p = true) ∧ (60 ≤ data.length) ∧ (data.length + 4 ≤ (s.pass dt).maxFrame p) ∧ ((s.pass dt).flag (NET_VLAN_CFG_DROP_UNTAGGED p) = true) ∧ (beNat data 12 2 ≠ 0x8100) ∧ (beNat data 12 2 ≠ 0x88A8) ∧ (beNat data 12 2 ≠ 0x8808) : Prop)) (st 3 [(NET_PORT_STAT 63, 5), (NET_VLAN_CFG 63, 0x20000)]) (63) (7) (1) (List.replicate 60 0) ([])) ∧
    ((fun (s : State) (p : Port) (dt _id : Nat) (data : List (BitVec 8)) (_errs : List SlotErr) => (((s.pass dt).running = true) ∧ ((s.pass dt).linkUsable p = true) ∧ (60 ≤ data.length) ∧ (data.length + 4 ≤ (s.pass dt).maxFrame p) ∧ ((s.pass dt).flag (NET_VLAN_CFG_DROP_UNTAGGED p) = false) ∧ (beNat data 12 2 ∉ [0x8100, 0x88A8, 0x8808, 0x0800, 0x86DD, 0x88F7]) ∧ ((s.pass dt).fld CLS_SLOW_TOKENS_TOKENS = 0) : Prop)) (st 3 [(NET_PORT_STAT 63, 5), (CLS_SLOW_RATE, 0), (CLS_SLOW_TOKENS, 0)]) (63) (0) (1) (List.replicate 60 0) ([])) ∧
    ((fun (s : State) (p : Port) (dt _id : Nat) (data : List (BitVec 8)) (_errs : List SlotErr) => ((s.RegsOk) ∧ ((s.pass dt).running = true) ∧ ((s.pass dt).linkUsable p = true) ∧ (60 ≤ data.length) ∧ (data.length + 4 ≤ (s.pass dt).maxFrame p) ∧ ((s.pass dt).flag (NET_VLAN_CFG_DROP_UNTAGGED p) = false) ∧ (beNat data 12 2 ∉ [0x8100, 0x88A8, 0x8808, 0x0800, 0x86DD, 0x88F7]) ∧ ((s.pass dt).fld CLS_SLOW_TOKENS_TOKENS ≠ 0) : Prop)) (st 3 [(NET_PORT_STAT 63, 5), (CLS_SLOW_TOKENS, 9)]) (63) (0) (1) (List.replicate 60 0) ([])) ∧
    ((fun (s : State) (dt : Nat) (_errs : List SlotErr) (f : Frame) (rest : List Frame) => (((s.pass dt).running = true) ∧ ((s.pass dt).swc.recirc = f :: rest) ∧ (beNat f.data 12 2 = 0x88F7) ∧ ((s.pass dt).flag (NET_VLAN_CFG_OUTER_TPID f.inPort) = false) ∧ ((∀ k : Fin 4, (s.pass dt).flag (CLS_PROF_CTL_EN k) = false)) ∧ ((s.pass dt).fld CLS_SLOW_TOKENS_TOKENS = 0) : Prop)) ({ st 3 [(CLS_SLOW_TOKENS, 0), (CLS_SLOW_RATE, 0)] with swc := { recirc := [ptpFrame] } }) (0) ([]) (ptpFrame) ([])) ∧
    ((fun (s : State) (dt : Nat) (errs : List SlotErr) (f : Frame) (rest : List Frame) (p : Parsed) (act : Nat) (u : State) (ue : Bool) => (((s.pass dt).running = true) ∧ ((s.pass dt).swc.recirc = f :: rest) ∧ ((s.pass dt).parse f.inPort f.data = .ok p) ∧ (({ s.pass dt with swc := { (s.pass dt).swc with recirc := rest } }.bump CNT_CLS_PARSED).lookup errs f.data { f with pass := f.pass + 1, l3 := p.l3, isIp := p.isIp, ecn := p.ecn, tc := if f.tcSet then f.tc else p.tc } p = (u, some act, ue)) ∧ (act / 2 ^ 60 % 8 = 4) ∧ (bitOf act 59 = false) ∧ (bitOf act 39 = false) ∧ (1 ≤ f.pass) : Prop)) (recircSt 0xC000000000000000) (0) ([]) (ptpFrame) ([]) ({ etype := 0x88F7, pay := 14, outerVid := 1 }) (0xC000000000000000) ({ (recircSt 0xC000000000000000).pass 0 with swc := {} }.bump CNT_CLS_PARSED) (false)) := by
  refine ⟨?_, ?_, ?_, ?_, ?_, ?_, ?_⟩ <;> decide

set_option maxRecDepth 100000 in
/-- The hypotheses of MatchTableCommands, clause by clause, hold somewhere. -/
theorem witness_MatchTableCommands :
    ((fun (s : State) (req : Requester) (table : Fin 4) (w i : Nat) => ((s.RegsOk) ∧ (s.Admits req CLS_TBL_CMD) ∧ (s.flag CLS_TBL_STAT_BUSY = false) ∧ (s.flag (CLS_PROF_CTL_EN table) = true) ∧ (s.profileOk table = true) ∧ (s.findKey [] table (s.tblData table).1 = some (w, i)) : Prop)) ({ st 3 [(CLS_PROF_CTL 3, 1), (CLS_TBL_DATA 3, 7), (CLS_TBL_DATA 5, 9)] with cls := { slots := [((3 * 4 + 2) * 65536 + keyPos false 2 7, ⟨7, 2 ^ 63 + 1⟩)] } }) (.uart) (3) (2) (keyPos false 2 7)) ∧
    ((fun (s : State) (req : Requester) (table : Fin 4) => ((s.RegsOk) ∧ (s.Admits req CLS_TBL_CMD) ∧ (s.flag CLS_TBL_STAT_BUSY = false) ∧ (s.flag (CLS_PROF_CTL_EN table) = true) ∧ (s.profileOk table = true) ∧ (s.findKey [] table (s.tblData table).1 = none) ∧ ((candidates (s.flag (CLS_PROF_CTL_WIDE table)) (s.tblData table).1).any (fun e => s.slotFree [] (s.flag (CLS_PROF_CTL_WIDE table)) table e.1 e.2) = true) : Prop)) (st 3 [(CLS_PROF_CTL 3, 1), (CLS_TBL_DATA 3, 7), (CLS_TBL_DATA 5, 9)]) (.uart) (3)) ∧
    ((fun (s : State) (req : Requester) (_table : Fin 4) (_errs : List SlotErr) => ((s.Admits req CLS_TBL_CMD) ∧ (s.flag CLS_TBL_STAT_BUSY = true) : Prop)) (st 3 [(CLS_PROF_CTL 3, 1), (CLS_TBL_STAT, 1)]) (.uart) (3) ([])) ∧
    ((fun (s : State) (req : Requester) (table : Fin 4) (_errs : List SlotErr) => ((s.RegsOk) ∧ (s.Admits req CLS_TBL_CMD) ∧ (s.flag CLS_TBL_STAT_BUSY = false) ∧ (s.flag (CLS_PROF_CTL_EN table) = false) : Prop)) (st 3 [(CLS_PROF_CTL 3, 0)]) (.uart) (3) ([])) ∧
    ((fun (s : State) (req : Requester) (table : Fin 4) (w i : Nat) => ((s.RegsOk) ∧ (s.Admits req CLS_TBL_CMD) ∧ (s.flag CLS_TBL_STAT_BUSY = false) ∧ (s.flag (CLS_PROF_CTL_EN table) = true) ∧ (s.profileOk table = true) ∧ (s.findKey [] table (s.tblData table).1 = some (w, i)) : Prop)) ({ st 3 [(CLS_PROF_CTL 3, 1), (CLS_TBL_DATA 3, 7)] with cls := { slots := [((3 * 4 + 2) * 65536 + keyPos false 2 7, ⟨7, 2 ^ 63 + 1⟩)] } }) (.uart) (3) (2) (keyPos false 2 7)) ∧
    ((fun (s : State) (req : Requester) (table : Fin 4) => ((s.RegsOk) ∧ (s.Admits req CLS_TBL_CMD) ∧ (s.flag CLS_TBL_STAT_BUSY = false) ∧ (s.flag (CLS_PROF_CTL_EN table) = true) ∧ (s.profileOk table = true) ∧ (s.findKey [] table (s.tblData table).1 = none) : Prop)) (st 3 [(CLS_PROF_CTL 3, 1), (CLS_TBL_DATA 3, 7)]) (.uart) (3)) ∧
    ((fun (s : State) (req : Requester) (table : Fin 4) (w i : Nat) => ((s.RegsOk) ∧ (s.Admits req CLS_TBL_CMD) ∧ (s.flag CLS_TBL_STAT_BUSY = false) ∧ (s.flag (CLS_PROF_CTL_EN table) = true) ∧ (s.flag (CLS_PROF_CTL_WIDE table) = false) ∧ (s.profileOk table = true) ∧ (s.findKey [] table (s.tblData table).1 = some (w, i)) : Prop)) ({ st 3 [(CLS_PROF_CTL 3, 1), (CLS_TBL_DATA 3, 7)] with cls := { slots := [((3 * 4 + 2) * 65536 + keyPos false 2 7, ⟨7, 2 ^ 63 + 2 ^ 32 + 1⟩)] } }) (.uart) (3) (2) (keyPos false 2 7)) ∧
    ((fun (s : State) (req : Requester) (table _way : Fin 4) (_index : Fin 65536) => ((s.RegsOk) ∧ (s.Admits req CLS_TBL_CMD) ∧ (s.flag CLS_TBL_STAT_BUSY = false) ∧ (s.flag (CLS_PROF_CTL_EN table) = true) ∧ (s.flag (CLS_PROF_CTL_WIDE table) = false) ∧ (s.profileOk table = true) : Prop)) ({ st 3 [(CLS_PROF_CTL 3, 1)] with cls := { slots := [((3 * 4 + 2) * 65536 + 5, ⟨7, 2 ^ 63 + 2 ^ 32 + 1⟩)] } }) (.uart) (3) (2) (5)) ∧
    ((fun (s : State) (req : Requester) (table _way : Fin 4) (_index : Fin 65536) => ((s.RegsOk) ∧ (s.Admits req CLS_TBL_CMD) ∧ (s.flag CLS_TBL_STAT_BUSY = false) ∧ (s.flag (CLS_PROF_CTL_EN table) = true) ∧ (s.flag (CLS_PROF_CTL_WIDE table) = false) ∧ (s.profileOk table = true) : Prop)) (st 3 [(CLS_PROF_CTL 3, 1)]) (.uart) (3) (2) (5)) ∧
    ((fun (s : State) (req : Requester) (table : Fin 4) => ((s.RegsOk) ∧ (s.Admits req CLS_TBL_CMD) ∧ (s.flag CLS_TBL_STAT_BUSY = false) ∧ (s.flag (CLS_PROF_CTL_EN table) = true) ∧ (s.profileOk table = true) : Prop)) (st 3 [(CLS_PROF_CTL 3, 1)]) (.uart) (3)) ∧
    ((fun (s : State) => ((s.running = true) ∧ (s.flag CLS_TBL_STAT_BUSY = true) ∧ (s.cls.clearing ≠ 0) : Prop)) ({ st 3 [(CLS_TBL_STAT, 1)] with cls := { clearing := 8, slots := [(1, ⟨7, 2 ^ 63⟩), ((3 * 4 + 2) * 65536 + 5, ⟨7, 2 ^ 63⟩)] } })) := by
  refine ⟨?_, ?_, ?_, ?_, ?_, ?_, ?_, ?_, ?_, ?_, ?_⟩ <;> decide

set_option maxRecDepth 100000 in
/-- The hypotheses of SwitchQueues, clause by clause, hold somewhere. -/
theorem witness_SwitchQueues :
    ((fun (s : State) (i : Fin 88) (o : Port) (f : Frame) => ((s.running = true) ∧ (s.linkUsable o = true) ∧ (s.swc.voq = [(i.val * 128 + o.val, [(f, 1)])]) : Prop)) ({ st 3 [(NET_PORT_STAT 9, 5)] with swc := { voq := [(3 * 128 + 9, [({ ptpFrame with q := 149 }, 1)])] } }) (3) (9) ({ ptpFrame with q := 149 })) ∧
    ((fun (s : State) (i : Fin 88) (o : Port) (f : Frame) (n : Nat) => ((s.running = true) ∧ (s.linkUsable o = true) ∧ (s.swc.voq = [(i.val * 128 + o.val, [(f, n + 2)])]) : Prop)) ({ st 3 [(NET_PORT_STAT 9, 5)] with swc := { voq := [(3 * 128 + 9, [({ ptpFrame with q := 149 }, 7)])] } }) (3) (9) ({ ptpFrame with q := 149 }) (5)) ∧
    ((fun (s : State) (port : Port) (cls : Fin 8) => ((s.running = true) ∧ (s.fld (NET_FC_CFG_MODE port) = 2) ∧ (bitOf (s.port port).xoffSent cls = true) ∧ ((s.pfcLevels port cls).2.2 < s.ingressUsage port cls) : Prop)) ({ st 3 [(NET_FC_CFG 3, 0xFF02), (SWC_PFC_TH 3 2, 1)] with ports := [(3, { xoffSent := 4 })], swc := { outq := [(149, [{ ptpFrame with q := 149, place := .shared }])] } }) (3) (2)) ∧
    ((fun (s : State) (port : Fin 88) (cls : Fin 9) => ((s.running = true) ∧ (s.framesOf (16 * port.val + cls.val) = []) : Prop)) ({ st 3 [] with swc := { avg := [(149, 512 * 65536)] } }) (9) (5)) ∧
    ((fun (s : State) (port : Fin 88) (cls : Fin 9) => ((s.running = true) ∧ (s.framesOf (16 * port.val + cls.val) = []) ∧ (s.reg (SWC_Q_DEPTH (16 * port.val + cls.val)) = 0) ∧ (s.fld (SWC_Q_DDEPTH_DRAM (16 * port.val + cls.val)) = 0) ∧ (s.fld (SWC_Q_CFG_W (16 * port.val + cls.val)) = 0) : Prop)) ({ st 3 [(SWC_Q_CFG 149, 0x40000)] with swc := { avg := [(149, 512 * 65536)] } }) (9) (5)) ∧
    ((fun (s : State) (lag : Fin 32) => ((s.RegsOk) ∧ (s.running = true) ∧ ((∀ p ∈ s.lagMembers lag, s.linkUsable p = true)) : Prop)) (st 3 [(NET_PORT_STAT 0, 5), (NET_PORT_STAT 1, 6), (SWC_LAG_CTL 31, 1), (SWC_LAG_CFG 31 5, 0x01000100)]) (31)) := by
  refine ⟨?_, ?_, ?_, ?_, ?_, ?_⟩ <;> decide

set_option maxRecDepth 100000 in
/-- The hypotheses of EgressSelection, clause by clause, hold somewhere. -/
theorem witness_EgressSelection :
    ((fun (s : State) (port : Port) (dt : Nat) (pf : PauseTx) (rest : List PauseTx) => (((s.pass dt).running = true) ∧ ((s.pass dt).linkUsable port = true) ∧ (((s.pass dt).port port).pauseTx = pf :: rest) : Prop)) ({ st 3 [(NET_PORT_STAT 63, 5)] with ports := [(63, { pauseTx := [⟨some 2, 0xFFFF⟩, ⟨none, 0⟩] })] }) (63) (3) (⟨some 2, 0xFFFF⟩) ([⟨none, 0⟩])) ∧
    ((fun (s : State) (port : Port) (dt : Nat) (f : Frame) (rest : List Frame) => (((s.pass dt).running = true) ∧ ((s.pass dt).linkUsable port = true) ∧ (((s.pass dt).port port).pauseTx = []) ∧ ((s.pass dt).flag (EGS_GATE_CTL_EN port) = false) ∧ (s.outQ (16 * port.val + 8) = f :: rest) ∧ (f.data = [] ∨ (s.pass dt).flag (NET_PTP_CFG_TS_EN port) = false) : Prop)) ({ st 3 [(NET_PORT_STAT 63, 5)] with swc := { outq := [(16 * 63 + 3, [{ ptpFrame with q := 16 * 63 + 3 }]), (16 * 63 + 8, [{ ptpFrame with q := 16 * 63 + 8, inPort := 85 }])] } }) (63) (0) ({ ptpFrame with q := 16 * 63 + 8, inPort := 85 }) ([])) ∧
    ((fun (s : State) (port : Port) (dt : Nat) (c : Fin 8) (f : Frame) => (((s.pass dt).running = true) ∧ ((s.pass dt).linkUsable port = true) ∧ (((s.pass dt).port port).pauseTx = []) ∧ ((s.pass dt).flag (EGS_GATE_CTL_EN port) = false) ∧ (s.outQ (16 * port.val + c.val) = [f]) ∧ ((∀ k : Fin 9, k.val ≠ c.val → s.outQ (16 * port.val + k.val) = [])) ∧ ((s.pass dt).paused port c = false) ∧ ((s.pass dt).fld (EGS_Q_RATE_RATE (16 * port.val + c.val)) = 0) ∧ (f.bytes ≤ 9600) ∧ ((f.data = [] ∨ (s.pass dt).flag (NET_PTP_CFG_TS_EN port) = false)) ∧ (((s.pass dt).port port).drrCur = none) ∧ (((s.pass dt).limOf (16 * port.val + c.val)).deficit = 0) : Prop)) ({ st 3 [(NET_PORT_STAT 63, 5), (EGS_Q_RATE (16 * 63 + 3), 0)] with swc := { outq := [(16 * 63 + 3, [{ ptpFrame with q := 16 * 63 + 3 }])] } }) (63) (0) (3) ({ ptpFrame with q := 16 * 63 + 3 })) ∧
    ((fun (s : State) => ((s.running = true) : Prop)) ({ st 3 [] with clock := { nowNs := 65 } })) ∧
    ((fun (s : State) (port : Port) (dt : Nat) => (((s.pass dt).running = true) ∧ ((s.pass dt).flag (EGS_GATE_CTL_EN port) = false) : Prop)) (st 3 [(EGS_GATE_CTL 63, 0)]) (63) (5)) ∧
    ((fun (s : State) (port : Port) (dt g : Nat) => (((s.pass dt).running = true) ∧ ((s.pass dt).flag (EGS_GATE_CTL_EN port) = true) ∧ ((s.pass dt).flag NET_TIME_CTL_VALID = true) ∧ ((s.pass dt).gatePos port = some 0) ∧ ((entryAt ((s.pass dt).gateList port) 0).map (fun e => e.2.1) = some g) : Prop)) ({ st 3 [(EGS_GATE_CTL 63, 0x101), (EGS_GATE_CYCLE0 63, 10), (NET_TIME_CTL, 1), (EGS_GATE_ENT 63 0, 0x00000281), (EGS_GATE_ENT 63 1, 0x1000)] with clock := { dev := 80 * 1024000000000 } }) (63) (0) (0x81)) ∧
    ((fun (s : State) (port : Port) (dt : Nat) => ((s.RegsOk) ∧ ((s.pass dt).running = true) ∧ ((s.pass dt).flag (EGS_GATE_CTL_PEND port) = false) : Prop)) (st 3 []) (63) (5)) ∧
    ((fun (s : State) (port : Port) (dt : Nat) => (((s.pass dt).running = true) ∧ ((s.pass dt).flag (EGS_GATE_CTL_PEND port) = true) : Prop)) (st 3 [(EGS_GATE_CTL 63, 8)]) (63) (5)) ∧
    ((fun (s : State) (port : Port) (dt : Nat) => ((s.RegsOk) ∧ ((s.pass dt).running = true) ∧ ((s.pass dt).flag (EGS_GATE_CTL_PEND port) = true) ∧ ((s.pass dt).flag (EGS_GATE_CTL_EN port) = false) : Prop)) (st 3 [(EGS_GATE_CTL 63, 8)]) (63) (5)) ∧
    ((fun (s : State) (dt : Nat) => (((s.pass dt).running = true) ∧ ((s.pass dt).flag EGS_CTL_SMP_EN = true) : Prop)) (st 3 [(EGS_CTL, 1), (SWC_Q_DEPTH 1016, 5)]) (5)) ∧
    ((fun (s : State) (dt : Nat) => (((s.pass dt).flag EGS_CTL_SMP_EN = false) : Prop)) (st 3 []) (5)) := by
  refine ⟨?_, ?_, ?_, ?_, ?_, ?_, ?_, ?_, ?_, ?_, ?_⟩ <;> decide

set_option maxRecDepth 100000 in
/-- The hypotheses of RequestsReceived, clause by clause, hold somewhere. -/
theorem witness_RequestsReceived :
    ((fun (s : State) (pkt : RoPkt) (dt : Nat) => (((s.pass dt).running = true) ∧ (pkt.icrcOk = false) : Prop)) (st 3 []) (⟨0x4005, 9, 4, false, 0, false, 0, 0, 0, 0, 0, 0, 0, 64, 0, 0, 0⟩) (3)) ∧
    ((fun (s : State) (pkt : RoPkt) (dt : Nat) => (((s.pass dt).running = true) ∧ (pkt.icrcOk = true) ∧ (((s.qp pkt.qpn).state < 2 ∨ 3 < (s.qp pkt.qpn).state ∨ (s.qp pkt.qpn).gen ≠ pkt.qpn / 16384 ∨ (s.qp pkt.qpn).pKey % 2 ^ 15 ≠ pkt.pKey % 2 ^ 15)) : Prop)) ({ st 3 [] with rdm := { qps := [(5, { state := 3, gen := 2 })] } }) (⟨0x4005, 9, 4, false, 0, true, 0, 0, 0, 0, 0, 0, 0, 64, 0, 0, 0⟩) (3)) ∧
    ((fun (s : State) (pkt : RoPkt) (dt : Nat) => (((s.pass dt).running = true) ∧ (pkt.icrcOk = true) ∧ (((s.qp pkt.qpn).state = 2 ∨ (s.qp pkt.qpn).state = 3)) ∧ ((s.qp pkt.qpn).gen = pkt.qpn / 16384) ∧ ((s.qp pkt.qpn).pKey % 2 ^ 15 = pkt.pKey % 2 ^ 15) ∧ (pkt.ecn ≠ 3) ∧ (pkt.psn = (s.qp pkt.qpn).epsn) ∧ ((s.qp pkt.qpn).epsn < 2 ^ 24) ∧ ((s.qp pkt.qpn).nakWait = none) ∧ (pkt.opcode = 4) ∧ ((s.qp pkt.qpn).kind ≠ 3) ∧ ((s.qp pkt.qpn).cur = none) ∧ (pkt.len ≤ pmtuBytes (s.qp pkt.qpn).pmtu) ∧ ((s.qp pkt.qpn).placed = []) ∧ (s.capsuleQueue pkt.qpn = none) ∧ (pkt.ackReq = false) ∧ ((s.qp pkt.qpn).unacked + 1 < (s.pass dt).fld RDM_ACK_CFG_COAL) : Prop)) ({ st 3 [] with rdm := { qps := [(5, { state := 2, gen := 1, kind := 1, pmtu := 3, epsn := 0xFFFFFF, msn := 0xFFFFFF })] } }) (⟨0x4005, 0xFFFFFF, 4, false, 0, true, 0, 0, 0, 0, 0, 0, 0, 64, 0x1234, 7, 99⟩) (3)) ∧
    ((fun (s : State) (pkt : RoPkt) (dt : Nat) => (((s.pass dt).running = true) ∧ (pkt.icrcOk = true) ∧ (((s.qp pkt.qpn).state = 2 ∨ (s.qp pkt.qpn).state = 3)) ∧ ((s.qp pkt.qpn).gen = pkt.qpn / 16384) ∧ ((s.qp pkt.qpn).pKey % 2 ^ 15 = pkt.pKey % 2 ^ 15) ∧ (pkt.ecn ≠ 3) ∧ (0 < psnDist pkt.psn (s.qp pkt.qpn).epsn) ∧ (psnDist pkt.psn (s.qp pkt.qpn).epsn < 256) ∧ ((s.qp pkt.qpn).nakWait = none) ∧ ((s.qp pkt.qpn).tracker = none) ∧ (s.trackersUsed < 2048) ∧ (pkt.opcode = 4) : Prop)) ({ st 3 [] with rdm := { qps := [(5, { state := 3, gen := 1, kind := 1, pmtu := 3, epsn := 0xFFFFFF })] } }) (⟨0x4005, 3, 4, false, 0, true, 0, 0, 0, 0, 0, 0, 0, 64, 0x1234, 7, 99⟩) (3)) ∧
    ((fun (s : State) (pkt : RoPkt) (dt : Nat) => (((s.pass dt).running = true) ∧ (pkt.icrcOk = true) ∧ (((s.qp pkt.qpn).state = 2 ∨ (s.qp pkt.qpn).state = 3)) ∧ ((s.qp pkt.qpn).gen = pkt.qpn / 16384) ∧ ((s.qp pkt.qpn).pKey % 2 ^ 15 = pkt.pKey % 2 ^ 15) ∧ (pkt.ecn ≠ 3) ∧ (256 ≤ psnDist pkt.psn (s.qp pkt.qpn).epsn) ∧ (psnDist pkt.psn (s.qp pkt.qpn).epsn < 2 ^ 23) ∧ ((s.qp pkt.qpn).nakWait = none) : Prop)) ({ st 3 [] with rdm := { qps := [(5, { state := 3, gen := 1, kind := 1, pmtu := 3, epsn := 9 })] } }) (⟨0x4005, 265, 4, false, 0, true, 0, 0, 0, 0, 0, 0, 0, 64, 0x1234, 7, 99⟩) (3)) ∧
    ((fun (s : State) (pkt : RoPkt) (dt w : Nat) => (((s.pass dt).running = true) ∧ (pkt.icrcOk = true) ∧ (((s.qp pkt.qpn).state = 2 ∨ (s.qp pkt.qpn).state = 3)) ∧ ((s.qp pkt.qpn).gen = pkt.qpn / 16384) ∧ ((s.qp pkt.qpn).pKey % 2 ^ 15 = pkt.pKey % 2 ^ 15) ∧ (pkt.ecn ≠ 3) ∧ (psnDist pkt.psn (s.qp pkt.qpn).epsn < 2 ^ 23) ∧ ((s.qp pkt.qpn).nakWait = some w) ∧ (pkt.psn ≠ w) ∧ ((s.qp pkt.qpn).skipMsg = false) : Prop)) ({ st 3 [] with rdm := { qps := [(5, { state := 3, gen := 1, kind := 1, pmtu := 3, epsn := 9, nakWait := some 9 })] } }) (⟨0x4005, 10, 4, false, 0, true, 0, 0, 0, 0, 0, 0, 0, 64, 0x1234, 7, 99⟩) (3) (9)) ∧
    ((fun (s : State) (qp : Fin 16384) => ((s.running = true) ∧ ((s.qp qp).reorder = true) ∧ (((s.qp qp).state = 2 ∨ (s.qp qp).state = 3)) ∧ ((s.qp qp).seqNaked = false) : Prop)) ({ st 3 [] with rdm := { qps := [(5, { state := 3, reorder := true, epsn := 502 })] } }) (5)) ∧
    ((fun (s : State) (qp : Fin 16384) => ((s.running = true) ∧ ((s.qp qp).reorder = true) ∧ (((s.qp qp).state = 2 ∨ (s.qp qp).state = 3)) ∧ ((s.qp qp).seqNaked = true) : Prop)) ({ st 3 [] with rdm := { qps := [(5, { state := 3, reorder := true, seqNaked := true, epsn := 502 })] } }) (5)) ∧
    ((fun (s : State) (qp : Fin 16384) => ((s.running = true) ∧ (((s.qp qp).state = 2 ∨ (s.qp qp).state = 3)) ∧ ((s.qp qp).ackTimer = true) ∧ ((s.qp qp).ackHeld = []) ∧ ((∀ r ∈ (s.qp qp).reads, r.done = true)) ∧ ((s.qp qp).epsn < 2 ^ 24) ∧ ((s.qp qp).ackedTo < 2 ^ 24) : Prop)) ({ st 3 [] with rdm := { qps := [(5, { state := 3, ackTimer := true, epsn := 2, ackedTo := 0xFFFFFE })] } }) (5)) := by
  refine ⟨?_, ?_, ?_, ?_, ?_, ?_, ?_, ?_, ?_⟩ <;> decide

set_option maxRecDepth 100000 in
/-- The hypotheses of RequestsSent, clause by clause, hold somewhere. -/
theorem witness_RequestsSent :
    ((fun (s : State) (qp : Fin 16384) (dt : Nat) (m : Msg) (rest : List Msg) => (((s.pass dt).running = true) ∧ ((s.qp qp).sendq = m :: rest) ∧ ((s.pass dt).msgFree qp m = true) : Prop)) ({ st 3 [] with rdm := { qps := [(5, { state := 3, pmtu := 3, sqPsn := 0xFFFFFF, sendq := [⟨.event 9, 1025⟩] })] } }) (5) (3) (⟨.event 9, 1025⟩) ([])) ∧
    ((fun (s : State) (qp : Fin 16384) (dt : Nat) (m : Msg) (rest : List Msg) => (((s.qp qp).sendq = m :: rest) ∧ ((s.pass dt).msgFree qp m = false) : Prop)) ({ st 3 [] with rdm := { qps := [(5, { state := 2, pmtu := 3, sqPsn := 0xFFFFFF, sendq := [⟨.event 9, 1025⟩] })] } }) (5) (3) (⟨.event 9, 1025⟩) ([])) ∧
    ((fun (s : State) (qp : Fin 16384) => ((s.running = true) ∧ ((s.qp qp).state = 3) ∧ ((s.qp qp).unaPsn ≠ (s.qp qp).sqPsn) ∧ ((s.qp qp).rnrWait = false) ∧ ((s.qp qp).t ≠ 0) ∧ ((s.qp qp).retryLeft ≠ 0) ∧ ((∀ o ∈ (s.qp qp).outst, o.lost = false)) : Prop)) ({ st 3 [] with rdm := { qps := [(5, { state := 3, pmtu := 3, sqPsn := 104, unaPsn := 100, retryLeft := 3, t := 4, expStep := 6, outst := [⟨⟨.event 9, 4096⟩, 100, 4, 0, 0, false⟩] })] } }) (5)) ∧
    ((fun (s : State) (qp : Fin 16384) => ((s.running = true) ∧ ((s.qp qp).state = 3) ∧ ((s.qp qp).unaPsn ≠ (s.qp qp).sqPsn) ∧ ((s.qp qp).rnrWait = false) ∧ ((s.qp qp).t ≠ 0) ∧ ((s.qp qp).retryLeft = 0) ∧ (s.assoc? (s.qp qp).assoc = none) : Prop)) ({ st 3 [] with rdm := { qps := [(5, { state := 3, sqPsn := 104, unaPsn := 100, retryLeft := 0, t := 4, expStep := 6, outst := [⟨⟨.event 9, 4096⟩, 100, 4, 0, 0, false⟩] })] } }) (5)) ∧
    ((fun (s : State) (pkt : RoPkt) (dt : Nat) => (((s.pass dt).running = true) ∧ (pkt.icrcOk = true) ∧ ((s.qp pkt.qpn).state = 3) ∧ ((s.qp pkt.qpn).gen = pkt.qpn / 16384) ∧ ((s.qp pkt.qpn).pKey % 2 ^ 15 = pkt.pKey % 2 ^ 15) ∧ (pkt.ecn ≠ 3) ∧ ((s.qp pkt.qpn).rspClass pkt.psn = .ok) ∧ ((s.qp pkt.qpn).peer = false) ∧ ((∀ o ∈ (s.qp pkt.qpn).outst, o.openRead = false)) ∧ ((s.qp pkt.qpn).unaPsn ≠ (pkt.psn + 1) % 2 ^ 24) : Prop)) ({ st 3 [] with rdm := { qps := [(5, { state := 3, gen := 1, sqPsn := 104, unaPsn := 100, retryLeft := 1, retryCnt := 3, expStep := 2, outst := [⟨⟨.event 9, 4096⟩, 100, 4, 0, 0, false⟩] })] } }) (⟨0x4005, 101, 0x11, false, 0, true, 0, 0, 0, 0, 0, 0x1F, 0, 0, 0, 7, 99⟩) (3)) ∧
    ((fun (s : State) (pkt : RoPkt) (dt : Nat) => (((s.pass dt).running = true) ∧ (pkt.icrcOk = true) ∧ (((s.qp pkt.qpn).state = 2 ∨ (s.qp pkt.qpn).state = 3)) ∧ ((s.qp pkt.qpn).gen = pkt.qpn / 16384) ∧ ((s.qp pkt.qpn).pKey % 2 ^ 15 = pkt.pKey % 2 ^ 15) ∧ (pkt.ecn ≠ 3) ∧ ((s.qp pkt.qpn).rspClass pkt.psn = .bad) : Prop)) ({ st 3 [] with rdm := { qps := [(5, { state := 3, gen := 1, sqPsn := 104, unaPsn := 100 })] } }) (⟨0x4005, 104, 0x11, false, 0, true, 0, 0, 0, 0, 0, 0x1F, 0, 0, 0, 7, 99⟩) (3)) ∧
    ((fun (s : State) (pkt : RoPkt) (dt : Nat) => (((s.pass dt).running = true) ∧ (pkt.icrcOk = true) ∧ ((s.qp pkt.qpn).state = 3) ∧ ((s.qp pkt.qpn).gen = pkt.qpn / 16384) ∧ ((s.qp pkt.qpn).pKey % 2 ^ 15 = pkt.pKey % 2 ^ 15) ∧ (pkt.ecn ≠ 3) ∧ ((s.qp pkt.qpn).rspClass pkt.psn = .ok) ∧ (pkt.psn = (s.qp pkt.qpn).unaPsn) ∧ (pkt.psn < 2 ^ 24) ∧ (pkt.syndrome = 0x60) ∧ ((s.qp pkt.qpn).retryLeft ≠ 0) ∧ ((∀ o ∈ (s.qp pkt.qpn).outst, o.lost = false)) : Prop)) ({ st 3 [] with rdm := { qps := [(5, { state := 3, gen := 1, pmtu := 3, sqPsn := 104, unaPsn := 100, retryLeft := 1, retryCnt := 3, expStep := 2, outst := [⟨⟨.event 9, 4096⟩, 100, 4, 0, 0, false⟩] })] } }) (⟨0x4005, 100, 0x11, false, 0, true, 0, 0, 0, 0, 0, 0x60, 0, 0, 0, 7, 99⟩) (3)) ∧
    ((fun (s : State) (pkt : RoPkt) (dt : Nat) => (((s.pass dt).running = true) ∧ (pkt.icrcOk = true) ∧ ((s.qp pkt.qpn).state = 3) ∧ ((s.qp pkt.qpn).gen = pkt.qpn / 16384) ∧ ((s.qp pkt.qpn).pKey % 2 ^ 15 = pkt.pKey % 2 ^ 15) ∧ (pkt.ecn ≠ 3) ∧ ((s.qp pkt.qpn).rspClass pkt.psn = .ok) ∧ (pkt.psn = (s.qp pkt.qpn).unaPsn) ∧ (pkt.psn < 2 ^ 24) ∧ (0x20 ≤ pkt.syndrome) ∧ (pkt.syndrome < 0x40) ∧ ((s.qp pkt.qpn).rnrLeft ≠ 0) ∧ ((s.qp pkt.qpn).rnrRetry ≠ 7) : Prop)) ({ st 3 [] with rdm := { qps := [(5, { state := 3, gen := 1, pmtu := 3, sqPsn := 104, unaPsn := 100, rnrLeft := 1, rnrRetry := 3 })] } }) (⟨0x4005, 100, 0x11, false, 0, true, 0, 0, 0, 0, 0, 0x20, 0, 0, 0, 7, 99⟩) (3)) ∧
    ((fun (s : State) (qp : Fin 16384) => ((s.running = true) ∧ ((s.qp qp).rnrWait = true) ∧ ((∀ o ∈ (s.qp qp).outst, o.lost = false)) : Prop)) ({ st 3 [] with rdm := { qps := [(5, { state := 3, pmtu := 3, rnrWait := true, rnrPsn := 100, outst := [⟨⟨.event 9, 4096⟩, 100, 4, 0, 0, false⟩] })] } }) (5)) ∧
    ((fun (s : State) (pkt : RoPkt) (dt : Nat) (o : OutMsg) (qi rkey va : Nat) (x : Queue) => (((s.pass dt).running = true) ∧ (pkt.icrcOk = true) ∧ ((s.qp pkt.qpn).state = 3) ∧ ((s.qp pkt.qpn).gen = pkt.qpn / 16384) ∧ ((s.qp pkt.qpn).pKey % 2 ^ 15 = pkt.pKey % 2 ^ 15) ∧ (pkt.ecn ≠ 3) ∧ ((s.qp pkt.qpn).outst = [o]) ∧ (o.msg.kind = .read (.doorbell qi) rkey va) ∧ (o.count = 1) ∧ (o.have' = 0) ∧ (o.data = 0) ∧ (o.first = pkt.psn) ∧ ((s.qp pkt.qpn).unaPsn = pkt.psn) ∧ (pkt.psn < 2 ^ 24) ∧ (s.queue? qi = some x) : Prop)) ({ st 3 [] with rdm := { qps := [(5, { state := 3, gen := 1, pmtu := 3, sqPsn := 0, unaPsn := 0xFFFFFF, outst := [⟨⟨.read (.doorbell 7) 1 2, 8⟩, 0xFFFFFF, 1, 0, 0, false⟩] })] }, cmdq := { queues := [(7, { type := 2, assoc := 0, qid := 1, entriesM1 := 3 })] } }) (⟨0x4005, 0xFFFFFF, 0x10, false, 0, true, 0, 0, 0, 0, 0, 0, 0, 8, 0x55, 7, 99⟩) (3) (⟨⟨.read (.doorbell 7) 1 2, 8⟩, 0xFFFFFF, 1, 0, 0, false⟩) (7) (1) (2) ({ type := 2, assoc := 0, qid := 1, entriesM1 := 3 })) ∧
    ((fun (s : State) (pkt : RoPkt) (dt : Nat) => (((s.pass dt).running = true) ∧ (pkt.icrcOk = true) ∧ ((s.qp pkt.qpn).state = 3) ∧ ((s.qp pkt.qpn).gen = pkt.qpn / 16384) ∧ ((s.qp pkt.qpn).pKey % 2 ^ 15 = pkt.pKey % 2 ^ 15) ∧ (pkt.ecn ≠ 3) ∧ ((s.qp pkt.qpn).outst = []) ∧ (2 ^ 23 ≤ psnDist pkt.psn (s.qp pkt.qpn).unaPsn) : Prop)) ({ st 3 [] with rdm := { qps := [(5, { state := 3, gen := 1, sqPsn := 104, unaPsn := 100 })] } }) (⟨0x4005, 99, 0x10, false, 0, true, 0, 0, 0, 0, 0, 0, 0, 8, 0x55, 7, 99⟩) (3)) ∧
    ((fun (s : State) (qp : Fin 16384) => ((s.running = true) ∧ ((s.qp qp).state = 3) ∧ ((s.qp qp).respGap = true) ∧ ((s.qp qp).retryLeft ≠ 0) ∧ ((∃ o ∈ (s.qp qp).outst, o.openRead = true)) : Prop)) ({ st 3 [] with rdm := { qps := [(5, { state := 3, pmtu := 3, respGap := true, retryLeft := 2, outst := [⟨⟨.read (.doorbell 7) 1 2, 4096⟩, 100, 4, 5, 0, false⟩] })] } }) (5)) ∧
    ((fun (s : State) (pkt : RoPkt) (dt : Nat) => (((s.pass dt).running = true) ∧ (pkt.icrcOk = true) ∧ ((s.qp pkt.qpn).state = 3) ∧ ((s.qp pkt.qpn).gen = pkt.qpn / 16384) ∧ ((s.qp pkt.qpn).pKey % 2 ^ 15 = pkt.pKey % 2 ^ 15) ∧ ((s.pass dt).flag RDM_CTL_RP_EN = true) ∧ ((s.qp pkt.qpn).lastCut = none) ∧ ((s.qp pkt.qpn).ccCur = none) ∧ (0 < (s.qp pkt.qpn).rateBase) ∧ ((s.qp pkt.qpn).rateBase < 2 ^ 20) ∧ (0 < (s.pass dt).fld RDM_CC_CFG0_CUT) ∧ (0 < (s.pass dt).fld RDM_CC_CFG1_RATE_MIN) : Prop)) ({ st 3 [] with rdm := { qps := [(5, { state := 3, gen := 1, rateBase := 1000 })] } }) (⟨0x4005, 0, 0x81, false, 0, true, 0, 0, 0, 0, 0, 0, 0, 0, 0, 7, 99⟩) (3)) ∧
    ((fun (s : State) (pkt : RoPkt) (dt c : Nat) => (((s.pass dt).running = true) ∧ (pkt.icrcOk = true) ∧ ((s.qp pkt.qpn).state = 3) ∧ ((s.qp pkt.qpn).gen = pkt.qpn / 16384) ∧ ((s.qp pkt.qpn).pKey % 2 ^ 15 = pkt.pKey % 2 ^ 15) ∧ ((s.pass dt).flag RDM_CTL_RP_EN = true) ∧ ((s.qp pkt.qpn).lastCut = some c) ∧ ((s.pass dt).clock.nowNs - c < (s.pass dt).fld RDM_CC_CFG0_GUARD_US * 1000) : Prop)) ({ st 3 [] with rdm := { qps := [(5, { state := 3, gen := 1, rateBase := 1000, lastCut := some 0, ccCur := some 500 })] }, clock := { nowNs := 40000 } }) (⟨0x4005, 0, 0x81, false, 0, true, 0, 0, 0, 0, 0, 0, 0, 0, 0, 7, 99⟩) (3) (0)) ∧
    ((fun (s : State) (qp : Fin 16384) (cur : Nat) => ((s.running = true) ∧ ((s.qp qp).state = 3) ∧ ((s.qp qp).recovering = true) ∧ (s.flag RDM_CTL_RP_EN = true) ∧ ((s.qp qp).ccCur = some cur) ∧ (cur + s.fld RDM_CC_CFG1_STEP < s.rateCeiling (s.qp qp)) ∧ (cur + s.fld RDM_CC_CFG1_STEP < 2 ^ 20) : Prop)) ({ st 3 [] with rdm := { qps := [(5, { state := 3, rateBase := 10000, recovering := true, ccCur := some 500 })] } }) (5) (500)) ∧
    ((fun (s : State) (qp : Fin 16384) (cur : Nat) => ((s.running = true) ∧ ((s.qp qp).state = 3) ∧ ((s.qp qp).recovering = true) ∧ (s.flag RDM_CTL_RP_EN = true) ∧ ((s.qp qp).ccCur = some cur) ∧ (s.rateCeiling (s.qp qp) ≤ cur + s.fld RDM_CC_CFG1_STEP) ∧ ((s.qp qp).rateBase < 2 ^ 20) : Prop)) ({ st 3 [] with rdm := { qps := [(5, { state := 3, rateBase := 1000, recovering := true, ccCur := some 500 })] } }) (5) (500)) := by
  refine ⟨?_, ?_, ?_, ?_, ?_, ?_, ?_, ?_, ?_, ?_, ?_, ?_, ?_, ?_, ?_, ?_⟩ <;> decide

set_option maxRecDepth 100000 in
/-- The hypotheses of QueuePairCommands, clause by clause, hold somewhere. -/
theorem witness_QueuePairCommands :
    ((fun (s : State) (req : Requester) (index : Fin 16384) => ((s.RegsOk) ∧ (s.Admits req RDM_QPC_CMD) ∧ (s.flag RDM_QPC_STAT_BUSY = false) ∧ ((s.qp index).state = 0) ∧ (s.qpFieldsOk (s.loadQp (s.qp index)) = true) : Prop)) (st 3 [(RDM_QPC_DATA 0, 0x30), (RDM_QPC_DATA 1, 0x2001), (RDM_SRCADDR_MAC_H 0, 0x20000), (NET_PORT_CFG 0, 0x24000085)]) (.uart) (16383)) ∧
    ((fun (s : State) (req : Requester) (index : Fin 16384) => ((s.RegsOk) ∧ (s.Admits req RDM_QPC_CMD) ∧ (s.flag RDM_QPC_STAT_BUSY = false) ∧ ((s.qp index).state = 0) ∧ (s.qpFieldsOk (s.loadQp (s.qp index)) = false) : Prop)) (st 3 [(RDM_QPC_DATA 0, 0x20), (RDM_QPC_DATA 1, 0x2001)]) (.uart) (16383)) ∧
    ((fun (s : State) (req : Requester) (index : Fin 16384) => ((s.RegsOk) ∧ (s.Admits req RDM_QPC_CMD) ∧ (s.flag RDM_QPC_STAT_BUSY = false) ∧ ((s.qp index).state = 1) : Prop)) ({ st 3 [(RDM_QPC_DATA 5, 0x123456)] with rdm := { qps := [(16383, { state := 1, msn := 9 })] } }) (.uart) (16383)) ∧
    ((fun (s : State) (req : Requester) (index : Fin 16384) => ((s.RegsOk) ∧ (s.Admits req RDM_QPC_CMD) ∧ (s.flag RDM_QPC_STAT_BUSY = false) ∧ ((s.qp index).state = 2) : Prop)) ({ st 3 [(RDM_QPC_DATA 3, 0xF123456)] with rdm := { qps := [(16383, { state := 2, retryCnt := 5, rnrRetry := 7, expStep := 3 })] } }) (.uart) (16383)) ∧
    ((fun (s : State) (req : Requester) (index : Fin 16384) => ((s.RegsOk) ∧ (s.Admits req RDM_QPC_CMD) ∧ (s.flag RDM_QPC_STAT_BUSY = false) ∧ ((s.qp index).state = 4) : Prop)) ({ st 3 [] with rdm := { qps := [(16383, { state := 4, gen := 77, epsn := 5 })] } }) (.uart) (16383)) ∧
    ((fun (s : State) (req : Requester) (target : Fin 8) (index : Fin 16384) => ((s.RegsOk) ∧ (s.Admits req RDM_QPC_CMD) ∧ (s.flag RDM_QPC_STAT_BUSY = false) ∧ (((s.qp index).state = 3 ∧ target ≤ 2 ∨ (s.qp index).state = 2 ∧ target ≤ 2 ∨ (s.qp index).state = 0 ∧ (target = 2 ∨ target = 3) ∨ (s.qp index).state = 4 ∧ 1 ≤ target)) : Prop)) ({ st 3 [] with rdm := { qps := [(16383, { state := 3 })] } }) (.uart) (2) (16383)) ∧
    ((fun (s : State) (req : Requester) (index : Fin 16384) => ((s.RegsOk) ∧ (s.Admits req RDM_QPC_CMD) ∧ (s.flag RDM_QPC_STAT_BUSY = false) ∧ ((s.qp index).state < 2) ∧ (s.rdm.errq.length < 64) : Prop)) ({ st 3 [] with rdm := { qps := [(16383, { state := 1, gen := 1 })] } }) (.uart) (16383)) ∧
    ((fun (s : State) (req : Requester) (_target : Fin 8) (_index : Fin 16384) => ((s.Admits req RDM_QPC_CMD) ∧ (s.flag RDM_QPC_STAT_BUSY = true) : Prop)) (st 3 [(RDM_QPC_STAT, 1)]) (.uart) (1) (16383)) ∧
    ((fun (s : State) (req : Requester) (_index : Fin 16384) (_k : Fin 16) => ((s.RegsOk) ∧ (s.Admits req RDM_QPC_CMD) ∧ (s.flag RDM_QPC_STAT_BUSY = false) : Prop)) ({ st 3 [] with rdm := { qps := [(16383, { state := 3, gen := 77, epsn := 5, destIp := 2 ^ 127 + 9 })] } }) (.uart) (16383) (12)) ∧
    ((fun (s : State) (qp : Fin 16384) => ((s.powered = true) ∧ ((s.qp qp).state = 4) : Prop)) ({ st 3 [] with rdm := { qps := [(16383, { state := 4, flushing := true })] } }) (16383)) := by
  refine ⟨?_, ?_, ?_, ?_, ?_, ?_, ?_, ?_, ?_, ?_⟩ <;> decide

set_option maxRecDepth 100000 in
/-- The hypotheses of WindowCommands, clause by clause, hold somewhere. -/
theorem witness_WindowCommands :
    ((fun (s : State) (req : Requester) (index : Fin 4096) => ((s.RegsOk) ∧ (s.Admits req RDM_WIN_CMD) ∧ (s.flag RDM_WIN_STAT_BUSY = false) ∧ ((s.win index).state = 0) ∧ (winFieldsOk (winOf (fun k => (s.reg (RDM_WIN_DATA k)).toNat)) = true) : Prop)) (st 3 [(RDM_WIN_DATA 0, 0x12345030), (RDM_WIN_DATA 1, 0x54321), (RDM_WIN_DATA 4, 0x1000)]) (.uart) (4095)) ∧
    ((fun (s : State) (req : Requester) (index : Fin 4096) => ((s.RegsOk) ∧ (s.Admits req RDM_WIN_CMD) ∧ (s.flag RDM_WIN_STAT_BUSY = false) ∧ ((s.win index).state ≠ 0) : Prop)) ({ st 3 [] with rdm := { wins := [(4095, { state := 1 })] } }) (.uart) (4095)) ∧
    ((fun (s : State) (req : Requester) (index : Fin 4096) => ((s.RegsOk) ∧ (s.Admits req RDM_WIN_CMD) ∧ (s.flag RDM_WIN_STAT_BUSY = false) ∧ ((s.win index).state = 0) ∧ (winFieldsOk (winOf (fun k => (s.reg (RDM_WIN_DATA k)).toNat)) = false) : Prop)) (st 3 [(RDM_WIN_DATA 0, 0x1234503C), (RDM_WIN_DATA 4, 0x1000)]) (.uart) (4095)) ∧
    ((fun (s : State) (req : Requester) (index : Fin 4096) => ((s.RegsOk) ∧ (s.Admits req RDM_WIN_CMD) ∧ (s.flag RDM_WIN_STAT_BUSY = false) ∧ ((s.win index).state = 1) ∧ ((s.win index).inFlight ≠ 0) : Prop)) ({ st 3 [] with rdm := { wins := [(4095, { state := 1, inFlight := 2, tag := 9, naks := 3 })] } }) (.uart) (4095)) ∧
    ((fun (s : State) (req : Requester) (index : Fin 4096) => ((s.RegsOk) ∧ (s.Admits req RDM_WIN_CMD) ∧ (s.flag RDM_WIN_STAT_BUSY = false) ∧ ((s.win index).state = 1) ∧ ((s.win index).inFlight = 0) : Prop)) ({ st 3 [] with rdm := { wins := [(4095, { state := 1, tag := 9 })] } }) (.uart) (4095)) ∧
    ((fun (s : State) (req : Requester) (index : Fin 4096) => ((s.RegsOk) ∧ (s.Admits req RDM_WIN_CMD) ∧ (s.flag RDM_WIN_STAT_BUSY = false) ∧ ((s.win index).state ≠ 1) : Prop)) ({ st 3 [] with rdm := { wins := [(4095, { state := 2, inFlight := 2 })] } }) (.uart) (4095)) ∧
    ((fun (s : State) (req : Requester) (index : Fin 4096) => ((s.RegsOk) ∧ (s.Admits req RDM_WIN_CMD) ∧ (s.flag RDM_WIN_STAT_BUSY = false) ∧ ((s.win index).state = 1) ∧ (fieldOf (s.reg (RDM_WIN_DATA 0)) 2 2 ≠ 3) : Prop)) ({ st 3 [(RDM_WIN_DATA 0, 0x12345688)] with rdm := { wins := [(4095, { state := 1, vol := 7, length := 4096 })] } }) (.uart) (4095)) ∧
    ((fun (s : State) (req : Requester) (index : Fin 4096) => ((s.RegsOk) ∧ (s.Admits req RDM_WIN_CMD) ∧ (s.flag RDM_WIN_STAT_BUSY = false) ∧ ((s.win index).state ≠ 1) : Prop)) (st 3 []) (.uart) (4095)) ∧
    ((fun (s : State) (req : Requester) (_index : Fin 4096) (_k : Fin 16) => ((s.RegsOk) ∧ (s.Admits req RDM_WIN_CMD) ∧ (s.flag RDM_WIN_STAT_BUSY = false) : Prop)) ({ st 3 [] with rdm := { wins := [(4095, { state := 2, inFlight := 5, tag := 0xFFFFF, volLba := 2 ^ 40, vol := 4095 })] } }) (.uart) (4095) (8)) ∧
    ((fun (s : State) (req : Requester) (_index : Fin 4096) => ((s.Admits req RDM_WIN_CMD) ∧ (s.flag RDM_WIN_STAT_BUSY = true) : Prop)) (st 3 [(RDM_WIN_STAT, 1)]) (.uart) (4095)) ∧
    ((fun (s : State) (w : Fin 4096) => ((s.powered = true) ∧ ((s.win w).state = 2) ∧ ((s.win w).inFlight = 0) ∧ ((s.win w).waiter = none) : Prop)) ({ st 3 [] with rdm := { wins := [(4095, { state := 2, tag := 5, finished := 4, naks := 2 })] }, mbx := { backlog := [[7]] } }) (4095)) ∧
    ((fun (s : State) (w : Fin 4096) => (((s.win w).inFlight ≠ 0) : Prop)) ({ st 3 [] with rdm := { wins := [(4095, { state := 2, inFlight := 1 })] } }) (4095)) ∧
    ((fun (s : State) (handle : Nat) (c : Cmd) => ((s.running = true) ∧ (s.cmd? handle = some c) ∧ (c.kind = .winRead) ∧ (c.fault = true) ∧ (c.dropped = false) ∧ (c.state ≠ .done) ∧ ((s.win c.win).policy = 0) : Prop)) ({ st 3 [] with rdm := { wins := [(4095, { state := 1, inFlight := 2 })], qps := [(5, { state := 3, reads := [{ psn := 7, va := 0, len := 9, rkey := 0, port := 0, req := some 65536 }] })] }, cmdq := { cmds := [(65536, { kind := .winRead, assoc := 0, stamp := 0, port := 0, win := 4095, qpn := 5, fault := true })] } }) (65536) ({ kind := .winRead, assoc := 0, stamp := 0, port := 0, win := 4095, qpn := 5, fault := true })) := by
  refine ⟨?_, ?_, ?_, ?_, ?_, ?_, ?_, ?_, ?_, ?_, ?_, ?_, ?_⟩ <;> decide

set_option maxRecDepth 100000 in
/-- The hypotheses of AdminCapsules, clause by clause, hold somewhere. -/
theorem witness_AdminCapsules :
    ((fun (s : State) (queue : Fin 17408) (q : Queue) (c : Capsule) (rest : List Capsule) (x : Assoc) => ((s.AdminHead queue q c rest 1) ∧ (s.assoc? q.assoc = some x) ∧ (isFct 4 c.sqe = true) ∧ (sqeOct c.sqe 44 4 = 0x14) : Prop)) (adminSt (sqeOf [(0, 1, 0x7F), (4, 1, 4), (44, 4, 0x14)]) 0 []) (16384) (adminQ (sqeOf [(0, 1, 0x7F), (4, 1, 4), (44, 4, 0x14)]) 0) (⟨sqeOf [(0, 1, 0x7F), (4, 1, 4), (44, 4, 0x14)], 0, 9, 3⟩) ([]) ({ nqn := 77, kato := 5, cc := 9 })) ∧
    ((fun (s : State) (queue : Fin 17408) (q : Queue) (c : Capsule) (rest : List Capsule) => ((s.AdminHead queue q c rest 1) ∧ (isFct 4 c.sqe = true) ∧ (sqeOct c.sqe 44 4 ∉ [0x00, 0x08, 0x14, 0x1C]) : Prop)) (adminSt (sqeOf [(0, 1, 0x7F), (4, 1, 4), (44, 4, 0x10)]) 0 []) (16384) (adminQ (sqeOf [(0, 1, 0x7F), (4, 1, 4), (44, 4, 0x10)]) 0) (⟨sqeOf [(0, 1, 0x7F), (4, 1, 4), (44, 4, 0x10)], 0, 9, 3⟩) ([])) ∧
    ((fun (s : State) (queue : Fin 17408) (q : Queue) (c : Capsule) (rest : List Capsule) (x : Assoc) => ((s.AdminHead queue q c rest 1) ∧ (s.assoc? q.assoc = some x) ∧ (isFct 0 c.sqe = true) ∧ (sqeOct c.sqe 44 4 = 0x14) : Prop)) (adminSt (sqeOf [(0, 1, 0x7F), (44, 4, 0x14), (48, 4, 0x460001)]) 0 []) (16384) (adminQ (sqeOf [(0, 1, 0x7F), (44, 4, 0x14), (48, 4, 0x460001)]) 0) (⟨sqeOf [(0, 1, 0x7F), (44, 4, 0x14), (48, 4, 0x460001)], 0, 9, 3⟩) ([]) ({ nqn := 77, kato := 5, cc := 9 })) ∧
    ((fun (s : State) (queue : Fin 17408) (q : Queue) (c : Capsule) (rest : List Capsule) => ((s.AdminHead queue q c rest 1) ∧ (isFct 5 c.sqe = true) : Prop)) (adminSt (sqeOf [(0, 1, 0x7F), (4, 1, 5)]) 0 []) (16384) (adminQ (sqeOf [(0, 1, 0x7F), (4, 1, 5)]) 0) (⟨sqeOf [(0, 1, 0x7F), (4, 1, 5)], 0, 9, 3⟩) ([])) ∧
    ((fun (s : State) (queue : Fin 17408) (q : Queue) (c : Capsule) (rest : List Capsule) => ((s.AdminHead queue q c rest 1) ∧ (isFct 6 c.sqe = true) : Prop)) (adminSt (sqeOf [(0, 1, 0x7F), (4, 1, 6)]) 0 []) (16384) (adminQ (sqeOf [(0, 1, 0x7F), (4, 1, 6)]) 0) (⟨sqeOf [(0, 1, 0x7F), (4, 1, 6)], 0, 9, 3⟩) ([])) ∧
    ((fun (s : State) (queue : Fin 17408) (q : Queue) (c : Capsule) (rest : List Capsule) => ((s.AdminHead queue q c rest 1) ∧ (s.isLocalAssoc q.assoc = false) ∧ (isOpc 0x02 c.sqe = true) ∧ (sqeDw c.sqe 10 = 0x000300C0) ∧ (sqeDw c.sqe 11 % 2 ^ 16 = 0) ∧ (sqeDw c.sqe 12 = 0) ∧ (sqeDw c.sqe 13 = 0) ∧ (sqeOct c.sqe 39 1 = 0x40) : Prop)) (adminSt (sqeOf [(0, 1, 2), (39, 1, 0x40), (40, 4, 0x000300C0)]) 0 []) (16384) (adminQ (sqeOf [(0, 1, 2), (39, 1, 0x40), (40, 4, 0x000300C0)]) 0) (⟨sqeOf [(0, 1, 2), (39, 1, 0x40), (40, 4, 0x000300C0)], 0, 9, 3⟩) ([])) ∧
    ((fun (s : State) (queue : Fin 17408) (q : Queue) (c : Capsule) (rest : List Capsule) => ((s.AdminHead queue q c rest 1) ∧ (isOpc 0x02 c.sqe = true) ∧ (sqeDw c.sqe 10 % 256 ∉ [0x01, 0x02, 0x70, 0x0C, 0xC0, 0xC1]) : Prop)) (adminSt (sqeOf [(0, 1, 2), (40, 4, 0x00000003)]) 0 []) (16384) (adminQ (sqeOf [(0, 1, 2), (40, 4, 0x00000003)]) 0) (⟨sqeOf [(0, 1, 2), (40, 4, 0x00000003)], 0, 9, 3⟩) ([])) ∧
    ((fun (s : State) (queue : Fin 17408) (q : Queue) (c : Capsule) (rest : List Capsule) => ((s.AdminHead queue q c rest 1) ∧ (s.isLocalAssoc q.assoc = false) ∧ (isOpc 0x06 c.sqe = true) ∧ (sqeDw c.sqe 10 % 256 = 2) ∧ (sqeOct c.sqe 39 1 = 0x40) ∧ (s.nsids q.assoc c.port (sqeNsid c.sqe) = []) : Prop)) (adminSt (sqeOf [(0, 1, 6), (4, 4, 7), (39, 1, 0x40), (40, 4, 2)]) 0 []) (16384) (adminQ (sqeOf [(0, 1, 6), (4, 4, 7), (39, 1, 0x40), (40, 4, 2)]) 0) (⟨sqeOf [(0, 1, 6), (4, 4, 7), (39, 1, 0x40), (40, 4, 2)], 0, 9, 3⟩) ([])) ∧
    ((fun (s : State) (queue : Fin 17408) (q : Queue) (c : Capsule) (rest : List Capsule) => ((s.AdminHead queue q c rest 1) ∧ (isOpc 0x06 c.sqe = true) ∧ (sqeDw c.sqe 10 % 256 = 0) ∧ ((sqeNsid c.sqe = 0 ∨ 4096 < sqeNsid c.sqe)) : Prop)) (adminSt (sqeOf [(0, 1, 6), (4, 4, 4097), (40, 4, 0)]) 0 []) (16384) (adminQ (sqeOf [(0, 1, 6), (4, 4, 4097), (40, 4, 0)]) 0) (⟨sqeOf [(0, 1, 6), (4, 4, 4097), (40, 4, 0)], 0, 9, 3⟩) ([])) ∧
    ((fun (s : State) (queue : Fin 17408) (q : Queue) (c : Capsule) (rest : List Capsule) (x : Assoc) => ((s.AdminHead queue q c rest 2) ∧ (s.assoc? q.assoc = some x) ∧ (isOpc 0x09 c.sqe = true) ∧ (sqeDw c.sqe 10 % 256 = 0x0B) : Prop)) (adminSt (sqeOf [(0, 1, 9), (40, 4, 0x0B), (44, 4, 0x800)]) 0 []) (16384) (adminQ (sqeOf [(0, 1, 9), (40, 4, 0x0B), (44, 4, 0x800)]) 0) (⟨sqeOf [(0, 1, 9), (40, 4, 0x0B), (44, 4, 0x800)], 0, 9, 3⟩) ([]) ({ nqn := 77, kato := 5, cc := 9 })) ∧
    ((fun (s : State) (queue : Fin 17408) (q : Queue) (c : Capsule) (rest : List Capsule) => ((s.AdminHead queue q c rest 2) ∧ (isOpc 0x09 c.sqe = true) ∧ (sqeDw c.sqe 10 % 256 ∈ [0x01, 0x02, 0x06]) : Prop)) (adminSt (sqeOf [(0, 1, 9), (40, 4, 6)]) 0 []) (16384) (adminQ (sqeOf [(0, 1, 9), (40, 4, 6)]) 0) (⟨sqeOf [(0, 1, 9), (40, 4, 6)], 0, 9, 3⟩) ([])) ∧
    ((fun (s : State) (queue : Fin 17408) (q : Queue) (c : Capsule) (rest : List Capsule) => ((s.AdminHead queue q c rest 0) ∧ (isOpc 0x09 c.sqe = true) ∧ (s.cmdClass q.assoc c.port < 2) : Prop)) ({ adminSt (sqeOf [(0, 1, 9), (40, 4, 6)]) 0 [] with regs := regsOf [(SYS_MODE, 3), (NET_PRIV 3, 1)] }) (16384) (adminQ (sqeOf [(0, 1, 9), (40, 4, 6)]) 0) (⟨sqeOf [(0, 1, 9), (40, 4, 6)], 0, 9, 3⟩) ([])) ∧
    ((fun (s : State) (queue : Fin 17408) (q : Queue) (c : Capsule) (rest : List Capsule) => ((s.AdminHead queue q c rest 1) ∧ (isOpc 0x0A c.sqe = true) ∧ (sqeDw c.sqe 10 % 256 = 1) : Prop)) (adminSt (sqeOf [(0, 1, 0xA), (40, 4, 1)]) 0 []) (16384) (adminQ (sqeOf [(0, 1, 0xA), (40, 4, 1)]) 0) (⟨sqeOf [(0, 1, 0xA), (40, 4, 1)], 0, 9, 3⟩) ([])) ∧
    ((fun (s : State) (queue : Fin 17408) (q : Queue) (c : Capsule) (rest : List Capsule) (x : Assoc) => ((s.AdminHead queue q c rest 1) ∧ (s.assoc? q.assoc = some x) ∧ (isOpc 0x0A c.sqe = true) ∧ (sqeDw c.sqe 10 % 256 = 0x0F) : Prop)) (adminSt (sqeOf [(0, 1, 0xA), (40, 4, 15)]) 0 []) (16384) (adminQ (sqeOf [(0, 1, 0xA), (40, 4, 15)]) 0) (⟨sqeOf [(0, 1, 0xA), (40, 4, 15)], 0, 9, 3⟩) ([]) ({ nqn := 77, kato := 5, cc := 9 })) ∧
    ((fun (s : State) (queue : Fin 17408) (q : Queue) (c : Capsule) (rest : List Capsule) (x : Assoc) => ((s.AdminHead queue q c rest 1) ∧ (s.assoc? q.assoc = some x) ∧ (isOpc 0x18 c.sqe = true) : Prop)) (adminSt (sqeOf [(0, 1, 0x18)]) 0 []) (16384) (adminQ (sqeOf [(0, 1, 0x18)]) 0) (⟨sqeOf [(0, 1, 0x18)], 0, 9, 3⟩) ([]) ({ nqn := 77, kato := 5, cc := 9 })) ∧
    ((fun (s : State) (queue : Fin 17408) (q : Queue) (c : Capsule) (rest : List Capsule) (x : Assoc) (h : Nat) => ((s.AdminHead queue q c rest 1) ∧ (s.assoc? q.assoc = some x) ∧ (isOpc 0x0C c.sqe = true) ∧ (x.aers.length < 4) ∧ (x.events = []) ∧ (s.freeTag = some h) : Prop)) (adminSt (sqeOf [(0, 1, 0xC), (2, 2, 0xABCD)]) 0 []) (16384) (adminQ (sqeOf [(0, 1, 0xC), (2, 2, 0xABCD)]) 0) (⟨sqeOf [(0, 1, 0xC), (2, 2, 0xABCD)], 0, 9, 3⟩) ([]) ({ nqn := 77, kato := 5, cc := 9 }) (0)) ∧
    ((fun (s : State) (queue : Fin 17408) (q : Queue) (c : Capsule) (rest : List Capsule) (x : Assoc) => ((s.AdminHead queue q c rest 1) ∧ (s.assoc? q.assoc = some x) ∧ (isOpc 0x0C c.sqe = true) ∧ (4 ≤ x.aers.length) : Prop)) ({ adminSt (sqeOf [(0, 1, 0xC)]) 0 [] with cmdq := { assocs := [(0, { aers := [1, 2, 3, 4] })], queues := [(16384, adminQ (sqeOf [(0, 1, 0xC)]) 0)] } }) (16384) (adminQ (sqeOf [(0, 1, 0xC)]) 0) (⟨sqeOf [(0, 1, 0xC)], 0, 9, 3⟩) ([]) ({ aers := [1, 2, 3, 4] })) := by
  refine ⟨?_, ?_, ?_, ?_, ?_, ?_, ?_, ?_, ?_, ?_, ?_, ?_, ?_, ?_, ?_, ?_, ?_⟩ <;> decide

set_option maxRecDepth 100000 in
/-- The hypotheses of AssociationsWindowsRings, clause by clause, hold somewhere. -/
theorem witness_AssociationsWindowsRings :
    ((fun (s : State) (qp : Fin 16384) (c : Capsule) => ((s.RegsOk) ∧ (s.inService = true) ∧ (s.cmdq.connects = [(qp.val, c)]) ∧ (isFct 1 c.sqe = true) ∧ ((s.qp qp).assoc < 1024) ∧ (s.assoc? (s.qp qp).assoc = none) ∧ (sqeOct c.sqe 42 2 = 0) ∧ (1 ≤ sqeOct c.sqe 44 2) ∧ (sqeOct c.sqe 44 2 ≤ 31) ∧ (sqeOct c.sqe 46 1 / 4 % 2 = 0) ∧ (nqnNat c.data 256 ≠ discNqn) : Prop)) ({ st 3 [] with rdm := { qps := [(5, { state := 3, gen := 1, kind := 2, assoc := 1023 })] }, cmdq := { connects := [(5, ⟨sqeOf [(0, 1, 0x7F), (4, 1, 1), (44, 2, 31), (48, 4, 101)], 0, 9, 3⟩)] } }) (5) (⟨sqeOf [(0, 1, 0x7F), (4, 1, 1), (44, 2, 31), (48, 4, 101)], 0, 9, 3⟩)) ∧
    ((fun (s : State) (qp : Fin 16384) (c : Capsule) => ((s.inService = true) ∧ (s.cmdq.connects = [(qp.val, c)]) ∧ (isFct 1 c.sqe = true) ∧ (((s.qp qp).state = 2 ∨ (s.qp qp).state = 3)) ∧ ((64 < sqeOct c.sqe 42 2 ∨ sqeOct c.sqe 44 2 = 0 ∨ 1023 < sqeOct c.sqe 44 2 ∨ sqeOct c.sqe 46 1 / 4 % 2 = 1)) : Prop)) ({ st 3 [] with rdm := { qps := [(5, { state := 3, gen := 1, kind := 2, assoc := 1023 })] }, cmdq := { connects := [(5, ⟨sqeOf [(0, 1, 0x7F), (4, 1, 1), (42, 2, 65), (44, 2, 31), (48, 4, 101)], 0, 9, 3⟩)] } }) (5) (⟨sqeOf [(0, 1, 0x7F), (4, 1, 1), (42, 2, 65), (44, 2, 31), (48, 4, 101)], 0, 9, 3⟩)) ∧
    ((fun (s : State) (queue : Fin 17408) (q : Queue) (c : Capsule) (rest : List Capsule) (x : Assoc) => ((s.AdminHead queue q c rest 1) ∧ (s.assoc? q.assoc = some x) ∧ (isFct 8 c.sqe = true) : Prop)) (adminSt (sqeOf [(0, 1, 0x7F), (4, 1, 8)]) 0 []) (16384) (adminQ (sqeOf [(0, 1, 0x7F), (4, 1, 8)]) 0) (⟨sqeOf [(0, 1, 0x7F), (4, 1, 8)], 0, 9, 3⟩) ([]) ({ nqn := 77, kato := 5, cc := 9 })) ∧
    ((fun (s : State) (assoc : Fin 1024) (dt : Nat) (x : Assoc) => (((s.pass dt).running = true) ∧ (s.assoc? assoc = some x) ∧ (x.kato ≠ 0) ∧ (x.kaAt + x.kato * 100000000 ≤ (s.pass dt).clock.nowNs) : Prop)) ({ adminSt 0 0 [] with clock := { nowNs := 600000000 } }) (0) (3) ({ nqn := 77, kato := 5, cc := 9 })) ∧
    ((fun (s : State) (queue : Fin 17408) (q : Queue) (c : Capsule) (rest : List Capsule) => ((s.AdminHead queue q c rest 1) ∧ (isOpc 0x08 c.sqe = true) ∧ ((∀ e ∈ s.cmdq.queues, e.2.assoc = q.assoc → e.2.qid ≠ sqeDw c.sqe 10 % 2 ^ 16)) ∧ (q.qid ≠ sqeDw c.sqe 10 % 2 ^ 16) : Prop)) (adminSt (sqeOf [(0, 1, 8), (40, 4, 0x00310003)]) 0 []) (16384) (adminQ (sqeOf [(0, 1, 8), (40, 4, 0x00310003)]) 0) (⟨sqeOf [(0, 1, 8), (40, 4, 0x00310003)], 0, 9, 3⟩) ([])) ∧
    ((fun (s : State) (queue : Fin 17408) (q : Queue) (c : Capsule) (rest : List Capsule) (h : Nat) (x : Cmd) (y : Queue) (qi : Nat) (a : Assoc) => ((s.AdminHead queue q c rest 1) ∧ (isOpc 0x08 c.sqe = true) ∧ (s.assoc? q.assoc = some a) ∧ (q.qid ≠ sqeDw c.sqe 10 % 2 ^ 16) ∧ (s.cmdq.queues.find? (fun e => e.2.assoc == q.assoc && e.2.qid == sqeDw c.sqe 10 % 2 ^ 16) = some (qi, y)) ∧ (s.cmdq.cmds.find? (fun e => e.2.queue == some qi && e.2.cid == sqeDw c.sqe 10 / 2 ^ 16) = some (h, x)) ∧ ((x.state = .waiting ∨ x.state = .placed)) ∧ (s.queue? qi = some y) ∧ (qi ≠ queue.val) ∧ (y.qpn % 16384 ≠ q.qpn % 16384) : Prop)) ({ adminSt (sqeOf [(0, 1, 8), (40, 4, 0x00310003)]) 0 [] with cmdq := { assocs := [(0, { nqn := 77 })], queues := [(7, { type := 1, assoc := 0, qid := 3, entriesM1 := 31, qpn := 6 }), (16384, adminQ (sqeOf [(0, 1, 8), (40, 4, 0x00310003)]) 0)], cmds := [(4, { kind := .read, queue := some 7, assoc := 0, cid := 0x31, stamp := 1, port := 3, state := .placed })] } }) (16384) (adminQ (sqeOf [(0, 1, 8), (40, 4, 0x00310003)]) 0) (⟨sqeOf [(0, 1, 8), (40, 4, 0x00310003)], 0, 9, 3⟩) ([]) (4) ({ kind := .read, queue := some 7, assoc := 0, cid := 0x31, stamp := 1, port := 3, state := .placed }) ({ type := 1, assoc := 0, qid := 3, entriesM1 := 31, qpn := 6 }) (7) ({ nqn := 77 })) ∧
    ((fun (s : State) (queue : Fin 17408) (q : Queue) (c : Capsule) (rest : List Capsule) (_data : Nat) => ((s.AdminHead queue q c rest 2) ∧ (s.isLocalAssoc q.assoc = false) ∧ (isOpc 0xC1 c.sqe = true) ∧ (adminDataOk q false c.sqe = true) ∧ (s.aclOk q.assoc c.port (winOf (fun k => c.data / 2 ^ (32 * k) % 2 ^ 32)).vol 2 = true) ∧ ((s.win (sqeDw c.sqe 10 % 4096)).state = 0) ∧ (winFieldsOk (winOf (fun k => c.data / 2 ^ (32 * k) % 2 ^ 32)) = true) : Prop)) ({ adminSt (sqeOf [(0, 1, 0xC1), (39, 1, 1), (40, 4, 4095)]) (0x7030 + 5 * 2 ^ 32 + 4096 * 2 ^ 128) [] with prot := { acl := [(0, { vol := 0, digest := 0, ports := 8, pf1 := false, rd := true, wr := true })] } }) (16384) (adminQ (sqeOf [(0, 1, 0xC1), (39, 1, 1), (40, 4, 4095)]) (0x7030 + 5 * 2 ^ 32 + 4096 * 2 ^ 128)) (⟨sqeOf [(0, 1, 0xC1), (39, 1, 1), (40, 4, 4095)], 0x7030 + 5 * 2 ^ 32 + 4096 * 2 ^ 128, 9, 3⟩) ([]) (0)) ∧
    ((fun (s : State) (queue : Fin 17408) (q : Queue) (c : Capsule) (rest : List Capsule) => ((s.AdminHead queue q c rest 2) ∧ (isOpc 0xC4 c.sqe = true) ∧ ((s.win (sqeDw c.sqe 10 % 4096)).state ≠ 1) : Prop)) (adminSt (sqeOf [(0, 1, 0xC4), (40, 4, 4095)]) 0 []) (16384) (adminQ (sqeOf [(0, 1, 0xC4), (40, 4, 4095)]) 0) (⟨sqeOf [(0, 1, 0xC4), (40, 4, 4095)], 0, 9, 3⟩) ([])) ∧
    ((fun (s : State) (queue : Fin 17408) (q : Queue) (c : Capsule) (rest : List Capsule) (h : Nat) => ((s.AdminHead queue q c rest 2) ∧ (isOpc 0xC4 c.sqe = true) ∧ ((s.win (sqeDw c.sqe 10 % 4096)).state = 1) ∧ ((s.win (sqeDw c.sqe 10 % 4096)).inFlight ≠ 0) ∧ (s.freeTag = some h) : Prop)) ({ adminSt (sqeOf [(0, 1, 0xC4), (40, 4, 4095)]) 0 [] with rdm := { qps := [(5, { state := 3 })], wins := [(4095, { state := 1, inFlight := 1 })] } }) (16384) (adminQ (sqeOf [(0, 1, 0xC4), (40, 4, 4095)]) 0) (⟨sqeOf [(0, 1, 0xC4), (40, 4, 4095)], 0, 9, 3⟩) ([]) (0)) ∧
    ((fun (s : State) (queue : Fin 17408) (q : Queue) (c : Capsule) (rest : List Capsule) (_data i : Nat) => ((s.AdminHead queue q c rest 2) ∧ (s.isLocalAssoc q.assoc = false) ∧ (isRingOp 0 c.sqe = true) ∧ (adminDataOk q false c.sqe = true) ∧ (q.qid = 0) ∧ (1 ≤ sqeDw c.sqe 10 % 2 ^ 16) ∧ (sqeDw c.sqe 10 % 2 ^ 16 ≤ 64) ∧ ((∀ e ∈ s.cmdq.queues, e.2.assoc = q.assoc → e.2.qid ≠ sqeDw c.sqe 10 % 2 ^ 16)) ∧ (63 ≤ c.data / 2 ^ 224 % 2 ^ 16) ∧ (c.data / 2 ^ 224 % 2 ^ 16 ≤ 1023) ∧ (c.data / 2 ^ 280 % 2 ^ 8 = 0) ∧ (c.data / 2 ^ 288 % 2 ^ 8 ≤ 3) ∧ (c.data % 64 = 0) ∧ (c.data / 2 ^ 64 % 64 = 0) ∧ (c.data / 2 ^ 128 % 8 = 0) ∧ ((s.qp (c.data / 2 ^ 256 % 2 ^ 24)).kind = 3) ∧ ((s.qp (c.data / 2 ^ 256 % 2 ^ 24)).assoc = q.assoc) ∧ (((s.qp (c.data / 2 ^ 256 % 2 ^ 24)).state = 2 ∨ (s.qp (c.data / 2 ^ 256 % 2 ^ 24)).state = 3)) ∧ ((s.qp (c.data / 2 ^ 256 % 2 ^ 24)).number (c.data / 2 ^ 256 % 2 ^ 24) = c.data / 2 ^ 256 % 2 ^ 24) ∧ ((∀ e ∈ s.cmdq.queues, e.2.type ≠ 2)) ∧ (keysRise s.cmdq.queues = true) ∧ (s.freeIoq = some i) ∧ (i ≠ queue.val) : Prop)) ({ adminSt (sqeOf [(0, 1, 0xC5), (39, 1, 1), (40, 4, 9)]) (64 + 64 * 2 ^ 64 + 8 * 2 ^ 128 + 63 * 2 ^ 224 + 0x4006 * 2 ^ 256 + 2 * 2 ^ 288) [] with rdm := { qps := [(5, { state := 3 }), (6, { state := 2, kind := 3, gen := 1 })] } }) (16384) (adminQ (sqeOf [(0, 1, 0xC5), (39, 1, 1), (40, 4, 9)]) (64 + 64 * 2 ^ 64 + 8 * 2 ^ 128 + 63 * 2 ^ 224 + 0x4006 * 2 ^ 256 + 2 * 2 ^ 288)) (⟨sqeOf [(0, 1, 0xC5), (39, 1, 1), (40, 4, 9)], 64 + 64 * 2 ^ 64 + 8 * 2 ^ 128 + 63 * 2 ^ 224 + 0x4006 * 2 ^ 256 + 2 * 2 ^ 288, 9, 3⟩) ([]) (0) (0)) ∧
    ((fun (s : State) (queue : Fin 17408) (q : Queue) (c : Capsule) (rest : List Capsule) => ((s.AdminHead queue q c rest 2) ∧ (isRingOp 1 c.sqe = true) ∧ ((∀ e ∈ s.cmdq.queues, e.2.type < 2)) : Prop)) (adminSt (sqeOf [(0, 1, 0xC5), (40, 4, 0x10009)]) 0 []) (16384) (adminQ (sqeOf [(0, 1, 0xC5), (40, 4, 0x10009)]) 0) (⟨sqeOf [(0, 1, 0xC5), (40, 4, 0x10009)], 0, 9, 3⟩) ([])) ∧
    ((fun (s : State) (queue : Fin 17408) (q : Queue) (c : Capsule) (rest : List Capsule) (i : Nat) (x : Queue) (h : Nat) => ((s.AdminHead queue q c rest 2) ∧ (isRingOp 1 c.sqe = true) ∧ (s.cmdq.queues.find? (fun e => e.2.assoc == q.assoc && e.2.qid == sqeDw c.sqe 10 % 2 ^ 16 && decide (2 ≤ e.2.type)) = some (i, x)) ∧ (s.queue? i = some x) ∧ (s.ringQuiet i x = true) ∧ (s.freeTag = some h) ∧ (i ≠ queue.val) : Prop)) ({ adminSt (sqeOf [(0, 1, 0xC5), (40, 4, 0x10009)]) 0 [] with cmdq := { assocs := [(0, { nqn := 77 })], queues := [(7, { type := 2, assoc := 0, qid := 9, entriesM1 := 63 }), (16384, adminQ (sqeOf [(0, 1, 0xC5), (40, 4, 0x10009)]) 0)] } }) (16384) (adminQ (sqeOf [(0, 1, 0xC5), (40, 4, 0x10009)]) 0) (⟨sqeOf [(0, 1, 0xC5), (40, 4, 0x10009)], 0, 9, 3⟩) ([]) (7) ({ type := 2, assoc := 0, qid := 9, entriesM1 := 63 }) (0)) ∧
    ((fun (s : State) (queue : Fin 17408) (q : Queue) (c : Capsule) (rest : List Capsule) (i : Nat) (x : Queue) (h _data : Nat) => ((s.AdminHead queue q c rest 2) ∧ (s.isLocalAssoc q.assoc = false) ∧ (isRingOp 2 c.sqe = true) ∧ (s.cmdq.queues.find? (fun e => e.2.assoc == q.assoc && e.2.qid == sqeDw c.sqe 10 % 2 ^ 16 && decide (2 ≤ e.2.type)) = some (i, x)) ∧ (s.queue? i = some x) ∧ (s.ringQuiet i x = true) ∧ (s.freeTag = some h) ∧ (i ≠ queue.val) : Prop)) ({ adminSt (sqeOf [(0, 1, 0xC5), (40, 4, 0x20009)]) (7 * 2 ^ 240) [] with cmdq := { assocs := [(0, { nqn := 77 })], queues := [(7, { type := 2, assoc := 0, qid := 9, entriesM1 := 63, sqTail := 4 }), (16384, adminQ (sqeOf [(0, 1, 0xC5), (40, 4, 0x20009)]) (7 * 2 ^ 240))] } }) (16384) (adminQ (sqeOf [(0, 1, 0xC5), (40, 4, 0x20009)]) (7 * 2 ^ 240)) (⟨sqeOf [(0, 1, 0xC5), (40, 4, 0x20009)], 7 * 2 ^ 240, 9, 3⟩) ([]) (7) ({ type := 2, assoc := 0, qid := 9, entriesM1 := 63, sqTail := 4 }) (0) (0)) ∧
    ((fun (s : State) (queue : Fin 17408) (q : Queue) (c : Capsule) (rest : List Capsule) (_data : Nat) => ((s.AdminHead queue q c rest 3) ∧ (isOpc 0xC9 c.sqe = true) ∧ (s.stewardHost q.assoc c.port = false) : Prop)) ({ adminSt (sqeOf [(0, 1, 0xC9)]) 0 [] with prot := {} }) (16384) (adminQ (sqeOf [(0, 1, 0xC9)]) 0) (⟨sqeOf [(0, 1, 0xC9)], 0, 9, 3⟩) ([]) (0)) ∧
    ((fun (s : State) (queue : Fin 17408) (q : Queue) (c : Capsule) (rest : List Capsule) (_data : Nat) (x : Assoc) => ((s.AdminHead queue q c rest 3) ∧ (s.assoc? q.assoc = some x) ∧ (x.isLocal = false) ∧ (isOpc 0xC9 c.sqe = true) ∧ (s.stewardHost q.assoc c.port = true) ∧ (adminDataOk q false c.sqe = true) : Prop)) (adminSt (sqeOf [(0, 1, 0xC9), (32, 4, 64), (39, 1, 1)]) 1 []) (16384) (adminQ (sqeOf [(0, 1, 0xC9), (32, 4, 64), (39, 1, 1)]) 1) (⟨sqeOf [(0, 1, 0xC9), (32, 4, 64), (39, 1, 1)], 1, 9, 3⟩) ([]) (0) ({ nqn := 77, kato := 5, cc := 9 })) ∧
    ((fun (s : State) (queue : Fin 17408) (q : Queue) (c : Capsule) (rest : List Capsule) => ((s.AdminHead queue q c rest 3) ∧ (isOpc 0xC8 c.sqe = true) ∧ (s.stewardHost q.assoc c.port = true) ∧ (s.prot.change = none) : Prop)) (adminSt (sqeOf [(0, 1, 0xC8)]) 0 []) (16384) (adminQ (sqeOf [(0, 1, 0xC8)]) 0) (⟨sqeOf [(0, 1, 0xC8)], 0, 9, 3⟩) ([])) ∧
    ((fun (s : State) (queue : Fin 17408) (q : Queue) (c : Capsule) (rest : List Capsule) => ((s.AdminHead queue q c rest 0) ∧ (adminKnown c.sqe = false) ∧ (sqeOpc c.sqe ≠ 0xC5) ∧ (sqeOpc c.sqe ≠ 0x7F) : Prop)) (adminSt (sqeOf [(0, 1, 0x55)]) 0 []) (16384) (adminQ (sqeOf [(0, 1, 0x55)]) 0) (⟨sqeOf [(0, 1, 0x55)], 0, 9, 3⟩) ([])) := by
  refine ⟨?_, ?_, ?_, ?_, ?_, ?_, ?_, ?_, ?_, ?_, ?_, ?_, ?_, ?_, ?_, ?_, ?_⟩ <;> decide

set_option maxRecDepth 100000 in
/-- The hypotheses of IoCommandsWait, clause by clause, hold somewhere. -/
theorem witness_IoCommandsWait :
    ((fun (s : State) (queue : Fin 17408) (q : Queue) (c : Capsule) (rest : List Capsule) => ((s.inService = true) ∧ (s.queue? queue = some q) ∧ (q.isAdmin = false) ∧ (q.inbox = c :: rest) ∧ (sqeOpc c.sqe = 0x00) ∧ (sqeNsid c.sqe ≠ 0xFFFFFFFF) ∧ (s.cmdq.cmds = []) ∧ (q.waiting = []) ∧ (s.ioCheck q c .flush [] = 0) : Prop)) (ioSt (ioSqe 0 0 1 0) []) (7) (ioQ (ioSqe 0 0 1 0)) (⟨ioSqe 0 0 1 0, 0, 9, 3⟩) ([])) ∧
    ((fun (s : State) (queue : Fin 17408) (_sgl : List (Nat × Nat)) (q : Queue) (c : Capsule) (rest : List Capsule) => ((s.inService = true) ∧ (s.queue? queue = some q) ∧ (q.isAdmin = false) ∧ (q.inbox = c :: rest) ∧ (sqeOpc c.sqe = 0x01) ∧ (sqeNsid c.sqe ≠ 0xFFFFFFFF) ∧ (s.cmdq.cmds = []) ∧ (q.waiting = []) ∧ (s.ioCheck q c .write [(sqeSlba c.sqe, sqeNlb c.sqe)] = 0x7C0) ∧ (s.keyRefusal (sqeNsid c.sqe - 1) = .noKey) : Prop)) (ioSt (ioSqe 1 262143 1 4096) []) (7) ([]) (ioQ (ioSqe 1 262143 1 4096)) (⟨ioSqe 1 262143 1 4096, 0, 9, 3⟩) ([])) ∧
    ((fun (s : State) (queue : Fin 17408) (_sgl : List (Nat × Nat)) (q : Queue) (c : Capsule) (rest : List Capsule) => ((s.inService = true) ∧ (s.queue? queue = some q) ∧ (q.isAdmin = false) ∧ (q.inbox = c :: rest) ∧ (sqeOpc c.sqe = 0x01) ∧ (sqeNsid c.sqe ≠ 0xFFFFFFFF) ∧ (s.cmdq.cmds = []) ∧ (q.waiting = []) ∧ (s.ioCheck q c .write [(sqeSlba c.sqe, sqeNlb c.sqe)] = 0) : Prop)) (ioSt (ioSqe 1 262143 1 4096) [(CIP_KS_STAT 5, 1), (CIP_VOL_KEY 9, 0x1005)]) (7) ([]) (ioQ (ioSqe 1 262143 1 4096)) (⟨ioSqe 1 262143 1 4096, 0, 9, 3⟩) ([])) ∧
    ((fun (s : State) (queue : Fin 17408) (_sgl : List (Nat × Nat)) (q : Queue) (c : Capsule) (rest : List Capsule) => ((s.inService = true) ∧ (s.queue? queue = some q) ∧ (q.isAdmin = false) ∧ (q.inbox = c :: rest) ∧ (sqeOpc c.sqe = 0x02) ∧ (sqeNsid c.sqe ≠ 0xFFFFFFFF) ∧ (s.cmdq.cmds = []) ∧ (q.waiting = []) ∧ (s.ioCheck q c .read [(sqeSlba c.sqe, sqeNlb c.sqe)] = 0) : Prop)) (ioSt (ioSqe 2 262143 1 4096) []) (7) ([]) (ioQ (ioSqe 2 262143 1 4096)) (⟨ioSqe 2 262143 1 4096, 0, 9, 3⟩) ([])) ∧
    ((fun (s : State) (queue : Fin 17408) (_sgl : List (Nat × Nat)) (q : Queue) (c : Capsule) (rest : List Capsule) (v : Vol) => ((s.inService = true) ∧ (s.queue? queue = some q) ∧ (q.isAdmin = false) ∧ (q.inbox = c :: rest) ∧ (sqeOpc c.sqe = 0x02) ∧ (s.cmdq.cmds = []) ∧ (q.waiting = []) ∧ (c.sqe / 256 % 4 = 0) ∧ (1 ≤ s.cmdClass q.assoc c.port) ∧ (1 ≤ sqeNsid c.sqe) ∧ (sqeNsid c.sqe ≤ 4096) ∧ (s.aclOk q.assoc c.port (sqeNsid c.sqe - 1) 0 = true) ∧ (s.fld CMDQ_STAT_ANA = 1) ∧ (s.replyOk q c.sqe = true) ∧ (s.isLocalAssoc q.assoc = false) ∧ (sqeOct c.sqe 32 3 = sqeNlb c.sqe * 4096) ∧ (sqeNlb c.sqe ≤ 256) ∧ (tget? s.red.vols (sqeNsid c.sqe - 1) = some v) ∧ (v.maxSlabs * 262144 < sqeSlba c.sqe + sqeNlb c.sqe) : Prop)) (ioSt (ioSqe 2 262143 2 8192) []) (7) ([]) (ioQ (ioSqe 2 262143 2 8192)) (⟨ioSqe 2 262143 2 8192, 0, 9, 3⟩) ([]) ({ set := 0, maxSlabs := 1 })) ∧
    ((fun (s : State) (queue : Fin 17408) (_sgl : List (Nat × Nat)) (q : Queue) (c : Capsule) (rest : List Capsule) (w : Cmd) => ((s.inService = true) ∧ (s.queue? queue = some q) ∧ (q.isAdmin = false) ∧ (q.inbox = c :: rest) ∧ (sqeOpc c.sqe = 0x02) ∧ (c.sqe / 256 % 4 = 0) ∧ (w ∈ q.waiting) ∧ (w.cid = sqeCid c.sqe) : Prop)) ({ ioSt (ioSqe 2 0 1 4096) [] with cmdq := { assocs := [(0, { nqn := 77 })], queues := [(7, { ioQ (ioSqe 2 0 1 4096) with waiting := [{ kind := .read, assoc := 0, cid := 0xABCD, stamp := 1, port := 3 }] })] } }) (7) ([]) ({ ioQ (ioSqe 2 0 1 4096) with waiting := [{ kind := .read, assoc := 0, cid := 0xABCD, stamp := 1, port := 3 }] }) (⟨ioSqe 2 0 1 4096, 0, 9, 3⟩) ([]) ({ kind := .read, assoc := 0, cid := 0xABCD, stamp := 1, port := 3 })) ∧
    ((fun (s : State) (queue : Fin 17408) (_sgl : List (Nat × Nat)) (q : Queue) (c : Capsule) (rest : List Capsule) => ((s.inService = true) ∧ (s.queue? queue = some q) ∧ (q.isAdmin = false) ∧ (q.inbox = c :: rest) ∧ (sqeOpc c.sqe = 0x05) ∧ (sqeNsid c.sqe ≠ 0xFFFFFFFF) ∧ (s.cmdq.cmds = []) ∧ (q.waiting = []) ∧ (s.ioCheck q c .compare [(sqeSlba c.sqe, sqeNlb c.sqe)] = 0) : Prop)) (ioSt (ioSqe 5 262143 1 4096) []) (7) ([]) (ioQ (ioSqe 5 262143 1 4096)) (⟨ioSqe 5 262143 1 4096, 0, 9, 3⟩) ([])) ∧
    ((fun (s : State) (queue : Fin 17408) (q : Queue) (c : Capsule) (rest : List Capsule) => ((s.inService = true) ∧ (s.queue? queue = some q) ∧ (q.isAdmin = false) ∧ (q.inbox = c :: rest) ∧ (sqeOpc c.sqe = 0x08) ∧ (sqeNsid c.sqe ≠ 0xFFFFFFFF) ∧ (s.cmdq.cmds = []) ∧ (q.waiting = []) ∧ (s.ioCheck q c .zeroes [(sqeSlba c.sqe, sqeNlb c.sqe)] = 0) : Prop)) (ioSt (ioSqe 8 0 65536 0) [(CIP_KS_STAT 5, 1), (CIP_VOL_KEY 9, 0x1005)]) (7) (ioQ (ioSqe 8 0 65536 0)) (⟨ioSqe 8 0 65536 0, 0, 9, 3⟩) ([])) ∧
    ((fun (s : State) (queue : Fin 17408) (ranges : List (Nat × Nat)) (q : Queue) (c : Capsule) (rest : List Capsule) => ((s.inService = true) ∧ (s.queue? queue = some q) ∧ (q.isAdmin = false) ∧ (q.inbox = c :: rest) ∧ (sqeOpc c.sqe = 0x09) ∧ (sqeNsid c.sqe ≠ 0xFFFFFFFF) ∧ (s.cmdq.cmds = []) ∧ (q.waiting = []) ∧ (sqeDw c.sqe 11 / 4 % 2 = 1) ∧ (ranges.length = sqeDw c.sqe 10 % 256 + 1) ∧ ((∀ r ∈ ranges, r.2 ≠ 0)) ∧ (s.ioCheck q c .dealloc ranges = 0) : Prop)) (ioSt (sqeOf [(0, 1, 9), (4, 4, 10), (39, 1, 0x40), (40, 4, 1), (44, 4, 4)]) [(CIP_KS_STAT 5, 1), (CIP_VOL_KEY 9, 0x1005)]) (7) ([(5, 2), (9, 1)]) (ioQ (sqeOf [(0, 1, 9), (4, 4, 10), (39, 1, 0x40), (40, 4, 1), (44, 4, 4)])) (⟨sqeOf [(0, 1, 9), (4, 4, 10), (39, 1, 0x40), (40, 4, 1), (44, 4, 4)], 0, 9, 3⟩) ([])) ∧
    ((fun (s : State) (queue : Fin 17408) (q : Queue) => ((s.inService = true) ∧ (s.cmdq.nudges = []) ∧ (s.queue? queue = some q) ∧ (q.type = 2) ∧ (q.stopped = false) ∧ (q.dbOut = false) ∧ (((s.qp q.qpn).state = 2 ∨ (s.qp q.qpn).state = 3)) : Prop)) ({ st 3 [] with rdm := { qps := [(5, { state := 3 })] }, cmdq := { queues := [(7, { type := 2, assoc := 0, qid := 9, entriesM1 := 63, qpn := 5, rkey := 9, dbAddr := 64 })] } }) (7) ({ type := 2, assoc := 0, qid := 9, entriesM1 := 63, qpn := 5, rkey := 9, dbAddr := 64 })) ∧
    ((fun (s : State) (queue : Fin 17408) (q : Queue) (w : Nat) => ((s.inService = true) ∧ (s.queue? queue = some q) ∧ (q.dbWord = some w) ∧ (q.stopped = false) ∧ (q.dbDue = false) ∧ (w / 2 ^ 16 % 2 ^ 16 ≠ q.epoch) : Prop)) ({ st 3 [] with cmdq := { queues := [(7, { type := 2, assoc := 0, qid := 9, entriesM1 := 63, dbOut := true, epoch := 2, dbWord := some 0x1000D })] } }) (7) ({ type := 2, assoc := 0, qid := 9, entriesM1 := 63, dbOut := true, epoch := 2, dbWord := some 0x1000D }) (0x1000D)) ∧
    ((fun (s : State) (queue : Fin 17408) (q : Queue) (w : Nat) => ((s.inService = true) ∧ (s.queue? queue = some q) ∧ (q.dbWord = some w) ∧ (q.stopped = false) ∧ (q.dbDue = false) ∧ (q.dbBad = true) ∧ (w / 2 ^ 16 % 2 ^ 16 = q.epoch) ∧ (q.entriesM1 < w % 2 ^ 16) : Prop)) ({ st 3 [] with cmdq := { queues := [(7, { type := 2, assoc := 0, qid := 9, entriesM1 := 63, dbOut := true, epoch := 2, dbBad := true, dbWord := some 0x20040 })] } }) (7) ({ type := 2, assoc := 0, qid := 9, entriesM1 := 63, dbOut := true, epoch := 2, dbBad := true, dbWord := some 0x20040 }) (0x20040)) ∧
    ((fun (s : State) (queue : Fin 17408) (q : Queue) (w : Nat) => ((s.inService = true) ∧ (s.queue? queue = some q) ∧ (q.type = 2) ∧ (q.dbWord = some w) ∧ (q.stopped = false) ∧ (q.dbDue = false) ∧ (w / 2 ^ 16 % 2 ^ 16 = q.epoch) ∧ (w % 2 ^ 16 ≤ q.entriesM1) ∧ (q.entriesM1 ≤ 1023) ∧ (q.sqHead ≤ q.entriesM1) ∧ (q.fetching = 0) ∧ (s.tagsUsed + 1024 ≤ 65536) : Prop)) ({ st 3 [] with rdm := { qps := [(5, { state := 3 })] }, cmdq := { queues := [(7, { type := 2, assoc := 0, qid := 9, entriesM1 := 63, qpn := 5, dbOut := true, epoch := 2, sqHead := 62, sqTail := 62, dbWord := some 0x20001 })] } }) (7) ({ type := 2, assoc := 0, qid := 9, entriesM1 := 63, qpn := 5, dbOut := true, epoch := 2, sqHead := 62, sqTail := 62, dbWord := some 0x20001 }) (0x20001)) ∧
    ((fun (s : State) (queue : Fin 17408) (q : Queue) (n data stamp port : Nat) (rest : List (Nat × Nat × Nat × Nat)) => ((s.inService = true) ∧ (s.queue? queue = some q) ∧ (q.entryIn = (n, data, stamp, port) :: rest) : Prop)) ({ st 3 [] with cmdq := { queues := [(7, { type := 2, assoc := 0, qid := 9, entriesM1 := 63, sqHead := 63, fetching := 2, lastStamp := 500, entryIn := [(2, 2 ^ 512 + 7, 499, 3)] })] } }) (7) ({ type := 2, assoc := 0, qid := 9, entriesM1 := 63, sqHead := 63, fetching := 2, lastStamp := 500, entryIn := [(2, 2 ^ 512 + 7, 499, 3)] }) (2) (2 ^ 512 + 7) (499) (3) ([])) ∧
    ((fun (s : State) (_word : Word) => ((s.powered = true) ∧ (s.flag HEP_STAT_PF1_PRESENT = true) ∧ (s.hep.pf1.d3hot = false) ∧ (s.classOf .pf1 ≠ 0) ∧ (s.mode ≠ 7) ∧ (s.cmdq.nudges.length < 256) : Prop)) ({ st 3 [(HEP_STAT, 0x40000)] with cmdq := { nudges := [1] } }) (0x12340005)) ∧
    ((fun (s : State) (_word : Word) (_held : Bool) => ((s.powered = true) ∧ (s.flag HEP_STAT_PF1_PRESENT = true) ∧ (s.hep.pf1.d3hot = false) ∧ (s.classOf .pf1 ≠ 0) ∧ (s.mode ≠ 7) ∧ (256 ≤ s.cmdq.nudges.length) ∧ ((∀ e ∈ s.cmdq.queues, e.2.type ≠ 3)) : Prop)) ({ st 3 [(HEP_STAT, 0x40000)] with cmdq := { nudges := List.replicate 256 1 } }) (0x12340005) (true)) ∧
    ((fun (s : State) (queue : Fin 17408) (q : Queue) => ((s.inService = true) ∧ (s.queue? queue = some q) ∧ (2 ≤ q.type) : Prop)) ({ st 3 [] with cmdq := { queues := [(7, { type := 2, assoc := 0, qid := 9, entriesM1 := 63, active := true })] } }) (7) ({ type := 2, assoc := 0, qid := 9, entriesM1 := 63, active := true })) := by
  refine ⟨?_, ?_, ?_, ?_, ?_, ?_, ?_, ?_, ?_, ?_, ?_, ?_, ?_, ?_, ?_, ?_, ?_⟩ <;> decide

set_option maxRecDepth 100000 in
/-- The hypotheses of AdmissionToRetirement, clause by clause, hold somewhere. -/
theorem witness_AdmissionToRetirement :
    ((fun (s : State) (cluster : Fin 16) (qi : Nat) (q : Queue) (x : Cmd) => ((s.RegsOk) ∧ (s.inService = true) ∧ (s.cmdq.cmds = []) ∧ (s.cmdq.queues = [(qi, q)]) ∧ (q.isAdmin = false) ∧ (q.cls ≤ 3) ∧ (q.waiting = [x]) ∧ (x.cluster = cluster.val) ∧ (x.status ≠ 0) : Prop)) ({ st 3 [] with cmdq := { queues := [(7, { type := 1, assoc := 0, qid := 3, entriesM1 := 31, waiting := [{ kind := .read, assoc := 0, cid := 5, stamp := 1, port := 3, status := 0x080, cluster := 4 }] })] } }) (4) (7) ({ type := 1, assoc := 0, qid := 3, entriesM1 := 31, waiting := [{ kind := .read, assoc := 0, cid := 5, stamp := 1, port := 3, status := 0x080, cluster := 4 }] }) ({ kind := .read, assoc := 0, cid := 5, stamp := 1, port := 3, status := 0x080, cluster := 4 })) ∧
    ((fun (s : State) (cluster : Fin 16) (qi : Nat) (q : Queue) (x : Cmd) => ((s.RegsOk) ∧ (s.inService = true) ∧ (s.cmdq.cmds = []) ∧ (s.cmdq.queues = [(qi, q)]) ∧ (q.isAdmin = false) ∧ (q.cls ≤ 3) ∧ (q.waiting = [x]) ∧ (x.cluster = cluster.val) ∧ (x.status = 0) ∧ (x.kind = .flush) ∧ (x.ranges = []) ∧ (s.pushable cluster ≠ []) ∧ (s.gate cluster = .awake) : Prop)) ({ st 3 [] with cmdq := { queues := [(7, { type := 1, assoc := 0, qid := 3, entriesM1 := 31, waiting := [{ kind := .flush, assoc := 0, cid := 5, stamp := 1, port := 3, cluster := 4 }] })] } }) (4) (7) ({ type := 1, assoc := 0, qid := 3, entriesM1 := 31, waiting := [{ kind := .flush, assoc := 0, cid := 5, stamp := 1, port := 3, cluster := 4 }] }) ({ kind := .flush, assoc := 0, cid := 5, stamp := 1, port := 3, cluster := 4 })) ∧
    ((fun (s : State) (_cluster : Fin 16) => ((s.inService = true) ∧ (s.cmdq.cmds = []) ∧ ((∀ e ∈ s.cmdq.queues, e.2.waiting = [])) : Prop)) ({ st 3 [] with cmdq := { queues := [(7, { type := 1, assoc := 0, qid := 3, entriesM1 := 31 })] } }) (4)) ∧
    ((fun (s : State) (handle : Nat) (c : Cmd) => ((s.inService = true) ∧ (s.cmd? handle = some c) ∧ (c.state = .placed) ∧ ((∀ e ∈ s.eng.locks, e.owner = handle → s.grantable e = true)) : Prop)) ({ st 3 [] with cmdq := { cmds := [(9, { kind := .write, assoc := 0, vol := 7, ranges := [(0, 16)], stamp := 5, port := 3, state := .placed })] }, eng := { locks := [{ vol := 7, stripe := 0, mask := 0xFFFF, stamp := 5, owner := 9, isWrite := true, shard := 0 }, { vol := 7, stripe := 0, mask := 0xFFFF, stamp := 6, owner := 10, isWrite := true, shard := 0 }] } }) (9) ({ kind := .write, assoc := 0, vol := 7, ranges := [(0, 16)], stamp := 5, port := 3, state := .placed })) ∧
    ((fun (s : State) (handle : Nat) (c : Cmd) => ((s.inService = true) ∧ (s.cmd? handle = some c) ∧ (c.state = .placed) ∧ ((∃ e ∈ s.eng.locks, e.owner = handle ∧ e.granted = false ∧ s.grantable e = false)) : Prop)) ({ st 3 [] with cmdq := { cmds := [(10, { kind := .write, assoc := 0, vol := 7, ranges := [(0, 16)], stamp := 6, port := 3, state := .placed })] }, eng := { locks := [{ vol := 7, stripe := 0, mask := 0xFFFF, stamp := 5, owner := 9, isWrite := true, shard := 0 }, { vol := 7, stripe := 0, mask := 0xFFFF, stamp := 6, owner := 10, isWrite := true, shard := 0 }] } }) (10) ({ kind := .write, assoc := 0, vol := 7, ranges := [(0, 16)], stamp := 6, port := 3, state := .placed })) ∧
    ((fun (s : State) (handle : Nat) (c : Cmd) (qi : Nat) (q : Queue) => ((s.inService = true) ∧ (handle < 65536) ∧ (s.cmd? handle = some c) ∧ (c.state = .done) ∧ (c.orphan = false) ∧ (c.queue = some qi) ∧ (s.queue? qi = some q) ∧ (q.type ≤ 1) ∧ (q.action = none) ∧ (s.hep.affected = []) ∧ (((s.qp q.qpn).state = 2 ∨ (s.qp q.qpn).state = 3)) : Prop)) ({ st 3 [] with rdm := { qps := [(6, { state := 3 })] }, cmdq := { queues := [(7, { type := 1, assoc := 0, qid := 3, entriesM1 := 31, qpn := 6, sqHead := 4 })], cmds := [(9, { kind := .read, queue := some 7, assoc := 0, cid := 5, stamp := 1, port := 3, status := 0x080, state := .done })] } }) (9) ({ kind := .read, queue := some 7, assoc := 0, cid := 5, stamp := 1, port := 3, status := 0x080, state := .done }) (7) ({ type := 1, assoc := 0, qid := 3, entriesM1 := 31, qpn := 6, sqHead := 4 })) ∧
    ((fun (s : State) (handle : Nat) (c : Cmd) => ((s.inService = true) ∧ (handle < 65536) ∧ (s.cmd? handle = some c) ∧ (c.state = .done) ∧ (c.orphan = true) ∧ (c.queue = none) : Prop)) ({ st 3 [] with cmdq := { cmds := [(9, { kind := .read, assoc := 0, cid := 5, stamp := 1, port := 3, state := .done, orphan := true })] } }) (9) ({ kind := .read, assoc := 0, cid := 5, stamp := 1, port := 3, state := .done, orphan := true })) ∧
    ((fun (s : State) (handle : Nat) (c : Cmd) => ((s.running = true) ∧ (s.cmd? handle = some c) ∧ (s.dataQueued handle = false) ∧ (c.kind = .winRead) ∧ (c.state = .done) ∧ (c.sent = true) ∧ ((s.win c.win).state = 1) : Prop)) ({ st 3 [] with rdm := { wins := [(12, { state := 1, inFlight := 2 })] }, cmdq := { cmds := [(65536, { kind := .winRead, assoc := 0, stamp := 1, port := 3, state := .done, sent := true, win := 12 })] } }) (65536) ({ kind := .winRead, assoc := 0, stamp := 1, port := 3, state := .done, sent := true, win := 12 })) ∧
    ((fun (s : State) (handle : Nat) (c : Cmd) => ((s.running = true) ∧ (s.cmd? handle = some c) ∧ (s.dataQueued handle = false) ∧ (c.kind = .read) ∧ (c.state = .running) ∧ (c.sent = true) ∧ (c.lastSent = false) ∧ ((segsOf c.ranges).length ≤ c.seg + 1) : Prop)) ({ st 3 [] with cmdq := { cmds := [(9, { kind := .read, assoc := 0, stamp := 1, port := 3, ranges := [(0, 8)], state := .running, sent := true })] } }) (9) ({ kind := .read, assoc := 0, stamp := 1, port := 3, ranges := [(0, 8)], state := .running, sent := true })) := by
  refine ⟨?_, ?_, ?_, ?_, ?_, ?_, ?_, ?_, ?_⟩ <;> decide

set_option maxRecDepth 100000 in
/-- The hypotheses of EngineWork, clause by clause, hold somewhere. -/
theorem witness_EngineWork :
    ((fun (s : State) (engine : Fin 256) (h : Nat) (rest : List Nat) (c : Cmd) => ((s.engineRuns engine = true) ∧ (s.ctxFree engine = true) ∧ ((s.engine engine).deque = h :: rest) ∧ (s.cmd? h = some c) : Prop)) ({ st 3 [] with cmdq := { cmds := [(9, { kind := .read, assoc := 0, stamp := 1, port := 3, state := .placed })] }, eng := { engines := [(255, { deque := [9, 8], ctxs := [(1, true)], asleep := true })] } }) (255) (9) ([8]) ({ kind := .read, assoc := 0, stamp := 1, port := 3, state := .placed })) ∧
    ((fun (s : State) (engine : Fin 256) => ((17 ≤ (s.engine engine).ctxs.length) : Prop)) ({ st 3 [] with eng := { engines := [(255, { deque := [9, 8], ctxs := List.replicate 17 (1, true) })] } }) (255)) ∧
    ((fun (s : State) (handle _e : Nat) (c : Cmd) => ((s.running = true) ∧ (s.cmd? handle = some c) ∧ (c.waits = false) : Prop)) ({ st 3 [] with cmdq := { cmds := [(9, { kind := .read, assoc := 0, stamp := 1, port := 3, state := .granted })] }, eng := { engines := [(255, { ctxs := [(1, true), (9, true)] })] } }) (9) (255) ({ kind := .read, assoc := 0, stamp := 1, port := 3, state := .granted })) ∧
    ((fun (s : State) (engine : Fin 256) (l : Nat) (pre : List Nat) (h : Nat) (c : Cmd) => ((s.idle engine = true) ∧ ((s.engine engine).remote = false) ∧ ((s.engine engine).lastVictim = l) ∧ (l < 16) ∧ ((l + 1) % 16 ≠ engine.val % 16) ∧ (s.retired (16 * (engine.val / 16) + (l + 1) % 16) = false) ∧ ((s.engine (16 * (engine.val / 16) + (l + 1) % 16)).deque = pre ++ [h]) ∧ (s.cmd? h = some c) : Prop)) ({ st 3 [(ENG_CTL, 1)] with cmdq := { cmds := [(9, { kind := .read, assoc := 0, stamp := 1, port := 3, state := .placed })] }, eng := { engines := [(240, { deque := [8, 9] }), (254, { lastVictim := 15 })] } }) (254) (15) ([8]) (9) ({ kind := .read, assoc := 0, stamp := 1, port := 3, state := .placed })) ∧
    ((fun (s : State) (engine : Fin 256) (l : Nat) => ((s.idle engine = true) ∧ ((s.engine engine).remote = false) ∧ ((s.engine engine).lastVictim = l) ∧ (l < 16) ∧ ((l + 1) % 16 ≠ engine.val % 16) ∧ (s.retired (16 * (engine.val / 16) + (l + 1) % 16) = false) ∧ ((s.engine (16 * (engine.val / 16) + (l + 1) % 16)).deque = []) : Prop)) ({ st 3 [(ENG_CTL, 1)] with eng := { engines := [(240, {}), (254, { lastVictim := 15 })] } }) (254) (15)) ∧
    ((fun (s : State) (engine : Fin 256) => ((s.idle engine = true) ∧ (s.flag ENG_CTL_XC_EN = true) : Prop)) (st 3 [(ENG_CTL, 3)]) (0)) ∧
    ((fun (s : State) (_engine : Fin 256) => ((s.flag ENG_CTL_XC_EN = false) : Prop)) (st 3 [(ENG_CTL, 1)]) (0)) ∧
    ((fun (s : State) (engine : Fin 256) (l i : Nat) (pre : List Nat) (h : Nat) (c : Cmd) => ((s.idle engine = true) ∧ ((s.engine engine).remote = true) ∧ (s.flag ENG_CTL_XC_EN = true) ∧ ((s.engine engine).lastCluster = l) ∧ (l < 16) ∧ ((l + 1) % 16 ≠ engine.val / 16) ∧ (s.gate ((l + 1) % 16) = .awake) ∧ (tget s.eng.probeIx ((l + 1) % 16) 0 = i) ∧ (i < 16) ∧ (s.retired (16 * ((l + 1) % 16) + i) = false) ∧ ((s.engine (16 * ((l + 1) % 16) + i)).deque = pre ++ [h]) ∧ (s.cmd? h = some c) : Prop)) ({ st 3 [(ENG_CTL, 3)] with cmdq := { cmds := [(9, { kind := .read, assoc := 0, stamp := 1, port := 3, state := .placed })] }, eng := { engines := [(15, { deque := [8, 9] }), (254, { lastCluster := 15, remote := true })], probeIx := [(0, 15)] } }) (254) (15) (15) ([8]) (9) ({ kind := .read, assoc := 0, stamp := 1, port := 3, state := .placed })) ∧
    ((fun (s : State) (engine : Fin 256) => ((s.idle engine = true) : Prop)) (st 3 [(ENG_CTL, 3)]) (17)) ∧
    ((fun (s : State) (cluster : Fin 16) (_e : Nat) => ((s.running = true) ∧ (max 1 (s.fld ENG_CTL_HELP) < s.fld (ENG_CL_STAT_DEQ cluster)) : Prop)) ({ st 3 [(ENG_CTL, 0x1800000), (ENG_CL_STAT 15, 0x700)] with eng := { engines := [(3, { asleep := true }), (16, { asleep := true })], gates := [(1, .clockGated)] } }) (15) (3)) ∧
    ((fun (s : State) (engine : Fin 256) => ((s.running = true) ∧ (s.fld (ENG_CL_RETIRED_MASK (engine.val / 16)) = 0) : Prop)) ({ st 3 [] with eng := { engines := [(255, { deque := [9, 8], ctxs := [(1, true)] })] } }) (255)) ∧
    ((fun (s : State) (handle : Nat) (c : Cmd) => ((s.serving = true) ∧ (s.cmd? handle = some c) ∧ (c.state = .waiting) ∧ (c.seg ≠ 0) ∧ (s.placeable handle c = true) ∧ (s.pushable (c.cluster % 16) ≠ []) ∧ (s.gate (c.cluster % 16) = .awake) ∧ (s.partnered = false) : Prop)) ({ st 3 [] with cmdq := { cmds := [(9, { kind := .write, assoc := 0, vol := 7, ranges := [(5, 100)], stamp := 5, port := 3, seg := 1, cluster := 20 })] } }) (9) ({ kind := .write, assoc := 0, vol := 7, ranges := [(5, 100)], stamp := 5, port := 3, seg := 1, cluster := 20 })) := by
  refine ⟨?_, ?_, ?_, ?_, ?_, ?_, ?_, ?_, ?_, ?_, ?_, ?_⟩ <;> decide

set_option maxRecDepth 100000 in
/-- The hypotheses of GlobalOperations, clause by clause, hold somewhere. -/
theorem witness_GlobalOperations :
    ((fun (s : State) (req : Requester) => ((s.Admits req ENG_GLOBAL_CMD) ∧ (s.flag ENG_GLOBAL_STAT_BUSY = false) ∧ (s.powered = true) : Prop)) (st 3 [(ENG_GLOBAL_ARG, 0xDEADBEEF)]) (.uart)) ∧
    ((fun (s : State) (req : Requester) (_stamp : Nat) => ((s.Admits req ENG_GLOBAL_CMD) ∧ (s.flag ENG_GLOBAL_STAT_BUSY = true) : Prop)) (st 3 [(ENG_GLOBAL_STAT, 1)]) (.uart) (7)) ∧
    ((fun (s : State) (req : Requester) (_stamp : Nat) => ((s.Admits req ENG_GLOBAL_CMD) ∧ (s.flag ENG_GLOBAL_STAT_BUSY = false) ∧ (s.serving = true) : Prop)) ({ st 3 [] with cmdq := { cmds := [(9, { kind := .read, assoc := 0, stamp := 99 * 2 ^ 24, port := 3, state := .placed }), (10, { kind := .read, assoc := 0, stamp := 100 * 2 ^ 24, port := 3, state := .placed })] } }) (.uart) (100)) ∧
    ((fun (s : State) (req : Requester) (_stamp : Nat) => ((s.Admits req ENG_GLOBAL_CMD) ∧ (s.flag ENG_GLOBAL_STAT_BUSY = false) ∧ (s.serving = false) : Prop)) (st 2 []) (.uart) (100)) ∧
    ((fun (s : State) (req : Requester) (_stamp : Nat) => ((s.Admits req ENG_GLOBAL_CMD) ∧ (s.flag ENG_GLOBAL_STAT_BUSY = false) ∧ (s.serving = true) ∧ ((∀ p ∈ s.snapPairs, ∀ x ∈ tget? s.red.vols p.2, x.slabs = [])) ∧ ((∀ p ∈ s.snapPairs, ∀ q ∈ s.snapPairs, q.1 ≠ p.2)) : Prop)) ({ st 3 [(ENG_SNAP_MAP 4095, 0x1005)] with red := { vols := [(5, { set := 0, maxSlabs := 1 })] } }) (.uart) (100)) ∧
    ((fun (s : State) (req : Requester) (_stamp : Nat) => ((s.Admits req ENG_GLOBAL_CMD) ∧ (s.flag ENG_GLOBAL_STAT_BUSY = false) ∧ (s.serving = true) ∧ ((∃ p ∈ s.snapPairs, ∃ q ∈ s.snapPairs, q.1 = p.2)) : Prop)) (st 3 [(ENG_SNAP_MAP 4095, 0x1005), (ENG_SNAP_MAP 5, 0x1006)]) (.uart) (100)) ∧
    ((fun (s : State) (req : Requester) (_e : Nat) (_k : Fin 16) => ((s.Admits req ENG_GLOBAL_CMD) ∧ (s.flag ENG_GLOBAL_STAT_BUSY = false) ∧ (s.mode = 2) : Prop)) ({ st 2 [(ENG_CL_RETIRED 15, 0xFFFF)] with cmdq := { cmds := [(9, { kind := .read, assoc := 0, stamp := 1, port := 3, state := .placed })] }, eng := { engines := [(255, { deque := [9], bank := 1 })], locks := [{ vol := 7, stripe := 0, mask := 0xFFFF, stamp := 5, owner := 9, isWrite := true, shard := 0 }] } }) (.uart) (255) (15)) ∧
    ((fun (s : State) => ((s.powered = true) ∧ (s.fld ENG_GLOBAL_STAT_PHASE = 1) ∧ ((s.eng.globalOp = 2 ∨ s.eng.globalOp = 3)) : Prop)) ({ st 3 [(ENG_GLOBAL_STAT, 3)] with eng := { globalOp := 3 } })) ∧
    ((fun (s : State) (_e : Fin 256) => ((s.powered = true) ∧ (s.fld ENG_GLOBAL_STAT_PHASE = 1) ∧ (s.eng.globalOp = 5) : Prop)) ({ st 3 [(ENG_GLOBAL_STAT, 3)] with eng := { globalOp := 5 } }) (255)) ∧
    ((fun (s : State) (a b : Nat) (x : Vol) => ((s.powered = true) ∧ (s.fld ENG_GLOBAL_STAT_PHASE = 2) ∧ (s.eng.globalOp = 3) ∧ (s.eng.armSent = false) ∧ (s.partnered = false) ∧ (s.eng.snap = [(a, b)]) ∧ (a ≠ b) ∧ (tget? s.red.vols a = some x) : Prop)) ({ st 3 [(ENG_GLOBAL_STAT, 5), (ENG_EPOCH_B, 100)] with eng := { globalOp := 3, snap := [(4095, 5)] }, red := { vols := [(5, { set := 0, maxSlabs := 1 }), (4095, { set := 0, maxSlabs := 2 })] } }) (4095) (5) ({ set := 0, maxSlabs := 2 })) ∧
    ((fun (s : State) => ((s.powered = true) ∧ (s.fld ENG_GLOBAL_STAT_PHASE = 3) ∧ ((∀ e ∈ s.cmdq.cmds, e.2.oldEpoch = false)) ∧ (s.eng.globalOp = 2) ∧ (s.eng.ucWait = none) : Prop)) ({ st 3 [(ENG_GLOBAL_STAT, 7)] with eng := { globalOp := 2 } })) ∧
    ((fun (s : State) (b : Nat) => ((s.powered = true) ∧ (s.fld ENG_GLOBAL_STAT_PHASE = 3) ∧ ((∀ e ∈ s.cmdq.cmds, e.2.oldEpoch = false)) ∧ (s.eng.globalOp = 2) ∧ (s.eng.ucWait = some b) ∧ (s.flag ENG_UC_STAT_INACT_VALID = true) : Prop)) ({ st 3 [(ENG_GLOBAL_STAT, 7), (ENG_UC_STAT, 1)] with eng := { globalOp := 2, ucWait := some 77 } }) (77)) ∧
    ((fun (s : State) => (((∃ e ∈ s.cmdq.cmds, e.2.oldEpoch = true)) : Prop)) ({ st 3 [(ENG_GLOBAL_STAT, 7)] with cmdq := { cmds := [(9, { kind := .read, assoc := 0, stamp := 99, port := 3, state := .placed, oldEpoch := true })] } })) ∧
    ((fun (s : State) (req : Requester) (_stamp : Nat) => ((s.Admits req SYS_UCODE) ∧ (s.eng.ucWait = none) ∧ (s.eng.globalOp ≠ 5) ∧ (s.flag ENG_GLOBAL_STAT_BUSY = false) ∧ (s.flag ENG_UC_STAT_INACT_VALID = false) : Prop)) (st 3 []) (.uart) (5)) ∧
    ((fun (s : State) (req : Requester) (_stamp : Nat) => ((s.Admits req SYS_UCODE) ∧ (s.eng.ucWait = none) ∧ (s.eng.globalOp ≠ 5) ∧ (s.flag ENG_GLOBAL_STAT_BUSY = false) ∧ (s.flag ENG_UC_STAT_INACT_VALID = true) : Prop)) (st 3 [(ENG_UC_STAT, 1), (ENG_EPOCH, 0xFFFF)]) (.uart) (5)) ∧
    ((fun (s : State) (req : Requester) (_stamp : Nat) => ((s.Admits req SYS_UCODE) ∧ (s.eng.ucWait = none) ∧ (s.eng.globalOp ≠ 5) ∧ (s.flag ENG_GLOBAL_STAT_BUSY = true) : Prop)) (st 3 [(ENG_GLOBAL_STAT, 1)]) (.uart) (5)) ∧
    ((fun (s : State) (engine k : Fin 256) => ((s.powered = true) ∧ (s.eng.globalOp = 5) ∧ ((s.engine engine).switching = true) ∧ (s.holdsOld engine = false) ∧ (k ≠ engine) ∧ ((s.engine k).switching = true) : Prop)) ({ st 3 [] with eng := { globalOp := 5, engines := [(3, { switching := true }), (255, { switching := true, bank := 1 })] } }) (255) (3)) ∧
    ((fun (s : State) (engine : Fin 256) => ((s.powered = true) ∧ (s.eng.globalOp = 5) ∧ ((s.engine engine).switching = true) ∧ (s.holdsOld engine = false) ∧ (keysRise s.eng.engines = true) ∧ ((∀ e ∈ s.eng.engines, e.2.switching = true → e.1 = engine.val)) ∧ (s.eng.ucWait = none) : Prop)) ({ st 3 [(ENG_GLOBAL_STAT, 7), (ENG_UC_STAT, 1)] with eng := { globalOp := 5, inactVer := 0xABCD, engines := [(255, { switching := true, bank := 1 })] } }) (255)) ∧
    ((fun (s : State) (_i : Fin 4) (_version : Fin 65536) (_valid : Bool) => ((s.mode ≠ 1) ∧ (s.mode ≠ 2) ∧ (s.powered = true) ∧ (s.eng.globalOp ≠ 5) : Prop)) ({ st 3 [] with eng := { globalOp := 0 } }) (3) (0xFFFF) (true)) ∧
    ((fun (s : State) (_i : Fin 4) (_version : Fin 65536) => ((s.mode = 2) ∧ (s.powered = true) ∧ (s.fld ENG_UC_STAT_ACT_VER = 0) : Prop)) (st 2 []) (3) (0xFFFF)) := by
  refine ⟨?_, ?_, ?_, ?_, ?_, ?_, ?_, ?_, ?_, ?_, ?_, ?_, ?_, ?_, ?_, ?_, ?_, ?_, ?_, ?_⟩ <;> decide

set_option maxRecDepth 100000 in
/-- The hypotheses of Governor, clause by clause, hold somewhere. -/
theorem witness_Governor :
    ((fun (s : State) (handle : Nat) (c : Cmd) => ((s.serving = true) ∧ (s.canAct handle = true) ∧ (s.cmd? handle = some c) ∧ (c.kind = .write) ∧ (c.state = .granted) ∧ (c.deferred = none) ∧ (c.queue = none) ∧ (c.blocks.any (fun b => s.lostBlock c.vol b) = false) ∧ (s.gov.shared = []) ∧ (s.sharedOk = true) ∧ (c.credit = 0) ∧ (c.mirror = none) ∧ (c.cipher = false) : Prop)) ({ st 3 [(GOV_COST 2, 38)] with gov := { chip := 5000 }, cmdq := { cmds := [(9, { kind := .write, assoc := 0, vol := 7, ranges := [(0, 3)], stamp := 1, port := 3, state := .granted })] }, eng := { engines := [(255, { ctxs := [(9, false)] })] } }) (9) ({ kind := .write, assoc := 0, vol := 7, ranges := [(0, 3)], stamp := 1, port := 3, state := .granted })) ∧
    ((fun (s : State) (handle : Nat) (c : Cmd) => ((s.serving = true) ∧ (s.canAct handle = true) ∧ (s.cmd? handle = some c) ∧ (c.kind = .write) ∧ (c.state = .granted) ∧ (c.deferred = none) ∧ (c.queue = none) ∧ (c.blocks.any (fun b => s.lostBlock c.vol b) = false) ∧ ((s.gov.shared ≠ [] ∨ s.sharedOk = false)) : Prop)) ({ st 3 [] with gov := { chip := 5000, shared := [8] }, cmdq := { cmds := [(9, { kind := .write, assoc := 0, vol := 7, ranges := [(0, 3)], stamp := 1, port := 3, state := .granted })] }, eng := { engines := [(255, { ctxs := [(9, false)] })] } }) (9) ({ kind := .write, assoc := 0, vol := 7, ranges := [(0, 3)], stamp := 1, port := 3, state := .granted })) ∧
    ((fun (s : State) (n _dt : Nat) (_ts : List Int) (_feed : Option Nat) => ((s.mode = 0) ∧ (s.gov.alarm = some (n + 1)) : Prop)) ({ st 0 [] with gov := { alarm := some 5 } }) (4) (0) ([]) (none)) ∧
    ((fun (s : State) (dt : Nat) (x : Int) (_feed : Option Nat) => (((s.pass dt).running = true) ∧ ((s.pass dt).serving = false) ∧ (tget? s.gov.last 0 = none) ∧ (-200 ≤ x) ∧ (x ≤ 600) : Prop)) ({ st 6 [] with gov := { chip := -7 } }) (30517) (-200) (some 9)) ∧
    ((fun (s : State) (x : Int) => ((s.running = true) ∧ (20 ≤ s.gov.valid.length) ∧ (s.gov.tmax = some x) ∧ (x ≤ s.tjTarget) ∧ (x < s.emergTemp - ((4 * s.fld GOV_THERM_HYST : Nat) : Int)) ∧ (s.gov.deferredNow = false) ∧ (s.gov.urgent = []) ∧ (s.gov.shared = []) : Prop)) ({ st 3 [] with gov := { valid := List.range 20, tmax := some 420 } }) (420)) ∧
    ((fun (s : State) => ((s.running = true) ∧ (s.gov.valid.length < 20) : Prop)) ({ st 3 [(GOV_STAT, 0x80)] with gov := { valid := List.range 19, tmax := some 420 } })) ∧
    ((fun (s : State) (handle : Nat) (c : Cmd) (k : Nat) => ((s.running = true) ∧ (handle < 65536) ∧ (s.cmd? handle = some c) ∧ (c.kind = .write) ∧ (c.status = 0) ∧ (c.cipher = false) ∧ (c.deferred = some k) ∧ (max 1 (s.fld GOV_DEFER_MAX_MAX) < k) : Prop)) ({ st 3 [(GOV_DEFER_MAX, 100)] with gov := { shared := [8, 9] }, cmdq := { cmds := [(9, { kind := .write, assoc := 0, vol := 7, ranges := [(0, 3)], stamp := 1, port := 3, state := .granted, deferred := some 101 })] }, eng := { locks := [{ vol := 7, stripe := 0, mask := 0xFFFF, stamp := 5, owner := 9, isWrite := true, granted := true, shard := 0 }] } }) (9) ({ kind := .write, assoc := 0, vol := 7, ranges := [(0, 3)], stamp := 1, port := 3, state := .granted, deferred := some 101 }) (101)) ∧
    ((fun (s : State) (handle : Nat) (c : Cmd) (k : Nat) => ((s.cmd? handle = some c) ∧ (c.deferred = some k) ∧ (k ≤ s.fld GOV_DEFER_MAX_MAX) : Prop)) ({ st 3 [(GOV_DEFER_MAX, 100)] with cmdq := { cmds := [(9, { kind := .write, assoc := 0, vol := 7, ranges := [(0, 3)], stamp := 1, port := 3, state := .granted, deferred := some 100 })] } }) (9) ({ kind := .write, assoc := 0, vol := 7, ranges := [(0, 3)], stamp := 1, port := 3, state := .granted, deferred := some 100 }) (100)) ∧
    ((fun (s : State) (member : Member) => ((s.running = true) ∧ (s.isMember member = true) ∧ (s.dpt.cmds = []) ∧ (s.dpt.todo = []) ∧ (s.fld (GOV_DRV_LOW_PS member) ≠ 0) ∧ (s.fld GOV_CTL_DRV_IDLE ≠ 0) ∧ (s.flag (GOV_DRV_IN_LOW member) = false) : Prop)) (st 3 [(DPT_MEM_STAT 127, 1), (GOV_DRV 127, 0x3000000), (GOV_CTL, 0x32000000)]) (127)) := by
  refine ⟨?_, ?_, ?_, ?_, ?_, ?_, ?_, ?_, ?_⟩ <;> decide

set_option maxRecDepth 100000 in
/-- The hypotheses of DriveCommands, clause by clause, hold somewhere. -/
theorem witness_DriveCommands :
    ((fun (s : State) (index : Nat) (r : DrvReq) (cid d : Nat) => ((s.dpt.todo[index]? = some r) ∧ (s.memIo r.member = true) ∧ (s.fld (DPT_MEM_STAT_IOQ r.member) ≠ 0) ∧ ((s.mem r.member).lowPower = false) ∧ (s.adminOut r.member (.admin 1) = false) ∧ (r.write = true) ∧ (r.use = .destage d) ∧ (s.freeCid = some cid) ∧ (s.onQueue r.member (s.queueFor r.member r.cluster) + 1 < (s.drvQueue r.member (s.queueFor r.member r.cluster)).depth) : Prop)) ({ st 3 [(DPT_MEM_STAT 127, 0x201)] with dpt := { todo := [{ member := 127, cluster := 15, write := true, block := 5, count := 1, use := .destage 3, data := [7] }], mems := [(127, { queues := [(16, { tail := 1023, depth := 1024 })] })] } }) (0) ({ member := 127, cluster := 15, write := true, block := 5, count := 1, use := .destage 3, data := [7] }) (0) (3)) ∧
    ((fun (s : State) (index : Nat) (r : DrvReq) (cid : Nat) => ((s.dpt.todo[index]? = some r) ∧ (s.memIo r.member = true) ∧ (s.fld (DPT_MEM_STAT_IOQ r.member) ≠ 0) ∧ ((s.mem r.member).lowPower = true) ∧ (s.adminOut r.member (.admin 1) = false) ∧ (s.freeCid = some cid) : Prop)) ({ st 3 [(DPT_MEM_STAT 127, 0x201)] with dpt := { todo := [{ member := 127, cluster := 15, write := true, block := 5, count := 1, use := .destage 3, data := [7] }], mems := [(127, { lowPower := true, queues := [(16, { tail := 1023, depth := 1024 })] })] } }) (0) ({ member := 127, cluster := 15, write := true, block := 5, count := 1, use := .destage 3, data := [7] }) (0)) ∧
    ((fun (s : State) (member : Member) (_queue : Fin 17) (_slot cid : Nat) (c : DrvCmd) => ((s.powered = true) ∧ (s.dpt.cmds = [(cid, c)]) ∧ (c.req.member = member.val) ∧ (c.held = false) ∧ (c.waiting = false) : Prop)) ({ st 3 [] with dpt := { cmds := [(9, { req := { member := 127, cluster := 15, write := true, block := 5, count := 1, use := .destage 3, data := [7] }, queue := 16, slot := 1023, born := 5 })] } }) (127) (16) (1023) (9) ({ req := { member := 127, cluster := 15, write := true, block := 5, count := 1, use := .destage 3, data := [7] }, queue := 16, slot := 1023, born := 5 })) ∧
    ((fun (s : State) (member : Member) (cid i _data : Nat) (c : DrvCmd) => ((s.powered = true) ∧ (s.memState member = 1) ∧ (tget? s.dpt.cmds cid = some c) ∧ (c.req.member = member.val) ∧ (c.req.write = false) ∧ (i < c.req.count) : Prop)) ({ st 3 [(DPT_MEM_STAT 127, 0x201)] with dpt := { cmds := [(9, { req := { member := 127, cluster := 15, write := false, block := 5, count := 16, use := .host 3 }, queue := 16, slot := 1023, born := 5 })] } }) (127) (9) (15) (2 ^ 33280 - 1) ({ req := { member := 127, cluster := 15, write := false, block := 5, count := 16, use := .host 3 }, queue := 16, slot := 1023, born := 5 })) ∧
    ((fun (s : State) (member : Member) => ((s.powered = true) ∧ (s.memState member = 1) : Prop)) ({ st 3 [(DPT_MEM_STAT 127, 0x201), (DPT_MEM_LOC 127, 0x41)] with dpt := { cmds := [(9, { req := { member := 127, cluster := 15, write := false, block := 5, count := 16, use := .host 3 }, queue := 16, slot := 1023, born := 5 })] } }) (127)) ∧
    ((fun (s : State) (member : Member) (queue : Fin 17) (slot cid : Nat) (c : DrvCmd) (d : Nat) => ((s.powered = true) ∧ (s.memState member = 1) ∧ (slot = (s.drvQueue member queue).head) ∧ (tget? s.dpt.cmds cid = some c) ∧ (c.req.member = member.val) ∧ (c.queue = queue.val) ∧ (queue.val ≠ 0) ∧ (c.held = false) ∧ (c.waiting = false) ∧ (c.req.use = .destage d) ∧ (c.req.write = true) : Prop)) ({ st 3 [(DPT_MEM_STAT 127, 0x201)] with dpt := { mems := [(127, { queues := [(16, { head := 1023, depth := 1024, taken := 3 })] })], cmds := [(9, { req := { member := 127, cluster := 15, write := true, block := 5, count := 1, use := .destage 3, data := [7] }, queue := 16, slot := 1023, born := 5 })] }, red := { destages := [(3, { set := 0, stripe := 1, vol := 2, blocks := [], left := 2 })] } }) (127) (16) (1023) (9) ({ req := { member := 127, cluster := 15, write := true, block := 5, count := 1, use := .destage 3, data := [7] }, queue := 16, slot := 1023, born := 5 }) (3)) ∧
    ((fun (s : State) (member : Member) (queue : Fin 17) (slot _cid _status : Nat) => ((s.powered = true) ∧ (s.memState member = 1) ∧ (slot = (s.drvQueue member queue).head) : Prop)) ({ st 3 [(DPT_MEM_STAT 127, 0x201)] with dpt := { mems := [(127, { queues := [(16, { head := 5, depth := 1024 })] })] } }) (127) (16) (5) (9) (0)) ∧
    ((fun (s : State) (member : Member) (queue : Fin 17) => ((s.powered = true) ∧ ((s.drvQueue member queue).taken ≠ 0) : Prop)) ({ st 3 [(DPT_MEM_STAT 127, 0x201)] with dpt := { mems := [(127, { queues := [(16, { head := 6, depth := 1024, taken := 3 })] })] } }) (127) (16)) ∧
    ((fun (s : State) (cid : Nat) (c : DrvCmd) => ((tget? s.dpt.cmds cid = some c) ∧ (c.waiting = true) ∧ (s.memIo c.req.member = true) : Prop)) ({ st 3 [(DPT_MEM_STAT 127, 0x201)] with clock := { nowNs := 77 }, dpt := { cmds := [(9, { req := { member := 127, cluster := 15, write := true, block := 5, count := 1, use := .destage 3, data := [7] }, queue := 16, slot := 1023, born := 5, waiting := true, retried := true })] } }) (9) ({ req := { member := 127, cluster := 15, write := true, block := 5, count := 1, use := .destage 3, data := [7] }, queue := 16, slot := 1023, born := 5, waiting := true, retried := true })) ∧
    ((fun (s : State) (cid : Nat) (c : DrvCmd) (k : Nat) => ((s.powered = true) ∧ (tget? s.dpt.cmds cid = some c) ∧ (c.held = false) ∧ (c.waiting = false) ∧ (c.reissue = false) ∧ (c.req.member < 128) ∧ (s.memState c.req.member = 1) ∧ (s.freeCid = some k) : Prop)) ({ st 3 [(DPT_MEM_STAT 127, 0x201), (DPT_MEM_LOC 127, 0x41)] with dpt := { cmds := [(0, { req := { member := 127, cluster := 15, write := true, block := 5, count := 1, use := .destage 3, data := [7] }, queue := 16, slot := 1023, born := 5 })] } }) (0) ({ req := { member := 127, cluster := 15, write := true, block := 5, count := 1, use := .destage 3, data := [7] }, queue := 16, slot := 1023, born := 5 }) (1)) ∧
    ((fun (s : State) (cid : Nat) (c : DrvCmd) => ((s.powered = true) ∧ (tget? s.dpt.cmds cid = some c) ∧ (c.held = false) ∧ (c.waiting = false) ∧ (c.reissue = true) ∧ (c.req.member < 128) ∧ (s.isMember c.req.member = true) : Prop)) ({ st 3 [(DPT_MEM_STAT 127, 0x8202), (DPT_MEM_LOC 127, 0x41)] with dpt := { cmds := [(0, { req := { member := 127, cluster := 15, write := true, block := 5, count := 1, use := .destage 3, data := [7] }, queue := 16, slot := 1023, born := 5, reissue := true })] } }) (0) ({ req := { member := 127, cluster := 15, write := true, block := 5, count := 1, use := .destage 3, data := [7] }, queue := 16, slot := 1023, born := 5, reissue := true })) ∧
    ((fun (s : State) (member : Member) => ((s.powered = true) ∧ (s.memState member = 2) ∧ (s.fld (DPT_MEM_STAT_LADDER member) = 1) ∧ ((s.mem member).abortDone = false) : Prop)) ({ st 3 [(DPT_MEM_STAT 127, 0x4202), (DPT_MEM_LOC 127, 0x41)] with dpt := { mems := [(127, { prev := 1, ladder := some 0 })], cmds := [(0, { req := { member := 127, cluster := 15, write := true, block := 5, count := 1, use := .destage 3, data := [7] }, queue := 16, slot := 1023, born := 5 }), (1, { req := { member := 127, cluster := 0, write := false, block := 0, count := 0, use := .abort 0 }, queue := 0, slot := 0, born := 5 })] } }) (127)) ∧
    ((fun (s : State) (member : Member) (_q : Nat) => ((s.powered = true) ∧ (s.fld (DPT_MEM_STAT_LADDER member) = 2) ∧ ((s.mem member).disabled = false) : Prop)) ({ st 3 [(DPT_MEM_STAT 127, 0x8202)] with dpt := { mems := [(127, { prev := 1, queues := [(16, { tail := 5, head := 9, phase := false, taken := 1, depth := 1024 })] })] } }) (127) (16)) ∧
    ((fun (s : State) (member : Member) => ((s.powered = true) ∧ (s.fld (DPT_MEM_STAT_LADDER member) = 2) ∧ ((s.mem member).disabled = true) ∧ (keysRise s.dpt.cmds = true) : Prop)) ({ st 3 [(DPT_MEM_STAT 127, 0x8202)] with dpt := { mems := [(127, { prev := 1, disabled := true })], cmds := [(0, { req := { member := 127, cluster := 15, write := true, block := 5, count := 1, use := .destage 3, data := [7] }, queue := 16, slot := 1023, born := 5, held := true, nth := 9 }), (1, { req := { member := 127, cluster := 0, write := false, block := 0, count := 4, use := .host 0 }, queue := 16, slot := 0, born := 5, held := true, nth := 8 })] } }) (127)) ∧
    ((fun (s : State) (member : Member) => ((s.powered = true) ∧ (s.memState member = 2) ∧ (s.fld (DPT_MEM_STAT_LADDER member) = 2) : Prop)) ({ st 3 [(DPT_MEM_STAT 127, 0x8202), (DPT_MEM_LOC 127, 0x41)] with dpt := { cmds := [(0, { req := { member := 127, cluster := 15, write := true, block := 5, count := 1, use := .destage 3, data := [7] }, queue := 16, slot := 1023, born := 5, held := true })] } }) (127)) ∧
    ((fun (s : State) (member : Member) => ((s.powered = true) ∧ (s.memState member = 2) ∧ (s.fld (DPT_MEM_STAT_LADDER member) = 2) ∧ ((s.mem member).disabled = false) ∧ ((∀ e ∈ s.dpt.cmds, e.2.req.member = member.val → e.2.held = false ∧ e.2.reissue = false)) ∧ ((s.mem member).prev < 8) : Prop)) ({ st 3 [(DPT_MEM_STAT 127, 0x8202)] with dpt := { mems := [(127, { prev := 4 })] } }) (127)) ∧
    ((fun (s : State) (member : Member) => ((s.powered = true) ∧ ((s.memState member = 1 ∨ s.memState member = 4 ∨ s.memState member = 5)) : Prop)) ({ st 3 [(DPT_MEM_STAT 127, 0x205), (DPT_MEM_LOC 127, 0x41)] with dpt := { cmds := [(0, { req := { member := 127, cluster := 15, write := true, block := 5, count := 1, use := .destage 3, data := [7] }, queue := 16, slot := 1023, born := 5 })] } }) (127)) := by
  refine ⟨?_, ?_, ?_, ?_, ?_, ?_, ?_, ?_, ?_, ?_, ?_, ?_, ?_, ?_, ?_, ?_, ?_⟩ <;> decide

set_option maxRecDepth 100000 in
/-- The hypotheses of DriveArrivalAndLoss, clause by clause, hold somewhere. -/
theorem witness_DriveArrivalAndLoss :
    ((fun (s : State) (half : Fin 64) => ((s.powered = true) ∧ (s.halfOk half = true) ∧ (s.flag DPT_CTL_HP_EN = true) ∧ (s.fld (SLP_CH_STAT_STATE (half.val / 2)) = 2) ∧ (s.flag (SLP_CH_STAT_PG (half.val / 2)) = true) ∧ (tget? s.dpt.contained half.val = none) ∧ (s.dpt.contained = []) ∧ (half.val ∉ s.dpt.released) : Prop)) (st 3 [(DPT_PORT_CFG 31, 3), (DPT_CTL, 4), (SLP_CH_STAT 31, 0x42)]) (63)) ∧
    ((fun (s : State) (h : Fin 64) (width : Fin 5) (_rate : Fin 4) => ((s.powered = true) ∧ (s.halfOk h = true) ∧ (h.val ∈ s.dpt.released) ∧ (s.flag (DPT_PORT_STAT_UP (h.val / 2) (h.val % 2)) = false) ∧ (width.val ≠ 0) : Prop)) ({ st 3 [(DPT_PORT_CFG 31, 3)] with dpt := { released := [63] } }) (63) (3) (2)) ∧
    ((fun (s : State) (h : Fin 64) (_rate : Fin 4) (m : Nat) => ((s.powered = true) ∧ (s.halfOk h = true) ∧ (h.val ∈ s.dpt.released) ∧ (s.flag (DPT_PORT_STAT_UP (h.val / 2) (h.val % 2)) = false) ∧ (s.freeNumber = some m) : Prop)) ({ st 3 [(DPT_PORT_CFG 31, 3)] with dpt := { released := [63] } }) (63) (2) (0)) ∧
    ((fun (s : State) (x : Fin 4) (_slot : Fin 32) (width : Fin 5) (_rate : Fin 4) => ((s.powered = true) ∧ (s.flag (DPT_XP_CFG_EN x) = true) ∧ (width.val ≠ 0) : Prop)) (st 3 [(DPT_XP_CFG 3, 1)]) (3) (31) (4) (3)) ∧
    ((fun (s : State) (place : DrvPlace) => ((s.powered = true) ∧ (place.key ∈ s.dpt.linked) : Prop)) ({ st 3 [] with dpt := { linked := [5, 183], ready := [7] } }) (.xp 3 23)) ∧
    ((fun (s : State) (place : DrvPlace) (facts : DrvFacts) (fmt : Bool) (m : Nat) => ((s.powered = true) ∧ (place.key ∈ s.dpt.ready) ∧ (s.memAt place = none) ∧ (s.qualCode true facts = (0, fmt)) ∧ (facts.label = none) ∧ (s.freeNumber = some m) : Prop)) ({ st 3 [(DPT_CTL, 0x16)] with dpt := { ready := [183] } }) (.xp 3 23) ({ ready := true, identify := true, format := some true, resv := true, nested := false, reformat := false, label := none, bands := 9, ioq := 20, depth := 4096, dual := true, degraded := false }) (true) (0)) ∧
    ((fun (s : State) (place : DrvPlace) (facts : DrvFacts) (code m : Nat) => ((s.powered = true) ∧ (place.key ∈ s.dpt.ready) ∧ (s.memAt place = none) ∧ ((s.qualCode true facts).1 = code) ∧ (code ≠ 0) ∧ (s.freeNumber = some m) : Prop)) ({ st 3 [] with dpt := { ready := [63] } }) (.half 63) ({ ready := true, identify := true, format := none, resv := true, nested := false, reformat := true, label := none, bands := 9, ioq := 20, depth := 4096, dual := true, degraded := false }) (4) (0)) ∧
    ((fun (s : State) (half : Fin 64) (_presence : Bool) (m : Member) => ((s.powered = true) ∧ (s.flag DPT_CTL_HP_EN = true) ∧ (s.flag DPT_CTL_DPC_EN = true) ∧ (s.dpt.contained = []) ∧ (s.memAt (.half half) = some m.val) ∧ (s.isMember m = true) ∧ (s.flag (DPT_PORT_STAT_UP (half.val / 2) (half.val % 2)) = true) : Prop)) ({ st 3 [(DPT_CTL, 6), (DPT_PORT_STAT 31, 0x200), (DPT_MEM_LOC 127, 0xFB), (DPT_MEM_STAT 127, 0x201)] with dpt := { cmds := [(0, { req := { member := 127, cluster := 15, write := true, block := 5, count := 1, use := .destage 3, data := [7] }, queue := 16, slot := 1023, born := 5 })] } }) (63) (true) (127)) ∧
    ((fun (s : State) (half : Fin 64) => ((s.powered = true) ∧ (tget? s.dpt.contained half.val = some false) : Prop)) ({ st 3 [] with dpt := { contained := [(63, false)] } }) (63)) ∧
    ((fun (s : State) (xp : Fin 4) (slot : Fin 32) (_dpc : Bool) => ((s.powered = true) ∧ (s.flag (DPT_XP_STAT_UP xp) = true) ∧ (s.flag DPT_CTL_HP_EN = true) ∧ (32 * xp.val + slot.val ∉ s.dpt.xdrives) ∧ (slot.val < 24) ∧ ((s.dpt.xdrives.filter (fun x => x / 32 == xp.val)).length < 24) : Prop)) ({ st 3 [(DPT_XP_STAT 3, 0x41), (DPT_CTL, 4)] with dpt := { xdrives := [3, 99] } }) (3) (23) (false)) ∧
    ((fun (s : State) (xp : Fin 4) (slot : Fin 32) (m : Member) => ((s.powered = true) ∧ (s.flag (DPT_XP_STAT_UP xp) = true) ∧ (s.flag DPT_CTL_HP_EN = true) ∧ (s.memAt (.xp xp slot) = some m.val) ∧ (s.isMember m = true) : Prop)) ({ st 3 [(DPT_XP_STAT 3, 0x41), (DPT_CTL, 4), (DPT_MEM_LOC 127, 0x171C), (DPT_MEM_STAT 127, 0x201)] with dpt := { xdrives := [3, 119] } }) (3) (23) (127)) ∧
    ((fun (s : State) (xp : Fin 4) (m : Member) => ((s.powered = true) ∧ (s.flag (DPT_XP_STAT_UP xp) = true) ∧ (s.fld (DPT_MEM_LOC_TYPE m) = 4) ∧ (s.fld (DPT_MEM_LOC_PORT m) = xp.val) ∧ (s.isMember m = true) : Prop)) ({ st 3 [(DPT_XP_STAT 3, 0x41), (DPT_MEM_LOC 127, 0x171C), (DPT_MEM_STAT 127, 0x201)] with dpt := { xdrives := [3, 119] } }) (3) (127)) ∧
    ((fun (s : State) (member : Member) => ((s.powered = true) ∧ ((s.mem member).acquiring = true) : Prop)) ({ st 3 [(DPT_MEM_STAT 127, 0x201)] with dpt := { mems := [(127, { acquiring := true })], cmds := [(0, { req := { member := 127, cluster := 0, write := false, block := 0, count := 0, use := .admin 2 }, queue := 0, slot := 0, born := 5 })] } }) (127)) ∧
    ((fun (s : State) (member : Member) (k : Nat) => ((s.powered = true) ∧ ((s.mem member).acquiring = true) ∧ (s.memState member = 1) ∧ ((∃ e ∈ s.dpt.cmds, e.2.req.member = member.val ∧ e.2.req.use = .admin 2)) ∧ (s.freeCid = some k) : Prop)) ({ st 3 [(DPT_MEM_STAT 127, 0x201)] with dpt := { mems := [(127, { acquiring := true })], cmds := [(0, { req := { member := 127, cluster := 0, write := false, block := 0, count := 0, use := .admin 2 }, queue := 0, slot := 0, born := 5 })] } }) (127) (1)) ∧
    ((fun (s : State) (req : Requester) (member : Member) => ((s.Admits req DPT_MEM_CMD) ∧ (s.flag DPT_MEM_CMD_STAT_BUSY = false) ∧ (s.isMember member = true) : Prop)) ({ st 3 [(DPT_MEM_STAT 127, 0x201), (DPT_MEM_LOC 127, 0x41)] with dpt := { cmds := [(0, { req := { member := 127, cluster := 15, write := true, block := 5, count := 1, use := .destage 3, data := [7] }, queue := 16, slot := 1023, born := 5 })] } }) (.uart) (127)) ∧
    ((fun (s : State) (req : Requester) (member : Member) => ((s.Admits req DPT_MEM_CMD) ∧ (s.flag DPT_MEM_CMD_STAT_BUSY = false) ∧ ((s.memState member = 6 ∨ s.memState member = 3)) ∧ ((s.mem member).gone = true) ∧ (s.placeOf member = none) : Prop)) ({ st 3 [(DPT_MEM_STAT 127, 0x206), (DPT_MEM_LOC 127, 0x41)] with dpt := { mems := [(127, { gone := true })] } }) (.uart) (127)) ∧
    ((fun (s : State) (req : Requester) (member : Member) => ((s.Admits req DPT_MEM_CMD) ∧ (s.flag DPT_MEM_CMD_STAT_BUSY = false) ∧ (s.memState member = 7) ∧ (s.fld (DPT_MEM_LOC_TYPE member) = 3) : Prop)) (st 3 [(DPT_MEM_STAT 127, 0x207), (DPT_MEM_LOC 127, 0xFB)]) (.uart) (127)) ∧
    ((fun (s : State) (req : Requester) (member : Member) => ((s.Admits req DPT_MEM_CMD) ∧ (s.flag DPT_MEM_CMD_STAT_BUSY = false) ∧ (s.memState member = 0) : Prop)) (st 3 []) (.uart) (127)) := by
  refine ⟨?_, ?_, ?_, ?_, ?_, ?_, ?_, ?_, ?_, ?_, ?_, ?_, ?_, ?_, ?_, ?_, ?_, ?_⟩ <;> decide

set_option maxRecDepth 100000 in
/-- The hypotheses of JournalDestageRebuild, clause by clause, hold somewhere. -/
theorem witness_JournalDestageRebuild :
    ((fun (s : State) (handle : Nat) (c : Cmd) (qi : Nat) (q : Queue) (addr len : Nat) => ((s.serving = true) ∧ (s.canAct handle = true) ∧ (s.cmd? handle = some c) ∧ (c.kind = .write) ∧ (c.state = .admitted) ∧ (c.credit = 0) ∧ (c.arrived = false) ∧ (c.blocks ≠ []) ∧ (c.host = [(addr, len)]) ∧ (c.queue = some qi) ∧ (s.queue? qi = some q) ∧ (q.type = 1) ∧ (((s.qp q.qpn).state = 2 ∨ (s.qp q.qpn).state = 3)) ∧ (s.dirtyBytes + s.jrnReserved + 4160 * c.blocks.length ≤ s.fld RED_JRN_CAP_CAP * 2 ^ 20) ∧ (c.blocks.length ≤ s.stgWriteFree) : Prop)) ({ st 3 [(RED_JRN_CAP, 100), (CCH_STG_CFG, 0x7FF)] with rdm := { qps := [(6, { state := 3 })] }, cmdq := { queues := [(7, { type := 1, assoc := 0, qid := 3, entriesM1 := 31, qpn := 6 })], cmds := [(9, { kind := .write, queue := some 7, assoc := 0, vol := 7, ranges := [(0, 3)], stamp := 1, port := 3, state := .admitted, host := [(4096, 12288)], rkey := 99 })] }, eng := { engines := [(255, { ctxs := [(9, false)] })] } }) (9) ({ kind := .write, queue := some 7, assoc := 0, vol := 7, ranges := [(0, 3)], stamp := 1, port := 3, state := .admitted, host := [(4096, 12288)], rkey := 99 }) (7) ({ type := 1, assoc := 0, qid := 3, entriesM1 := 31, qpn := 6 }) (4096) (12288)) ∧
    ((fun (s : State) (handle : Nat) (c : Cmd) => ((s.serving = true) ∧ (s.canAct handle = true) ∧ (s.cmd? handle = some c) ∧ (c.kind = .write) ∧ (c.state = .admitted) ∧ (c.credit = 0) ∧ (c.arrived = false) ∧ (c.jrnWait = false) ∧ (s.fld RED_JRN_CAP_CAP * 2 ^ 20 < s.dirtyBytes + s.jrnReserved + 4160 * c.blocks.length) : Prop)) ({ st 3 [] with cmdq := { cmds := [(9, { kind := .write, assoc := 0, vol := 7, ranges := [(0, 3)], stamp := 1, port := 3, state := .admitted })] }, eng := { engines := [(255, { ctxs := [(9, false)] })] } }) (9) ({ kind := .write, assoc := 0, vol := 7, ranges := [(0, 3)], stamp := 1, port := 3, state := .admitted })) ∧
    ((fun (s : State) (handle : Nat) (c : Cmd) (a n k : Nat) (x : Vol) (p : Machine.PSet) (sl : Slab) => ((s.serving = true) ∧ (s.canAct handle = true) ∧ (handle < 65536) ∧ (s.cmd? handle = some c) ∧ (c.kind = .zeroes) ∧ (c.state = .admitted) ∧ (c.mirror = none) ∧ (c.status = 0) ∧ (c.seg = 0) ∧ (c.ranges = [(a, n)]) ∧ (0 < n) ∧ (n ≤ 256) ∧ (s.flag RED_JRN_STAT_PFAIL = false) ∧ (s.eng.globalOp ≠ 3) ∧ (s.partnered = false) ∧ (s.mirroring = false) ∧ ((∀ b ∈ c.blocks, s.lostBlock c.vol b = false)) ∧ (slabsOf a n = [k]) ∧ (tget? s.red.vols c.vol = some x) ∧ (tget? s.red.sets x.set = some p) ∧ (tget? x.slabs k = some sl) ∧ (s.sharedSlab c.vol sl x.set = false) ∧ ((∀ e ∈ s.red.vols, e.2.imageOf ≠ some c.vol)) : Prop)) ({ redSt mirSet [] [] with cmdq := { cmds := [(9, { kind := .zeroes, queue := none, assoc := 0, vol := 7, ranges := [(80, 256)], stamp := 77, port := 3, state := .admitted })] }, eng := { engines := [(255, { ctxs := [(9, false)] })], locks := [{ vol := 7, stripe := 5, mask := 0xFFFF, stamp := 77, owner := 9, isWrite := true, granted := true, shard := 0 }] } }) (9) ({ kind := .zeroes, queue := none, assoc := 0, vol := 7, ranges := [(80, 256)], stamp := 77, port := 3, state := .admitted }) (80) (256) (0) ({ set := 3, maxSlabs := 1, slabs := [(0, { layers := [(0, [(5, true)])], owner := 7 })] }) (mirSet) ({ layers := [(0, [(5, true)])], owner := 7 })) ∧
    ((fun (s : State) (set : Fin 8) (stripe : Nat) (_rd : List StripRead) (p : Machine.PSet) (j : StripeJob) (d : List (Nat × Nat × Nat × JRec)) => ((s.serving = true) ∧ (tget? s.red.sets set = some p) ∧ (s.stripeJob set stripe = some j) ∧ (s.jobDirty set stripe p j = d) ∧ (s.ripe p j d = true) ∧ (s.stripeBusy set stripe = false) ∧ (p.intents.length < 1024) ∧ ((∀ i ∈ p.intents, i.stripe ≠ stripe)) ∧ ((List.range p.width).any (s.stripWaits p stripe) = false) ∧ ((∀ e ∈ d, e.2.2.2.typ = 1)) ∧ (j.full p d.length = true) ∧ (j.full p 0 = false) ∧ (j.old = some stripe) : Prop)) (redSt mirSet [writeRec] []) (3) (5) ([]) (mirSet) ({ vol := 7, image := false, slab := 0, off := 5, run := 0, owner := 7, old := some 5 }) ((redSt mirSet [writeRec] []).jobDirty 3 5 mirSet { vol := 7, image := false, slab := 0, off := 5, run := 0, owner := 7, old := some 5 })) ∧
    ((fun (s : State) (set : Fin 8) (stripe : Nat) (p : Machine.PSet) (i : Intent) (d : Nat) (x : Destage) => ((s.powered = true) ∧ (s.red.destages = [(d, x)]) ∧ (x.set = set.val) ∧ (x.stripe = stripe) ∧ (x.left = 0) ∧ (tget? s.red.sets set = some p) ∧ (p.intents = [i]) ∧ (i.stripe = stripe) ∧ (s.cch.mnt = []) : Prop)) ({ redSt { mirSet with intents := [{ stripe := 5, seq := 4, mask := 3, jseq := 9, replicas := [0, 1] }] } [writeRec] [] with red := { (redSt { mirSet with intents := [{ stripe := 5, seq := 4, mask := 3, jseq := 9, replicas := [0, 1] }] } [writeRec] []).red with destages := [(2, { set := 3, stripe := 5, vol := 7, blocks := [], left := 0 })] } }) (3) (5) ({ mirSet with intents := [{ stripe := 5, seq := 4, mask := 3, jseq := 9, replicas := [0, 1] }] }) ({ stripe := 5, seq := 4, mask := 3, jseq := 9, replicas := [0, 1] }) (2) ({ set := 3, stripe := 5, vol := 7, blocks := [], left := 0 })) ∧
    ((fun (s : State) (m : Nat) (q : List IRec) (w : Nat) => ((s.powered = true) ∧ (s.red.iq = [(m, q)]) ∧ (q ≠ []) ∧ (q.length ≤ 64) ∧ (s.memState m = 1) ∧ (tget s.red.ring m (0, []) = (w, [])) : Prop)) ({ redSt mirSet [] [] with red := { (redSt mirSet [] []).red with iq := [(10, [{ set := 3, stripe := 5, seq := 4, isOpen := true, word := 123 }])], ring := [(10, (7935, []))] } }) (10) ([{ set := 3, stripe := 5, seq := 4, isOpen := true, word := 123 }]) (7935)) ∧
    ((fun (s : State) (p : Machine.PSet) (_stripe _seq _mask _jseq : Nat) => ((s.running = true) ∧ (s.mode = 2) ∧ (s.partnered = false) ∧ (s.red.sets = [(3, p)]) ∧ (p.intents = []) : Prop)) ({ redSt mirSet [] [] with regs := (redSt mirSet [] [(SYS_MODE, 2)]).regs }) (mirSet) (5) (4) (3) (9)) ∧
    ((fun (s : State) (set : Fin 8) (stripe : Nat) (p : Machine.PSet) (i : Intent) (ws : List Nat) (pos m : Nat) => ((s.running = true) ∧ ((∀ e ∈ s.red.sets, e.1 < 8)) ∧ (tget? s.red.sets set = some p) ∧ (p.layout = 1) ∧ (p.intents = [i]) ∧ (i.stripe = stripe) ∧ (i.resync = true) ∧ (s.red.journal = []) ∧ (s.stripeBusy set stripe = false) ∧ ((List.range p.width).any (s.stripWaits p stripe) = false) ∧ (ws.length = 16) ∧ (pos < p.width) ∧ (s.stripReads p stripe pos = true) ∧ (p.member (p.holder stripe pos) = some m) : Prop)) (redSt { mirSet with intents := [{ stripe := 5, seq := 4, mask := 3, jseq := 9, replicas := [0, 1], resync := true }] } [] [(RED_JRN_STAT, 0x40000)]) (3) (5) ({ mirSet with intents := [{ stripe := 5, seq := 4, mask := 3, jseq := 9, replicas := [0, 1], resync := true }] }) ({ stripe := 5, seq := 4, mask := 3, jseq := 9, replicas := [0, 1], resync := true }) (List.range 16) (1) (10 + mirSet.slotOf 5 1)) ∧
    ((fun (s : State) (req : Requester) (_val : Word) => ((s.Admits req RED_HOLDUP) : Prop)) (st 3 [(RED_JRN_CAP, 0x3F0000)]) (.uart) (0xFFFF03E7)) ∧
    ((fun (s : State) (member : Member) (pi : Nat) (p : Machine.PSet) (slot : Nat) => ((s.powered = true) ∧ (s.flag RED_CTL_AUTO_REPLACE = false) ∧ (s.red.holding = [member.val]) ∧ (s.memState member = 6) ∧ (s.placeOf member = some (pi, p, slot)) ∧ (slot ∉ p.lostSlots) : Prop)) ({ redSt mirSet [] [(DPT_MEM_STAT 13, 0x206)] with red := { (redSt mirSet [] []).red with holding := [13] } }) (13) (3) (mirSet) (3)) ∧
    ((fun (s : State) (set : Fin 8) (stripe : Nat) (p : Machine.PSet) (g sp : Nat) (rest ws : List Nat) (m : Nat) => ((s.serving = true) ∧ ((∀ e ∈ s.red.sets, e.1 < 8)) ∧ (s.flag RED_JRN_STAT_PFAIL = false) ∧ (tget? s.red.sets set = some p) ∧ (p.layout = 1) ∧ (s.rebuildNext set p = some stripe) ∧ (s.stripeBusy set stripe = false) ∧ (s.goneStrips p stripe = [g]) ∧ (g ≠ 0) ∧ (g ≤ p.redund) ∧ (1 ≤ p.redund) ∧ (s.freeSpares p (p.band stripe) = sp :: rest) ∧ (p.member sp = some m) ∧ (ws.length = 16) ∧ (s.gov.floor = []) ∧ (s.floorOk = true) : Prop)) (redSt { mirSet with spare := 1, lostSlots := [({ mirSet with spare := 1 }).slotOf 5 1] } [] [(DPT_MEM_STAT (10 + ({ mirSet with spare := 1 }).slotOf 5 1), 0x203)]) (3) (5) ({ mirSet with spare := 1, lostSlots := [({ mirSet with spare := 1 }).slotOf 5 1] }) (1) ((({ mirSet with spare := 1 }).spareSlots 5).headD 0) ((({ mirSet with spare := 1 }).spareSlots 5).drop 1) (List.range 16) (10 + (({ mirSet with spare := 1 }).spareSlots 5).headD 0)) ∧
    ((fun (s : State) (member : Member) (_rd : List StripRead) (pi : Nat) (p : Machine.PSet) (sl n0 : Nat) (whole : Bool) => ((s.serving = true) ∧ (s.memState member = 4) ∧ (s.flag RED_JRN_STAT_PFAIL = false) ∧ (s.placeOf member = some (pi, p, sl)) ∧ (tget? s.red.sets pi = some p) ∧ (p.member sl = some member.val) ∧ (tget? p.filling sl = some (n0, whole)) ∧ (s.fillNext pi p sl n0 whole = none) : Prop)) (redSt { mirSet with filling := [(3, 9, false)] } [] [(DPT_MEM_STAT 13, 0x204)]) (13) ([]) (3) ({ mirSet with filling := [(3, 9, false)] }) (3) (9) (false)) ∧
    ((fun (s : State) (member : Member) (_rd : List StripRead) (pi : Nat) (p : Machine.PSet) (sl n0 : Nat) (whole : Bool) (b t0 pos : Nat) => ((s.serving = true) ∧ (s.memState member = 4) ∧ (s.flag RED_JRN_STAT_PFAIL = false) ∧ (s.placeOf member = some (pi, p, sl)) ∧ (tget? p.filling sl = some (n0, whole)) ∧ (s.fillNext pi p sl n0 whole = some (b, false)) ∧ (p.stripIn b sl = some (t0, pos)) : Prop)) (redSt { mirSet with filling := [(3, 0, false)], reloc := [(2 * 32 + 3, 0)] } [] [(DPT_MEM_STAT 13, 0x204)]) (13) ([]) (3) ({ mirSet with filling := [(3, 0, false)], reloc := [(2 * 32 + 3, 0)] }) (3) (0) (false) (2) (5) (1)) := by
  refine ⟨?_, ?_, ?_, ?_, ?_, ?_, ?_, ?_, ?_, ?_, ?_, ?_, ?_⟩ <;> decide

set_option maxRecDepth 100000 in
/-- The hypotheses of SetsVolumesLosses, clause by clause, hold somewhere. -/
theorem witness_SetsVolumesLosses :
    ((fun (s : State) (req : Requester) (set : Fin 8) => ((s.Admits req RED_SET_CMD) ∧ (s.flag RED_SET_CMD_STAT_BUSY = false) ∧ ((s.mode = 2 ∨ s.serving = true)) ∧ (tget? s.red.sets set = none) ∧ (s.createSet.valid = true) ∧ (s.createOk = true) : Prop)) ({ st 2 [(RED_SET_DATA 0, 0x0D0C0B0A), (RED_SET_DATA8, 0x81009), (DPT_MEM_STAT 10, 0x205), (DPT_MEM_STAT 11, 0x205), (DPT_MEM_STAT 12, 0x205), (DPT_MEM_STAT 13, 0x205)] with dpt := { mems := [(10, { bands := 9 }), (11, { bands := 8 }), (12, { bands := 9 }), (13, { bands := 9 })] } }) (.uart) (7)) ∧
    ((fun (s : State) (req : Requester) (set : Fin 8) => ((s.Admits req RED_SET_CMD) ∧ (s.flag RED_SET_CMD_STAT_BUSY = false) ∧ ((s.mode = 2 ∨ s.serving = true)) ∧ (tget? s.red.sets set = none) ∧ (s.createSet.valid = true) ∧ (s.createOk = false) : Prop)) (st 2 [(RED_SET_DATA 0, 0x0D0C0B0A), (RED_SET_DATA8, 0x81009)]) (.uart) (7)) ∧
    ((fun (s : State) (req : Requester) (set : Fin 8) (p : Machine.PSet) => ((s.Admits req RED_SET_CMD) ∧ (s.flag RED_SET_CMD_STAT_BUSY = false) ∧ ((s.mode = 2 ∨ s.serving = true)) ∧ (tget? s.red.sets set = some p) ∧ ((∀ e ∈ s.red.vols, e.2.set ≠ set.val)) ∧ ((∀ e ∈ p.slots, e.2 < 128)) : Prop)) ({ redSt mirSet [] [] with red := { sets := [(3, mirSet)] } }) (.uart) (3) (mirSet)) ∧
    ((fun (s : State) (req : Requester) (set : Fin 8) (slot : Fin 32) (member : Member) (p : Machine.PSet) => ((s.Admits req RED_SET_CMD) ∧ (s.flag RED_SET_CMD_STAT_BUSY = false) ∧ ((s.mode = 2 ∨ s.serving = true)) ∧ (tget? s.red.sets set = some p) ∧ (p.xts = true) ∧ (slot.val < p.n) ∧ ((∀ o, p.member slot = some o → s.memState o = 3 ∨ s.memState o = 6)) ∧ (s.memState member = 5) ∧ (s.placeOf member = none) ∧ (p.bands ≤ (s.mem member).bands) : Prop)) ({ redSt mirSet [] [(DPT_MEM_STAT 13, 0x203), (DPT_MEM_STAT 127, 0x205)] with dpt := { mems := [(127, { bands := 100000 })] } }) (.uart) (3) (3) (127) (mirSet)) ∧
    ((fun (s : State) (req : Requester) (set : Fin 8) (p : Machine.PSet) => ((s.Admits req RED_SET_CMD) ∧ (s.flag RED_SET_CMD_STAT_BUSY = false) ∧ ((s.mode = 2 ∨ s.serving = true)) ∧ (tget? s.red.sets set = some p) : Prop)) (redSt { mirSet with patrol := 9, patrolled := 3 } [] []) (.uart) (3) ({ mirSet with patrol := 9, patrolled := 3 })) ∧
    ((fun (s : State) (req : Requester) (_set : Fin 8) => ((s.Admits req RED_SET_CMD) ∧ (s.flag RED_SET_CMD_STAT_BUSY = true) : Prop)) (st 2 [(RED_SET_CMD_STAT, 1)]) (.uart) (3)) ∧
    ((fun (s : State) (set : Fin 8) (stripe : Nat) (rd : List StripRead) (p : Machine.PSet) => ((s.serving = true) ∧ ((∀ e ∈ s.red.sets, e.1 < 8)) ∧ (s.flag RED_CTL_PATROL_EN = true) ∧ (s.flag RED_JRN_STAT_PFAIL = false) ∧ (tget? s.red.sets set = some p) ∧ (s.patrolNext set p = some stripe) ∧ (s.stripeBusy set stripe = false) ∧ ((List.range p.width).any (s.stripWaits p stripe) = false) ∧ (s.backOk = true) ∧ ((∀ r : Fin 16, ∀ i ∈ List.range p.width, ∃ e ∈ rd, e.1 = i ∧ e.2.1 = r.val)) ∧ ((∀ r : Fin 16, s.patrolRow set p stripe rd r = none)) : Prop)) ({ redSt mirSet [] [] with gov := { chip := 10 ^ 12 } }) (3) (5) ((List.range 16).flatMap (fun r => [(0, r, some r), (1, r, some r)])) (mirSet)) ∧
    ((fun (s : State) (req : Requester) (vol : Fin 4096) (set : Fin 8) => ((s.Admits req RED_VOL_CMD) ∧ (s.flag RED_VOL_STAT_BUSY = false) ∧ ((s.mode = 2 ∨ s.serving = true)) ∧ (tget? s.red.vols vol = none) ∧ (tget? s.red.sets set ≠ none) ∧ (s.fld RED_VOL_ARG_SLABS ≠ 0) : Prop)) (redSt mirSet [] [(RED_VOL_ARG, 0xFFFF)]) (.uart) (4095) (3)) ∧
    ((fun (s : State) (req : Requester) (_vol : Fin 4096) (_set : Fin 8) => ((s.Admits req RED_VOL_CMD) ∧ (s.flag RED_VOL_STAT_BUSY = false) ∧ ((s.mode = 2 ∨ s.serving = true)) : Prop)) (redSt mirSet [] [(RED_VOL_ARG, 0)]) (.uart) (4095) (3)) ∧
    ((fun (s : State) (req : Requester) (vol : Fin 4096) (x : Vol) => ((s.Admits req RED_VOL_CMD) ∧ (s.flag RED_VOL_STAT_BUSY = false) ∧ ((s.mode = 2 ∨ s.serving = true)) ∧ (tget? s.red.vols vol = some x) ∧ (x.set < 8) ∧ (s.fld RED_VOL_ARG_SLABS ≠ 0) ∧ ((∀ e ∈ x.slabs, e.1 < s.fld RED_VOL_ARG_SLABS)) : Prop)) (redSt mirSet [] [(RED_VOL_ARG, 2)]) (.uart) (7) ({ set := 3, maxSlabs := 1, slabs := [(0, { layers := [(0, [(5, true)])], owner := 7 })] })) ∧
    ((fun (s : State) (req : Requester) (vol : Fin 4096) (x : Vol) => ((s.Admits req RED_VOL_CMD) ∧ (s.flag RED_VOL_STAT_BUSY = false) ∧ ((s.mode = 2 ∨ s.serving = true)) ∧ ((∀ e ∈ s.red.sets, e.1 < 8)) ∧ (tget? s.red.vols vol = some x) ∧ ((∀ e ∈ s.rdm.wins, ¬ (e.2.state ≠ 0 ∧ e.2.vol = vol.val))) ∧ ((∀ e ∈ s.snapPairs, e.1 ≠ vol.val ∧ e.2 ≠ vol.val)) : Prop)) (redSt mirSet [zeroRec] []) (.uart) (7) ({ set := 3, maxSlabs := 1, slabs := [(0, { layers := [(0, [(5, true)])], owner := 7 })] })) ∧
    ((fun (s : State) (req : Requester) (index : Fin 8192) (e : Lost) => ((s.Admits req RED_LOST_CMD) ∧ (s.flag RED_LOST_STAT_BUSY = false) ∧ ((s.mode = 2 ∨ s.serving = true)) ∧ (tget? s.red.lost index = some e) ∧ (e.set < 8) ∧ (e.first < 16) ∧ (1 ≤ e.rows) ∧ (e.rows ≤ 16) ∧ (e.vol < 4096) : Prop)) ({ redSt mirSet [] [] with red := { lost := [(8191, { set := 5, stripe := 2 ^ 32 + 7, mask := 0x81, first := 15, rows := 1, vol := 4095 })] } }) (.uart) (8191) ({ set := 5, stripe := 2 ^ 32 + 7, mask := 0x81, first := 15, rows := 1, vol := 4095 })) ∧
    ((fun (s : State) (req : Requester) (index : Fin 8192) (_rd : List StripRead) => ((s.Admits req RED_LOST_CMD) ∧ (s.flag RED_LOST_STAT_BUSY = false) ∧ ((s.mode = 2 ∨ s.serving = true)) ∧ (tget? s.red.lost index = none) : Prop)) (redSt mirSet [] []) (.uart) (8191) ([])) ∧
    ((fun (s : State) (req : Requester) (index : Fin 8192) (e : Lost) (p : Machine.PSet) (j : StripeJob) (ws : List Nat) (m : Nat) => ((s.Admits req RED_LOST_CMD) ∧ (s.flag RED_LOST_STAT_BUSY = false) ∧ ((s.mode = 2 ∨ s.serving = true)) ∧ (tget? s.red.lost index = some e) ∧ (tget? s.red.sets e.set = some p) ∧ (e.set < 8) ∧ (s.stripeJob e.set e.stripe = some j) ∧ (p.layout = 1) ∧ (e.mask = 2) ∧ (1 < p.width) ∧ (s.stripReads p e.stripe 1 = true) ∧ (p.member (p.holder e.stripe 1) = some m) ∧ (e.first + e.rows ≤ 16) ∧ (1 ≤ e.rows) ∧ (ws.length = 16) : Prop)) ({ redSt mirSet [] [] with red := { (redSt mirSet [] []).red with lost := [(8191, { set := 3, stripe := 5, mask := 2, first := 14, rows := 2, vol := 7 })] } }) (.uart) (8191) ({ set := 3, stripe := 5, mask := 2, first := 14, rows := 2, vol := 7 }) (mirSet) ({ vol := 7, image := false, slab := 0, off := 5, run := 0, owner := 7, old := some 5 }) (List.range 16) (10 + mirSet.slotOf 5 1)) ∧
    ((fun (s : State) (req : Requester) (a b c d : Nat) (rest : List (Nat × Nat × Nat × Nat)) => ((s.reachable req = true) ∧ (s.readOk req RED_EVLOG0 = true) ∧ (s.mode ≠ 7) ∧ (s.red.evlog = (a, b, c, d) :: rest) : Prop)) ({ st 3 [(RED_EVLOG0, 0x80000001)] with red := { evlog := [(0x80000001, 2, 3, 4), (0x80000002, 5, 6, 7)] } }) (.uart) (0x80000001) (2) (3) (4) ([(0x80000002, 5, 6, 7)])) := by
  refine ⟨?_, ?_, ?_, ?_, ?_, ?_, ?_, ?_, ?_, ?_, ?_, ?_, ?_, ?_, ?_⟩ <;> decide

set_option maxRecDepth 100000 in
/-- The hypotheses of CacheFillsMaintenance, clause by clause, hold somewhere. -/
theorem witness_CacheFillsMaintenance :
    ((fun (s : State) (vol : Fin 4096) (stripe : Nat) (f : Fill) => ((s.powered = true) ∧ (s.cch.fills = [f]) ∧ (f.vol = vol.val) ∧ (f.stripe = stripe) ∧ (f.kind = 0) ∧ (f.cancelled = false) ∧ (f.complete = true) ∧ (f.sectors ≠ []) ∧ (s.cchSets ≠ 0) ∧ (s.cch.main = []) ∧ (s.red.journal = []) : Prop)) ({ st 3 [(CCH_GEOM, 1)] with cch := { fills := [{ vol := 7, stripe := 5, kind := 0, owner := 9, want := 0x8001, sectors := [(0, 11), (15, 22)] }] } }) (7) (5) ({ vol := 7, stripe := 5, kind := 0, owner := 9, want := 0x8001, sectors := [(0, 11), (15, 22)] })) ∧
    ((fun (s : State) (vol : Fin 4096) (stripe : Nat) (f : Fill) => ((s.powered = true) ∧ (s.cch.fills = [f]) ∧ (f.vol = vol.val) ∧ (f.stripe = stripe) ∧ (f.kind = 0) ∧ (f.cancelled = true) ∧ (f.complete = true) : Prop)) ({ st 3 [(CCH_GEOM, 1)] with cch := { fills := [{ vol := 7, stripe := 5, kind := 0, owner := 9, want := 0x8001, sectors := [(0, 11), (15, 22)], cancelled := true }] } }) (7) (5) ({ vol := 7, stripe := 5, kind := 0, owner := 9, want := 0x8001, sectors := [(0, 11), (15, 22)], cancelled := true })) ∧
    ((fun (s : State) (vol : Fin 4096) (stripe : Nat) (f : Fill) => ((s.powered = true) ∧ (s.cch.fills = [f]) ∧ (f.vol = vol.val) ∧ (f.stripe = stripe) ∧ (f.kind = 1) ∧ (f.cancelled = false) ∧ (f.stale = false) ∧ (f.admitted = true) ∧ (f.complete = true) ∧ (f.sectors ≠ []) ∧ (s.cchSets ≠ 0) ∧ (s.cch.side = []) : Prop)) ({ st 3 [(CCH_GEOM, 1)] with cch := { order := 8, fills := [{ vol := 4095, stripe := 5, kind := 1, want := 0x8001, sectors := [(0, 11), (15, 22)] }] } }) (4095) (5) ({ vol := 4095, stripe := 5, kind := 1, want := 0x8001, sectors := [(0, 11), (15, 22)] })) ∧
    ((fun (s : State) (vol : Fin 4096) (stripe : Nat) (f : Fill) => ((s.powered = true) ∧ (s.cch.fills = [f]) ∧ (f.vol = vol.val) ∧ (f.stripe = stripe) ∧ (f.kind = 1) ∧ (f.cancelled = false) ∧ (f.stale = true) ∧ (f.admitted = true) ∧ (f.complete = true) : Prop)) ({ st 3 [(CCH_GEOM, 1)] with cch := { fills := [{ vol := 0, stripe := 5, kind := 1, want := 0x8001, sectors := [(0, 11), (15, 22)], stale := true }] } }) (0) (5) ({ vol := 0, stripe := 5, kind := 1, want := 0x8001, sectors := [(0, 11), (15, 22)], stale := true })) ∧
    ((fun (s : State) (req : Requester) (_id : Fin 256) (n : Nat) => ((s.Admits req CCH_MNT_CMD) ∧ (s.serving = true) ∧ (s.cch.mnt = []) ∧ (s.cch.done = []) ∧ (s.flag CCH_MNT_ARG0_ALL = false) ∧ (s.fld CCH_MNT_ARG2_COUNT = n) ∧ (n ≠ 0) ∧ ((tget? s.red.vols (s.fld CCH_MNT_ARG0_VOLUME)).isSome = true) : Prop)) ({ st 3 [(CCH_GEOM, 1), (CCH_MNT_ARG0, 7), (CCH_MNT_ARG1, 5), (CCH_MNT_ARG2, 1)] with red := { vols := [(7, { set := 3, maxSlabs := 1 })] }, cch := { main := [(3, { vol := 7, stripe := 5, lock := true, sectors := [(0, 1)] }), (4, { vol := 7, stripe := 6, sectors := [(0, 1)] })], evb := [{ vol := 7, stripe := 5 }], side := [{ vol := 7, stripe := 4 }], fills := [{ vol := 7, stripe := 5, kind := 0, want := 1 }] } }) (.mc 2) (0x21) (1)) ∧
    ((fun (s : State) (req : Requester) (_id : Fin 256) => ((s.Admits req CCH_MNT_CMD) ∧ (s.serving = true) ∧ (s.cch.mnt = []) ∧ (s.cch.done = []) ∧ (s.flag CCH_MNT_ARG0_ALL = true) : Prop)) ({ st 3 [(CCH_GEOM, 1), (CCH_MNT_ARG0, 0x1000)] with cch := { main := [(3, { vol := 7, stripe := 5, lock := true, sectors := [(0, 1)] }), (4, { vol := 7, stripe := 6, sectors := [(0, 1)] })], evb := [{ vol := 7, stripe := 5 }], side := [{ vol := 7, stripe := 4 }] } }) (.mc 2) (255)) ∧
    ((fun (s : State) (req : Requester) (_respect : Bool) (_id : Fin 256) => ((s.Admits req CCH_MNT_CMD) ∧ (s.serving = true) ∧ (s.cch.mnt = []) ∧ (s.cch.done = []) ∧ (s.flag CCH_MNT_ARG0_ALL = true) ∧ (s.red.journal.any (fun r => !r.dirty.isEmpty) = true) : Prop)) ({ st 3 [(CCH_GEOM, 1), (CCH_MNT_ARG0, 0x1007)] with red := { journal := [writeRec] }, cch := { main := [(3, { vol := 7, stripe := 5, dirty := 1, sectors := [(0, 1)] })] } }) (.mc 2) (true) (255)) ∧
    ((fun (s : State) (req : Requester) (_respect : Bool) (_id : Fin 256) => ((s.Admits req CCH_MNT_CMD) ∧ (s.serving = true) ∧ (s.cch.mnt = []) ∧ (s.cch.done = []) ∧ (s.flag CCH_MNT_ARG0_ALL = true) ∧ (s.red.journal = []) : Prop)) ({ st 3 [(CCH_GEOM, 1), (CCH_MNT_ARG0, 0x1007)] with cch := { main := [(3, { vol := 7, stripe := 5, dirty := 1, sectors := [(0, 1)] })] } }) (.mc 2) (true) (255)) ∧
    ((fun (s : State) (req : Requester) (_respect : Bool) (_id : Fin 256) (want : Nat) => ((s.Admits req CCH_MNT_CMD) ∧ (s.serving = true) ∧ (s.cch.mnt = []) ∧ (s.cch.done = []) ∧ (s.cch.fills = []) ∧ (s.flag CCH_MNT_ARG0_ALL = false) ∧ (s.fld CCH_MNT_ARG2_COUNT = 1) ∧ (s.fld CCH_MNT_ARG1_START < s.volBlocks (s.fld CCH_MNT_ARG0_VOLUME) / 16) ∧ ((tget? s.red.vols (s.fld CCH_MNT_ARG0_VOLUME)).isSome = true) ∧ (s.mntWant (s.fld CCH_MNT_ARG0_VOLUME) (s.fld CCH_MNT_ARG1_START) = some want) ∧ (want ≠ 0) : Prop)) ({ redSt mirSet [] [(CCH_GEOM, 1), (CCH_MNT_ARG0, 7), (CCH_MNT_ARG1, 5), (CCH_MNT_ARG2, 1)] with cch := {} }) (.mc 2) (true) (255) (0xFFFF)) ∧
    ((fun (s : State) (req : Requester) (_respect : Bool) (_id : Fin 256) (k : Nat) (l : Line) => ((s.Admits req CCH_MNT_CMD) ∧ (s.serving = true) ∧ (s.cch.mnt = []) ∧ (s.cch.done = []) ∧ (s.cch.fills = []) ∧ (s.flag CCH_MNT_ARG0_ALL = false) ∧ (s.fld CCH_MNT_ARG2_COUNT = 1) ∧ (s.fld CCH_MNT_ARG1_START < s.volBlocks (s.fld CCH_MNT_ARG0_VOLUME) / 16) ∧ ((tget? s.red.vols (s.fld CCH_MNT_ARG0_VOLUME)).isSome = true) ∧ (s.mntWant (s.fld CCH_MNT_ARG0_VOLUME) (s.fld CCH_MNT_ARG1_START) = some 0) ∧ (s.mainLine (s.fld CCH_MNT_ARG0_VOLUME) (s.fld CCH_MNT_ARG1_START) = some (k, l)) ∧ (l.lock = false) ∧ ((s.cch.main.filter (fun e => e.1 / 16 == k / 16 && e.2.lock)).length < s.fld CCH_CTL_LOCK_WAYS) : Prop)) ({ redSt mirSet [] [(CCH_GEOM, 1), (CCH_MNT_ARG0, 7), (CCH_MNT_ARG1, 5), (CCH_MNT_ARG2, 1)] with cch := { main := [(3, { vol := 7, stripe := 5, ptag := linePtag 7 5, sectors := (List.range 16).map (fun k => (k, 1)) })] } }) (.mc 2) (true) (255) (3) ({ vol := 7, stripe := 5, ptag := linePtag 7 5, sectors := (List.range 16).map (fun k => (k, 1)) })) ∧
    ((fun (s : State) (req : Requester) (_respect : Bool) (_id : Fin 256) => ((s.Admits req CCH_MNT_CMD) ∧ (s.serving = true) ∧ (s.cch.mnt = []) ∧ (s.cch.done = []) ∧ (s.flag CCH_MNT_ARG0_ALL = true) : Prop)) ({ st 3 [(CCH_GEOM, 1), (CCH_MNT_ARG0, 0x1007)] with cch := { main := [(3, { vol := 7, stripe := 5, lock := true, sectors := [(0, 1)] })] } }) (.mc 3) (true) (0)) ∧
    ((fun (s : State) (req : Requester) (_respect : Bool) (_id : Fin 256) => ((s.mode = 7) ∧ (s.reachable req = true) ∧ (2 ≤ s.classOf req) : Prop)) ({ st 7 [] with cch := { done := [(9, 0, 5, 6, 7)] } }) (.mc 3) (true) (0)) ∧
    ((fun (s : State) (req : Requester) (id st lines locks skip : Nat) (rest : List (Nat × Nat × Nat × Nat × Nat)) => ((s.readOk req CCH_MNT_DONE0 = true) ∧ (s.mode ≠ 7) ∧ (s.cch.done = (id, st, lines, locks, skip) :: rest) : Prop)) ({ st 3 [(CCH_MNT_DONE0, 0x80000009)] with cch := { done := [(9, 0, 5, 6, 0x7FFFF), (10, 1, 0, 0, 0)] } }) (.mc 3) (9) (0) (5) (6) (0x7FFFF) ([(10, 1, 0, 0, 0)])) ∧
    ((fun (s : State) (req : Requester) => ((s.Admits req CCH_CTL) : Prop)) ({ st 3 [(CCH_GEOM, 1)] with cch := { main := [(3, { vol := 7, stripe := 5, lock := true, sectors := [(0, 1)] })], evb := [{ vol := 7, stripe := 5 }], side := [{ vol := 7, stripe := 4 }], fills := [{ vol := 7, stripe := 5, kind := 0, want := 1 }] } }) (.pf0)) := by
  refine ⟨?_, ?_, ?_, ?_, ?_, ?_, ?_, ?_, ?_, ?_, ?_, ?_, ?_, ?_⟩ <;> decide

set_option maxRecDepth 100000 in
/-- The hypotheses of MemoryErrors, clause by clause, hold somewhere. -/
theorem witness_MemoryErrors :
    ((fun (s : State) (_chan : Fin 12) (_ce : Fin 1025) => ((s.serving = true) ∧ (s.running = true) ∧ (s.fld DMC_SCRUB_HOURS ≠ 0) ∧ (s.backOk = true) : Prop)) ({ st 3 [] with gov := { chip := 10 ^ 9 } }) (11) (1024)) ∧
    ((fun (s : State) (_chan : Fin 12) (_ce : Fin 1025) (_ue : Option DramUe) => ((s.serving = true) ∧ (s.running = true) ∧ (s.fld DMC_SCRUB_HOURS ≠ 0) ∧ (s.backOk = false) ∧ (bitOf s.gov.bgDefer 5 = false) : Prop)) ({ st 3 [] with gov := { shared := [9] } }) (11) (1024) (none)) ∧
    ((fun (s : State) (_chan : Fin 12) (seq : Nat) (r : JRec) => ((s.running = true) ∧ (s.partnered = true ∨ r.dirty = [] ∨ (tget? s.red.vols r.vol).isNone = true) ∧ (s.red.journal.find? (fun x => x.seq == seq) = some r) : Prop)) ({ st 3 [] with red := { journal := [writeRec] } }) (11) (9) (writeRec)) ∧
    ((fun (s : State) (_chan : Fin 12) => ((s.running = true) ∧ (s.partnered = false) : Prop)) (st 3 []) (0)) ∧
    ((fun (s : State) (_chan : Fin 12) => ((s.running = true) ∧ (s.partnered = true) : Prop)) ({ st 3 [(SYS_MODE, 0x43)] with red := { journal := [writeRec] } }) (0)) ∧
    ((fun (s : State) (_chan : Fin 12) (v st : Nat) => ((s.running = true) ∧ ((s.mainLine v st).isSome = true) : Prop)) ({ st 3 [(CCH_GEOM, 1)] with cch := { main := [(3, { vol := 7, stripe := 5, ptag := linePtag 7 5, lock := true, sectors := [(0, 1)] })] } }) (0) (7) (5)) ∧
    ((fun (s : State) (h : Nat) (c : Cmd) (qi : Nat) (q : Queue) (addr len : Nat) => ((s.running = true) ∧ (s.cmd? h = some c) ∧ (c.kind.isWrite = true) ∧ (c.arrived = true) ∧ (c.credit ≠ 0) ∧ (c.cipher = false) ∧ (c.queue = some qi) ∧ (s.queue? qi = some q) ∧ (q.type = 1) ∧ (c.host = [(addr, len)]) ∧ (((s.qp q.qpn).state = 2 ∨ (s.qp q.qpn).state = 3)) : Prop)) ({ st 3 [] with rdm := { qps := [(6, { state := 3 })] }, cmdq := { queues := [(7, { type := 1, assoc := 0, qid := 3, entriesM1 := 31, qpn := 6 })], cmds := [(9, { kind := .write, queue := some 7, assoc := 0, vol := 7, ranges := [(0, 3)], stamp := 1, port := 3, state := .admitted, host := [(4096, 12288)], rkey := 99, credit := 3, arrived := true, data := 5 })] } }) (9) ({ kind := .write, queue := some 7, assoc := 0, vol := 7, ranges := [(0, 3)], stamp := 1, port := 3, state := .admitted, host := [(4096, 12288)], rkey := 99, credit := 3, arrived := true, data := 5 }) (7) ({ type := 1, assoc := 0, qid := 3, entriesM1 := 31, qpn := 6 }) (4096) (12288)) ∧
    ((fun (s : State) (qpn : Fin 16384) (psn : Nat) => ((s.running = true) ∧ ((s.qp qpn).outst.any (fun o => decide ((psn + 2 ^ 24 - o.first) % 2 ^ 24 < o.count)) = true) ∧ (s.assoc? (s.qp qpn).assoc = none) : Prop)) ({ st 3 [] with rdm := { qps := [(6, { state := 3, outst := [{ first := 0xFFFFFE, count := 4, msg := ⟨.read (.writeData 9) 99 4096, 12288⟩ }] })] } }) (6) (1)) := by
  refine ⟨?_, ?_, ?_, ?_, ?_, ?_, ?_, ?_⟩ <;> decide

set_option maxRecDepth 100000 in
/-- The hypotheses of Cipher, clause by clause, hold somewhere. -/
theorem witness_Cipher :
    ((fun (s : State) (h : Nat) (c : Cmd) (slot p : Nat) => ((s.serving = true) ∧ (s.canAct h = true) ∧ (s.cmd? h = some c) ∧ (c.kind = .write) ∧ (c.state = .admitted) ∧ (c.arrived = true) ∧ (c.cipher = false) ∧ (slot = s.fld (CIP_VOL_KEY_SLOT c.vol)) ∧ (s.keyRefusal c.vol = .none) ∧ (s.volXts c.vol = false) ∧ ((s.slot slot).ctr + c.blocks.length ≤ s.cipE) ∧ ((s.slot slot).ctr + c.blocks.length ≤ (s.slot slot).hwm) ∧ (s.choosePipe = some p) ∧ (s.mirroring = false) : Prop)) ({ st 3 [(CIP_KS_STAT 4095, 1), (CIP_VOL_KEY 7, 0x1FFF)] with cmdq := { cmds := [(9, { kind := .write, assoc := 0, vol := 7, ranges := [(0, 3)], stamp := 1, port := 3, state := .admitted, arrived := true, credit := 3 })] }, eng := { engines := [(255, { ctxs := [(9, false)] })] }, cip := { ptr := 31, slots := [(4095, { ctr := 5, hwm := 8 })] } }) (9) ({ kind := .write, assoc := 0, vol := 7, ranges := [(0, 3)], stamp := 1, port := 3, state := .admitted, arrived := true, credit := 3 }) (4095) (31)) ∧
    ((fun (s : State) (h : Nat) (c : Cmd) (slot : Nat) => ((s.serving = true) ∧ (s.canAct h = true) ∧ (s.cmd? h = some c) ∧ (c.kind = .write) ∧ (c.state = .admitted) ∧ (c.arrived = true) ∧ (c.cipher = false) ∧ (c.ctrWait = false) ∧ (slot = s.fld (CIP_VOL_KEY_SLOT c.vol)) ∧ (s.keyRefusal c.vol = .none) ∧ (s.volXts c.vol = false) ∧ ((s.slot slot).ctr + c.blocks.length ≤ s.cipE) ∧ ((s.slot slot).hwm < (s.slot slot).ctr + c.blocks.length) : Prop)) ({ st 3 [(CIP_KS_STAT 4095, 1), (CIP_VOL_KEY 7, 0x1FFF)] with cmdq := { cmds := [(9, { kind := .write, assoc := 0, vol := 7, ranges := [(0, 3)], stamp := 1, port := 3, state := .admitted, arrived := true, credit := 3 })] }, eng := { engines := [(255, { ctxs := [(9, false)] })] }, cip := { ptr := 31, slots := [(4095, { ctr := 5, hwm := 7 })] } }) (9) ({ kind := .write, assoc := 0, vol := 7, ranges := [(0, 3)], stamp := 1, port := 3, state := .admitted, arrived := true, credit := 3 }) (4095)) ∧
    ((fun (s : State) (h : Nat) (c : Cmd) (x : Piece) (rest : List Piece) (p : Nat) => ((s.serving = true) ∧ (s.canAct h = true) ∧ (s.cmd? h = some c) ∧ (c.kind = .read) ∧ (c.state = .running) ∧ (c.cipher = false) ∧ (c.pieces.any (fun y => y.stored.isNone && y.src == .member) = false) ∧ (s.keyRun c = x :: rest) ∧ ((x :: rest).any (fun y => s.openPiece c.vol y == .absent) = false) ∧ (s.choosePipe = some p) : Prop)) ({ redSt mirSet [] [(CIP_KS_STAT 5, 5), (CIP_VOL_KEY 7, 0x1005)] with cmdq := { cmds := [(9, { kind := .read, assoc := 0, vol := 7, ranges := [(80, 2)], stamp := 1, port := 3, state := .running, pieces := [{ block := 80, src := .cache, stored := some 5 }, { block := 81, src := .cache, stored := some 6 }] })] }, eng := { engines := [(255, { ctxs := [(9, false)] })] }, cip := { queues := [(0, [{ owner := 1, slot := 5, enc := true, xts := true, blocks := [1] }])] } }) (9) ({ kind := .read, assoc := 0, vol := 7, ranges := [(80, 2)], stamp := 1, port := 3, state := .running, pieces := [{ block := 80, src := .cache, stored := some 5 }, { block := 81, src := .cache, stored := some 6 }] }) ({ block := 80, src := .cache, stored := some 5 }) ([{ block := 81, src := .cache, stored := some 6 }]) (1)) ∧
    ((fun (s : State) (_n : Fin 4) (slot : Fin 4096) (bytes p : Nat) => ((s.powered = true) ∧ (512 ≤ bytes) ∧ (bytes ≤ 2 ^ 20) ∧ (s.fld (CIP_KS_STAT_STATE slot) = 1) ∧ (s.fld (CIP_KS_STAT_MODE slot) = 0) ∧ ((s.slot slot).ctr + 1 ≤ s.cipE) ∧ ((s.slot slot).ctr + 1 ≤ (s.slot slot).hwm) ∧ (s.choosePipe = some p) : Prop)) ({ st 3 [(CIP_KS_STAT 4095, 1)] with cip := { ptr := 31, slots := [(4095, { ctr := 5, hwm := 8 })] } }) (3) (4095) (1048576) (31)) ∧
    ((fun (s : State) (_n : Fin 4) (_slot : Fin 4096) (_enc xts : Bool) (bytes : Nat) => ((s.powered = true) ∧ ((bytes < 512 ∨ (if xts then 4096 else 2 ^ 20) < bytes)) : Prop)) (st 3 []) (3) (4095) (false) (true) (4097)) ∧
    ((fun (s : State) (pipe : Fin 32) (q : CipReq) (c : Cmd) (b b2 : Nat) (bs : List Nat) (x y : Piece) => ((s.powered = true) ∧ (s.pipe pipe = [q]) ∧ (q.enc = false) ∧ (q.owner < 2 ^ 32) ∧ (q.blocks = b :: b2 :: bs) ∧ (s.cmd? q.owner = some c) ∧ (c.cipher = true) ∧ (c.pieces = [x, y]) ∧ (x.block = b) ∧ (y.block ≠ b) ∧ (x.recon = false) ∧ (y.plain = none) : Prop)) ({ redSt mirSet [] [(CIP_KS_STAT 5, 5), (CIP_VOL_KEY 7, 0x1005)] with cmdq := { cmds := [(9, { kind := .read, assoc := 0, vol := 7, ranges := [(80, 2)], stamp := 1, port := 3, state := .running, cipher := true, pieces := [{ block := 80, src := .cache, stored := some 5 }, { block := 81, src := .cache, stored := some 6 }] })] }, cip := { queues := [(31, [{ owner := 9, slot := 5, enc := false, xts := true, blocks := [80, 81] }])] } }) (31) ({ owner := 9, slot := 5, enc := false, xts := true, blocks := [80, 81] }) ({ kind := .read, assoc := 0, vol := 7, ranges := [(80, 2)], stamp := 1, port := 3, state := .running, cipher := true, pieces := [{ block := 80, src := .cache, stored := some 5 }, { block := 81, src := .cache, stored := some 6 }] }) (80) (81) ([]) ({ block := 80, src := .cache, stored := some 5 }) ({ block := 81, src := .cache, stored := some 6 })) ∧
    ((fun (s : State) (pipe : Fin 32) (q : CipReq) => ((s.powered = true) ∧ (s.pipe pipe = [q]) ∧ (q.enc = false) ∧ (2 ^ 32 ≤ q.owner) ∧ (q.blocks.length = 1) : Prop)) ({ st 3 [] with cip := { queues := [(31, [{ owner := 2 ^ 32 + 3, slot := 5, enc := false, xts := false, blocks := [0] }])] } }) (31) ({ owner := 2 ^ 32 + 3, slot := 5, enc := false, xts := false, blocks := [0] })) ∧
    ((fun (s : State) (pipe : Fin 32) (_partner : Option Nat) (q : CipReq) (c : Cmd) (x : Piece) (seq : Nat) (r : JRec) => ((s.powered = true) ∧ (s.partnered = false) ∧ (s.pipe pipe = [q]) ∧ (q.enc = false) ∧ (q.blocks = [x.block]) ∧ (s.cmd? q.owner = some c) ∧ (c.pieces = [x]) ∧ (x.src = .journal seq) ∧ (s.openPiece c.vol x = .fail) ∧ (s.red.journal.find? (fun y => y.seq == seq) = some r) ∧ (r.dirty = []) ∧ (c.kind = .read) ∧ (c.queue = none) : Prop)) ({ st 3 [(CIP_KS_STAT 5, 1)] with red := { journal := [{ writeRec with dirty := [] }] }, cmdq := { cmds := [(9, { kind := .read, assoc := 0, vol := 7, ranges := [(80, 1)], stamp := 1, port := 3, state := .running, cipher := true, pieces := [{ block := 80, src := .journal 9, stored := some (5 * 2 ^ (32768 + 224)) }] })] }, cip := { queues := [(31, [{ owner := 9, slot := 5, enc := false, xts := false, blocks := [80] }])] } }) (31) (none) ({ owner := 9, slot := 5, enc := false, xts := false, blocks := [80] }) ({ kind := .read, assoc := 0, vol := 7, ranges := [(80, 1)], stamp := 1, port := 3, state := .running, cipher := true, pieces := [{ block := 80, src := .journal 9, stored := some (5 * 2 ^ (32768 + 224)) }] }) ({ block := 80, src := .journal 9, stored := some (5 * 2 ^ (32768 + 224)) }) (9) ({ writeRec with dirty := [] })) ∧
    ((fun (s : State) (pipe : Fin 32) (_w : Nat) (q : CipReq) (c : Cmd) (x : Piece) (r : JRec) => ((s.powered = true) ∧ (s.partnered = true) ∧ (s.pipe pipe = [q]) ∧ (q.enc = false) ∧ (q.blocks = [x.block]) ∧ (s.cmd? q.owner = some c) ∧ (c.pieces = [x]) ∧ (x.src = .journal r.seq) ∧ (s.openPiece c.vol x = .fail) ∧ (s.red.journal = [r]) : Prop)) ({ st 3 [(SYS_MODE, 0x43), (CIP_KS_STAT 5, 1)] with red := { journal := [writeRec] }, cmdq := { cmds := [(9, { kind := .read, assoc := 0, vol := 7, ranges := [(80, 1)], stamp := 1, port := 3, state := .running, cipher := true, pieces := [{ block := 80, src := .journal 9, stored := some (5 * 2 ^ (32768 + 224)) }] })] }, cip := { queues := [(31, [{ owner := 9, slot := 5, enc := false, xts := false, blocks := [80] }])] } }) (31) (4711) ({ owner := 9, slot := 5, enc := false, xts := false, blocks := [80] }) ({ kind := .read, assoc := 0, vol := 7, ranges := [(80, 1)], stamp := 1, port := 3, state := .running, cipher := true, pieces := [{ block := 80, src := .journal 9, stored := some (5 * 2 ^ (32768 + 224)) }] }) ({ block := 80, src := .journal 9, stored := some (5 * 2 ^ (32768 + 224)) }) (writeRec)) ∧
    ((fun (s : State) (req : Requester) => ((s.Admits req CIP_CTL) ∧ (s.cip.kat = []) : Prop)) ({ st 3 [(CIP_STAT, 0x40)] with cip := { kat := [] } }) (.mc 3)) ∧
    ((fun (s : State) (pipe : Fin 32) (rest : List Nat) => ((s.powered = true) ∧ (s.cip.kat = pipe.val :: rest) ∧ (s.pipe pipe = []) : Prop)) ({ st 3 [] with cip := { kat := [31] } }) (31) ([])) ∧
    ((fun (s : State) (pipe : Fin 32) (rest : List Nat) => ((s.powered = true) ∧ (s.cip.kat = pipe.val :: rest) ∧ (s.pipe pipe = []) : Prop)) ({ st 3 [] with cip := { kat := [31, 3] } }) (31) ([3])) ∧
    ((fun (s : State) (n : Fin 4) (slot : Fin 4096) => ((s.Admits (.mc n) CIP_HWM_ACK) ∧ (s.flag (CIP_KS_STAT_REQ slot) = true) ∧ (s.mirroring = false) : Prop)) ({ st 3 [(CIP_KS_STAT 4095, 0x11)] with cip := { slots := [(4095, { ctr := 2 ^ 47, hwm := 2 ^ 48 - 9 })], hwmReq := [] } }) (3) (4095)) ∧
    ((fun (s : State) (req : Requester) (slot : Fin 4096) => ((s.Admits req CIP_HWM_ACK) ∧ ((s.flag (CIP_KS_STAT_REQ slot) = false ∨ ∀ n, req ≠ .mc n)) : Prop)) (st 3 []) (.pf0) (4095)) ∧
    ((fun (s : State) (slot : Fin 4096) => ((s.powered = true) ∧ (s.fld (CIP_KS_STAT_STATE slot) = 3) ∧ (s.slotQueued slot = false) ∧ (s.mirroring = false) : Prop)) ({ st 3 [(CIP_KS_STAT 4095, 0xABCD0003)] with cip := { hwmReq := [4095, 7], slots := [(4095, { key := 99, salt := 7, ctr := 5, hwm := 8 })] } }) (4095)) ∧
    ((fun (s : State) (req : Requester) (_slot : Fin 4096) => ((s.Admits req CIP_KS_RDCMD) : Prop)) ({ st 3 [] with cip := { slots := [(4095, { key := 99, salt := 2 ^ 32 - 1, ctr := 2 ^ 63 + 5, hwm := 2 ^ 64 - 1 })] } }) (.uart) (4095)) := by
  refine ⟨?_, ?_, ?_, ?_, ?_, ?_, ?_, ?_, ?_, ?_, ?_, ?_, ?_, ?_, ?_, ?_⟩ <;> decide

set_option maxRecDepth 100000 in
/-- The hypotheses of NarzanLink, clause by clause, hold somewhere. -/
theorem witness_NarzanLink :
    ((fun (s : State) (group : Fin 4) (codes : List (Fin 6)) => ((s.running = true) ∧ (s.mode ≠ 2) ∧ (s.flag NZL_CTL_EN = true) ∧ ((s.grp group).training = true) ∧ (s.grpUp group = false) ∧ ((s.grp group).queue = []) ∧ ((∀ c ∈ codes, c = 0 ∨ c = 5)) ∧ (s.liveGrps = []) : Prop)) ({ st 3 [] with clock := { nowNs := 77 }, nzl := { grps := [(3, { training := true })], applied := [1, 2] } }) (3) ([5, 5, 0, 5])) ∧
    ((fun (s : State) (group : Fin 4) (codes : List (Fin 6)) => ((s.running = true) ∧ (s.mode = 2) ∧ (s.fld NZL_STAT_HS = 0) ∧ (s.flag NZL_CTL_EN = true) ∧ ((s.grp group).training = true) ∧ (s.grpUp group = false) ∧ ((s.grp group).queue = []) ∧ ((∀ c ∈ codes, c = 0 ∨ c = 5)) ∧ (s.liveGrps = []) : Prop)) ({ st 2 [] with clock := { nowNs := 77 }, sys := { imgVersion := 9 }, nzl := { grps := [(0, { training := true })] } }) (0) ([])) ∧
    ((fun (s : State) (group : Fin 4) (_codes : List (Fin 6)) => ((s.running = true) ∧ (s.flag NZL_CTL_EN = true) ∧ ((s.grp group).training = false) ∧ (s.grpUp group = false) : Prop)) ({ st 3 [] with nzl := { grps := [(3, {})] } }) (3) ([5, 5, 1, 5])) ∧
    ((fun (s : State) (group : Fin 4) => ((s.running = true) ∧ ((s.grp group).training = true) : Prop)) ({ st 3 [] with nzl := { grps := [(3, { training := true, expect := 5 })] } }) (3)) ∧
    ((fun (s : State) (group : Fin 4) (h : Nat) => ((s.running = true) ∧ (s.grpUp group = true) ∧ (s.liveGrps.filter (fun g => g != group.val) = [h]) ∧ ((s.grp h).queue = []) ∧ (((s.grp group).kept ++ (s.grp group).queue).foldl (fun n m => n + m.frames) 0 ≤ (s.grp h).credit) : Prop)) ({ st 3 [(NZL_STAT, 0x19), (NZL_GRP_STAT 0, 0x4001FFFF)] with nzl := { grps := [(0, { next := 6, kept := [{ seq := 5, id := 44, tries := 3, body := .metaItems [.lockRelease 5] }], queue := [{ id := 45, body := .metaItems [.lockRelease 6] }] }), (3, { next := 8, kept := [{ seq := 7, id := 43, body := .handback }] })] } }) (0) (3)) ∧
    ((fun (s : State) (group : Fin 4) => ((s.running = true) ∧ (s.liveGrps = [group.val]) : Prop)) ({ st 3 [(NZL_STAT, 0x11)] with nzl := { grps := [(0, { next := 6, kept := [{ seq := 5, id := 44, tries := 3, body := .metaItems [.lockRelease 5] }] })] } }) (0)) ∧
    ((fun (s : State) (group : Fin 4) (_frames : Nat) => ((s.running = true) ∧ (s.grpUp group = true) ∧ ((s.grp group).skip = false) ∧ ((s.grp group).expect < 2 ^ 32) : Prop)) ({ st 3 [(NZL_STAT, 0x18)] with nzl := { grps := [(3, { expect := 5 })] } }) (3) (17)) ∧
    ((fun (s : State) (group : Fin 4) (m : NzlMsg) (r : JRec) (o n : Nat) => ((s.running = true) ∧ (s.grpUp group = true) ∧ (m.seq ≠ (s.grp group).expect) ∧ ((s.grp group).skip = true) ∧ (m.body = .mirror r o n) : Prop)) ({ st 6 [(NZL_STAT, 0x18)] with nzl := { grps := [(3, { expect := 5, skip := true })] } }) (3) ({ seq := 6, id := 44, frames := 17, body := .mirror writeRec 0 66624 }) (writeRec) (0) (66624)) ∧
    ((fun (s : State) (group : Fin 4) (m : NzlMsg) (r : JRec) (len : Nat) => ((s.RxReady group m) ∧ (s.mode = 6) ∧ (s.flag NZL_STAT_STALE = false) ∧ (m.body = .mirror r 0 len) ∧ (len = r.bytes) ∧ (tget? s.nzl.parts r.seq = none) ∧ ((∀ x ∈ s.red.journal, x.seq < r.seq ∧ (x.vol ≠ r.vol ∨ ∀ y ∈ x.dirty, y.1 + y.2 ≤ r.slba))) ∧ (s.red.journal.all (fun x => !(x.dirty.isEmpty && x.img.isEmpty)) = true) : Prop)) ({ st 6 [(NZL_STAT, 0x18)] with clock := { nowNs := 77 }, red := { journal := [{ writeRec with seq := 8, slba := 0, dirty := [(0, 16)] }], jseq := 9 }, nzl := { grps := [(3, { expect := 2 ^ 32 - 1, skip := true })] } }) (3) ({ seq := 2 ^ 32 - 1, id := 44, frames := 17, credit := 1041, body := .mirror zeroRec 0 64 }) (zeroRec) (64)) ∧
    ((fun (s : State) (group : Fin 4) (m : NzlMsg) (r : JRec) (o n : Nat) => ((s.running = true) ∧ (s.grpUp group = true) ∧ (m.seq = (s.grp group).expect) ∧ ((s.grp group).expect < 2 ^ 32) ∧ ((s.grp group).kept = []) ∧ ((s.grp group).queue = []) ∧ (s.nzl.stream = []) ∧ (s.nzl.applied.contains m.id = true) ∧ (m.body = .mirror r o n) : Prop)) ({ st 6 [(NZL_STAT, 0x18)] with nzl := { applied := [44], grps := [(3, { expect := 5 })] } }) (3) ({ seq := 5, id := 44, frames := 17, body := .mirror zeroRec 0 64 }) (zeroRec) (0) (64)) ∧
    ((fun (s : State) (group : Fin 4) (m : NzlMsg) (v n k st hwm rec : Nat) => ((s.RxReady group m) ∧ (s.mode = 6) ∧ (s.flag NZL_STAT_STALE = false) ∧ (v < 4096) ∧ (st ≠ 0) ∧ (m.body = .metaItems [.keyBind v n true, .keySlot k st hwm rec]) : Prop)) ({ st 6 [(NZL_STAT, 0x18)] with nzl := { grps := [(3, { expect := 5 })] } }) (3) ({ seq := 5, id := 44, frames := 1, body := .metaItems [.keyBind 4095 4094 true, .keySlot 17 1 8 9] }) (4095) (4094) (17) (1) (8) (9)) ∧
    ((fun (s : State) (group : Fin 4) (m : NzlMsg) (l : List NzlItem) (kind : Nat) => ((s.RxReady group m) ∧ (s.mode = 6) ∧ (s.flag NZL_STAT_STALE = false) ∧ (m.body = .metaItems (l ++ [.reserved kind])) : Prop)) ({ st 6 [(NZL_STAT, 0x18)] with nzl := { grps := [(3, { expect := 5 })] } }) (3) ({ seq := 5, id := 44, frames := 1, body := .metaItems [.intent 1 true 2 3 4 5 6, .reserved 9] }) ([.intent 1 true 2 3 4 5 6]) (9)) ∧
    ((fun (s : State) (group : Fin 4) (m : NzlMsg) (off : Nat) (val : Word) (img mp base jrn map kcv gen : Nat) => ((s.RxReady group m) ∧ (s.inService = false) ∧ (s.nzl.hsSent = true) ∧ (s.prot.gen ≤ gen) ∧ (m.body = .cfg [.reg off val, .handshake img mp base jrn map kcv gen]) : Prop)) ({ st 2 [(NZL_STAT, 0x18)] with nzl := { hsSent := true, grps := [(3, { expect := 5 })] } }) (3) ({ seq := 5, id := 44, frames := 1, body := .cfg [.reg 0x300000 7, .handshake 3 1 2 4 4 99 0] }) (0x300000) (7) (3) (1) (2) (4) (4) (99) (0)) ∧
    ((fun (s : State) (group : Fin 4) (m : NzlMsg) (rest : List NzlMsg) => ((s.running = true) ∧ (s.grpUp group = true) ∧ ((s.grp group).kept = m :: rest) ∧ (m.tries < 8) : Prop)) ({ st 3 [(NZL_STAT, 0x18)] with clock := { nowNs := 999 }, nzl := { grps := [(3, { next := 7, kept := [{ seq := 5, id := 44, tries := 7, body := .metaItems [.lockRelease 5] }, { seq := 6, id := 45, frames := 3, body := .handback }] })] } }) (3) ({ seq := 5, id := 44, tries := 7, body := .metaItems [.lockRelease 5] }) ([{ seq := 6, id := 45, frames := 3, body := .handback }])) ∧
    ((fun (s : State) (group : Fin 4) (m : NzlMsg) (rest : List NzlMsg) => ((s.running = true) ∧ (s.grpUp group = true) ∧ ((s.grp group).kept = m :: rest) ∧ (8 ≤ m.tries) : Prop)) ({ st 3 [(NZL_STAT, 0x18)] with clock := { nowNs := 999 }, nzl := { grps := [(3, { next := 7, kept := [{ seq := 5, id := 44, tries := 8, body := .metaItems [.lockRelease 5] }] })] } }) (3) ({ seq := 5, id := 44, tries := 8, body := .metaItems [.lockRelease 5] }) ([])) ∧
    ((fun (s : State) (group : Fin 4) => ((s.powered = true) ∧ (s.grpUp group = true) : Prop)) ({ st 6 [(NZL_STAT, 0x18), (NZL_CLAIM, 0xE03FF)] with sys := { imgVersion := 9 }, prot := { gen := 77 }, nzl := { grps := [(3, { next := 0, expect := 0, freed := 2 ^ 16 })] } }) (3)) ∧
    ((fun (s : State) (group : Fin 4) (m : NzlMsg) (epoch b v w : Nat) (x : Vol) => ((s.RxReady group m) ∧ (s.mode = 6) ∧ (s.flag NZL_STAT_STALE = false) ∧ (m.body = .snapArm epoch b [(v, w)]) ∧ (v ≠ w) ∧ (tget? s.red.vols v = some x) ∧ (s.MapsOk) ∧ (v < 4096) ∧ (w < 4096) ∧ (s.liveGrps = [group.val]) ∧ ((s.grp group).frames % 2 ^ 16 < m.credit) ∧ (m.credit < 2 ^ 16) : Prop)) ({ st 6 [(NZL_STAT, 0x38)] with red := { vols := [(7, { set := 3, maxSlabs := 1 }), (8, { set := 3, maxSlabs := 1 })] }, nzl := { grps := [(3, { expect := 5 })] } }) (3) ({ seq := 5, id := 44, frames := 1, credit := 1024, body := .snapArm 9 1234 [(7, 8)] }) (9) (1234) (7) (8) ({ set := 3, maxSlabs := 1 })) ∧
    ((fun (s : State) (group : Fin 4) (m : NzlMsg) (epoch b : Nat) => ((s.RxReady group m) ∧ (s.serving = true) ∧ (m.body = .armed epoch b) ∧ (s.eng.globalOp = 3) ∧ (s.eng.armSent = true) ∧ (s.fld ENG_EPOCH_EPOCH = epoch) ∧ (s.flag ENG_GLOBAL_STAT_ARMED = false) : Prop)) ({ st 3 [(NZL_STAT, 0x38), (ENG_EPOCH, 9)] with eng := { globalOp := 3, armSent := true }, nzl := { grps := [(3, { expect := 5 })] } }) (3) ({ seq := 5, id := 44, frames := 1, body := .armed 9 1234 }) (9) (1234)) ∧
    ((fun (s : State) (group : Fin 4) (m : NzlMsg) (epoch jseq : Nat) => ((s.RxReady group m) ∧ (s.mode = 6) ∧ (s.flag NZL_STAT_STALE = false) ∧ (m.body = .swapEnd epoch jseq) : Prop)) ({ st 6 [(NZL_STAT, 0x38)] with nzl := { grps := [(3, { expect := 5 })] } }) (3) ({ seq := 5, id := 44, frames := 1, body := .swapEnd 9 1234 }) (9) (1234)) := by
  refine ⟨?_, ?_, ?_, ?_, ?_, ?_, ?_, ?_, ?_, ?_, ?_, ?_, ?_, ?_, ?_, ?_, ?_, ?_, ?_⟩ <;> decide

set_option maxRecDepth 100000 in
/-- The hypotheses of PartnerLoss, clause by clause, hold somewhere. -/
theorem witness_PartnerLoss :
    ((fun (s : State) (group : Fin 4) (m : NzlMsg) (mode : Nat) (stale inStep resync hold : Bool) (img base gen : Nat) => ((s.running = true) ∧ (s.mode = 6) ∧ (s.grpUp group = true) ∧ ((s.grp group).kept = []) ∧ ((s.grp group).queue = []) ∧ (s.nzl.stream = []) ∧ (s.nzl.lost = false) ∧ (s.flag NZL_STAT_STALE = false) ∧ (3 ≤ mode % 8) ∧ (mode % 8 ≤ 6) ∧ (m.body = .heartbeat mode stale inStep resync hold img base gen false) : Prop)) ({ st 6 [(NZL_STAT, 0x28)] with clock := { nowNs := 77 }, nzl := { paired := true, grps := [(3, { expect := 5, limit := 3 })] } }) (3) ({ seq := 9, credit := 1041, body := .heartbeat 12 false true false true 513 7 99 false }) (12) (false) (true) (false) (true) (513) (7) (99)) ∧
    ((fun (s : State) (group : Fin 4) (m : NzlMsg) (mode : Nat) (stale inStep resync hold : Bool) (img base gen : Nat) => ((s.running = true) ∧ (s.mode = 6) ∧ (s.grpUp group = true) ∧ ((s.grp group).kept = []) ∧ ((s.grp group).queue = []) ∧ (s.nzl.stream = []) ∧ (s.nzl.paired = true) ∧ ((mode % 8 < 3 ∨ mode % 8 = 7)) ∧ (m.body = .heartbeat mode stale inStep resync hold img base gen false) : Prop)) ({ st 6 [(NZL_STAT, 0x28)] with nzl := { paired := true, grps := [(3, { expect := 5, limit := 3 })] } }) (3) ({ seq := 9, credit := 1041, body := .heartbeat 7 false true false true 513 7 99 false }) (7) (false) (true) (false) (true) (513) (7) (99)) ∧
    ((fun (s : State) (group : Fin 4) (m x y : NzlMsg) (mode : Nat) (stale inStep resync hold : Bool) (img base gen : Nat) => ((s.running = true) ∧ (s.mode = 6) ∧ (s.grpUp group = true) ∧ ((s.grp group).kept = [x, y]) ∧ ((s.grp group).queue = []) ∧ (s.nzl.stream = []) ∧ (s.nzl.lost = false) ∧ (s.flag NZL_STAT_STALE = false) ∧ (3 ≤ mode % 8) ∧ (mode % 8 ≤ 6) ∧ (x.seq = m.ack) ∧ (y.seq ≠ m.ack) ∧ (x.body.jseq = none) ∧ (m.body = .heartbeat mode stale inStep resync hold img base gen true) : Prop)) ({ st 6 [(NZL_STAT, 0x28)] with nzl := { grps := [(3, { next := 7, limit := 3, kept := [{ seq := 5, id := 44, body := .metaItems [.lockRelease 5] }, { seq := 6, id := 45, body := .metaItems [.lockRelease 6] }] })] } }) (3) ({ seq := 9, ack := 5, credit := 1041, body := .heartbeat 3 false true false true 513 7 99 true }) ({ seq := 5, id := 44, body := .metaItems [.lockRelease 5] }) ({ seq := 6, id := 45, body := .metaItems [.lockRelease 6] }) (3) (false) (true) (false) (true) (513) (7) (99)) ∧
    ((fun (s : State) (group : Fin 4) (m : NzlMsg) (loss : Nat) => ((s.RxReady group m) ∧ (s.mode = 6) ∧ (s.MapsOk) ∧ (m.body = .fence loss) : Prop)) ({ st 6 [(NZL_STAT, 0x28)] with red := { journal := [writeRec], vols := [(7, { set := 3, maxSlabs := 1 })] }, nzl := { paired := true, grps := [(3, { expect := 5 })] } }) (3) ({ seq := 5, id := 0, body := .fence 1 }) (1)) ∧
    ((fun (s : State) (group : Fin 4) (m : NzlMsg) (loss : Nat) => ((s.RxReady group m) ∧ (s.serving = true) ∧ (s.MapsOk) ∧ (m.body = .fence loss) : Prop)) ({ st 3 [(NZL_STAT, 0x28), (SYS_MODE, 0x43)] with red := { journal := [writeRec], vols := [(7, { set := 3, maxSlabs := 1 })] }, nzl := { paired := true, grps := [(3, { expect := 5 })] }, cmdq := { cmds := [(9, { kind := .write, assoc := 0, vol := 7, ranges := [(0, 3)], stamp := 1, port := 3, state := .running, mirror := some 8 })] } }) (3) ({ seq := 5, id := 0, body := .fence 1 }) (1)) ∧
    ((fun (s : State) (group : Fin 4) (m : NzlMsg) (loss : Nat) => ((s.RxReady group m) ∧ (s.mode = 2) ∧ (m.body = .fence loss) : Prop)) ({ st 2 [(NZL_STAT, 0x28)] with nzl := { grps := [(3, { expect := 5 })] } }) (3) ({ seq := 5, id := 0, body := .fence 1 }) (1)) ∧
    ((fun (s : State) => ((s.running = true) ∧ (s.serving = false) ∧ (s.nzl.paired = true) : Prop)) ({ st 6 [(NZL_STAT, 0x38)] with nzl := { paired := true, grps := [(3, { expect := 5 })] } })) ∧
    ((fun (s : State) => ((s.running = true) ∧ (s.serving = true) ∧ (s.partnered = true) ∧ (s.nzl.paired = true) ∧ (s.nzl.pause = .none) ∧ (s.nzl.grps.any (fun e => e.2.kept.any (fun m => m.body.isData)) = true) : Prop)) ({ st 3 [(SYS_MODE, 0x43), (NZL_STAT, 0x38)] with nzl := { paired := true, grps := [(3, { next := 6, kept := [{ seq := 5, id := 44, body := .metaItems [.lockRelease 5] }] })] } })) ∧
    ((fun (s : State) (req : Requester) => ((s.Admits req NZL_CTL) ∧ (s.mode = 6) ∧ (s.nzl.lost = false) ∧ ((∀ g ∈ s.liveGrps, (s.grp g).queue = [] ∧ (s.grp g).credit ≠ 0)) : Prop)) ({ st 6 [(NZL_STAT, 0x38)] with nzl := { paired := true, grps := [(3, { expect := 5 })] } }) (.mc 3)) ∧
    ((fun (s : State) => ((s.mode = 6) ∧ (s.sys.hold = .none) ∧ (s.nzl.lost = true) ∧ (s.nzl.won = false) ∧ (s.flag NZL_STAT_STALE = false) ∧ (s.MapsOk) : Prop)) ({ st 6 [] with red := { journal := [writeRec], vols := [(7, { set := 3, maxSlabs := 1 })] }, nzl := { lost := true, keys := [(5, (1, 2, 3))] } })) ∧
    ((fun (s : State) => ((s.serving = true) ∧ (s.sys.hold = .none) ∧ (s.flag NZL_STAT_LOSS_HOLD = true) ∧ (s.flag NZL_STAT_RESYNC = false) ∧ (keysRise s.cmdq.cmds = true) ∧ ((∀ e ∈ s.cmdq.cmds, e.2.mirror.isSome = true → e.1 < 65536)) : Prop)) ({ st 3 [(SYS_MODE, 0x43), (NZL_STAT, 0x200)] with cmdq := { cmds := [(9, { kind := .write, assoc := 0, vol := 7, ranges := [(0, 3)], stamp := 1, port := 3, state := .running, mirror := some 8 })] }, nzl := { grps := [(3, { next := 6, kept := [{ seq := 5, id := 44, body := .mirror writeRec 0 5 }] })] } })) ∧
    ((fun (s : State) (p : PeerHs) => ((s.nzl.peerHs = some p) ∧ (s.mode = 2) ∧ (s.sys.hold = .none) ∧ (s.fld NZL_STAT_HS ≤ 1) ∧ (p.jrn = s.fld DMC_CFG_JRN_GIB) ∧ (p.map = s.fld DMC_CFG_MAP_GIB) ∧ (p.kcv = s.fld CIP_KEK_KCV) ∧ (p.base ≠ s.fld NZL_CLAIM_BASE) ∧ (s.sys.imgMinPartner ≤ p.img) ∧ (p.minPartner ≤ s.sys.imgVersion) : Prop)) ({ st 2 [(NZL_STAT, 0x2018), (DMC_CFG, 0x40400), (NZL_CLAIM, 0x203FF)] with sys := { imgVersion := 9, imgMinPartner := 3 }, nzl := { peerHs := some ⟨3, 9, 1, 4, 4, 0, 0⟩, grps := [(3, {})] } }) (⟨3, 9, 1, 4, 4, 0, 0⟩)) ∧
    ((fun (s : State) (p : PeerHs) => ((s.nzl.peerHs = some p) ∧ (s.mode = 2) ∧ (s.sys.hold = .none) ∧ (s.fld NZL_STAT_HS ≤ 1) : Prop)) ({ st 2 [(NZL_STAT, 0x2018), (DMC_CFG, 0x40400), (NZL_CLAIM, 0x203FF)] with sys := { imgVersion := 9, imgMinPartner := 3 }, nzl := { peerHs := some ⟨3, 9, 2, 4, 4, 0, 0⟩, grps := [(3, {})] } }) (⟨3, 9, 2, 4, 4, 0, 0⟩)) ∧
    ((fun (s : State) => ((s.nzl.peerHs = none) ∧ (s.mode = 2) ∧ (s.sys.hold = .none) ∧ (s.fld NZL_STAT_HS ≤ 1) : Prop)) (st 2 [(NZL_STAT, 0x2000)])) ∧
    ((fun (s : State) => ((s.serving = true) ∧ (s.sys.hold = .none) ∧ (s.flag NZL_STAT_RESYNC = true) ∧ (s.nzl.stream = []) ∧ (s.nzl.grps = [(3, {})]) ∧ (s.liveGrps = [3]) : Prop)) ({ st 3 [(NZL_STAT, 0x118)] with nzl := { grps := [(3, {})] } })) ∧
    ((fun (s : State) => ((s.mode = 6) ∧ (s.sys.hold = .none) ∧ (s.flag NZL_STAT_RESYNC = true) ∧ (s.flag NZL_STAT_STALE = true) ∧ (s.nzl.peerResync = false) : Prop)) ({ st 6 [(NZL_STAT, 0x158)] with nzl := { lost := true, grps := [(3, {})] } })) := by
  refine ⟨?_, ?_, ?_, ?_, ?_, ?_, ?_, ?_, ?_, ?_, ?_, ?_, ?_, ?_, ?_, ?_⟩ <;> decide

set_option maxRecDepth 100000 in
/-- The hypotheses of ClaimsTakeoverSwaps, clause by clause, hold somewhere. -/
theorem witness_ClaimsTakeoverSwaps :
    ((fun (s : State) (score base : Nat) => ((s.nzl.round = none) ∧ (s.running = true) ∧ (s.serving = true) ∧ (s.flag NZL_STAT_STALE = false) ∧ (s.nzl.hold0 = false) ∧ (score = s.fld NZL_CLAIM_SCORE) ∧ (score ≠ 0) ∧ (base = s.fld NZL_CLAIM_BASE) ∧ (s.flag SLP_STAT_HELD = false) ∧ (s.slp.vhvLow = false) ∧ (s.nzl.pause = .none) ∧ (s.nzl.leaving = false) : Prop)) (st 3 [(NZL_CLAIM, 0x5FFAA)]) (0x3AA) (5)) ∧
    ((fun (s : State) => ((s.nzl.round = none) ∧ (s.running = true) ∧ ((s.flag NZL_STAT_STALE = true ∨ s.fld NZL_CLAIM_SCORE = 0 ∨ s.mode = 2 ∧ s.fld SYS_CFG_STATUS ≠ 3 ∨ s.flag NZL_STAT_CLAIM_FAULT = true ∧ s.serving = false)) : Prop)) (st 6 [(NZL_STAT, 0x40)])) ∧
    ((fun (s : State) (win : Fin 65536) (_slots : Word) (_feeds : Fin 4) (c : Nat) => ((s.nzl.round = some c) ∧ (s.running = true) ∧ (s.serving = true) ∧ (s.nzl.pause = .none) ∧ (s.slp.vhvLow = false) ∧ (s.nzl.stage = .drive) ∧ (c = win.val) ∧ (c ≠ 0) ∧ (s.flag NZL_STAT_CLAIM_FAULT = false) ∧ (s.liveGrps = []) : Prop)) ({ st 3 [(SYS_MODE, 0x43), (NZL_STAT, 0x30)] with nzl := { round := some 0xFFF2, stage := .drive } }) (0xFFF2) (7) (3) (0xFFF2)) ∧
    ((fun (s : State) (win : Fin 65536) (_slots : Word) (_feeds : Fin 4) (c : Nat) => ((s.nzl.round = some c) ∧ (s.running = true) ∧ (s.mode = 6) ∧ (s.flag NZL_STAT_STALE = false) ∧ (s.nzl.lost = true) ∧ (s.slp.vhvLow = false) ∧ (s.nzl.stage = .watch) ∧ (c = win.val) ∧ (c ≠ 0) ∧ (s.flag NZL_STAT_CLAIM_FAULT = false) ∧ (s.flag SYS_MODE_DEGRADED = false) ∧ (s.flag SYS_MODE_CLAMP = false) ∧ (s.red.sets = []) ∧ (s.nzl.keys = []) ∧ (s.liveGrps = []) : Prop)) ({ st 6 [(NZL_STAT, 0x10)] with nzl := { round := some 0x7FF1, stage := .watch, lost := true } }) (0x7FF1) (0x80000001) (1) (0x7FF1)) ∧
    ((fun (s : State) (win : Fin 65536) (_slots : Word) (_feeds : Fin 4) (c : Nat) => ((s.nzl.round = some c) ∧ (s.running = true) ∧ (s.mode = 6) ∧ (s.flag NZL_STAT_STALE = false) ∧ (s.nzl.lost = true) ∧ (s.slp.vhvLow = false) ∧ (claimWins c win.val = true) ∧ (s.nzl.keys = []) ∧ (s.MapsOk) ∧ ((∀ m ∈ s.setMembers, m < 128)) ∧ (s.liveGrps = []) : Prop)) ({ redSt mirSet [writeRec] [(SYS_MODE, 6), (NZL_STAT, 0x10)] with nzl := { round := some 0x7FF1, stage := .watch, lost := true } }) (0x7FF1) (0x80000001) (1) (0x7FF1)) ∧
    ((fun (s : State) (win : Fin 65536) (_slots : Word) (_feeds : Fin 4) (c : Nat) => ((s.nzl.round = some c) ∧ (s.running = true) ∧ (s.mode = 6) ∧ (s.slp.vhvLow = false) ∧ (claimWins c win.val = false) ∧ (win.val ≠ 0) ∧ (s.flag NZL_STAT_CLAIM_FAULT = false) ∧ (s.liveGrps = []) : Prop)) ({ st 6 [(NZL_STAT, 0x10)] with nzl := { round := some 0x7FF1, stage := .watch } }) (0xFFF2) (0) (0) (0x7FF1)) ∧
    ((fun (s : State) (win : Fin 65536) (_slots : Word) (_feeds : Fin 4) (c : Nat) => ((s.nzl.round = some c) ∧ (s.slp.vhvLow = false) ∧ (s.sys.hold = .none) ∧ (s.nzl.stage = .drive) ∧ (win.val = 0) ∧ (s.flag NZL_STAT_LOSS_HOLD = false) : Prop)) ({ st 3 [(SYS_MODE, 0x43), (NZL_STAT, 0x10)] with nzl := { round := some 0x7FF1, stage := .drive } }) (0) (0) (0) (0x7FF1)) ∧
    ((fun (s : State) (win : Fin 65536) (_slots : Word) (_feeds : Fin 4) => ((s.nzl.round = some 0) ∧ (s.running = true) ∧ (s.serving = true) ∧ (s.nzl.pause = .ended) ∧ (s.nzl.handback = false) ∧ (s.slp.vhvLow = false) ∧ (win.val ≠ 0) ∧ (s.liveGrps = []) : Prop)) ({ st 3 [(SYS_MODE, 0x43), (NZL_STAT, 0x10)] with nzl := { round := some 0, stage := .drive, pause := .ended } }) (0x7FF1) (0) (0)) ∧
    ((fun (s : State) (win : Fin 65536) (_slots : Word) (_feeds : Fin 4) (c : Nat) => ((s.nzl.round = some c) ∧ (s.running = true) ∧ (s.mode = 2) ∧ (s.fld SYS_CFG_STATUS = 3) ∧ (s.slp.vhvLow = false) ∧ (claimWins c win.val = true) ∧ (s.flag SYS_MODE_DEGRADED = false) ∧ (s.flag SYS_MODE_CLAMP = false) ∧ (s.red.sets = []) ∧ (s.liveGrps = []) : Prop)) ({ st 2 [(SYS_CFG, 0x30)] with nzl := { round := some 0x7FF1, stage := .watch } }) (0x7FF1) (0) (0) (0x7FF1)) ∧
    ((fun (s : State) (_win : Fin 65536) (_slots : Word) (_feeds : Fin 4) => ((s.nzl.round = some 0) ∧ (s.running = true) ∧ (s.mode = 6) ∧ (s.flag NZL_STAT_CLAIM_FAULT = true) ∧ (s.liveGrps = []) : Prop)) ({ st 6 [(NZL_STAT, 0xB0), (NZL_CLAIM_STAT, 0xFFF20000)] with nzl := { round := some 0, stage := .watch, agree := 9 } }) (0xFFF2) (0) (0)) ∧
    ((fun (s : State) (group : Fin 4) (m : NzlMsg) (sent win round : Nat) => ((s.RxReady group m) ∧ (m.body = .report sent win round) ∧ ((win ≠ s.fld NZL_CLAIM_STAT_WIN ∨ s.fld NZL_CLAIM_STAT_WIN < sent)) ∧ (s.flag NZL_STAT_CLAIM_FAULT = false) : Prop)) ({ st 6 [(NZL_STAT, 0x38), (NZL_CLAIM_STAT, 0xFFF20000)] with nzl := { agree := 3, grps := [(3, { expect := 5 })] } }) (3) ({ seq := 5, body := .report 0xFFF3 0xFFF2 9 }) (0xFFF3) (0xFFF2) (9)) ∧
    ((fun (s : State) (group : Fin 4) (m : NzlMsg) (sent round : Nat) => ((s.RxReady group m) ∧ (m.body = .report sent (s.fld NZL_CLAIM_STAT_WIN) round) ∧ (sent ≤ s.fld NZL_CLAIM_STAT_WIN) : Prop)) ({ st 6 [(NZL_STAT, 0x38), (NZL_CLAIM_STAT, 0xFFF20000)] with nzl := { agree := 3, grps := [(3, { expect := 5 })] } }) (3) ({ seq := 5, body := .report 0xFFF2 0xFFF2 9 }) (0xFFF2) (9)) ∧
    ((fun (s : State) (group : Fin 4) (m : NzlMsg) => ((s.RxReady group m) ∧ (m.body = .handback) ∧ (s.serving = true) ∧ (s.flag SYS_MODE_NIGHT_PEND = false) ∧ (s.partnered = true) ∧ (s.fld NZL_STAT_PEER_MODE = 6) ∧ (s.nzl.peerStale = false) ∧ (s.nzl.peerStep = true) ∧ (s.nzl.pause = .none) : Prop)) ({ st 3 [(SYS_MODE, 0x43), (NZL_STAT, 0x1838)] with nzl := { peerStep := true, grps := [(3, { expect := 5 })] }, cmdq := { cmds := [(9, { kind := .write, assoc := 0, vol := 7, ranges := [(0, 3)], stamp := 1, port := 3, state := .placed })] } }) (3) ({ seq := 5, body := .handback })) ∧
    ((fun (s : State) (group : Fin 4) (m : NzlMsg) => ((s.RxReady group m) ∧ (m.body = .handback) ∧ (s.swapRefusal ≠ 0) : Prop)) ({ st 3 [(SYS_MODE, 0x43), (NZL_STAT, 0x1838)] with nzl := { peerStep := false, grps := [(3, { expect := 5 })] } }) (3) ({ seq := 5, body := .handback })) ∧
    ((fun (s : State) => ((s.serving = true) ∧ (s.sys.hold = .none) ∧ (s.nzl.pause = .takeover) ∧ (s.setMembers.any (fun m => (s.mem m).acquiring) = false) : Prop)) ({ st 3 [(CMDQ_STAT, 0xF0000)] with nzl := { pause := .takeover, locks := [{ vol := 1, stripe := 2, mask := 3, stamp := 4, owner := 5, isWrite := true, shard := 0 }] }, red := { sets := [(3, mirSet)] } })) ∧
    ((fun (s : State) (g : Nat) (x : NzlGrp) => ((s.serving = true) ∧ (s.sys.hold = .none) ∧ (s.nzl.pause = .swap) ∧ (s.liveGrps.head? = some g) ∧ (s.grp g = x) ∧ (s.cmdq.cmds.all (fun e => !e.2.kind.isWrite && decide (e.1 < 65536)) = true) ∧ (s.eng.locks = []) ∧ (x.queue = []) ∧ (x.credit ≠ 0) : Prop)) ({ st 3 [(SYS_MODE, 0x43), (NZL_STAT, 0x1839), (ENG_EPOCH, 9)] with red := { jseq := 1235 }, nzl := { pause := .swap, grps := [(0, {}), (3, {})] }, cmdq := { cmds := [(9, { kind := .read, assoc := 0, vol := 7, ranges := [(0, 3)], stamp := 1, port := 3, state := .running })] } }) (0) ({})) ∧
    ((fun (s : State) (g : Nat) => ((s.mode = 6) ∧ (s.sys.hold = .none) ∧ (s.flag NZL_CTL_REVERT_EN = true) ∧ (s.flag NZL_STAT_IN_STEP = true) ∧ (s.flag NZL_STAT_STALE = false) ∧ (s.fld NZL_PEER_BASE < s.fld NZL_CLAIM_BASE) ∧ (s.liveGrps = [g]) ∧ ((s.grp g).queue = []) ∧ ((s.grp g).credit ≠ 0) : Prop)) ({ st 6 [(NZL_STAT, 0x38), (NZL_CLAIM, 0x203FF), (NZL_PEER, 0x10000)] with nzl := { grps := [(3, {})] } }) (3)) ∧
    ((fun (s : State) => ((s.serving = true) ∧ (s.sys.hold = .none) ∧ (s.flag NZL_CTL_SWAP_EN = true) ∧ (24 * max 1 (s.fld NZL_CTL_SWAP_DAYS) ≤ s.roleHours) ∧ (s.devSec / 3600 % 24 = min 23 (s.fld NZL_CTL_SWAP_HOUR)) ∧ (s.flag SYS_MODE_NIGHT_PEND = false) ∧ (s.partnered = true) ∧ (s.fld NZL_STAT_PEER_MODE = 6) ∧ (s.nzl.peerStale = false) ∧ (s.nzl.peerStep = true) ∧ (s.nzl.pause = .none) : Prop)) ({ st 3 [(SYS_MODE, 0x43), (NZL_STAT, 0x1838)] with clock := { nowNs := 7 * 24 * 3600 * 10 ^ 9, dev := (28 * 3600) * 10 ^ 9 * 1024000000000 }, nzl := { peerStep := true } })) ∧
    ((fun (s : State) => ((s.serving = true) ∧ (s.sys.hold = .none) ∧ (s.flag NZL_CTL_SWAP_EN = true) ∧ (24 * max 1 (s.fld NZL_CTL_SWAP_DAYS) ≤ s.roleHours) ∧ (s.devSec / 3600 % 24 = min 23 (s.fld NZL_CTL_SWAP_HOUR)) ∧ (s.swapRefusal ≠ 0) : Prop)) ({ st 3 [(SYS_MODE, 0x43), (NZL_STAT, 0x1838)] with clock := { nowNs := 7 * 24 * 3600 * 10 ^ 9, dev := (28 * 3600) * 10 ^ 9 * 1024000000000 } })) := by
  refine ⟨?_, ?_, ?_, ?_, ?_, ?_, ?_, ?_, ?_, ?_, ?_, ?_, ?_, ?_, ?_, ?_, ?_, ?_, ?_⟩ <;> decide

set_option maxRecDepth 100000 in
/-- The hypotheses of ProtectionCommit, clause by clause, hold somewhere. -/
theorem witness_ProtectionCommit :
    ((fun (s : State) (req : Requester) (r : List (BitVec 8)) => ((s.reachable req = true) ∧ ((∀ n, req ≠ .mc n)) ∧ (s.classOf req = 3) ∧ (s.mode ≠ 7) ∧ (r = s.bufOctets.take (64 + 128 * recCount s.bufOctets)) ∧ (s.stageCheck r = (0, 0)) : Prop)) ({ st 3 [] with clock := { nowNs := 77 }, cip := { kek := some 1 }, prot := { buf := [(0, 0x47484350), (1, 0x10001), (16, 0x50009)] } }) (.uart) ([0x50, 0x43, 0x48, 0x47, 1, 0, 1, 0] ++ List.replicate 56 0 ++ [9, 0, 5, 0] ++ List.replicate 124 0)) ∧
    ((fun (s : State) (req : Requester) (r : List (BitVec 8)) (e i : Nat) => ((s.reachable req = true) ∧ ((∀ n, req ≠ .mc n)) ∧ (s.classOf req = 3) ∧ (s.mode ≠ 7) ∧ (r = s.bufOctets.take (64 + 128 * recCount s.bufOctets)) ∧ (s.stageCheck r = (e, i)) ∧ (e ≠ 0) : Prop)) ({ st 3 [] with prot := { buf := [(0, 0x47484350), (1, 0x10001), (16, 0x50009)] } }) (.uart) ([0x50, 0x43, 0x48, 0x47, 1, 0, 1, 0] ++ List.replicate 56 0 ++ [9, 0, 5, 0] ++ List.replicate 124 0) (5) (0)) ∧
    ((fun (s : State) (req : Requester) => ((s.reachable req = true) ∧ ((∀ n, req ≠ .mc n)) ∧ (s.classOf req = 3) ∧ ((s.mode = 2 ∨ s.serving = true)) ∧ (s.prot.change ≠ none) : Prop)) ({ st 3 [] with prot := { change := some { record := [], stager := 68, digest := 0x5A3C91E7 } } }) (.uart)) ∧
    ((fun (s : State) (req : Requester) => ((s.reachable req = true) ∧ ((∀ n, req ≠ .mc n)) ∧ (s.classOf req < 3) ∧ (s.mode ≠ 7) : Prop)) ({ st 3 [(PROT_PRIV_LOCAL, 0xEB55)] with prot := { change := some { record := [], stager := 68, digest := 0x5A3C91E7 } } }) (.uart)) ∧
    ((fun (s : State) (req : Requester) (c : Change) => ((s.reachable req = true) ∧ ((∀ n, req ≠ .mc n)) ∧ (s.classOf req = 3) ∧ (s.mode ≠ 7) ∧ (s.prot.change = some c) ∧ (c.stager = reqCode req) : Prop)) ({ st 3 [] with prot := { quote := 0x5A3C91E7, change := some { record := [], stager := 70, digest := 0x5A3C91E7 } } }) (.uart) ({ record := [], stager := 70, digest := 0x5A3C91E7 })) ∧
    ((fun (s : State) (req : Requester) (c : Change) => ((s.reachable req = true) ∧ ((∀ n, req ≠ .mc n)) ∧ (s.classOf req = 3) ∧ (s.mode ≠ 7) ∧ (s.prot.change = some c) ∧ (c.stager ≠ reqCode req) ∧ (s.prot.quote ≠ c.digest) : Prop)) ({ st 3 [] with prot := { quote := 0x5A3C91E8, change := some { record := [], stager := 68, digest := 0x5A3C91E7, wrong := 1 } } }) (.uart) ({ record := [], stager := 68, digest := 0x5A3C91E7, wrong := 1 })) ∧
    ((fun (s : State) (req : Requester) (c : Change) => ((s.reachable req = true) ∧ ((∀ n, req ≠ .mc n)) ∧ (s.classOf req = 3) ∧ (s.mode ≠ 7) ∧ (s.prot.change = some c) ∧ (c.stager ≠ reqCode req) ∧ (s.prot.quote = c.digest) ∧ (s.itemsFail c.record = none) : Prop)) ({ st 3 [] with cip := { kek := some 1 }, prot := { gen := 14, quote := 0x5A3C91E7, change := some { record := [0x50, 0x43, 0x48, 0x47, 1, 0, 1, 0] ++ List.replicate 56 0 ++ [9, 0, 5, 0] ++ List.replicate 124 0, stager := 68, digest := 0x5A3C91E7, wrong := 2 } } }) (.uart) ({ record := [0x50, 0x43, 0x48, 0x47, 1, 0, 1, 0] ++ List.replicate 56 0 ++ [9, 0, 5, 0] ++ List.replicate 124 0, stager := 68, digest := 0x5A3C91E7, wrong := 2 })) ∧
    ((fun (s : State) (req : Requester) (c : Change) => ((s.reachable req = true) ∧ ((∀ n, req ≠ .mc n)) ∧ (s.classOf req = 3) ∧ (s.mode ≠ 7) ∧ (s.prot.change = some c) ∧ (c.stager ≠ reqCode req) ∧ (s.prot.quote = c.digest) ∧ (s.itemsFail c.record = none) ∧ (recCount c.record = 1) ∧ (itemType c.record 0 = 9) ∧ (s.mirroring = false) : Prop)) ({ st 3 [] with cip := { kek := some 1 }, prot := { gen := 14, quote := 0x5A3C91E7, change := some { record := [0x50, 0x43, 0x48, 0x47, 1, 0, 1, 0] ++ List.replicate 56 0 ++ [9, 0, 5, 0] ++ List.replicate 124 0, stager := 68, digest := 0x5A3C91E7 } } }) (.uart) ({ record := [0x50, 0x43, 0x48, 0x47, 1, 0, 1, 0] ++ List.replicate 56 0 ++ [9, 0, 5, 0] ++ List.replicate 124 0, stager := 68, digest := 0x5A3C91E7 })) ∧
    ((fun (s : State) (req : Requester) (c : Change) => ((s.reachable req = true) ∧ ((∀ n, req ≠ .mc n)) ∧ (s.classOf req = 3) ∧ (s.mode ≠ 7) ∧ (s.prot.change = some c) ∧ (c.stager = reqCode req) : Prop)) ({ st 3 [] with prot := { change := some { record := [], stager := 70, digest := 0x5A3C91E7 } } }) (.uart) ({ record := [], stager := 70, digest := 0x5A3C91E7 })) ∧
    ((fun (s : State) (req : Requester) (c : Change) => ((s.reachable req = true) ∧ ((∀ n, req ≠ .mc n)) ∧ (s.classOf req = 3) ∧ (s.mode ≠ 7) ∧ (s.prot.change = some c) ∧ (c.stager ≠ reqCode req) : Prop)) ({ st 3 [] with prot := { change := some { record := [], stager := 68, digest := 0x5A3C91E7 } } }) (.uart) ({ record := [], stager := 68, digest := 0x5A3C91E7 })) ∧
    ((fun (s : State) => ((s.powered = true) ∧ (s.prot.change ≠ none) : Prop)) ({ st 3 [] with prot := { change := some { record := [], stager := 68, digest := 0x5A3C91E7 } } })) ∧
    ((fun (s : State) (req : Requester) (index : Fin 16384) (e : AclEntry) => ((s.Admits req PROT_ACL_RD) ∧ (tget? s.prot.acl index = some e) : Prop)) ({ st 3 [(PROT_ACL_DATA0, 0x8000)] with prot := { acl := [(16383, { vol := 4095, digest := 2 ^ 63 + 5, ports := 2 ^ 64 - 1, pf1 := false, rd := true, wr := false })] } }) (.uart) (16383) ({ vol := 4095, digest := 2 ^ 63 + 5, ports := 2 ^ 64 - 1, pf1 := false, rd := true, wr := false })) ∧
    ((fun (s : State) (req : Requester) (index : Fin 16384) => ((s.Admits req PROT_ACL_RD) ∧ (tget? s.prot.acl index = none) : Prop)) (st 3 [(PROT_ACL_DATA0, 0xFFFF)]) (.uart) (0)) ∧
    ((fun (s : State) => ((s.fld PROT_STAT_JTAG_HOURS ≠ 0) : Prop)) (st 3 [(PROT_STAT, 0xFF01), (PROT_PRIV_LOCAL, 0xFB55)])) := by
  refine ⟨?_, ?_, ?_, ?_, ?_, ?_, ?_, ?_, ?_, ?_, ?_, ?_, ?_, ?_⟩ <;> decide

set_option maxRecDepth 100000 in
/-- The hypotheses of HostEndpoint, clause by clause, hold somewhere. -/
theorem witness_HostEndpoint :
    ((fun (s : State) (tag : Fin 1024) (bytes _data _stamp : Nat) (r : PciRead) (c : Cmd) (h : Nat) => ((s.powered = true) ∧ (s.hep.reads = [(tag.val, r)]) ∧ (s.hep.waiting = []) ∧ (r.dead = false) ∧ (r.purpose = .writeData h) ∧ (r.got + bytes = r.bytes) ∧ (s.cmd? h = some c) : Prop)) ({ st 3 [(HEP_TAG_STAT, 31)] with cmdq := { cmds := [(9, { kind := .write, assoc := 0, vol := 7, ranges := [(0, 3)], stamp := 1, port := 84, state := .admitted, credit := 3, data := 5 })] }, hep := { reads := [(31, { purpose := .writeData 9, addr := 4096, bytes := 8, cto := 0, off := 16, got := 4, data := 7 })] } }) (31) (4) (2 ^ 32 + 1) (0) ({ purpose := .writeData 9, addr := 4096, bytes := 8, cto := 0, off := 16, got := 4, data := 7 }) ({ kind := .write, assoc := 0, vol := 7, ranges := [(0, 3)], stamp := 1, port := 84, state := .admitted, credit := 3, data := 5 }) (9)) ∧
    ((fun (s : State) (tag : Fin 1024) (bytes _data _stamp : Nat) (r : PciRead) => ((s.powered = true) ∧ (tget? s.hep.reads tag = some r) ∧ (r.got + bytes < r.bytes) : Prop)) ({ st 3 [(HEP_TAG_STAT, 31)] with hep := { reads := [(31, { purpose := .writeData 9, addr := 4096, bytes := 8, cto := 0, off := 16, got := 0, data := 0 })] } }) (31) (4) (2 ^ 32 + 1) (0) ({ purpose := .writeData 9, addr := 4096, bytes := 8, cto := 0, off := 16, got := 0, data := 0 })) ∧
    ((fun (s : State) (tag : Fin 1024) (status : Fin 4) (_bytes _data _stamp : Nat) (r : PciRead) (c : Cmd) (h : Nat) => ((s.powered = true) ∧ (status ≠ 0) ∧ (s.hep.reads = [(tag.val, r)]) ∧ (r.dead = false) ∧ (r.purpose = .writeData h) ∧ ((∀ x ∈ s.hep.waiting, x.purpose = .writeData h)) ∧ (s.cmd? h = some c) ∧ (h < 65536) ∧ (c.status = 0) ∧ (c.kind = .write) ∧ (c.state = .admitted) ∧ (c.arrived = false) : Prop)) ({ st 3 [(HEP_TAG_STAT, 31)] with cmdq := { cmds := [(9, { kind := .write, assoc := 0, vol := 7, ranges := [(0, 3)], stamp := 1, port := 84, state := .admitted, credit := 3, data := 5 })] }, hep := { reads := [(31, { purpose := .writeData 9, addr := 4096, bytes := 8, cto := 0 })], waiting := [{ purpose := .writeData 9, addr := 4104, bytes := 8, cto := 0 }] } }) (31) (1) (0) (0) (0) ({ purpose := .writeData 9, addr := 4096, bytes := 8, cto := 0 }) ({ kind := .write, assoc := 0, vol := 7, ranges := [(0, 3)], stamp := 1, port := 84, state := .admitted, credit := 3, data := 5 }) (9)) ∧
    ((fun (s : State) (tag : Fin 1024) (_status : Fin 4) (_bytes _data _stamp : Nat) => ((s.powered = true) ∧ (tget? s.hep.reads tag = none) : Prop)) ({ st 3 [] with hep := { quar := [(37, 99)] } }) (37) (0) (4) (5) (6)) ∧
    ((fun (s : State) (tag : Fin 1024) (dt : Nat) (r : PciRead) (qi : Nat) (q : Queue) => (((s.pass dt).powered = true) ∧ (s.hep.reads = [(tag.val, r)]) ∧ (s.hep.waiting = []) ∧ (r.dead = false) ∧ (r.purpose = .doorbell qi) ∧ (s.queue? qi = some q) ∧ (r.born + ctoNs r.cto ≤ (s.pass dt).clock.nowNs) : Prop)) ({ st 3 [(HEP_TAG_STAT, 31)] with cmdq := { queues := [(7, { type := 3, assoc := 0, qid := 3, entriesM1 := 31, qpn := 0, dbOut := true })] }, hep := { reads := [(31, { purpose := .doorbell 7, addr := 4096, bytes := 4, cto := 5, born := 9 })] } }) (31) (50000009) ({ purpose := .doorbell 7, addr := 4096, bytes := 4, cto := 5, born := 9 }) (7) ({ type := 3, assoc := 0, qid := 3, entriesM1 := 31, qpn := 0, dbOut := true })) ∧
    ((fun (s : State) (tag : Fin 1024) (dt due : Nat) => ((s.hep.quar = [(tag.val, due)]) ∧ (due ≤ (s.pass dt).clock.nowNs) ∧ (s.hep.reads = []) ∧ (s.hep.waiting = []) : Prop)) ({ st 3 [] with hep := { tags := 32, quar := [(37, 99)], pf1 := { tag10 := true } } }) (37) (100) (99)) ∧
    ((fun (s : State) (tag : Fin 1024) (dt due : Nat) => ((tget? s.hep.quar tag = some due) ∧ ((s.pass dt).clock.nowNs < due) : Prop)) ({ st 3 [] with hep := { quar := [(37, 999)] } }) (37) (100) (999)) ∧
    ((fun (s : State) (tag : Nat) (r : PciRead) (q : Nat) => ((s.powered = true) ∧ (s.flag HEP_STAT_PF1_PRESENT = true) ∧ (s.hep.pf1.bme = true) ∧ (s.hep.reads = [(tag, r)]) ∧ (s.hep.waiting = []) ∧ (r.purpose = .doorbell q) ∧ (s.cmdq.cmds.all (fun e => e.2.state.past || e.2.state == .done) = true) ∧ (keysRise s.cmdq.queues = true) : Prop)) ({ st 3 [(HEP_STAT, 0x40000)] with clock := { nowNs := 50 }, hep := { pf1 := { bme := true }, reads := [(5, { purpose := .doorbell 7, addr := 4096, bytes := 4, cto := 5 })] }, cmdq := { queues := [(7, { type := 3, assoc := 0, qid := 3, entriesM1 := 31, qpn := 0, waiting := [{ kind := .read, queue := some 7, assoc := 0, cid := 21, vol := 7, ranges := [(0, 3)], stamp := 90, port := 84 }] })], cmds := [(9, { kind := .write, queue := some 7, assoc := 0, cid := 20, vol := 7, ranges := [(0, 3)], stamp := 80, port := 84, state := .granted })] } }) (5) ({ purpose := .doorbell 7, addr := 4096, bytes := 4, cto := 5 }) (7)) ∧
    ((fun (s : State) => ((s.powered = true) ∧ (s.flag HEP_STAT_PF1_PRESENT = true) ∧ (s.hep.pf1.bme = false) ∧ ((∀ e ∈ s.hep.report, s.cmdq.queues.any (fun x => x.2.type == 3 && x.2.qid == e.2.1) = true)) ∧ (s.cmdq.nudges = []) ∧ (keysRise s.cmdq.queues = true) : Prop)) ({ st 3 [(HEP_STAT, 0xC0000)] with hep := { report := [(90, 3, 21), (80, 3, 20)], pf1 := { bme := false } }, cmdq := { queues := [(7, { type := 3, assoc := 0, qid := 3, entriesM1 := 31, qpn := 0 })] } })) ∧
    ((fun (s : State) (tag : Nat) (r : PciRead) => ((s.powered = true) ∧ (s.flag HEP_STAT_PF1_PRESENT = true) ∧ (s.localAssoc = none) ∧ (s.hep.reads = [(tag, r)]) : Prop)) ({ st 3 [(HEP_STAT, 0x40000), (0x10001000, 0x3F)] with clock := { nowNs := 50 }, hep := { report := [(80, 3, 20)], affected := [9], pf1 := { bme := true, msixEn := true, mps := 512, aerUnc := 5 }, reads := [(5, { purpose := .doorbell 7, addr := 4096, bytes := 4, cto := 5 })] }, cmdq := { nudges := [3] } }) (5) ({ purpose := .doorbell 7, addr := 4096, bytes := 4, cto := 5 })) ∧
    ((fun (s : State) (a qi : Nat) => ((s.powered = true) ∧ (s.flag HEP_STAT_PF1_PRESENT = true) ∧ (s.localAssoc = some a) ∧ ((s.cmdq.queues.any (fun e => e.1 == qi && e.2.assoc == a) = true)) : Prop)) ({ st 3 [(HEP_STAT, 0x40000)] with hep := { report := [(80, 3, 20)] }, cmdq := { assocs := [(5, { isLocal := true })], queues := [(16389, { type := 3, assoc := 5, qid := 0, entriesM1 := 31, qpn := 0 })] } }) (5) (16389)) ∧
    ((fun (s : State) => ((s.powered = true) ∧ (s.mbx.backlog = []) : Prop)) ({ st 3 [(HEP_DIAG, 0x3)] with hep := { linkUp := true, pf0 := { bme := true, msixEn := true, pba := [3], aspm := 3 } }, mbx := { dirs := [(2, { words := [1], closed := true }), (9, { words := [2] })], part := [9] } })) ∧
    ((fun (s : State) => ((s.powered = true) ∧ (s.localAssoc = none) ∧ (s.mbx.backlog = []) : Prop)) ({ st 3 [(HEP_STAT, 0x4AF1), (HEP_DIAG, 1)] with hep := { linkUp := true, pf0 := { bme := true }, pf1 := { bme := true } }, mbx := { dirs := [(2, { words := [1], closed := true }), (9, { words := [2] })] } })) ∧
    ((fun (s : State) => ((s.powered = true) ∧ (s.fld HEP_STAT_LPS = 1) ∧ (s.flag HEP_LINK_PM_L0S_AUTO = true) ∧ (bitOf s.hep.pf0.aspm 0 = true) : Prop)) ({ st 3 [(HEP_STAT, 1)] with hep := { linkUp := true, pf0 := { aspm := 1 } } })) ∧
    ((fun (s : State) => ((s.powered = true) ∧ ((s.fld HEP_STAT_LPS = 1 ∨ s.fld HEP_STAT_LPS = 2)) ∧ (s.flag HEP_LINK_PM_L1_AUTO = true) ∧ (bitOf s.hep.pf0.aspm 1 = true) ∧ (s.hep.reads = []) ∧ (s.hep.waiting = []) ∧ (s.hep.pf0.pba = []) ∧ (s.hep.pf1.pba = []) : Prop)) ({ st 3 [(HEP_STAT, 2)] with hep := { linkUp := true, pf0 := { aspm := 3 } } })) ∧
    ((fun (s : State) (_val : Word) (a : Nat) => ((s.RegsOk) ∧ (s.powered = true) ∧ (s.flag HEP_STAT_PF1_PRESENT = true) ∧ (s.hep.pf1.d3hot = false) ∧ (s.classOf .pf1 ≠ 0) ∧ (s.mode ≠ 7) ∧ (s.flag ADM_STAT_RDY = false) ∧ (s.get64 ASQ_BASE % 64 = 0) ∧ (s.get64 ACQ_BASE % 64 = 0) ∧ (s.get64 ADB_ADDR % 8 = 0) ∧ (s.freeAssoc = some a) : Prop)) ({ st 3 [(HEP_STAT, 0x40000)] with clock := { nowNs := 50 }, cmdq := { assocs := [(0, { nqn := 77 })] } }) (0x003E0FFE) (1)) ∧
    ((fun (s : State) (_val : Word) => ((s.powered = true) ∧ (s.flag HEP_STAT_PF1_PRESENT = true) ∧ (s.hep.pf1.d3hot = false) ∧ (s.classOf .pf1 ≠ 0) ∧ (s.mode ≠ 7) ∧ (s.flag ADM_STAT_RDY = false) ∧ ((s.get64 ASQ_BASE % 64 ≠ 0 ∨ s.get64 ACQ_BASE % 64 ≠ 0 ∨ s.get64 ADB_ADDR % 8 ≠ 0)) : Prop)) ({ st 3 [(HEP_STAT, 0x40000), (0x10001008, 0x20)] with clock := { nowNs := 50 } }) (0x003E0FFF)) ∧
    ((fun (s : State) (_val : Word) (a : Nat) => ((s.powered = true) ∧ (s.flag HEP_STAT_PF1_PRESENT = true) ∧ (s.hep.pf1.d3hot = false) ∧ (s.classOf .pf1 ≠ 0) ∧ (s.mode ≠ 7) ∧ (s.localAssoc = some a) ∧ ((s.assoc? a).map (fun x => x.isLocal) = some true) : Prop)) ({ st 3 [(HEP_STAT, 0x40000), (0x10001000, 0x3F), (0x10001004, 0xB)] with cmdq := { assocs := [(5, { isLocal := true })] } }) (0x3E) (5)) ∧
    ((fun (s : State) (off : Fin 134217728) (_data : Word) (_ue : Bool) => ((s.reachable .pf0 = true) ∧ (off.val % 4 = 0) ∧ ((s.flag HEP_DIAG_EN = false ∨ s.classOf .pf0 < 2 ∨ s.fld DMC_PART_STAT_USABLE_GIB * 2 ^ 30 ≤ s.fld HEP_DIAG_BASE * 2 ^ 27 + off)) : Prop)) ({ st 3 [(HEP_DIAG, 0x1FFF), (DMC_PART_STAT, 384)] with hep := {} }) (134217724) (0xDEADBEEF) (false)) ∧
    ((fun (s : State) (off : Fin 134217728) (_data : Word) => ((s.reachable .pf0 = true) ∧ (off.val % 4 = 0) ∧ (s.flag HEP_DIAG_EN = true) ∧ (2 ≤ s.classOf .pf0) ∧ (s.fld HEP_DIAG_BASE * 2 ^ 27 + off < s.fld DMC_PART_STAT_USABLE_GIB * 2 ^ 30) : Prop)) (st 3 [(HEP_DIAG, 0x17FF), (DMC_PART_STAT, 384)]) (134217724) (0xDEADBEEF)) ∧
    ((fun (s : State) (_pf1 : Bool) (_what : CfgReq) => ((s.mode = 1) ∧ (s.sys.hold = .none) ∧ (s.hep.linkUp = true) : Prop)) ({ st 1 [] with hep := { linkUp := true } }) (true) (.cto 5)) ∧
    ((fun (s : State) (_v : Fin 16) => ((s.hep.linkUp = true) ∧ (s.powered = true) ∧ (s.mode ≠ 1) ∧ (s.flag HEP_STAT_PF1_PRESENT = true) ∧ (s.hep.waiting = []) ∧ (s.hep.pf0.pba = []) ∧ (s.hep.pf1.pba = []) : Prop)) ({ st 3 [(HEP_STAT, 0x40000)] with hep := { linkUp := true, tags := 32 } }) (14)) ∧
    ((fun (s : State) (_b : Bool) => ((s.hep.linkUp = true) ∧ (s.powered = true) ∧ (s.mode ≠ 1) ∧ (s.hep.pf0.pba = []) ∧ (s.hep.pf1.pba = []) : Prop)) ({ st 3 [(HEP_STAT, 0x4000)] with hep := { linkUp := true, pf0 := { bme := true } } }) (true)) := by
  refine ⟨?_, ?_, ?_, ?_, ?_, ?_, ?_, ?_, ?_, ?_, ?_, ?_, ?_, ?_, ?_, ?_, ?_, ?_, ?_, ?_, ?_, ?_, ?_⟩ <;> decide

set_option maxRecDepth 100000 in
/-- The hypotheses of Mailboxes, clause by clause, hold somewhere. -/
theorem witness_Mailboxes :
    ((fun (s : State) (who : MbxEnd) (chan : Fin 24) (_w : Word) (d : Nat) => (((who = .mgmt ∨ who = .cluster)) ∧ (s.mbxSend who chan = some d) ∧ (d ≠ 1) ∧ ((s.farDown d = false ∨ bitOf (s.fld MBX_CTL_COMPAT) chan = true)) ∧ ((s.mbxDir d).closed = false) ∧ ((s.mbxDir d).words.length < 8) : Prop)) ({ st 3 [] with mbx := { dirs := [(17, { words := [1, 2] })] } }) (.mgmt) (8) (7) (17)) ∧
    ((fun (s : State) (r : Requester) (chan : Fin 24) (_w : Word) => ((s.Admits r (MBX_TX chan)) ∧ (s.farDown (2 * chan) = false) ∧ ((s.mbxDir (2 * chan)).closed = false) ∧ ((s.mbxDir (2 * chan)).words.length < 8) : Prop)) ({ st 3 [] with hep := { linkUp := true }, mbx := { dirs := [(6, { words := [1, 2] })] } }) (.pf0) (3) (7)) ∧
    ((fun (s : State) (who : MbxEnd) (chan : Fin 24) (_w : Word) (d : Nat) => (((who = .mgmt ∨ who = .cluster)) ∧ (s.mbxSend who chan = some d) ∧ (s.farDown d = true) ∧ (bitOf (s.fld MBX_CTL_COMPAT) chan = false) : Prop)) ({ st 3 [(ENG_CL_STAT 15, 2)] with mbx := {} }) (.mgmt) (23) (7) (47)) ∧
    ((fun (s : State) (who : MbxEnd) (chan : Fin 24) (_w : Word) (d : Nat) => (((who = .mgmt ∨ who = .cluster)) ∧ (s.mbxSend who chan = some d) ∧ (d ≠ 1) ∧ (s.farDown d = false) ∧ (((s.mbxDir d).closed = true ∨ 8 ≤ (s.mbxDir d).words.length)) : Prop)) ({ st 3 [] with mbx := { dirs := [(47, { words := [1, 2, 3, 4, 5, 6, 7, 8] })] } }) (.mgmt) (23) (7) (47)) ∧
    ((fun (s : State) (who : MbxEnd) (chan : Fin 24) (_w : Word) (d : Nat) => (((who = .mgmt ∨ who = .cluster)) ∧ (s.mbxSend who chan = some d) ∧ (d ≠ 1) ∧ (isNarzanChan chan = false) ∧ (s.farDown d = false) ∧ ((s.mbxDir d).closed = false) ∧ ((s.mbxDir d).words.length < 8) : Prop)) ({ st 3 [(MBX_ACKSEL, 0x800000)] with mbx := { dirs := [(46, { words := [1, 2] })] } }) (.cluster) (23) (7) (46)) ∧
    ((fun (s : State) (who : MbxEnd) (chan : Fin 24) (_w : Word) (d : Nat) => (((who = .mgmt ∨ who = .cluster)) ∧ (s.mbxSend who chan = some d) ∧ (d ≠ 1) ∧ (s.farDown d = true) ∧ (bitOf (s.fld MBX_CTL_COMPAT) chan = true) ∧ ((s.mbxDir d).closed = false) ∧ ((s.mbxDir d).words.length < 8) : Prop)) ({ st 3 [(ENG_CL_STAT 15, 3), (MBX_CTL, 0x800000)] with mbx := { dirs := [(47, { words := [1, 2] })] } }) (.mgmt) (23) (7) (47)) ∧
    ((fun (s : State) (chan : Fin 24) (_w : Word) (g : Nat) (gs : List Nat) => ((s.powered = true) ∧ (isNarzanChan chan = true) ∧ (s.flag NZL_STAT_PRESENT = true) ∧ (s.liveGrps = g :: gs) ∧ ((s.grp g).queue = []) ∧ (1 ≤ (s.grp g).credit) ∧ ((s.mbxDir (2 * chan + 1)).closed = false) ∧ ((s.mbxDir (2 * chan + 1)).words.length < 8) : Prop)) ({ st 3 [(NZL_STAT, 0x18)] with nzl := { grps := [(3, { limit := 1 })] }, mbx := { dirs := [(15, { words := [1, 2] })] } }) (7) (7) (3) ([])) ∧
    ((fun (s : State) (_w _v : Word) => ((s.powered = true) ∧ (bitOf s.mbx.halted 0 = false) ∧ (s.farDown 1 = false) ∧ (s.mbx.part.length < 8) ∧ (s.mbx.backlog = []) ∧ ((s.mbxDir 1).closed = false) : Prop)) ({ st 3 [] with hep := { linkUp := true }, mbx := { part := [1, 2] } }) (7) (8)) ∧
    ((fun (s : State) (_w : Word) => ((s.powered = true) ∧ (bitOf s.mbx.halted 0 = false) ∧ (s.farDown 1 = false) ∧ (s.mbx.part.length < 8) ∧ (s.mbx.backlog.length < 4096) ∧ ((s.mbxDir 1).closed = true) : Prop)) ({ st 3 [] with hep := { linkUp := true }, mbx := { part := [1, 2], dirs := [(1, { words := [3], closed := true })] } }) (8)) ∧
    ((fun (s : State) (who : MbxEnd) (chan : Fin 24) (d : Nat) (x y : Word) (l : List Word) => (((who = .mgmt ∨ who = .cluster)) ∧ (s.mbxRecv who chan = some d) ∧ ((s.mbxDir d).closed = true) ∧ ((s.mbxDir d).held = false) ∧ ((s.mbxDir d).words = x :: y :: l) : Prop)) ({ st 3 [] with mbx := { dirs := [(46, { words := [5, 6], closed := true })] } }) (.mgmt) (23) (46) (5) (6) ([])) ∧
    ((fun (s : State) (who : MbxEnd) (chan : Fin 24) (d : Nat) (x : Word) => (((who = .mgmt ∨ who = .cluster)) ∧ (s.mbxRecv who chan = some d) ∧ (isNarzanChan chan = false) ∧ ((s.mbxDir d).closed = true) ∧ ((s.mbxDir d).held = false) ∧ ((s.mbxDir d).ackReg = false) ∧ ((s.mbxDir d).words = [x]) : Prop)) ({ st 3 [] with mbx := { dirs := [(47, { words := [5], closed := true, ackReg := false })] } }) (.cluster) (23) (47) (5)) ∧
    ((fun (s : State) (r : Requester) (chan : Fin 24) (x y : Word) (l : List Word) => ((s.readOk r (MBX_RX chan) = true) ∧ (s.mode ≠ 7) ∧ ((s.mbxDir (2 * chan + 1)).closed = true) ∧ ((s.mbxDir (2 * chan + 1)).held = false) ∧ ((s.mbxDir (2 * chan + 1)).words = x :: y :: l) : Prop)) ({ st 3 [] with hep := { linkUp := true }, mbx := { dirs := [(7, { words := [5, 6], closed := true })] } }) (.pf0) (3) (5) (6) ([])) ∧
    ((fun (s : State) (who : MbxEnd) (chan : Fin 24) (d : Nat) => (((who = .mgmt ∨ who = .cluster)) ∧ (s.mbxRecv who chan = some d) ∧ ((s.mbxDir d).closed = false) ∧ ((s.mbxSend who chan).map s.farDown = some false) : Prop)) ({ st 3 [] with mbx := { dirs := [(16, { words := [5], closed := false })] } }) (.mgmt) (8) (16)) ∧
    ((fun (s : State) (chan : Fin 24) => ((s.powered = true) ∧ (4 ≤ chan.val) ∧ ((s.mbxDir (2 * chan)).closed = false) ∧ (s.farDown (2 * chan + 1) = true) ∧ (bitOf (s.fld MBX_CTL_COMPAT) chan = false) : Prop)) ({ st 3 [(ENG_CL_STAT 0, 2)] with mbx := {} }) (8)) ∧
    ((fun (s : State) (who : MbxEnd) (chan : Fin 24) (d : Nat) (_code : Fin 65536) => (((who = .mgmt ∨ who = .cluster)) ∧ (s.mbxRecv who chan = some d) ∧ (isNarzanChan chan = false) ∧ ((s.mbxDir d).closed = true) ∧ ((s.mbxDir d).held = false) ∧ ((s.mbxDir d).ackReg = true) ∧ (d ≠ 1) : Prop)) ({ st 3 [] with mbx := { dirs := [(47, { words := [5, 6], closed := true, ackReg := true })] } }) (.cluster) (23) (47) (0xFFFF)) ∧
    ((fun (s : State) (who : MbxEnd) (chan : Fin 24) (d : Nat) (_code : Fin 65536) => (((who = .mgmt ∨ who = .cluster)) ∧ (s.mbxRecv who chan = some d) ∧ ((s.mbxDir d).closed = true) ∧ ((s.mbxDir d).held = false) ∧ ((s.mbxDir d).ackReg = false) : Prop)) ({ st 3 [] with mbx := { dirs := [(47, { words := [5, 6], closed := true, ackReg := false })] } }) (.cluster) (23) (47) (9)) ∧
    ((fun (s : State) (who : MbxEnd) (chan : Fin 24) (d : Nat) (_code : Fin 65536) => (((who = .mgmt ∨ who = .cluster)) ∧ (s.mbxRecv who chan = some d) ∧ ((s.mbxDir d).closed = false) : Prop)) ({ st 3 [] with mbx := { dirs := [(47, { words := [5, 6] })] } }) (.cluster) (23) (47) (9)) ∧
    ((fun (s : State) (_code : Fin 65536) (m : List Word) (l : List (List Word)) => ((s.Admits .pf0 (MBX_ACK 0)) ∧ ((s.mbxDir 1).closed = true) ∧ ((s.mbxDir 1).held = false) ∧ ((s.mbxDir 1).ackReg = true) ∧ (s.mbx.backlog = m :: l) ∧ (s.farDown 1 = false) : Prop)) ({ st 3 [] with hep := { linkUp := true }, mbx := { dirs := [(1, { words := [5], closed := true, ackReg := true })], backlog := [[6, 7]] } }) (0xBEEF) ([6, 7]) ([])) ∧
    ((fun (s : State) (chan : Fin 24) (_code : Fin 65536) (g : Nat) (gs : List Nat) => ((s.powered = true) ∧ (isNarzanChan chan = true) ∧ (s.liveGrps = g :: gs) ∧ ((s.grp g).queue = []) ∧ (1 ≤ (s.grp g).credit) ∧ ((s.mbxDir (2 * chan)).closed = true) ∧ ((s.mbxDir (2 * chan)).held = false) ∧ ((s.mbxDir (2 * chan)).ackReg = true) : Prop)) ({ st 3 [(NZL_STAT, 0x18)] with nzl := { grps := [(3, { limit := 1 })] }, mbx := { dirs := [(14, { words := [1, 2], closed := true })] } }) (7) (0x1234) (3) ([])) ∧
    ((fun (s : State) (dir : Fin 48) => ((s.powered = true) ∧ (s.farDown dir = true) ∧ (bitOf (s.fld MBX_CTL_COMPAT) (dir / 2) = false) ∧ ((s.mbxDir dir).closed = true) ∧ ((isNarzanChan (dir / 2) = false ∨ dir.val % 2 = 1)) : Prop)) ({ st 3 [(ENG_CL_STAT 15, 2)] with mbx := { dirs := [(47, { words := [5, 6], closed := true })] } }) (47)) ∧
    ((fun (s : State) (dir : Fin 48) => (((s.farDown dir = false ∨ bitOf (s.fld MBX_CTL_COMPAT) (dir / 2) = true ∨ (s.mbxDir dir).closed = false)) : Prop)) ({ st 3 [(ENG_CL_STAT 15, 2), (MBX_CTL, 0x800000)] with mbx := { dirs := [(47, { words := [5, 6], closed := true })] } }) (47)) ∧
    ((fun (s : State) (dir : Fin 48) => ((s.powered = true) ∧ (s.farDown dir = false) ∧ ((s.mbxDir dir).held = true) ∧ (isNarzanChan (dir / 2) = false) ∧ (dir.val ≠ 1) : Prop)) ({ st 3 [(MBX_CTL, 0x800000)] with mbx := { dirs := [(47, { words := [5, 6], closed := true, held := true })] } }) (47)) ∧
    ((fun (s : State) (group : Fin 4) (m : NzlMsg) (c code : Nat) (w : List Word) => ((s.RxReady group m) ∧ (m.body = .mbox c 1 w code) ∧ (4 ≤ c) ∧ (c ≤ 7) ∧ (1 ≤ w.length) ∧ (w.length ≤ 8) ∧ ((s.mbxDir (2 * c)).closed = false) : Prop)) ({ st 3 [(NZL_STAT, 0x18)] with nzl := { grps := [(3, { expect := 5 })] } }) (3) ({ seq := 5, id := 44, frames := 1, body := .mbox 7 1 [9, 8] 0 }) (7) (0) ([9, 8])) ∧
    ((fun (s : State) (group : Fin 4) (m : NzlMsg) (c code : Nat) (w : List Word) => ((s.RxReady group m) ∧ (m.body = .mbox c 3 w code) ∧ (4 ≤ c) ∧ (c ≤ 7) ∧ ((s.mbxDir (2 * c + 1)).closed = true) : Prop)) ({ st 3 [(NZL_STAT, 0x18)] with nzl := { grps := [(3, { expect := 5 })] }, mbx := { dirs := [(15, { words := [1, 2], closed := true })] } }) (3) ({ seq := 5, id := 44, frames := 1, body := .mbox 7 3 [] 0xFFFF }) (7) (0xFFFF) ([])) := by
  refine ⟨?_, ?_, ?_, ?_, ?_, ?_, ?_, ?_, ?_, ?_, ?_, ?_, ?_, ?_, ?_, ?_, ?_, ?_, ?_, ?_, ?_, ?_, ?_, ?_⟩ <;> decide

set_option maxRecDepth 100000 in
/-- The hypotheses of SlotChannels, clause by clause, hold somewhere. -/
theorem witness_SlotChannels :
    ((fun (s : State) (ch : Fin 32) => ((s.pdDrives = true) ∧ (s.chState ch = 0) ∧ (s.slotCond ch = true) : Prop)) ({ st 3 [(SLP_CH_CFG 31, 2), (SLP_STAT, 0)] with nzl := { stage := .drive } }) (31)) ∧
    ((fun (s : State) (ch : Fin 32) => ((s.pdDrives = true) ∧ (s.chState ch = 0) ∧ (s.slotCond ch = true) : Prop)) ({ st 3 [(SLP_CH_CFG 31, 2), (SLP_STAT, 0)] with nzl := { stage := .drive }, slp := { gates := 1 } }) (31)) ∧
    ((fun (s : State) (ch : Fin 32) (vout vgs : Nat) => ((s.pdProtects = true) ∧ (s.gateOn ch = true) ∧ (s.chState ch = 1) ∧ (100 * s.fld (SLP_CH_PG_PG_HI ch) ≤ vout) ∧ (100 * min 100 (max 40 (s.fld (SLP_CH_PG_VGS_ON ch))) ≤ vgs) : Prop)) ({ st 3 [(SLP_CH_STAT 31, 0x1001)] with nzl := { stage := .drive }, slp := { gates := 2 ^ 31, retry := [31] } }) (31) (10800) (7000)) ∧
    ((fun (s : State) (ch : Fin 32) (vout vgs : Nat) => (((s.gateOn ch = false ∨ vout < 100 * s.fld (SLP_CH_PG_PG_HI ch) ∨ vgs < 100 * min 100 (max 40 (s.fld (SLP_CH_PG_VGS_ON ch))))) : Prop)) ({ st 3 [(SLP_CH_STAT 31, 0x1001)] with nzl := { stage := .drive }, slp := { gates := 2 ^ 31, retry := [31] } }) (31) (10799) (7000)) ∧
    ((fun (s : State) (ch : Fin 32) (v1 v2 : Nat) => ((s.pdProtects = true) ∧ (s.flag (SLP_CH_STAT_PG ch) = true) ∧ (s.chState ch = 2) ∧ (v1 < 100 * min (s.fld (SLP_CH_PG_PG_HI ch)) (s.fld (SLP_CH_PG_PG_LO ch))) ∧ (v2 < 100 * min (s.fld (SLP_CH_PG_PG_HI ch)) (s.fld (SLP_CH_PG_PG_LO ch))) : Prop)) ({ st 3 [(SLP_CH_STAT 31, 0x1042)] with nzl := { stage := .drive }, slp := { gates := 2 ^ 31 } }) (31) (10199) (10199)) ∧
    ((fun (s : State) (ch : Fin 32) (v1 v2 : Nat) => (((100 * min (s.fld (SLP_CH_PG_PG_HI ch)) (s.fld (SLP_CH_PG_PG_LO ch)) ≤ v1 ∨ 100 * min (s.fld (SLP_CH_PG_PG_HI ch)) (s.fld (SLP_CH_PG_PG_LO ch)) ≤ v2)) : Prop)) ({ st 3 [(SLP_CH_STAT 31, 0x1042)] with nzl := { stage := .drive }, slp := { gates := 2 ^ 31 } }) (31) (10199) (10200)) ∧
    ((fun (s : State) (ch : Fin 32) (vgs : Nat) => ((s.pdProtects = true) ∧ (s.gateOn ch = true) ∧ (s.chState ch = 1) ∧ (s.flag (SLP_CH_STAT_LIMITING ch) = false) ∧ (vgs < 100 * min 100 (max 40 (s.fld (SLP_CH_PG_VGS_ON ch)))) : Prop)) ({ st 3 [(SLP_CH_STAT 31, 0x1001)] with nzl := { stage := .drive }, slp := { gates := 2 ^ 31 } }) (31) (6999)) ∧
    ((fun (s : State) (ch : Fin 32) (_vgs : Nat) => ((s.flag (SLP_CH_STAT_LIMITING ch) = true) : Prop)) ({ st 3 [(SLP_CH_STAT 31, 0x1081)] with nzl := { stage := .drive }, slp := { gates := 2 ^ 31 } }) (31) (0)) ∧
    ((fun (s : State) (ch : Fin 32) (uv : Nat) => ((s.pdProtects = true) ∧ (s.gateOn ch = true) ∧ (250 * min 200 (max 20 (s.fld (SLP_CH_CFG_ILIM ch))) ≤ uv) : Prop)) ({ st 3 [(SLP_CH_STAT 31, 0x1002)] with nzl := { stage := .drive }, slp := { gates := 2 ^ 31 } }) (31) (15000)) ∧
    ((fun (s : State) (ch : Fin 32) (uv : Nat) => ((s.pdProtects = true) ∧ (s.gateOn ch = true) ∧ (10 * uv < 9 * (250 * min 200 (max 20 (s.fld (SLP_CH_CFG_ILIM ch))))) : Prop)) ({ st 3 [(SLP_CH_STAT 31, 0x1082)] with nzl := { stage := .drive }, slp := { gates := 2 ^ 31 } }) (31) (13499)) ∧
    ((fun (s : State) (ch : Fin 32) => ((s.pdProtects = true) ∧ (s.gateOn ch = true) ∧ (s.flag (SLP_CH_STAT_LIMITING ch) = true) ∧ ((s.chState ch = 1 ∨ s.chState ch = 2)) ∧ ((s.fld (SLP_CH_STAT_ATTEMPTS ch) < s.fld (SLP_CH_CFG_RETRIES ch) ∨ s.flag (SLP_CH_CFG_UNLIM ch) = true)) : Prop)) ({ st 3 [(SLP_CH_STAT 31, 0x1282)] with nzl := { stage := .drive }, slp := { gates := 2 ^ 31 } }) (31)) ∧
    ((fun (s : State) (ch : Fin 32) => ((s.pdProtects = true) ∧ (s.gateOn ch = true) ∧ (s.flag (SLP_CH_STAT_LIMITING ch) = true) ∧ ((s.chState ch = 1 ∨ s.chState ch = 2)) ∧ (s.fld (SLP_CH_CFG_RETRIES ch) ≤ s.fld (SLP_CH_STAT_ATTEMPTS ch)) ∧ (s.flag (SLP_CH_CFG_UNLIM ch) = false) : Prop)) ({ st 3 [(SLP_CH_STAT 31, 0x1382)] with nzl := { stage := .drive }, slp := { gates := 2 ^ 31 } }) (31)) ∧
    ((fun (s : State) (ch : Fin 32) (uv : Nat) => ((s.pdProtects = true) ∧ (s.gateOn ch = true) ∧ ((4 + min 4 (s.fld (SLP_CH_CFG_FT_MULT ch))) * s.ilim ch ≤ 2 * uv) ∧ ((s.chState ch = 1 ∨ s.chState ch = 2)) ∧ ((s.fld (SLP_CH_STAT_ATTEMPTS ch) < s.fld (SLP_CH_CFG_RETRIES ch) ∨ s.flag (SLP_CH_CFG_UNLIM ch) = true)) : Prop)) ({ st 3 [(SLP_CH_STAT 31, 0x1002)] with nzl := { stage := .drive }, slp := { gates := 2 ^ 31 + 1 } }) (31) (45000)) ∧
    ((fun (s : State) (ch : Fin 32) (since : Nat) => ((s.pdProtects = true) ∧ (s.gateOn ch = true) ∧ (s.slp.sagEvent = true) ∧ (since ≤ 1000) : Prop)) ({ st 3 [(SLP_CH_STAT 31, 0x1002)] with nzl := { stage := .drive }, slp := { gates := 2 ^ 31 + 1, sagEvent := true } }) (31) (1000)) ∧
    ((fun (s : State) (ch : Fin 32) (since : Nat) => ((s.pdProtects = true) ∧ (s.gateOn ch = true) ∧ ((s.slp.sagEvent = false ∨ 1000 < since)) ∧ ((s.chState ch = 1 ∨ s.chState ch = 2)) : Prop)) ({ st 3 [(SLP_CH_STAT 31, 0x1302)] with nzl := { stage := .drive }, slp := { gates := 2 ^ 31 + 1, sagEvent := true } }) (31) (1001)) ∧
    ((fun (s : State) (ch : Fin 32) => ((s.pdDrives = true) ∧ (ch.val ∈ s.slp.sagWait) : Prop)) ({ st 3 [(SLP_CH_STAT 31, 0x1302), (SLP_STAT, 0)] with nzl := { stage := .drive }, slp := { sagWait := [31] } }) (31)) ∧
    ((fun (s : State) (ch : Fin 32) => ((s.pdDrives = true) ∧ (s.chState ch = 3) ∧ (s.slotCond ch = true) : Prop)) ({ st 3 [(SLP_CH_STAT 31, 0x1203), (SLP_CH_CFG 31, 2), (SLP_STAT, 0)] with nzl := { stage := .drive }, slp := {} }) (31)) ∧
    ((fun (s : State) (ch : Fin 32) (_openPin : Bool) => ((s.pdDrives = true) ∧ (s.chState ch = 3) ∧ (s.slotCond ch = false) : Prop)) ({ st 3 [(SLP_CH_STAT 31, 0x1203), (SLP_CH_CFG 31, 0), (SLP_STAT, 0)] with nzl := { stage := .drive }, slp := {} }) (31) (true)) ∧
    ((fun (s : State) (ch : Fin 32) => ((s.pdProtects = true) ∧ (s.flag (SLP_CH_STAT_PG ch) = true) : Prop)) ({ st 3 [(SLP_CH_STAT 31, 0x1242)] with nzl := { stage := .drive }, slp := { gates := 2 ^ 31 } }) (31)) ∧
    ((fun (s : State) (req : Requester) (ch : Fin 32) => ((s.Admits req (SLP_CH_CFG ch)) ∧ ((s.chState ch = 4 ∨ s.chState ch = 5)) : Prop)) ({ st 3 [(SLP_CH_STAT 31, 0x1304)] with nzl := { stage := .drive }, slp := {} }) (.mc 2) (31)) ∧
    ((fun (s : State) (req : Requester) (ch : Fin 32) => ((s.Admits req (SLP_CH_CFG ch)) ∧ (s.chState ch < 4) ∧ (s.chState ch ≠ 0) ∧ (s.pdDrives = true) ∧ ((s.fld (SLP_CH_CFG_MODE ch) = 2 ∨ s.fld (SLP_CH_CFG_MODE ch) = 0)) : Prop)) ({ st 3 [(SLP_CH_STAT 31, 0x1302), (SLP_CH_CFG 31, 0), (SLP_STAT, 0)] with nzl := { stage := .drive }, slp := { gates := 2 ^ 31 } }) (.mc 2) (31)) ∧
    ((fun (s : State) (req : Requester) (ch : Fin 32) (mode : Fin 4) => ((s.Admits req (SLP_CH_CFG ch)) ∧ (s.pdDrives = true) ∧ ((mode = 0 ∨ mode = 3)) ∧ (s.chState ch ≠ 5) ∧ ((s.reg (SLP_CH_CFG ch)).toNat < 2 ^ 31) : Prop)) ({ st 3 [(SLP_CH_STAT 31, 0x1302), (SLP_CH_CFG 31, 0x063A3C2A), (SLP_STAT, 0)] with nzl := { stage := .drive }, slp := { gates := 2 ^ 31 }, dpt := { released := [63] } }) (.mc 2) (31) (3)) ∧
    ((fun (s : State) (port : Fin 32) => ((s.pdRuns = true) ∧ (s.powered = true) ∧ (bitOf s.slp.presIn (2 * port.val) = true) ∧ (s.presAt (2 * port.val) = false) ∧ (s.presAt (2 * port.val + 1) = false) ∧ (tget? s.dpt.contained (2 * port.val) = none) : Prop)) ({ st 3 [(SLP_STAT, 0)] with nzl := { stage := .drive }, slp := { presIn := 2 ^ 62 }, dpt := {} }) (31)) ∧
    ((fun (s : State) (port : Fin 32) => ((s.pdRuns = true) ∧ (bitOf s.slp.presIn (2 * port.val) = false) ∧ (s.presAt (2 * port.val) = true) ∧ (s.presAt (2 * port.val + 1) = false) ∧ (s.flag (SLP_CH_STAT_PRESENT port) = true) ∧ (s.chState port = 4) : Prop)) ({ st 3 [(SLP_STAT, 0), (SLP_PRES_H, 0x40000000), (SLP_CH_STAT 31, 0x1304), (DPT_CTL, 1)] with nzl := { stage := .drive }, slp := { gates := 1 } }) (31)) ∧
    ((fun (s : State) (pos : Fin 64) (present : Bool) => (((bitOf s.slp.presIn pos ≠ present ∨ s.presAt pos = present ∨ s.posOk pos = false)) : Prop)) ({ st 3 [(SLP_PRES_H, 0x80000000), (SLP_CH_STAT 31, 0x1302)] with nzl := { stage := .drive }, slp := {} }) (63) (false)) := by
  refine ⟨?_, ?_, ?_, ?_, ?_, ?_, ?_, ?_, ?_, ?_, ?_, ?_, ?_, ?_, ?_, ?_, ?_, ?_, ?_, ?_, ?_, ?_, ?_, ?_, ?_⟩ <;> decide

set_option maxRecDepth 100000 in
/-- The hypotheses of FeedsAndSideband, clause by clause, hold somewhere. -/
theorem witness_FeedsAndSideband :
    ((fun (s : State) (_feed : Fin 2) (vin : Int) => ((s.pdProtects = true) ∧ (vin < -500) : Prop)) ({ st 3 [(SLP_FD_STAT 1, 2)] with nzl := { stage := .hold }, slp := { feedGate := 3, pcg := 2 } }) (1) (-501)) ∧
    ((fun (s : State) (feed : Fin 2) => ((s.pdRuns = true) ∧ (s.fdState feed = 5) : Prop)) ({ st 3 [(SLP_FD_STAT 1, 5)] with nzl := { stage := .drive }, slp := { feedGate := 1 } }) (1)) ∧
    ((fun (s : State) (feed : Fin 2) (vin : Int) => ((s.pdDrives = true) ∧ (s.fdState feed = 0) ∧ (s.flag (SLP_FD_CFG_EN feed) = true) ∧ (100 * (s.fld (SLP_FD_CFG_UV_TH feed) : Int) ≤ vin) ∧ (vin ≤ 100 * (s.fld (SLP_FD_CFG_OV_TH feed) : Int)) : Prop)) ({ st 3 [(SLP_STAT, 0)] with nzl := { stage := .drive } }) (1) (10000)) ∧
    ((fun (s : State) (feed : Fin 2) (vin : Int) => (((s.flag (SLP_FD_CFG_EN feed) = false ∨ vin < 100 * (s.fld (SLP_FD_CFG_UV_TH feed) : Int) ∨ 100 * (s.fld (SLP_FD_CFG_OV_TH feed) : Int) < vin)) : Prop)) ({ st 3 [(SLP_STAT, 0)] with nzl := { stage := .drive } }) (1) (9999)) ∧
    ((fun (s : State) (feed : Fin 2) (vin vbus : Int) => ((s.pdDrives = true) ∧ (s.fdState feed = 1) ∧ (vin - 500 ≤ vbus) : Prop)) ({ st 3 [(SLP_FD_STAT 1, 1), (SLP_STAT, 0)] with nzl := { stage := .drive }, slp := { pcg := 2 } }) (1) (12000) (11500)) ∧
    ((fun (s : State) (feed : Fin 2) => ((s.pdProtects = true) ∧ (s.fdState feed = 1) : Prop)) ({ st 3 [(SLP_FD_STAT 1, 1)] with nzl := { stage := .drive }, slp := { pcg := 3 } }) (1)) ∧
    ((fun (s : State) (feed : Fin 2) (vin vbus : Int) => ((s.pdProtects = true) ∧ (bitOf s.slp.feedGate feed = true) ∧ (s.fdSees feed = true) ∧ (vin < vbus) : Prop)) ({ st 3 [(SLP_FD_STAT 1, 2)] with nzl := { stage := .hold }, slp := { feedGate := 3 } }) (1) (12000) (12010)) ∧
    ((fun (s : State) (feed : Fin 2) (vin vbus : Int) => ((s.pdDrives = true) ∧ (s.fdState feed = 3) ∧ (s.fdSees feed = true) ∧ (vbus + 50 ≤ vin) ∧ (100 * (s.fld (SLP_FD_CFG_UV_TH feed) : Int) ≤ vin) : Prop)) ({ st 3 [(SLP_FD_STAT 1, 3), (SLP_STAT, 0)] with nzl := { stage := .drive }, slp := { feedGate := 1 } }) (1) (12050) (12000)) ∧
    ((fun (s : State) (feed : Fin 2) (_vin _vbus : Int) => ((s.fdSees feed = false) : Prop)) ({ st 3 [(SLP_FD_STAT 1, 0x23), (SLP_STAT, 0)] with nzl := { stage := .drive }, slp := { feedGate := 1 } }) (1) (12050) (12000)) ∧
    ((fun (s : State) (feed : Fin 2) (vin : Int) => ((s.pdProtects = true) ∧ (s.fdState feed = 2) ∧ (100 * (s.fld (SLP_FD_CFG_OV_TH feed) : Int) < vin) : Prop)) ({ st 3 [(SLP_FD_STAT 1, 2)] with nzl := { stage := .drive }, slp := { feedGate := 3 } }) (1) (14001)) ∧
    ((fun (s : State) (feed : Fin 2) (vin : Int) => ((s.pdProtects = true) ∧ (s.fdState feed = 2) ∧ (vin < 100 * (s.fld (SLP_FD_CFG_UV_TH feed) : Int)) : Prop)) ({ st 3 [(SLP_FD_STAT 1, 2)] with nzl := { stage := .drive }, slp := { feedGate := 3 } }) (1) (9999)) ∧
    ((fun (s : State) (feed : Fin 2) => ((s.pdProtects = true) ∧ (s.fdState feed = 4) : Prop)) ({ st 3 [(SLP_FD_STAT 1, 4)] with nzl := { stage := .drive }, slp := { feedGate := 1 } }) (1)) ∧
    ((fun (s : State) (req : Requester) (feed : Fin 2) => ((s.Admits req (SLP_FD_CFG feed)) ∧ (s.pdDrives = true) ∧ (s.fdState feed ≠ 5) : Prop)) ({ st 3 [(SLP_FD_STAT 1, 2), (SLP_STAT, 0)] with nzl := { stage := .drive }, slp := { feedGate := 3 } }) (.mc 0) (1)) ∧
    ((fun (s : State) (feed : Fin 2) (wire : Fin 4) => ((s.pdProtects = true) ∧ (bitOf (s.fld (SLP_FD_STAT_OPEN feed)) wire = false) ∧ (wire.val < 2) ∧ (s.fdState feed = 2) ∧ (s.fdState (1 - feed.val) = 2) : Prop)) ({ st 3 [(SLP_FD_STAT 1, 2), (SLP_FD_STAT 0, 2), (SLP_STAT, 0)] with nzl := { stage := .drive }, slp := { feedGate := 3 } }) (1) (1)) ∧
    ((fun (s : State) (feed : Fin 2) (wire : Fin 4) => ((s.pdRuns = true) ∧ (bitOf (s.fld (SLP_FD_STAT_OPEN feed)) wire = false) ∧ (wire.val < 2) ∧ (s.fdState (1 - feed.val) ≠ 2) : Prop)) ({ st 3 [(SLP_FD_STAT 1, 2), (SLP_STAT, 0)] with nzl := { stage := .drive }, slp := { feedGate := 2 } }) (1) (0)) ∧
    ((fun (s : State) (feed : Fin 2) (wire : Fin 4) => ((s.pdRuns = true) ∧ (bitOf (s.fld (SLP_FD_STAT_OPEN feed)) wire = false) ∧ (2 ≤ wire.val) : Prop)) ({ st 3 [(SLP_FD_STAT 1, 2), (SLP_FD_STAT 0, 2), (SLP_FD_MEAS 1, 0x12345678)] with nzl := { stage := .drive }, slp := { feedGate := 2 } }) (1) (3)) ∧
    ((fun (s : State) (va vb : Int) => ((s.pdRuns = true) ∧ (s.flag SLP_STAT_PFAIL = false) ∧ (va < 100 * (s.fld SLP_PF_CFG_PF_TH : Int)) ∧ (vb < 100 * (s.fld SLP_PF_CFG_PF_TH : Int)) : Prop)) ({ st 3 [] with nzl := { stage := .drive } }) (10799) (-3)) ∧
    ((fun (s : State) (va vb : Int) => (((100 * (s.fld SLP_PF_CFG_PF_TH : Int) ≤ va ∨ 100 * (s.fld SLP_PF_CFG_PF_TH : Int) ≤ vb)) : Prop)) ({ st 3 [] with nzl := { stage := .drive } }) (10800) (-3)) ∧
    ((fun (s : State) (va vb : Int) => ((s.pdRuns = true) ∧ (s.flag SLP_STAT_PFAIL = true) ∧ ((100 * (s.fld SLP_PF_CFG_PF_TH : Int) + 300 ≤ va ∨ 100 * (s.fld SLP_PF_CFG_PF_TH : Int) + 300 ≤ vb)) : Prop)) ({ st 3 [(SLP_STAT, 1)] with nzl := { stage := .drive } }) (-7) (11100)) ∧
    ((fun (s : State) (inputs : Nat) (p : Fin 64) (fail pol : Bool) => ((s.pdRuns = true) ∧ (s.flag SLP_CTL_SGP_EN = true) ∧ (s.nzl.stage = .drive) ∧ (s.flag SLP_STAT_HELD = false) ∧ (s.posOk p = true) ∧ (fail = (s.chState (p.val / 2) == 4 || s.chState (p.val / 2) == 5 || s.flag (SLP_CH_CFG_FAIL_LAMP (p.val / 2)) || (s.posMem p).any (fun m => s.memState m == 3))) ∧ (pol = (bitOf inputs p != s.flag SLP_CTL_PRES_POL)) : Prop)) ({ st 3 [(SLP_STAT, 0), (SLP_LOCATE_L, 5), (SLP_CH_STAT 31, 4), (SLP_CTL, 0x1C9)] with nzl := { stage := .drive } }) (2 ^ 62 + 3) (62) (true) (false)) ∧
    ((fun (s : State) (_inputs : Nat) => ((s.flag SLP_CTL_SGP_EN = false) : Prop)) ({ st 3 [(SLP_STAT, 0), (SLP_CTL, 0x1C8)] with nzl := { stage := .drive } }) (2 ^ 62 + 3)) ∧
    ((fun (s : State) (bus : Fin 4) (fresh : Bool) (n : Nat) => ((s.powered = true) ∧ (bitOf (s.fld SLP_SMB_CFG_EN) bus = true) ∧ (n = (if fresh then 0 else tget s.slp.smbRec bus 0)) : Prop)) ({ st 3 [] with slp := { smbRec := [(3, 2)] } }) (3) (false) (2)) ∧
    ((fun (s : State) => ((s.slp.vhvLow = false) : Prop)) ({ st 3 [(SLP_CH_STAT 31, 2), (SLP_CH_STAT 30, 4), (SLP_FD_STAT 1, 2), (SLP_FD_STAT 0, 5)] with nzl := { stage := .drive }, slp := { gates := 2 ^ 31, feedGate := 2 }, dpt := { released := [63, 4] } })) := by
  refine ⟨?_, ?_, ?_, ?_, ?_, ?_, ?_, ?_, ?_, ?_, ?_, ?_, ?_, ?_, ?_, ?_, ?_, ?_, ?_, ?_, ?_, ?_, ?_⟩ <;> decide

set_option maxRecDepth 100000 in
/-- The hypotheses of Monitoring, clause by clause, hold somewhere. -/
theorem witness_Monitoring :
    ((fun (s : State) (req : Requester) (group : Fin 129) (val : Word) => ((s.Admits req (MON_GRP_CTL group)) ∧ (bitOf val.toNat 3 = false) : Prop)) ({ st 3 [(MON_GRP_CTL 128, 0xFF05)] with mon := { pc := [(1024, 5), (1031, 7)], shadow := [(3, [1])] } }) (.mc 1) (128) (0xFFFFFFF5)) ∧
    ((fun (s : State) (req : Requester) (group : Fin 129) (val : Word) => ((s.Admits req (MON_GRP_CTL group)) ∧ (bitOf val.toNat 1 = false) : Prop)) ({ st 3 [] with mon := { pc := [(1023, 9), (1024, 5), (1031, 7)], ran := [(127, 4), (128, 3)], shadow := [(128, [1])] } }) (.mc 1) (128) (0xFFFFFFFD)) ∧
    ((fun (s : State) (req : Requester) (_val : Word) => ((s.Admits req MON_CTL) : Prop)) ({ st 3 [] with mon := { pc := [(1023, 9), (1024, 5), (1031, 7)], ran := [(127, 4), (128, 3)], shadow := [(128, [1])] } }) (.mc 1) (5)) ∧
    ((fun (s : State) (req : Requester) (group : Fin 129) (k : Fin 8) (_val : Word) => ((s.Admits req (MON_PC_SEL group k)) : Prop)) ({ st 3 [] with mon := { pc := [(1023, 9), (1024, 5), (1031, 7)] } }) (.mc 1) (128) (7) (0xFFFFF882)) ∧
    ((fun (s : State) (g : Fin 129) (k : Fin 8) (n : Nat) => ((2 ^ 48 ≤ tget s.mon.pc (8 * g + k) 0 + n) ∧ ((s.fld (MON_GRP_CTL_OVF_ALERT g) >>> k.val) % 2 = 1) : Prop)) ({ st 3 [(MON_GRP_CTL 128, 0x8001), (MON_HEALTH_EN, 0x1000)] with mon := { pc := [(1031, 2 ^ 48 - 1)] } }) (128) (7) (1)) ∧
    ((fun (s : State) (dt : Nat) => ((s.powered = true) ∧ (s.flag MON_BW_CFG_EN = true) ∧ ((s.pass dt).mon.bwFrom + 1000 * max 1 (min 4000000 (s.fld MON_BW_CFG_WIN_US)) ≤ (s.pass dt).clock.nowNs) ∧ (s.mon.bwRx.all (fun e => e.2 < 2 ^ 64) = true) ∧ (s.mon.bwTx.all (fun e => e.2 < 2 ^ 64) = true) : Prop)) ({ st 3 [(MON_BW_CFG, 0x400000)] with mon := { bwRx := [(63, 9)], bwTx := [(8, 1227180)], bwFrom := 5 } }) (1005)) ∧
    ((fun (s : State) (dt : Nat) => ((((s.pass dt).flag MON_BW_CFG_EN = false ∨ (s.pass dt).clock.nowNs < (s.pass dt).mon.bwFrom + 1000 * (s.pass dt).bwWindow)) : Prop)) ({ st 3 [] with mon := { bwRx := [(63, 9)], bwTx := [(8, 1227180)] } }) (999999)) ∧
    ((fun (s : State) (req : Requester) (_val : Word) => ((s.Admits req MON_BW_CFG) : Prop)) ({ st 3 [] with clock := { nowNs := 77 }, mon := { bwRx := [(63, 9)], bwTx := [(8, 1227180)] } }) (.mc 3) (0xFFC003E8)) ∧
    ((fun (s : State) => ((s.powered = true) ∧ (max 1 (s.fld MON_HEALTH_WIN_WIN) ≤ s.mon.hwin) : Prop)) ({ st 3 [(MON_HEALTH_WIN, 0)] with mon := { hwin := 1, hcount := [(15, 9)], hdone := 0x8000, slot := 0x8000 } })) ∧
    ((fun (s : State) => ((s.mon.hwin < max 1 (s.fld MON_HEALTH_WIN_WIN)) : Prop)) ({ st 3 [] with mon := { hwin := 1023, hcount := [(15, 9)] } })) := by
  refine ⟨?_, ?_, ?_, ?_, ?_, ?_, ?_, ?_, ?_, ?_⟩ <;> decide

end Sys2Proof.Tests
end

section
/-! SUPPORT. Scope: reset values, reserved bits, access rules and resets. The proofs rest on what a counted access, an RWC attempt and a reset leave of the
register file. -/

namespace Sys2Proof.Machine

/-! ### Words -/

/-- A word within a mask holds nothing outside it. -/
theorem and_not_eq_zero_of_and_eq {n : Nat} {w m : BitVec n} (h : w &&& m = w) : w &&& ~~~m = 0#n := by
  rw [← h, BitVec.and_assoc, BitVec.and_not_self]; exact BitVec.and_zero

/-- A reset that keeps every implemented bit keeps the word. -/
theorem mixWord_keep {m old rst : Word} (ho : old &&& m = old) (hr : rst &&& m = rst) : mixWord m old rst = old := by
  rw [mixWord, ho, and_not_eq_zero_of_and_eq hr, BitVec.or_zero]

/-- A reset that keeps no bit gives the reset value. -/
theorem mixWord_zero (old rst : Word) : mixWord 0 old rst = rst := by
  show old &&& 0#32 ||| rst &&& ~~~0#32 = rst
  rw [BitVec.and_zero, BitVec.zero_or, BitVec.not_zero, BitVec.and_allOnes]

/-! ### Counters that nothing monitors -/

/-- A counter outside every mirror list changes its two words only. -/
theorem State.bump_of_mirrorOf_eq_none (s : State) {off : Nat} (h : mirrorOf off = none) : s.bump off = s.set64 off ((s.get64 off + 1) % 2 ^ 64) := by
  simp [State.bump, State.bumpBy, h]

theorem RegsOnly.bump {offs : List Nat} {s t : State} (h : RegsOnly offs s t) (off : Nat) (hm : mirrorOf off = none) (h0 : off ∈ offs) (h1 : off + 4 ∈ offs) :
    RegsOnly offs s (t.bump off) := by
  rw [State.bump_of_mirrorOf_eq_none t hm]
  exact h.set64 _ _ h0 h1

theorem RegsOnly.get64 {offs : List Nat} {s t : State} (h : RegsOnly offs s t) {off : Nat} (h0 : off ∉ offs) (h1 : off + 4 ∉ offs) : t.get64 off = s.get64 off := by
  rw [State.get64, State.get64, h.2 _ h0, h.2 _ h1]

/-- A frame with an entry of the transcript beside it. -/
theorem RegsOnly.emit {offs : List Nat} {s t : State} (h : RegsOnly offs s t) (o : Out) : RegsOnly offs { s with out := (t.emit o).out } (t.emit o) := by
  obtain ⟨ht, hregs⟩ := h
  exact ⟨by rw [ht]; rfl, hregs⟩

theorem State.malformed_frame (s : State) : RegsOnly [CNT_HEP_MALFORMED, CNT_HEP_MALFORMED + 4] s s.malformed :=
  (RegsOnly.refl _ s).bump _ rfl (by simp) (by simp)

theorem State.get64_malformed (s : State) : s.malformed.get64 CNT_HEP_MALFORMED = (s.get64 CNT_HEP_MALFORMED + 1) % 2 ^ 64 :=
  s.get64_bumpBy _ 1 rfl rfl (by decide)

@[simp] theorem State.get64_emit (s : State) (o : Out) (off : Nat) : (s.emit o).get64 off = s.get64 off := rfl

theorem State.malformed_out (s : State) : s.malformed.out = s.out := by
  rw [s.malformed_frame.1]

/-- What a refusal by class counts: the two refusal counters, and nothing else (R374). -/
theorem State.privRefused_frame (s : State) :
    RegsOnly [CNT_PROT_PRIV_REFUSED, CNT_PROT_PRIV_REFUSED + 4, CNT_HEP_MALFORMED, CNT_HEP_MALFORMED + 4] s s.privRefused :=
  ((RegsOnly.refl _ s).bump CNT_PROT_PRIV_REFUSED rfl (by simp) (by simp)).bump CNT_HEP_MALFORMED rfl (by simp) (by simp)

theorem State.get64_privRefused (s : State) : s.privRefused.get64 CNT_PROT_PRIV_REFUSED = (s.get64 CNT_PROT_PRIV_REFUSED + 1) % 2 ^ 64 :=
  ((s.bump CNT_PROT_PRIV_REFUSED).malformed_frame.get64 (by decide) (by decide)).trans (s.get64_bumpBy _ 1 rfl rfl (by decide))

end Sys2Proof.Machine

open Sys2Proof Sys2Proof.Machine

/-- Settles O2: the reset cause and the claim are the only registers listed after PORn. -/
theorem resetIsCanonical : Obligations.ResetIsCanonical := by
  unfold Obligations.ResetIsCanonical
  exact ⟨by decide, rfl⟩

set_option maxRecDepth 100000 in
/-- Settles O3: SYS_RST_CAUSE is listed, the other registers read their PORn values. -/
theorem resetValues : Obligations.ResetValues := by
  unfold Obligations.ResetValues
  refine ⟨?_, ?_, ?_, ?_, ?_, ?_, ?_, ?_, ?_, ?_⟩ <;> decide

/-- Settles O5: a word is cut to the implemented bits when it is stored, and a canonical file holds no others. -/
theorem reservedBitsReadZero : Obligations.ReservedBitsReadZero := by
  unfold Obligations.ReservedBitsReadZero
  refine ⟨fun s off h => and_not_eq_zero_of_and_eq (s.reg_impl h off), fun s off w w' hw => ⟨?_, ?_⟩⟩
  · simp only [State.setReg, writeRegs, hw]
  · rw [State.reg_setReg_same]
    exact and_not_eq_zero_of_and_eq (by rw [BitVec.and_assoc, BitVec.and_self])

/-- Settles O20: where registers answer, a narrow access is counted as malformed, and a read of it answers 0 besides. -/
theorem narrowAccesses : Obligations.NarrowAccesses := by
  unfold Obligations.NarrowAccesses
  refine ⟨fun s req off hr => .of_eq (t := s.malformed) ?_ ⟨s.get64_malformed, s.malformed_out, s.malformed_frame⟩,
    fun s req off hr => .of_eq (t := s.malformed.emit (.read req off 0)) ?_ ⟨?_, ?_, s.malformed_frame.emit _⟩⟩
  · simp [exec, execMalformedAccess, State.cond, hr]
  · simp [exec, execMalformedAccess, State.cond, hr]
  · rw [State.get64_emit, s.get64_malformed]
  · simp [State.emit, s.malformed_out]
end

section
/-! SUPPORT. Attempts on RWC registers (R13, R385). -/

namespace Sys2Proof.Machine

/-- PROT_RWC_LAST after an attempt (R385). -/
def State.rwcRecord (s : State) (req : Requester) (off : Nat) : State :=
  ((s.setFld PROT_RWC_LAST_OFFSET off).setFld PROT_RWC_LAST_PORT (reqCode req)).setFlag PROT_RWC_LAST_VALID true

/-- An attempt where registers answer is judged by class, counted and recorded. -/
theorem State.rwcAttempt_of_reachable (s : State) (req : Requester) (off : Nat) (hr : s.reachable req = true) (hm : s.mode ≠ 7) (ha : s.absent req off = false) :
    s.rwcAttempt req off = ((s.cond (decide (s.classOf req < 2)) State.privRefused).bump CNT_PROT_RWC_VIOL).rwcRecord req off := by
  simp [State.rwcAttempt, State.rwcRecord, hr, hm, ha]

theorem reqCode_lt (req : Requester) : reqCode req < 2 ^ PROT_RWC_LAST_PORT.wd := by
  cases req with
  | mc n => simp only [reqCode, PROT_RWC_LAST_PORT]; omega
  | _ => decide

/-- The record reads back as the offset and the requester. -/
theorem State.rwcRecord_reads (s : State) (req : Requester) (off : Nat) :
    (s.rwcRecord req off).fld PROT_RWC_LAST_OFFSET = off % 2 ^ PROT_RWC_LAST_OFFSET.wd ∧ (s.rwcRecord req off).fld PROT_RWC_LAST_PORT = reqCode req ∧
      (s.rwcRecord req off).flag PROT_RWC_LAST_VALID = true := by
  refine ⟨?_, ?_, State.flag_setFlag_same _ _ _ (by decide) rfl⟩
  · rw [State.rwcRecord, State.setFlag, State.fld_setFld_apart _ _ _ _ (by decide) (by decide), State.fld_setFld_apart _ _ _ _ (by decide) (by decide),
      State.fld_setFld_same _ _ _ (by decide)]
  · rw [State.rwcRecord, State.setFlag, State.fld_setFld_apart _ _ _ _ (by decide) (by decide), State.fld_setFld_same _ _ _ (by decide),
      Nat.mod_eq_of_lt (reqCode_lt req)]

theorem RegsOnly.rwcRecord {offs : List Nat} {s t : State} (h : RegsOnly offs s t) (req : Requester) (off : Nat) (hm : PROT_RWC_LAST ∈ offs) :
    RegsOnly offs s (t.rwcRecord req off) :=
  ((h.setFld _ _ hm).setFld _ _ hm).setFlag _ _ hm

/-- The record leaves every counter as it is. -/
theorem State.get64_rwcRecord (s : State) (req : Requester) (off : Nat) {c : Nat} (h : PROT_RWC_LAST ≠ c ∧ PROT_RWC_LAST ≠ c + 4) :
    (s.rwcRecord req off).get64 c = s.get64 c :=
  ((RegsOnly.refl [PROT_RWC_LAST] s).rwcRecord req off (by simp)).get64 (by simpa using h.1.symm) (by simpa using h.2.symm)

theorem State.get64_bump_rwcViol (s : State) : (s.bump CNT_PROT_RWC_VIOL).get64 CNT_PROT_RWC_VIOL = (s.get64 CNT_PROT_RWC_VIOL + 1) % 2 ^ 64 :=
  s.get64_bumpBy _ 1 rfl rfl (by decide)

/-- No register that an attempt changes holds an RWC field. -/
theorem isRwc_attempt_regs : [CNT_PROT_RWC_VIOL, CNT_PROT_RWC_VIOL + 4, PROT_RWC_LAST, CNT_PROT_PRIV_REFUSED, CNT_PROT_PRIV_REFUSED + 4, CNT_HEP_MALFORMED,
    CNT_HEP_MALFORMED + 4].all (fun off => !isRwc off) = true := by decide

/-- A descriptor with RWC fields has no other fields. -/
def RegDesc.rwcWhole (d : RegDesc) : Bool := d.rwc == 0 || d.impl == d.rwc

set_option maxRecDepth 100000 in
/-- A register with RWC fields holds RWC fields and reserved bits only. -/
theorem regAt_rwc {off : Nat} {d : RegDesc} {ix : List Nat} (h : regAt off = some (d, ix)) (hd : d.rwc ≠ 0) : d.impl = d.rwc := by
  have hw := regAt_all RegDesc.rwcWhole (by decide) (by decide) (by decide) (by decide) h
  simpa [RegDesc.rwcWhole, hd] using hw

end Sys2Proof.Machine

open Sys2Proof Sys2Proof.Machine

/-- Settles O18: an attempt changes the counts and the record only, and none of those registers holds an RWC field. -/
theorem rwcAttempts : Obligations.RwcAttempts := by
  unfold Obligations.RwcAttempts
  refine ⟨fun s req off hw hr hm ha hc => ?_, fun s req off hw hr hm ha hc => ?_, fun s req off val aux hw => ?_, fun off => ?_⟩
  · have hc' : ¬ s.classOf req < 2 := by omega
    have he : exec (.rwcWriteAttempt req off) s = .next ((s.bump CNT_PROT_RWC_VIOL).rwcRecord req off) := by
      simp [exec, execRwcWriteAttempt, hw, s.rwcAttempt_of_reachable req off hr hm ha, hc', State.cond]
    obtain ⟨hoff, hport, hvalid⟩ := (s.bump CNT_PROT_RWC_VIOL).rwcRecord_reads req off
    refine .of_eq he ⟨?_, hoff, hport, hvalid, ?_⟩
    · rw [State.get64_rwcRecord _ _ _ (by decide), State.get64_bump_rwcViol]
    · exact (((RegsOnly.refl _ s).bump CNT_PROT_RWC_VIOL rfl (by simp) (by simp)).rwcRecord req off (by simp)).counts
  · have he : exec (.rwcWriteAttempt req off) s = .next ((s.privRefused.bump CNT_PROT_RWC_VIOL).rwcRecord req off) := by
      simp [exec, execRwcWriteAttempt, hw, s.rwcAttempt_of_reachable req off hr hm ha, hc, State.cond]
    obtain ⟨hoff, hport, -⟩ := (s.privRefused.bump CNT_PROT_RWC_VIOL).rwcRecord_reads req off
    have hviol := (RegsOnly.refl [CNT_PROT_RWC_VIOL, CNT_PROT_RWC_VIOL + 4] s.privRefused).bump CNT_PROT_RWC_VIOL rfl (by simp) (by simp)
    refine .of_eq he ⟨?_, ?_, hoff, hport, ?_⟩
    · rw [State.get64_rwcRecord _ _ _ (by decide), State.get64_bump_rwcViol, s.privRefused_frame.get64 (by decide) (by decide)]
    · rw [State.get64_rwcRecord _ _ _ (by decide), hviol.get64 (by decide) (by decide), s.get64_privRefused]
    · have hout : ∀ c ∈ [CNT_PROT_RWC_VIOL, CNT_PROT_RWC_VIOL + 4, PROT_RWC_LAST, CNT_PROT_PRIV_REFUSED, CNT_PROT_PRIV_REFUSED + 4, CNT_HEP_MALFORMED,
          CNT_HEP_MALFORMED + 4], off ≠ c := by
        rintro c hc rfl
        have := List.all_eq_true.1 isRwc_attempt_regs _ hc
        simp [hw] at this
      have hrec := (RegsOnly.refl [PROT_RWC_LAST] (s.privRefused.bump CNT_PROT_RWC_VIOL)).rwcRecord req off (by simp)
      rw [hrec.2 off (by simp [hout]), hviol.2 off (by simp [hout]), s.privRefused_frame.2 off (by simp [hout])]
  · simp [exec, execRegisterWrite, execRwcWriteAttempt, State.bar0Write, hw]
  · cases h : regAt off with
    | none => trivial
    | some e => exact regAt_rwc h
end

section
/-! SUPPORT. What a PORn and a CHIP reset leave (R14–R16, R65, R466, R474). -/

namespace Sys2Proof.Machine

/-- The port classes are the only register that `rstClasses` sets. -/
theorem State.rstClasses_frame (s : State) : RegsOnly [PROT_PRIV_LOCAL] s s.rstClasses := by
  unfold State.rstClasses
  split
  · exact (RegsOnly.refl _ s).setFld _ _ (by decide)
  · exact RegsOnly.refl _ s

/-- A register after a CHIP reset: held bits keep their value, the others take their PORn value. -/
theorem State.chipState_reg (s : State) (h : s.RegsOk) {off : Nat} (ho : off ≠ PROT_PRIV_LOCAL) :
    s.chipState.reg off = mixWord (heldBits off) (s.reg off) (regPor off) := by
  unfold State.chipState
  rw [(State.rstClasses_frame _).2 off (by simpa using ho)]
  simpa [State.reg] using readRegs_resetRegs s.regs (fun _ => true) heldBits off h

/-- A CHIP reset leaves the power die and the queue of commands, and clears the command queues. -/
theorem State.chipState_rest (s : State) : s.chipState.slp = s.slp ∧ s.chipState.cmdq = {} ∧ s.chipState.pending = s.pending ∧ s.chipState.sys.hold = .none := by
  unfold State.chipState
  rw [(State.rstClasses_frame _).1]
  exact ⟨rfl, rfl, rfl, rfl⟩

/-- A mode fits PREV. -/
theorem State.mode_lt (s : State) : s.mode < 2 ^ SYS_MODE_PREV.wd := Nat.mod_lt _ (by decide)

/-- SYS_MODE at its PORn value shows DAWN. -/
theorem State.mode_of_reg {s : State} (h : s.reg SYS_MODE = regPor SYS_MODE) : s.mode = 1 := by
  rw [State.mode, State.fld, show SYS_MODE_CUR.off = SYS_MODE from rfl, h]
  decide

/-- A CHIP reset that is not absorbed: DAWN is shown, PREV is the mode it ended, the cause is set, and the AON settings stay (R16, R60, R65). -/
theorem State.chipReset_shows (s : State) (h : s.RegsOk) (hn : s.sys.hold = .none) {cause : Fld} (ho : cause.off = SYS_RST_CAUSE) (hw : cause.whole = true)
    (h1 : cause.wd = 1) :
    (s.chipReset cause).mode = 1 ∧ (s.chipReset cause).fld SYS_MODE_PREV = s.mode ∧ (s.chipReset cause).flag cause = true ∧
      (s.chipReset cause).reg SYS_WAKE_EN = s.reg SYS_WAKE_EN := by
  have he : s.chipReset cause = (s.chipState.setFld SYS_MODE_PREV s.mode).setFlag cause true := by simp [State.chipReset, hn]
  have hmode : s.chipState.mode = 1 := by
    refine State.mode_of_reg ?_
    rw [s.chipState_reg h (by decide), show heldBits SYS_MODE = 0 by decide, mixWord_zero]
  have hwake : s.chipState.reg SYS_WAKE_EN = s.reg SYS_WAKE_EN := by
    rw [s.chipState_reg h (by decide), show heldBits SYS_WAKE_EN = regImpl SYS_WAKE_EN by decide, mixWord_keep (s.reg_impl h _) (regPor_impl _)]
  have hcm : cause.off ≠ SYS_MODE := by rw [ho]; decide
  have hcw : cause.off ≠ SYS_WAKE_EN := by rw [ho]; decide
  rw [he]
  refine ⟨?_, ?_, State.flag_setFlag_same _ _ _ hw h1, ?_⟩
  · rw [State.mode, State.setFlag, State.fld_setFld_other _ _ _ _ hcm, State.fld_setFld_apart _ _ _ _ (by decide) (by decide)]
    exact hmode
  · rw [State.setFlag, State.fld_setFld_other _ _ _ _ hcm, State.fld_setFld_same _ _ _ (by decide), Nat.mod_eq_of_lt s.mode_lt]
  · rw [State.setFlag, State.reg_setFld_other _ _ _ _ hcw, State.reg_setFld_other _ _ _ _ (by decide), hwake]

theorem State.chipReset_rest (s : State) (hn : s.sys.hold = .none) (cause : Fld) :
    (s.chipReset cause).slp = s.slp ∧ (s.chipReset cause).cmdq = {} ∧ (s.chipReset cause).pending = s.pending ∧ (s.chipReset cause).sys.hold = .none := by
  rw [show s.chipReset cause = (s.chipState.setFld SYS_MODE_PREV s.mode).setFlag cause true by simp [State.chipReset, hn]]
  exact s.chipState_rest

/-- A PORn: DAWN is shown and the cause is set (R16, R466). -/
theorem State.pornReset_shows (s : State) (h : s.RegsOk) {cause : Fld} (ho : cause.off = SYS_RST_CAUSE) (hw : cause.whole = true) (h1 : cause.wd = 1) :
    (s.pornReset cause).mode = 1 ∧ (s.pornReset cause).flag cause = true := by
  have hcm : cause.off ≠ SYS_MODE := by rw [ho]; decide
  refine ⟨?_, State.flag_setFlag_same _ _ _ hw h1⟩
  refine State.mode_of_reg ?_
  unfold State.pornReset State.setStage
  rw [State.setFlag, State.reg_setFld_other _ _ _ _ hcm, (State.rstClasses_frame _).2 _ (by decide), State.reg_setFld_other _ _ _ _ (by decide)]
  have hreg := readRegs_resetRegs s.regs (fun _ => true) fusedBits SYS_MODE h
  rwa [if_pos rfl, show fusedBits SYS_MODE = 0 by decide, mixWord_zero] at hreg

/-- A PORn holds, keeps its sources' levels, the queue of commands and the slot gates, and clears the command queues. -/
theorem State.pornReset_rest (s : State) (cause : Fld) : (s.pornReset cause).sys = { hold := .porn, supplyLow := s.sys.supplyLow, pwronLow := s.sys.pwronLow } ∧
    (s.pornReset cause).pending = s.pending ∧ (s.pornReset cause).cmdq = {} ∧ (s.pornReset cause).slp.gates = s.slp.gates := by
  unfold State.pornReset State.setStage
  rw [State.setFlag, (State.rstClasses_frame _).1]
  exact ⟨rfl, rfl, rfl, rfl⟩

/-- The end of a PORn samples the straps and changes nothing else. -/
theorem State.pornEnd_shows (s : State) (pf1 : Bool) (base : Fin 16) :
    (s.pornEnd pf1 base).sys = { s.sys with hold := .none } ∧ (s.pornEnd pf1 base).flag HEP_STAT_PF1_PRESENT = pf1 ∧
      (s.pornEnd pf1 base).fld NZL_CLAIM_BASE = base.val ∧ RegsOnly [HEP_STAT, NZL_CLAIM] { s with sys := { s.sys with hold := .none } } (s.pornEnd pf1 base) := by
  unfold State.pornEnd
  refine ⟨rfl, ?_, ?_, ((RegsOnly.refl _ _).setFlag _ _ (by decide)).setFld _ _ (by decide)⟩
  · rw [State.flag_setFld_apart _ _ _ _ (by decide) (by decide), State.flag_setFlag_same _ _ _ (by decide) rfl]
  · rw [State.fld_setFld_same _ _ _ (by decide)]
    exact Nat.mod_eq_of_lt base.isLt

/-- Registers answer under no reset. -/
theorem State.hold_of_reachable {s : State} {req : Requester} (h : s.reachable req = true) : s.sys.hold = .none := by
  simp only [State.reachable, State.powered, Bool.and_eq_true, beq_iff_eq] at h
  exact h.1.2

/-- A write of SYS_RST that is admitted takes its effect. -/
theorem State.execSysRstWrite_of_admits {s : State} {req : Requester} (h : s.Admits req SYS_RST) (val : Word) :
    execSysRstWrite req val s = .next (s.rstWrite val) := by
  obtain ⟨hreach, hclass, hmode, habsent⟩ := h
  rw [execSysRstWrite, s.accessWrite_ok req SYS_RST _ hreach hclass hmode habsent]

end Sys2Proof.Machine

open Sys2Proof Sys2Proof.Machine

/-- Settles O7: each source's command is `pornReset`, `pornEnd` or `chipReset` on the state with the pin's or the supply's level. -/
theorem resetEvents : Obligations.ResetEvents := by
  unfold Obligations.ResetEvents
  refine ⟨fun s h hp hh => ?_, fun s pf1 base hp hs => ?_, fun s h hs hh => ?_, fun s pf1 base hs hp => ?_, fun s h hn => ?_, fun s hc => ?_,
    fun s req val h ha hkey hbit => ?_, fun s req val ha hkey => ?_⟩
  · let u : State := { s with sys := { s.sys with pwronLow := true } }
    obtain ⟨hmode, hflag⟩ := u.pornReset_shows (cause := SYS_RST_CAUSE_PWRON_PIN) h rfl (by decide) rfl
    obtain ⟨hsys, hpend, hcmdq, hgates⟩ := u.pornReset_rest SYS_RST_CAUSE_PWRON_PIN
    refine .of_eq (t := u.pornReset SYS_RST_CAUSE_PWRON_PIN) (by simp [exec, execPwronNAssert, hp, hh, u])
      ⟨by rw [hsys], by rw [hsys], hmode, hflag, hpend, hcmdq, hgates⟩
  · let u : State := { s with sys := { s.sys with pwronLow := false } }
    obtain ⟨hsys, hpf1, hbase, hframe⟩ := u.pornEnd_shows pf1 base
    exact .of_eq (t := u.pornEnd pf1 base) (by simp [exec, execPwronNRelease, hp, hs, u]) ⟨hsys, hpf1, hbase, by rw [hsys]; exact hframe⟩
  · let u : State := { s with sys := { s.sys with supplyLow := true } }
    obtain ⟨hmode, hflag⟩ := u.pornReset_shows (cause := SYS_RST_CAUSE_AON_SUPPLY) h rfl (by decide) rfl
    obtain ⟨hsys, hpend, hcmdq, hgates⟩ := u.pornReset_rest SYS_RST_CAUSE_AON_SUPPLY
    refine .of_eq (t := u.pornReset SYS_RST_CAUSE_AON_SUPPLY) (by simp [exec, execAonSupplyLow, hs, hh, u])
      ⟨by rw [hsys], by rw [hsys], hmode, hflag, hpend, hcmdq, hgates⟩
  · let u : State := { s with sys := { s.sys with supplyLow := false } }
    obtain ⟨hsys, hpf1, hbase, hframe⟩ := u.pornEnd_shows pf1 base
    exact .of_eq (t := u.pornEnd pf1 base) (by simp [exec, execAonSupplyGood, hp, hs, u]) ⟨hsys, hpf1, hbase, by rw [hsys]; exact hframe⟩
  · obtain ⟨hmode, hprev, hflag, hwake⟩ := s.chipReset_shows h hn (cause := SYS_RST_CAUSE_WARM_PIN) rfl (by decide) rfl
    obtain ⟨hslp, hcmdq, hpend, -⟩ := s.chipReset_rest hn SYS_RST_CAUSE_WARM_PIN
    let u := s.chipReset SYS_RST_CAUSE_WARM_PIN
    exact .of_eq (t := { u with sys := { u.sys with hold := .chip } }) (by simp [exec, execWarmNAssert, hn, u]) ⟨rfl, hmode, hprev, hflag, hwake, hslp, hcmdq, hpend⟩
  · simp [exec, execWarmNRelease, hc]
  · have hn := State.hold_of_reachable ha.1
    obtain ⟨hmode, hprev, hflag, hwake⟩ := s.chipReset_shows h hn (cause := SYS_RST_CAUSE_SOFT) rfl (by decide) rfl
    obtain ⟨hslp, hcmdq, -, hhold⟩ := s.chipReset_rest hn SYS_RST_CAUSE_SOFT
    exact .of_eq (by simp [exec, State.execSysRstWrite_of_admits ha, State.rstWrite, hkey, hbit]) ⟨hhold, hmode, hprev, hflag, hwake, hslp, hcmdq⟩
  · exact .of_eq (by simp [exec, State.execSysRstWrite_of_admits ha, State.rstWrite, hkey]) ⟨s.get64_malformed, s.malformed_frame.counts⟩
end

section
namespace Sys2Proof.Machine

/-- The register file of a state is canonical: RegsOk under a name of its own, so that a proof about an effect never unfolds the state. -/
structure State.Canon (s : State) : Prop where
  regsOk : s.RegsOk

end Sys2Proof.Machine

namespace Sys2Proof.Machine.State.Canon


variable {s t : State}

/-! ### Writes, counts and messages, to be chained by dot in the order of the effects -/

/-- A state is canonical when its register file is, whatever its other fields hold. -/
theorem of_regsWf {regs : List (Nat × Word)} {pending : List Instr} {out : List Out} {free : Nat} {clock : Clock} {sys : Sys} {ports : List (Nat × PortSt)}
    {cls : Cls} {swc : Swc} {egs : Egs} {rdm : Rdm} {cmdq : Cmdq} {eng : Eng} {prot : Prot} {hep : Hep} {mbx : Mbx} {mon : Mon} {gov : Gov} {red : Red}
    {cip : Cip} {dpt : Dpt} {cch : Cch} {nzl : Nzl} {slp : Slp} (h : regsWf regs = true) :
    (State.mk regs pending out free clock sys ports cls swc egs rdm cmdq eng prot hep mbx mon gov red cip dpt cch nzl slp).Canon := ⟨h⟩

/-- A record update that keeps the field `regs`. -/
theorem frame {pending : List Instr} {out : List Out} {free : Nat} {clock : Clock} {sys : Sys} {ports : List (Nat × PortSt)} {cls : Cls} {swc : Swc}
    {egs : Egs} {rdm : Rdm} {cmdq : Cmdq} {eng : Eng} {prot : Prot} {hep : Hep} {mbx : Mbx} {mon : Mon} {gov : Gov} {red : Red} {cip : Cip} {dpt : Dpt}
    {cch : Cch} {nzl : Nzl} {slp : Slp} (h : s.Canon) :
    (State.mk s.regs pending out free clock sys ports cls swc egs rdm cmdq eng prot hep mbx mon gov red cip dpt cch nzl slp).Canon := of_regsWf h.regsOk

theorem setReg {off : Nat} {w : Word} (h : s.Canon) : (s.setReg off w).Canon := ⟨RegsOk_setReg h.regsOk off w⟩
theorem setFld {f : Fld} {v : Nat} (h : s.Canon) : (s.setFld f v).Canon := ⟨RegsOk_setFld h.regsOk f v⟩
theorem setFlag {f : Fld} {b : Bool} (h : s.Canon) : (s.setFlag f b).Canon := ⟨RegsOk_setFlag h.regsOk f b⟩
theorem setBit {f : Fld} {i : Nat} (h : s.Canon) : (s.setBit f i).Canon := h.setFld
theorem clrBit {f : Fld} {i : Nat} (h : s.Canon) : (s.clrBit f i).Canon := h.setFld
theorem set64 {off v : Nat} (h : s.Canon) : (s.set64 off v).Canon := ⟨RegsOk_set64 h.regsOk off v⟩
theorem clearRegs {lo hi : Nat} (h : s.Canon) : (s.clearRegs lo hi).Canon := ⟨RegsOk_clearRegs h.regsOk lo hi⟩
theorem emit {o : Out} (h : s.Canon) : (s.emit o).Canon := h.frame
theorem wakeLink (h : s.Canon) : s.wakeLink.Canon := ⟨RegsOk_wakeLink h.regsOk⟩
theorem msix0 {v : Nat} (h : s.Canon) : (s.msix0 v).Canon := ⟨RegsOk_msix0 h.regsOk v⟩
theorem msix1 {v : Nat} (h : s.Canon) : (s.msix1 v).Canon := ⟨RegsOk_msix1 h.regsOk v⟩
theorem health {b : Nat} (h : s.Canon) : (s.health b).Canon := ⟨RegsOk_health h.regsOk b⟩
theorem monEvent {g code n : Nat} (h : s.Canon) : (s.monEvent g code n).Canon := ⟨RegsOk_monEvent h.regsOk g code n⟩
theorem bumpBy {off n : Nat} (h : s.Canon) : (s.bumpBy off n).Canon := ⟨RegsOk_bumpBy h.regsOk off n⟩
theorem bump {off : Nat} (h : s.Canon) : (s.bump off).Canon := ⟨RegsOk_bump h.regsOk off⟩
theorem bumpC {c off : Nat} (h : s.Canon) : (s.bumpC c off).Canon := ⟨RegsOk_bumpC h.regsOk c off⟩
theorem bumpCBy {c off n : Nat} (h : s.Canon) : (s.bumpCBy c off n).Canon := ⟨RegsOk_bumpCBy h.regsOk c off n⟩
theorem bumpD {p off : Nat} (h : s.Canon) : (s.bumpD p off).Canon := ⟨RegsOk_bumpD h.regsOk p off⟩
theorem malformed (h : s.Canon) : s.malformed.Canon := ⟨RegsOk_malformed h.regsOk⟩
theorem privRefused (h : s.Canon) : s.privRefused.Canon := ⟨RegsOk_privRefused h.regsOk⟩
theorem readRefused {r : Requester} {off : Nat} (h : s.Canon) : (s.readRefused r off).Canon := ⟨RegsOk_readRefused h.regsOk r off⟩
theorem pass {dt : Nat} (h : s.Canon) : (s.pass dt).Canon := ⟨RegsOk_pass h.regsOk dt⟩

/-! ### Branches, folds and effects that take an effect -/

theorem of_ite {c : Prop} [Decidable c] (hs : s.Canon) (ht : t.Canon) : (if c then s else t).Canon := by
  split
  · exact hs
  · exact ht

theorem of_ite_fst {α : Type} {c : Prop} [Decidable c] {x y : State × α} (hx : x.1.Canon) (hy : y.1.Canon) : (if c then x else y).1.Canon := by
  split
  · exact hx
  · exact hy

theorem of_pair {α : Type} {a : α} (h : s.Canon) : (s, a).1.Canon := h

/-- The state that a pair pattern names. -/
theorem of_fst_eq {α : Type} {x : State × α} {a : α} (e : x = (t, a)) (hx : x.1.Canon) : t.Canon := by
  rw [e] at hx
  exact hx

theorem each {α : Type} {l : List α} {f : State → α → State} (h : s.Canon) (hf : ∀ t a, t.Canon → (f t a).Canon) : (s.each l f).Canon := ⟨RegsOk_each h.regsOk l f fun t a ht => (hf t a ⟨ht⟩).regsOk⟩

theorem foldl {α : Type} {l : List α} {f : State → α → State} (h : s.Canon) (hf : ∀ t a, t.Canon → (f t a).Canon) : (l.foldl f s).Canon := ⟨RegsOk_each h.regsOk l f fun t a ht => (hf t a ⟨ht⟩).regsOk⟩

theorem foldl_fst {α β : Type} {l : List α} {f : State × β → α → State × β} {x : State × β} (h : x.1.Canon)
    (hf : ∀ y a, y.1.Canon → (f y a).1.Canon) : (l.foldl f x).1.Canon := by
  induction l generalizing x with
  | nil => exact h
  | cons a l ih => exact ih (hf x a h)

theorem cond {c : Bool} {f : State → State} (h : s.Canon) (hf : ∀ t, t.Canon → (f t).Canon) : (s.cond c f).Canon := ⟨RegsOk_cond h.regsOk c f (hf s h).regsOk⟩

theorem accessWrite {r : Requester} {off : Nat} {f : State → State} (h : s.Canon) (hf : ∀ t, t.Canon → (f t).Canon) : (s.accessWrite r off f).Canon :=
  ⟨RegsOk_accessWrite h.regsOk r off f (hf s h).regsOk⟩

theorem accessRead {r : Requester} {off : Nat} {w : Word} {f : State → State} (h : s.Canon) (hf : ∀ t, t.Canon → (f t).Canon) :
    (s.accessRead r off w f).Canon := ⟨RegsOk_accessRead h.regsOk r off w f fun t ht => (hf t ⟨ht⟩).regsOk⟩

theorem pf1Access {f : State → State} (h : s.Canon) (hf : ∀ t, t.Canon → (f t).Canon) : (s.pf1Access f).Canon := of_ite h (of_ite h.malformed (hf s h))

end Sys2Proof.Machine.State.Canon
end

section
namespace Sys2Proof.Machine.State.Canon

variable {s t : State}

/-! ### Tables and the register file -/

theorem useFree (h : s.Canon) : s.useFree.Canon := h.frame

theorem countBw {tx p n} (h : s.Canon) : (s.countBw tx p n).Canon := of_ite h (of_ite h.frame h.frame)

/-! ### The governor's buckets and the gates of the engine clusters -/

theorem syncLvl (h : s.Canon) : s.syncLvl.Canon := h.setFld.setFld.setFlag

theorem charge {entry n} (h : s.Canon) : (s.charge entry n).Canon := h.frame.syncLvl

theorem setGate {c g} (h : s.Canon) : (s.setGate c g).Canon := h.frame.setFld.setFld

theorem wakeCluster {c} (h : s.Canon) : (s.wakeCluster c).Canon := by
  unfold State.wakeCluster
  split
  · exact h
  · exact h.setGate.charge.bump
  · exact h.setGate.charge.bump
  · exact h.frame

/-! ### The content cache -/

theorem syncLocks (h : s.Canon) : s.syncLocks.Canon := h.setFld

theorem setLine {k l} (h : s.Canon) : (s.setLine k l).Canon := h.frame

theorem evict {l} (h : s.Canon) : (s.evict l).Canon := of_ite h h.frame.bump

theorem dropSide {v st hit} (h : s.Canon) : (s.dropSide v st hit).Canon := of_ite h.frame.bump h.frame

theorem putSide {l} (h : s.Canon) : (s.putSide l).Canon := by
  unfold State.putSide
  refine frame (of_ite h.dropSide ?_)
  split
  · exact h.dropSide.dropSide
  · exact h.dropSide

theorem ageUp {ks} (h : s.Canon) : (s.ageUp ks).Canon := h.frame

theorem chooseWay_fst {v st} (h : s.Canon) : (s.chooseWay v st).1.Canon := by
  unfold State.chooseWay
  extract_lets
  split
  · exact of_ite_fst h (of_pair h.evict.frame)
  · split
    · exact h
    · split
      · exact h
      · split
        · exact of_pair h.ageUp.evict.frame
        · exact of_pair h.ageUp

theorem install {v st key sectors lock} (h : s.Canon) : (s.install v st key sectors lock).Canon := by
  unfold State.install
  refine of_ite h ?_
  extract_lets
  split
  · exact h.setLine.bump.syncLocks
  · split
    · next e1 => exact (of_fst_eq e1 h.chooseWay_fst).setLine.bump.syncLocks
    · next e1 => exact (of_fst_eq e1 h.chooseWay_fst).bump

theorem dropFill {f} (h : s.Canon) : (s.dropFill f).Canon := h.frame

theorem endDemand {f} (h : s.Canon) : (s.endDemand f).Canon := of_ite h.dropFill.bump (of_ite h.dropFill h.dropFill.install)

theorem endFillsOf {h} (hs : s.Canon) : (s.endFillsOf h).Canon := hs.each fun _ _ ht => ht.endDemand

theorem dropBuffered {v st i} (h : s.Canon) : (s.dropBuffered v st i).Canon := of_ite h.frame.bump h.frame

theorem appendBlock {v b seq w} (h : s.Canon) : (s.appendBlock v b seq w).Canon := by
  unfold State.appendBlock
  extract_lets
  split
  · extract_lets
    split
    · exact of_ite h.dropBuffered.frame.setLine (of_ite h.dropBuffered.frame.setLine h.dropBuffered.frame)
    · exact h.dropBuffered.frame.setLine
  · split
    · refine of_ite h.dropBuffered.frame ?_
      split
      · next e2 => exact (of_fst_eq e2 h.dropBuffered.frame.chooseWay_fst).setLine
      · next e2 => exact (of_fst_eq e2 h.dropBuffered.frame.chooseWay_fst).bump
    · exact h.dropBuffered.frame

theorem cleanBlock {v b} (h : s.Canon) : (s.cleanBlock v b).Canon := by
  unfold State.cleanBlock
  refine of_ite h ?_
  split
  · exact h.setLine
  · exact h

theorem dropCached {v b} (h : s.Canon) : (s.dropCached v b).Canon := by
  unfold State.dropCached
  extract_lets
  split
  · exact h.dropBuffered.setLine
  · exact h.dropBuffered

theorem demandLookup_fst {v st mask} (h : s.Canon) : (s.demandLookup v st mask).1.Canon := by
  unfold State.demandLookup
  extract_lets pol need full count s0
  have h0 : s0.Canon := of_ite h.bump h
  refine of_ite_fst (of_pair h.bump) ?_
  split
  · exact of_pair (bump (of_ite h h.setLine))
  · split
    · exact of_ite_fst (of_pair h0.bump) (of_ite_fst (of_pair h0.bump.bump.frame.charge.install) (of_pair h0.bump.bump))
    · split
      · exact of_ite_fst (of_pair h0.bump) (of_pair (of_ite h0.bump.bump.dropSide.install h0.bump.bump.dropSide))
      · exact of_pair h0.bump

/-! ### Who may reach a register -/

theorem latch {r w} (h : s.Canon) : (s.latch r w).Canon := h.frame

/-! ### The switch core -/

theorem modPort {p f} (h : s.Canon) : (s.modPort p f).Canon := h.frame

theorem syncQ {q} (h : s.Canon) : (s.syncQ q).Canon := h.setFld.setFld.setFld.setFld

theorem avgUpdate {q} (h : s.Canon) : (s.avgUpdate q).Canon := h.frame.setFld

theorem pushPause {p c quanta} (h : s.Canon) : (s.pushPause p c quanta).Canon := h.modPort

theorem pfcXoff {p c} (h : s.Canon) : (s.pfcXoff p c).Canon := of_ite h.pushPause.modPort h

theorem pfcXon {p c} (h : s.Canon) : (s.pfcXon p c).Canon := of_ite h.pushPause.modPort h

theorem toVoq {f port} (h : s.Canon) : (s.toVoq f port).Canon := h.frame

theorem enqueue {f0 port cls} (h : s.Canon) : (s.enqueue f0 port cls).Canon := by
  have h2 : ∀ q, (s.avgUpdate q).useFree.Canon := fun _ => h.avgUpdate.useFree
  fun_cases State.enqueue s f0 port cls
  · exact h.bump
  · exact (h2 _).bump
  · exact (h2 _).bump.cond fun _ ht => ht.bump
  · exact pfcXoff (cond (bumpBy (bump (syncQ (toVoq ((h2 _).cond fun _ ht => ht.bump))))) fun _ ht => ht.bump)

theorem limActive {q} (h : s.Canon) : (s.limActive q).Canon := h.frame

theorem joinOutput {f port} (h : s.Canon) : (s.joinOutput f port).Canon :=
  of_ite (frame (h.cond fun _ ht => ht.limActive)) (of_ite h.frame.syncQ.pfcXon h.emit.syncQ.pfcXon)

theorem moveCell {i o} (h : s.Canon) : (s.moveCell i o).Canon := by
  unfold State.moveCell
  split
  · exact h
  · exact of_ite h.frame.joinOutput h.frame

theorem flushQueue {q cnt} (h : s.Canon) : (s.flushQueue q cnt).Canon := of_ite h (h.frame.bumpBy.syncQ.each fun _ _ ht => ht.pfcXon)

theorem setBucket {word b v} (h : s.Canon) : (s.setBucket word b v).Canon := h.setFld

theorem lagFail {l p} (h : s.Canon) : (s.lagFail l p).Canon := of_ite (h.each fun _ _ ht => ht.setBucket) (h.each fun _ _ ht => ht.setBucket)

theorem lagCount {l} (h : s.Canon) : (s.lagCount l).Canon := h.setFld

theorem lagMemberDown {p} (h : s.Canon) : (s.lagMemberDown p).Canon := h.each fun _ _ ht => of_ite ht.lagFail.lagCount ht

theorem lagMemberUp {p} (h : s.Canon) : (s.lagMemberUp p).Canon := h.each fun _ _ ht => of_ite ht.lagCount ht

theorem lagRebal {l} (h : s.Canon) : (s.lagRebal l).Canon := lagCount (each (h.each fun _ _ ht => ht.setReg) fun _ _ ht => ht.lagFail)

/-! ### Egress scheduling -/

theorem syncGate {p} (h : s.Canon) : (s.syncGate p).Canon := by
  unfold State.syncGate
  split
  · exact h.setFld.setFld
  · exact h.setFld.setFld.cond fun _ ht => ht.setFlag

theorem setLim {q l} (h : s.Canon) : (s.setLim q l).Canon := h.frame

theorem creditNow {q} (h : s.Canon) : (s.creditNow q).Canon := of_ite h h.setLim

theorem wheelTake (h : s.Canon) : s.wheelTake.Canon := h.setFld

theorem wheelGive (h : s.Canon) : s.wheelGive.Canon := h.setFld

theorem limDequeue {q bytes} (h : s.Canon) : (s.limDequeue q bytes).Canon := by
  unfold State.limDequeue
  refine of_ite h (of_ite ?_ ?_)
  · exact setLim (h.bump.cond fun _ ht => ht.wheelGive)
  · exact of_ite (setLim (h.cond fun _ ht => ht.wheelTake)) (setLim (h.cond fun _ ht => ht.wheelTake))

theorem qpDequeue {qpn bytes} (h : s.Canon) : (s.qpDequeue qpn bytes).Canon :=
  of_ite h (of_ite (frame (h.bump.cond fun _ ht => ht.wheelGive)) (frame (h.cond fun _ ht => ht.wheelTake)))

theorem wheelRelease (h : s.Canon) : s.wheelRelease.Canon := h.frame.setFld

theorem limReset {q} (h : s.Canon) : (s.limReset q).Canon := by
  unfold State.limReset
  split
  · exact h
  · exact setLim (h.cond fun _ ht => ht.wheelGive)

theorem syncQStat {p c} (h : s.Canon) : (s.syncQStat p c).Canon := h.setFlag.setFlag.setFlag.setFlag.setFld

theorem syncPortQ {p} (h : s.Canon) : (s.syncPortQ p).Canon := h.each fun _ _ ht => ht.syncQStat

theorem drrChoose_some {p c : Nat} (e : s.drrChoose p = some (c, t)) (h : s.Canon) : t.Canon := by
  unfold State.drrChoose at e
  dsimp only at e
  split at e
  · cases e
    exact h
  · split at e
    · cases e
    · cases e
      exact modPort (h.each fun _ _ ht => ht.setLim)

theorem syncTs {p} (h : s.Canon) : (s.syncTs p).Canon := by
  unfold State.syncTs
  split
  · exact h.setFld.setFlag.setReg
  · exact h.setFld.setFlag.setFld.setFld

theorem pushTs {p seq} (h : s.Canon) : (s.pushTs p seq).Canon := of_ite h.setFlag.bump h.modPort.syncTs

theorem ptpTx_fst {p f} (h : s.Canon) : (s.ptpTx p f).1.Canon := by
  unfold State.ptpTx
  split
  · exact h
  · exact of_ite_fst h (of_pair h.pushTs)

theorem txHead {p c} (h : s.Canon) : (s.txHead p c).Canon := by
  unfold State.txHead
  extract_lets
  split
  · exact h
  · extract_lets s1 l s2 s3 s4 r
    have h2 : s2.Canon := h.frame.syncQ.cond fun _ ht => ht.setLim.limDequeue
    have h3 : s3.Canon := h2.cond fun _ ht => ht.modPort
    have h4 : s4.Canon := h3.bump.monEvent.bumpBy.countBw.pfcXon
    exact h4.ptpTx_fst.emit

theorem dropOversize {p c n} (h : s.Canon) : (s.dropOversize p c n).Canon := by
  induction n generalizing s with
  | zero => exact h
  | succ n ih =>
    unfold State.dropOversize
    extract_lets q
    split
    · exact h
    · exact of_ite (ih h.frame.syncQ.bump.pfcXon) h

theorem egressSelect {s0 : State} {p dt} (h : s0.Canon) : (s0.egressSelect p dt).Canon := by
  unfold State.egressSelect
  refine of_ite h.pass ?_
  split
  · exact h.pass.modPort.bump.bump.bumpBy.countBw.emit
  · extract_lets s1 ctl
    have h1 : s1.Canon := h.pass.each fun _ _ ht => ht.dropOversize.creditNow
    refine of_ite h1.txHead.syncPortQ ?_
    split
    · next e => exact (drrChoose_some e h1).txHead.syncPortQ
    · exact h1.syncPortQ

theorem gateChange {p} (h : s.Canon) : (s.gateChange p).Canon := of_ite h.malformed h.setFlag

theorem gateCtlWrite {p v} (h : s.Canon) : (s.gateCtlWrite p v).Canon :=
  of_ite h.malformed (syncGate (cond (h.setReg.cond fun _ ht => ht.setFlag) fun _ ht => ht.gateChange))

theorem bumpBin {off} (h : s.Canon) : (s.bumpBin off).Canon := of_ite h h.setReg

theorem sampleQ {q} (h : s.Canon) : (s.sampleQ q).Canon := h.bumpBin.bumpBin

/-! ### Network ports -/

theorem netCommit_fst (h : s.Canon) : s.netCommit.1.Canon := of_pair (h.each fun _ _ ht => ht.setFld)

theorem setLink {p v} (h : s.Canon) : (s.setLink p v).Canon := h.setFld

theorem declareDown {p} (h : s.Canon) : (s.declareDown p).Canon := syncPortQ (modPort (h.setFlag.setFlag.bump.each fun _ _ ht => ht.flushQueue.limReset))

theorem startCheck {p} (h : s.Canon) : (s.startCheck p).Canon := of_ite h h.setLink

theorem stopPort {p} (h : s.Canon) : (s.stopPort p).Canon := of_ite h.declareDown.setLink.lagMemberDown h.setLink

theorem restartPort {p} (h : s.Canon) : (s.restartPort p).Canon := h.stopPort.startCheck

theorem linkAfterWrite {p old new restart} (h : s.Canon) : (s.linkAfterWrite p old new restart).Canon :=
  of_ite h.startCheck (of_ite h.stopPort (of_ite h.restartPort h))

theorem portCfgWrite {p v} (h : s.Canon) : (s.portCfgWrite p v).Canon := by
  unfold State.portCfgWrite
  refine of_ite h.setFld (of_ite h.setReg.linkAfterWrite ?_)
  split
  · exact of_ite h.setFld h.setReg.setFld.linkAfterWrite
  · exact h.setReg.setFld.linkAfterWrite

theorem downHoldEnd {p} (h : s.Canon) : (s.downHoldEnd p).Canon := lagMemberDown (of_ite h.declareDown.setLink h.declareDown.setLink)

theorem pauseRx {p pfc stop go} (h : s.Canon) : (s.pauseRx p pfc stop go).Canon := of_ite h.bump.modPort.syncPortQ h.bump

theorem timeStep {step} (h : s.Canon) : (s.timeStep step).Canon := h.frame.each fun _ _ ht => of_ite ht.syncGate ht

theorem counterClear {off v} (h : s.Canon) : (s.counterClear off v).Canon := by
  have hc : ∀ {c lo hi}, (s.cond c fun t => t.clearRegs lo hi).Canon := h.cond fun _ ht => ht.clearRegs
  unfold State.counterClear
  extract_lets c c1
  refine of_ite hc (of_ite (hc.cond fun _ ht => ht.clearRegs) ?_)
  refine of_ite (h.cond fun _ ht => ht.clearRegs.clearRegs) (of_ite (hc.cond fun _ ht => ht.clearRegs) ?_)
  refine of_ite hc (of_ite hc (of_ite hc (of_ite hc (of_ite hc (of_ite hc ?_)))))
  exact of_ite hc (of_ite hc (of_ite hc (of_ite hc (of_ite hc (of_ite hc (of_ite hc (of_ite hc h)))))))

/-! ### Parsing and classification -/

theorem countErrs {errs wide t pos} (h : s.Canon) : (s.countErrs errs wide t pos).Canon :=
  h.each fun _ _ ht => cond (ht.cond fun _ hu => hu.bump) fun _ hu => hu.bump

theorem lookup_fst {errs d f p} (h : s.Canon) : (s.lookup errs d f p).1.Canon := of_pair (h.each fun _ _ ht => ht.countErrs)

theorem slowPath {f reason} (h : s.Canon) : (s.slowPath f reason).Canon := by
  unfold State.slowPath
  extract_lets s1 tok
  have h1 : s1.Canon := by
    unfold s1
    split
    · exact h.bump
    · exact h
  exact of_ite h1.bump h1.setFld.bump.enqueue

theorem applyAction {f0 d p act} (h : s.Canon) : (s.applyAction f0 d p act).Canon := by
  unfold State.applyAction
  extract_lets f1 f ctr s1 s2
  have h2 : s2.Canon := (h.cond fun _ ht => ht.bump.bumpBy).cond fun _ ht => ht.slowPath
  split
  · exact h2
  · exact of_ite (of_ite h2.bump h2.enqueue) (of_ite h2.bump (of_ite h2.slowPath (of_ite h2.bump h2.enqueue)))
  · exact of_ite h2.bump h2.enqueue
  · exact h2.slowPath
  · exact of_ite h2.bump h2.enqueue
  · exact h2.bump

theorem classify {f0 errs} (h : s.Canon) : (s.classify f0 errs).Canon := by
  fun_cases State.classify s f0 errs
  · exact h.bump
  · exact h.slowPath
  · next e => exact (of_fst_eq e h.bump.lookup_fst).applyAction
  · next e => exact (of_fst_eq e h.bump.lookup_fst).slowPath

theorem rxFrame {p id data fcsOk errs} (h : s.Canon) : (s.rxFrame p id data fcsOk errs).Canon := by
  unfold State.rxFrame
  refine of_ite h (of_ite h.bump.bumpBy.countBw.bump (of_ite h.bump.bumpBy.countBw.bump (of_ite ?_ ?_)))
  · exact h.bump.bumpBy.countBw
  · exact of_ite h.bump.bumpBy.countBw.pauseRx (of_ite h.bump.bumpBy.countBw.bump h.bump.bumpBy.countBw.classify)

theorem setTblData {t key act} (h : s.Canon) : (s.setTblData t key act).Canon := setReg (setReg (h.each fun _ _ ht => ht.setReg))

theorem tblStat {result way index moves} (h : s.Canon) : (s.tblStat result way index moves).Canon := h.setFld.setFld.setFld.setFld

theorem putSlot {t w i key act} (h : s.Canon) : (s.putSlot t w i key act).Canon := h.frame

theorem clearSlot {t w i} (h : s.Canon) : (s.clearSlot t w i).Canon := h.frame

theorem cuckoo_some {errs : List SlotErr} {wide : Bool} {tb n key act moves fr : Nat} {r : Nat × Nat × Nat}
    (e : s.cuckoo errs wide tb n key act moves fr = some (t, r)) (h : s.Canon) : t.Canon := by
  induction n generalizing s key act moves fr r with
  | zero => cases e
  | succ n ih =>
    unfold State.cuckoo at e
    dsimp only at e
    split at e
    · split at e
      · cases e
      · split at e
        · cases e
        · next e' =>
          cases e
          exact ih e' h.putSlot
    · split at e
      · cases e
      · cases e
        exact h.putSlot

theorem tblCmd {op t way index : Nat} {f : State → State} (h : s.Canon) (hf : ∀ t, t.Canon → (f t).Canon) : (s.tblCmd op t way index f).Canon :=
  of_ite h.malformed (of_ite h.setFld.setFld.setFld.setFld.tblStat (hf _ h.setFld.setFld.setFld.setFld))

theorem tblInsert {t errs} (h : s.Canon) : (s.tblInsert t errs).Canon := by
  unfold State.tblInsert
  dsimp only
  split
  · exact h.countErrs.putSlot.tblStat
  · split
    · exact h.countErrs.frame.tblStat
    · next e1 => exact (cuckoo_some e1 h.countErrs.frame).tblStat

theorem tblDelete {t errs} (h : s.Canon) : (s.tblDelete t errs).Canon := by
  unfold State.tblDelete
  extract_lets
  split
  · exact h.countErrs.clearSlot.tblStat
  · exact h.countErrs.tblStat

theorem tblSearch {t errs} (h : s.Canon) : (s.tblSearch t errs).Canon := by
  unfold State.tblSearch
  extract_lets
  split
  · exact h.countErrs.setTblData.tblStat
  · exact h.countErrs.tblStat

theorem tblReadSlot {t way index errs} (h : s.Canon) : (s.tblReadSlot t way index errs).Canon := of_ite h.countErrs.tblStat h.countErrs.setTblData.tblStat

theorem tblClear {t} (h : s.Canon) : (s.tblClear t).Canon := h.frame.setFlag.tblStat

theorem profWrite {t off v} (h : s.Canon) : (s.profWrite t off v).Canon := of_ite h.malformed h.setReg

/-! ### Interrupt messages and the mailbox directions -/

theorem msixFlush (h : s.Canon) : s.msixFlush.Canon := each (h.frame.each fun _ _ ht => ht.wakeLink.emit) fun _ _ ht => ht.wakeLink.emit

theorem setMbxDir {d x} (h : s.Canon) : (s.setMbxDir d x).Canon := h.frame

theorem syncMbx {n} (h : s.Canon) : (s.syncMbx n).Canon := h.setFld.setFld.setFlag.setFlag.setFlag

theorem mbxIrq {n bit en} (h : s.Canon) : (s.mbxIrq n bit en).Canon := h.setFlag.cond fun _ ht => ht.msix0

theorem mbxErr {d f} (h : s.Canon) : (s.mbxErr d f).Canon := of_ite h.setFlag.mbxIrq h

theorem mbxDeliver {d} (h : s.Canon) : (s.mbxDeliver d).Canon := of_ite h.setMbxDir.bump.syncMbx.mbxIrq h.setMbxDir.bump.syncMbx

theorem mbxClose {d} (h : s.Canon) : (s.mbxClose d).Canon := of_ite h.setMbxDir.bump.syncMbx h.setMbxDir.bump.mbxDeliver

theorem mbxPump (h : s.Canon) : s.mbxPump.Canon := by
  unfold State.mbxPump
  extract_lets
  split
  · exact h.setFld
  · exact of_ite h.setFld h.frame.setMbxDir.mbxClose.setFld

theorem mbxFree {d code} (h : s.Canon) : (s.mbxFree d code).Canon := by
  unfold State.mbxFree
  refine syncMbx (cond ?_ fun _ ht => ht.mbxPump)
  refine of_ite ?_ ?_
  · refine mbxIrq ?_
    split
    · exact h.setMbxDir.setFld
    · exact h.setMbxDir
  · exact h.setMbxDir

theorem notice {words} (h : s.Canon) : (s.notice words).Canon := of_ite h h.frame.mbxPump

/-! ### Sending on the Narzan link -/

theorem setGrp {g x} (h : s.Canon) : (s.setGrp g x).Canon := h.frame

theorem heartbeat {g nak} (h : s.Canon) : (s.heartbeat g nak).Canon := of_ite h (h.emit.cond fun _ ht => ht.bump)

theorem syncGrp {g} (h : s.Canon) : (s.syncGrp g).Canon := h.setFld

theorem nzlPump {g n} (h : s.Canon) : (s.nzlPump g n).Canon := by
  induction n generalizing s with
  | zero => exact h
  | succ n ih =>
    unfold State.nzlPump
    extract_lets x
    split
    · exact h.syncGrp
    · exact of_ite h.syncGrp (ih h.setGrp.emit.bumpBy)

theorem nzlOn {g b} (h : s.Canon) : (s.nzlOn g b).Canon := nzlPump (setGrp (of_ite h.frame h))

theorem nzlSend {b} (h : s.Canon) : (s.nzlSend b).Canon := by
  unfold State.nzlSend
  split
  · exact h
  · exact h.nzlOn

theorem metaSend {items} (h : s.Canon) : (s.metaSend items).Canon := of_ite h.nzlSend h

theorem mirrorRecord {r} (h : s.Canon) : (s.mirrorRecord r).Canon := by
  unfold State.mirrorRecord
  extract_lets
  split
  · exact h
  · exact h.frame.foldl fun _ _ ht => ht.nzlOn

theorem putVol {v x} (h : s.Canon) : (s.putVol v x).Canon := h.frame.metaSend

theorem putSet {p x} (h : s.Canon) : (s.putSet p x).Canon := h.frame.metaSend

theorem putLost {i x} (h : s.Canon) : (s.putLost i x).Canon := h.frame.metaSend

/-! ### What every door to a volume shares -/

theorem setQp {i q} (h : s.Canon) : (s.setQp i q).Canon := h.frame

theorem modQp {i f} (h : s.Canon) : (s.modQp i f).Canon := h.setQp

theorem setWin {w x} (h : s.Canon) : (s.setWin w x).Canon := h.frame

theorem setQueue {q x} (h : s.Canon) : (s.setQueue q x).Canon := h.frame

theorem modQueue {q f} (h : s.Canon) : (s.modQueue q f).Canon := by
  unfold State.modQueue
  split
  · exact h.setQueue
  · exact h

theorem setCmd {h c} (hs : s.Canon) : (s.setCmd h c).Canon := hs.frame

theorem modCmd {h f} (hs : s.Canon) : (s.modCmd h f).Canon := by
  unfold State.modCmd
  split
  · exact hs.setCmd
  · exact hs

theorem setAssoc {a x} (h : s.Canon) : (s.setAssoc a x).Canon := h.frame

theorem syncStg (h : s.Canon) : s.syncStg.Canon := h.setFld.setFld

theorem qpFrame {i ext payload psn kind tag} (h : s.Canon) : (s.qpFrame i ext payload psn kind tag).Canon := by
  unfold State.qpFrame
  refine enqueue ?_
  split
  · exact h
  · exact h
  · exact h.qpDequeue

theorem qpSend {i m} (h : s.Canon) : (s.qpSend i m).Canon := of_ite h.setQp h

theorem pf1Write {addr n data} (h : s.Canon) : (s.pf1Write addr n data).Canon := of_ite h (h.wakeLink.each fun _ _ ht => ht.emit)

theorem syncPciTags (h : s.Canon) : s.syncPciTags.Canon := h.setFld.setFld

theorem pciIssue {t r} (h : s.Canon) : (s.pciIssue t r).Canon := h.frame.wakeLink.emit.syncPciTags

theorem pf1Read {purpose addr n off} (h : s.Canon) : (s.pf1Read purpose addr n off).Canon := by
  unfold State.pf1Read
  refine of_ite h ?_
  extract_lets
  split
  · exact h.pciIssue
  · exact h.frame.bump

theorem pf1ReadAll {purpose addr n off} (h : s.Canon) : (s.pf1ReadAll purpose addr n off).Canon := h.each fun _ _ ht => ht.pf1Read

theorem readHost {h c q} (hs : s.Canon) : (s.readHost h c q).Canon :=
  of_ite (foldl_fst hs fun _ _ ht => of_pair ht.pf1ReadAll) (hs.each fun _ _ ht => ht.qpSend)

theorem postCqe {qi cid status result sqe} (h : s.Canon) : (s.postCqe qi cid status result sqe).Canon := by
  unfold State.postCqe
  split
  · exact h
  · refine of_ite (of_ite h.frame.setFlag h) ?_
    extract_lets
    split
    · exact h.setQueue.bump.qpSend
    · exact h.setQueue.bump.pf1Write.cond fun _ ht => ht.msix1
    · exact h.setQueue.bump.qpSend

theorem syncCmds (h : s.Canon) : s.syncCmds.Canon := syncStg (setFld (h.setFld.each fun _ _ ht => of_ite ht.setFld.setFld.setFlag ht.setFld.setFld))

theorem remoteOps {h home es} (hs : s.Canon) : (s.remoteOps h home es).Canon := by
  unfold State.remoteOps
  split
  · exact hs
  · exact of_ite hs hs.bumpCBy

theorem unlock {s0 : State} {h} (hs : s0.Canon) : (s0.unlock h).Canon := of_ite hs.endFillsOf.frame.remoteOps.metaSend hs.endFillsOf.frame.remoteOps

theorem offEngines {h} (hs : s.Canon) : (s.offEngines h).Canon := hs.frame

theorem endCmd {h} (hs : s.Canon) : (s.endCmd h).Canon := hs.unlock.offEngines.frame.syncCmds

theorem placeLocks {h c} (hs : s.Canon) : (s.placeLocks h c).Canon := each (of_ite (hs.frame.foldl fun _ _ ht => ht.metaSend) hs.frame) fun _ _ ht => ht.bumpC

theorem modEngine {e f} (h : s.Canon) : (s.modEngine e f).Canon := h.frame

theorem dispatch {c h} (hs : s.Canon) : (s.dispatch c h).Canon := by
  unfold State.dispatch
  extract_lets
  split
  · exact hs
  · exact hs.wakeCluster.modEngine.frame.syncCmds

theorem park {h} (hs : s.Canon) : (s.park h).Canon := hs.frame.each fun _ _ ht => ht.monEvent

theorem aen {a typ info page} (h : s.Canon) : (s.aen a typ info page).Canon := by
  unfold State.aen
  split
  · exact h
  · split
    · exact of_ite h h.setAssoc
    · extract_lets
      split
      · exact h.setAssoc
      · refine endCmd ?_
        split
        · exact h.setAssoc.postCqe
        · exact h.setAssoc

theorem setAna {v} (h : s.Canon) : (s.setAna v).Canon := of_ite h (h.frame.setFld.each fun _ _ ht => ht.aen)

theorem setPartner {b} (h : s.Canon) : (s.setPartner b).Canon := of_ite h (h.setFlag.setFlag.each fun _ _ ht => ht.aen)

theorem syncLtr (h : s.Canon) : s.syncLtr.Canon := of_ite h (of_ite h.frame (of_ite h.frame.emit h.frame.emit))

theorem readDoorbell {qi} (h : s.Canon) : (s.readDoorbell qi).Canon := by
  unfold State.readDoorbell
  split
  · exact h
  · exact of_ite h (of_ite h.setQueue (of_ite h.setQueue.bump.qpSend (of_ite h h.setQueue.bump.pf1ReadAll)))

theorem nudge {a qid} (h : s.Canon) : (s.nudge a qid).Canon := by
  unfold State.nudge
  split
  · exact h.bump
  · exact h.bump.modQueue.syncLtr.readDoorbell

theorem winDone {w} (h : s.Canon) : (s.winDone w).Canon := h.setWin

theorem endWinReqs {i} (h : s.Canon) : (s.endWinReqs i).Canon := h.each fun _ _ ht => winDone (of_ite ht.modCmd ht.endCmd)

theorem freeQueue {qi} (h : s.Canon) : (s.freeQueue qi).Canon := of_ite h.frame.setFld h.frame

theorem assocReset {a} (h : s.Canon) : (s.assocReset a).Canon := by
  unfold State.assocReset
  split
  · exact h
  · extract_lets qs waiting s1 cs s2 s3 ps s4 _ s5 s6
    have h2 : s2.Canon := h.bump.bumpBy.each fun _ _ ht => of_ite ht.modCmd ht.endCmd.bump
    have h3 : s3.Canon := h2.each fun _ _ ht => ht.freeQueue
    have h4 : s4.Canon := h3.each fun _ _ ht => (ht.each fun _ _ hu => hu.winDone).endWinReqs.setQp
    exact h4.frame.setReg.setFld.cond fun _ ht => ht.frame.setFlag.setFlag

theorem pushErrQp {qpn cause} (h : s.Canon) : (s.pushErrQp qpn cause).Canon := by
  unfold State.pushErrQp
  refine of_ite h.setFlag ?_
  extract_lets
  split
  · exact h.frame.setFld.setFld.setFlag
  · exact h.frame

theorem syncTrackers (h : s.Canon) : s.syncTrackers.Canon := h.setFld

theorem dropQpFrames {i} (h : s.Canon) : (s.dropQpFrames i).Canon := h.frame.each fun _ _ ht => ht.syncQ

theorem qpError {i cause} (h : s.Canon) : (s.qpError i cause).Canon := by
  unfold State.qpError
  extract_lets q s1 sw bad s2 s3 s4
  have h2 : s2.Canon := h.bump.pushErrQp.setQp.dropQpFrames.syncTrackers
  have h4 : s4.Canon := endWinReqs (h2.each fun _ _ ht => ht.winDone)
  exact of_ite h4.assocReset.syncCmds h4

/-! ### The cipher's key slots -/

theorem setSlot {n x} (h : s.Canon) : (s.setSlot n x).Canon := h.frame

theorem syncHwmReq (h : s.Canon) : s.syncHwmReq.Canon := by
  unfold State.syncHwmReq
  split
  · exact h.setReg
  · exact h.setFld.setFlag

theorem hwmCheck {n} (h : s.Canon) : (s.hwmCheck n).Canon := of_ite h.frame.setFlag.bump.syncHwmReq h

theorem lowCheck {n} (h : s.Canon) : (s.lowCheck n).Canon := of_ite h.setFlag.health h

theorem mirrorSlot {n} (h : s.Canon) : (s.mirrorSlot n).Canon := h.metaSend

theorem reserve {slot n} (h : s.Canon) : (s.reserve slot n).Canon := h.setSlot.lowCheck.hwmCheck

theorem ksResult {n r} (h : s.Canon) : (s.ksResult n r).Canon := h.setFld.setFld

theorem loadSlot {n r base} (h : s.Canon) : (s.loadSlot n r base).Canon := by
  unfold State.loadSlot
  refine of_ite h.ksResult ?_
  split
  · exact h.ksResult
  · exact h.setSlot.setFld.setFld.setFlag.setFlag.setFld.ksResult.lowCheck.hwmCheck.mirrorSlot

theorem zeroizeEnd {n} (h : s.Canon) : (s.zeroizeEnd n).Canon := h.frame.setReg.ksResult.syncHwmReq.mirrorSlot

theorem zeroizeSlot {n} (h : s.Canon) : (s.zeroizeSlot n).Canon := of_ite h (of_ite h.setFld.mirrorSlot h.setFld.mirrorSlot.zeroizeEnd)

theorem bindVol {v n en} (h : s.Canon) : (s.bindVol v n en).Canon := h.setFld.setFlag.metaSend

/-! ### Changes of mode -/

theorem dropChange (h : s.Canon) : s.dropChange.Canon := h.frame.setFlag.setFld

theorem lapse (h : s.Canon) : s.lapse.Canon := of_ite h h.dropChange.bump

theorem enterMode {m cause} (h : s.Canon) : (s.enterMode m cause).Canon := h.setFld.setFld.setFld.cond fun _ ht => ht.msix0

theorem syncServing (h : s.Canon) : s.syncServing.Canon := of_ite h (of_ite h h.enterMode)

theorem midnight {cause} (h : s.Canon) : (s.midnight cause).Canon := of_ite h h.frame.enterMode.setFlag.setFlag.lapse

theorem sramError {unit ue} (h : s.Canon) : (s.sramError unit ue).Canon :=
  of_ite h (of_ite h.setFld.setFlag.setFlag.health (of_ite h.setFld.setFlag.setFlag h.setFld.setFlag.setFlag.health))

theorem criticalUe {unit} (h : s.Canon) : (s.criticalUe unit).Canon := of_ite h (midnight (setFlag (of_ite h.sramError h.sramError.setFld)))

/-! ### The protection setup -/

theorem setClass {c v} (h : s.Canon) : (s.setClass c v).Canon := of_ite (of_ite (h.setFld.foldl fun _ _ ht => ht.assocReset) h.setFld) h.setReg

theorem cmtResult {r i} (h : s.Canon) : (s.cmtResult r i).Canon :=
  of_ite h.setFld.setFld.bump (of_ite h.setFld.setFld.bump (of_ite h.setFld.setFld.bump h.setFld.setFld))

theorem stage_fst {r0 port} (h : s.Canon) : (s.stage r0 port).1.Canon := by
  unfold State.stage
  extract_lets
  split
  · exact of_pair h.frame.setReg.setFld.setFlag.setFld.cmtResult.bump
  · exact of_pair h.cmtResult

theorem sealSetup (h : s.Canon) : s.sealSetup.Canon := of_ite h.frame h.frame

theorem sendSetup (h : s.Canon) : s.sendSetup.Canon := of_ite h.nzlSend h

theorem aclSet {e} (h : s.Canon) : (s.aclSet e).Canon := by
  unfold State.aclSet
  split
  · exact h.frame
  · exact h.frame

theorem applySetupItem {r i} (h : s.Canon) : (s.applySetupItem r i).Canon := by
  unfold State.applySetupItem
  split
  · exact h.setClass
  · exact h.aclSet
  · exact h.frame
  · exact h.frame
  · exact h.frame
  · exact h.setFld
  · exact h.setClass.setFld
  · exact h

theorem applyKeyItem {r i} (h : s.Canon) : (s.applyKeyItem r i).Canon := by
  unfold State.applyKeyItem
  split
  · exact h.loadSlot.frame
  · exact h.zeroizeSlot.frame
  · exact h.bindVol
  · exact h

theorem applyChange {r} (h : s.Canon) : (s.applyChange r).Canon :=
  bump (sendSetup (sealSetup (dropChange (setFlag (setFld (frame (each (h.each fun _ _ ht => ht.applySetupItem) fun _ _ ht => ht.applyKeyItem)))))))

theorem confirm_fst {quote port steward} (h : s.Canon) : (s.confirm quote port steward).1.Canon := by
  unfold State.confirm
  split
  · exact of_pair h.cmtResult
  · refine of_ite_fst (of_pair h.cmtResult) (of_ite_fst ?_ ?_)
    · exact of_ite_fst (of_pair h.cmtResult.lapse) (of_pair h.frame.cmtResult)
    · split
      · exact of_pair h.cmtResult.dropChange
      · exact of_pair h.applyChange.cmtResult

theorem cmtCmd {req : Requester} {op : Nat} {f : State → State} (h : s.Canon) (hf : ∀ t, t.Canon → (f t).Canon) : (s.cmtCmd req op f).Canon := by
  unfold State.cmtCmd
  refine of_ite h (of_ite h.malformed ?_)
  split
  · exact h.malformed
  · exact h
  · exact of_ite h.cmtResult (hf _ h.setFld)

theorem cancelBy {port} (h : s.Canon) : (s.cancelBy port).Canon := by
  unfold State.cancelBy
  split
  · exact h.cmtResult
  · exact of_ite h.dropChange.bump.cmtResult h.cmtResult

theorem aclRead {i} (h : s.Canon) : (s.aclRead i).Canon := by
  unfold State.aclRead
  extract_lets
  split
  · exact h.setFld.setReg.set64.set64
  · exact h.setFld.setReg.setFld.setFlag.setFlag.setFlag.setFlag.set64.set64

/-! ### The RDMA transport -/

theorem qpcResult {r} (h : s.Canon) : (s.qpcResult r).Canon := h.setFld

theorem qpcModify {i st} (h : s.Canon) : (s.qpcModify i st).Canon := by
  unfold State.qpcModify
  extract_lets
  split
  · exact of_ite h.setQp.qpcResult h.qpcResult
  · exact h.setQp.qpcResult
  · exact h.setQp.qpcResult
  · exact h.setQp.qpcResult
  · exact of_ite h.qpcResult h.setQp.qpcResult
  · exact h.qpcResult
  · exact h.qpError.qpcResult
  · exact h.qpcResult

theorem qpcCmd {op st i : Nat} {f : State → State} (h : s.Canon) (hf : ∀ t, t.Canon → (f t).Canon) : (s.qpcCmd op st i f).Canon := hf _ h.setFld.setFld.setFld

theorem qpcRead {i} (h : s.Canon) : (s.qpcRead i).Canon := qpcResult (h.each fun _ _ ht => ht.setReg)

theorem sendAck {i} (h : s.Canon) : (s.sendAck i).Canon := of_ite h (of_ite h.setQp h.setQp.qpFrame)

theorem ackRetry {i} (h : s.Canon) : (s.ackRetry i).Canon := of_ite h.sendAck h

theorem ackAgain {i} (h : s.Canon) : (s.ackAgain i).Canon := by
  unfold State.ackAgain
  exact qpFrame h

theorem sendNak {i syndrome psn} (h : s.Canon) : (s.sendNak i syndrome psn).Canon := of_ite h.bump.qpFrame.qpError h.bump.qpFrame.modQp

theorem sendCnp {i} (h : s.Canon) : (s.sendCnp i).Canon := of_ite h.setQp.bump.qpFrame h

theorem winNak {i syndrome psn rkey} (h : s.Canon) : (s.winNak i syndrome psn rkey).Canon := sendNak (of_ite h.setWin.bump h)

theorem winEnter {i w} (h : s.Canon) : (s.winEnter i w).Canon := h.setWin.modQp

theorem placeWin {h} (hs : s.Canon) : (s.placeWin h).Canon := by
  unfold State.placeWin
  split
  · exact hs
  · exact of_ite hs.setCmd.placeLocks.dispatch hs

theorem newWinReq_fst {i kind rkey va len data psn stamp port} (h : s.Canon) : (s.newWinReq i kind rkey va len data psn stamp port).1.Canon :=
  of_pair h.frame.modQp.placeWin

theorem sendResponses {i r} (h : s.Canon) : (s.sendResponses i r).Canon := h.each fun _ _ ht => ht.qpFrame

theorem respondGo {i n} (h : s.Canon) : (s.respondGo i n).Canon := by
  induction n generalizing s with
  | zero => exact h
  | succ n ih =>
    unfold State.respondGo
    split
    · exact h
    · refine of_ite h (ih (modQp ?_))
      split
      · exact h.sendResponses.modCmd
      · exact h.sendResponses

theorem respond {i} (h : s.Canon) : (s.respond i).Canon := h.respondGo.ackRetry

theorem acceptCapsule {i data stamp port} (h : s.Canon) : (s.acceptCapsule i data stamp port).Canon := by
  unfold State.acceptCapsule
  extract_lets
  split
  · exact h.bump.frame
  · exact h.bump.setQueue

theorem passPsn {i n msg} (h : s.Canon) : (s.passPsn i n msg).Canon := h.modQp

theorem applyPkt_fst {i p verdict counted mover} (h : s.Canon) : (s.applyPkt i p verdict counted mover).1.Canon := by
  unfold State.applyPkt
  refine of_ite_fst (of_pair h.sendNak) (of_ite_fst (of_pair h.winNak) (of_ite_fst ?_ ?_))
  · exact of_pair (respond (passPsn (modQp (of_ite_fst (of_pair (of_ite h h.winEnter)) (of_pair (newWinReq_fst (of_ite h h.winEnter)))))))
  · refine of_ite_fst (of_pair h.passPsn.nudge) (of_ite_fst ?_ ?_)
    · refine of_ite_fst (of_pair h.sendNak.modQp) (of_ite_fst ?_ ?_)
      · refine of_pair (acceptCapsule (passPsn (modQp (of_ite ?_ ?_))))
        · split
          · exact h.setQueue
          · exact h
        · exact h
      · refine of_pair (passPsn (modQp (of_ite ?_ ?_)))
        · split
          · exact h.setQueue
          · exact h
        · exact h
    · refine of_ite_fst ?_ ?_
      · refine of_ite_fst ?_ ?_
        · exact of_pair (passPsn (modQp (of_ite h.winEnter h)))
        · exact of_pair (newWinReq_fst (modQp (passPsn (modQp (of_ite h.winEnter h)))))
      · exact of_pair (passPsn (modQp (of_ite h.winEnter h)))

theorem retrack {i} (h : s.Canon) : (s.retrack i).Canon := h.setQp.syncTrackers

theorem applyRun_fst {i mover n k a} (h : s.Canon) : (s.applyRun i mover n k a).1.Canon := by
  induction n generalizing s k a with
  | zero => exact h
  | succ n ih =>
    unfold State.applyRun
    extract_lets q
    split
    · exact of_pair h
    · extract_lets s0
      have h0 : s0.Canon := h.setQp
      split
      · next e => exact ih (of_fst_eq e h0.applyPkt_fst)
      · next e => exact of_pair (of_fst_eq e h0.applyPkt_fst)

theorem ackAfter {i n req} (h : s.Canon) : (s.ackAfter i n req).Canon := of_ite h.setQp.sendAck h.setQp

theorem rxInOrder {i p} (h : s.Canon) : (s.rxInOrder i p).Canon := by
  unfold State.rxInOrder
  extract_lets s0
  have h0 : s0.Canon := h.modQp
  split
  · next e => exact of_fst_eq e h0.applyPkt_fst
  · next s1 e =>
    have h1 : s1.Canon := of_fst_eq e h0.applyPkt_fst
    split
    next s2 n a e' =>
    have h2 : s2.Canon := of_fst_eq e' h1.applyRun_fst
    exact of_ite h2.retrack.ackAfter h2

theorem rxOutOfOrder {i p d} (h : s.Canon) : (s.rxOutOfOrder i p d).Canon :=
  of_ite h.bump (of_ite (of_ite h.bump h.bump.modQp.sendNak) (syncTrackers (modQp (modQp (bump (of_ite h.winEnter h))))))

theorem rxDupRead {i p} (h : s.Canon) : (s.rxDupRead i p).Canon := by
  unfold State.rxDupRead
  extract_lets
  split
  · exact h.bump
  · refine of_ite h.winNak (of_ite ?_ ?_)
    · refine respond (modQp ?_)
      split
      · exact h.modCmd
      · exact h
    · exact of_ite h.modQp.respond h.winEnter.newWinReq_fst.modQp.respond

theorem rxNakDiscard {i p} (h : s.Canon) : (s.rxNakDiscard i p).Canon := of_ite h.setQp h.setQp.bump

theorem rxChecks_fst {p} (h : s.Canon) : (s.rxChecks p).1.Canon := of_ite_fst (of_pair h.bump.bump) (of_ite_fst (of_pair h.bump.bump) (of_pair h.bump))

theorem sendMsg {i o skip} (h : s.Canon) : (s.sendMsg i o skip).Canon := by
  unfold State.sendMsg
  extract_lets
  split
  · exact h.qpFrame
  · exact h.each fun _ _ ht => ht.qpFrame

theorem resend {i psn} (h : s.Canon) : (s.resend i psn).Canon := of_ite h.qpError (h.each fun _ _ ht => ht.sendMsg.bumpBy)

theorem drawAck {i} (h : s.Canon) : (s.drawAck i).Canon := by
  unfold State.drawAck
  split
  · exact of_ite h.sendMsg.bump h
  · exact h

theorem advanceUna {i una} (h : s.Canon) : (s.advanceUna i una).Canon := of_ite h h.setQp.syncStg

theorem readDone {purpose data port stamp} (h : s.Canon) : (s.readDone purpose data port stamp).Canon := by
  unfold State.readDone
  split
  · exact h.modCmd
  · exact h.modQueue
  · exact h.modQueue

theorem winResult {r} (h : s.Canon) : (s.winResult r).Canon := h.setFld

theorem winCmd {op w : Nat} {f : State → State} (h : s.Canon) (hf : ∀ t, t.Canon → (f t).Canon) : (s.winCmd op w f).Canon :=
  of_ite h.malformed (hf _ h.setFld.setFld)

theorem winMapOp_fst {w x} (h : s.Canon) : (s.winMapOp w x).1.Canon := of_ite_fst h (of_ite_fst h (of_pair h.setWin))

theorem winMapReg {w} (h : s.Canon) : (s.winMapReg w).Canon := h.winMapOp_fst.winResult

theorem winFree {w} (h : s.Canon) : (s.winFree w).Canon := by
  unfold State.winFree
  refine of_ite h ?_
  extract_lets
  split
  · exact h.frame.notice
  · exact h.frame.notice.modCmd

theorem winRevokeOp_fst {w waiter} (h : s.Canon) : (s.winRevokeOp w waiter).1.Canon := of_ite_fst h (of_pair h.setWin.winFree)

theorem winRevokeReg {w} (h : s.Canon) : (s.winRevokeReg w).Canon := h.winRevokeOp_fst.winResult

theorem winModifyOp {w} (h : s.Canon) : (s.winModifyOp w).Canon := of_ite h.winResult (of_ite h.winResult h.setWin.winResult)

theorem winReadOp {w} (h : s.Canon) : (s.winReadOp w).Canon := winResult (h.each fun _ _ ht => ht.setReg)

theorem dropRead {h c} (hs : s.Canon) : (s.dropRead h c).Canon := hs.modQp.winDone.unlock.modCmd.syncCmds

/-! ### Fabrics and admin commands -/

theorem kaTouch {a always} (h : s.Canon) : (s.kaTouch a always).Canon := by
  unfold State.kaTouch
  split
  · exact of_ite h.setAssoc h
  · exact h

theorem adminTake_fst {qi cls want} (h : s.Canon) : (s.adminTake qi cls want).1.Canon := by
  unfold State.adminTake
  split
  · exact h
  · split
    · exact h
    · refine of_ite_fst h (of_ite_fst (of_pair h.setQueue.kaTouch.postCqe) (of_ite_fst ?_ ?_))
      · exact of_pair h.setQueue.kaTouch.bump.postCqe
      · exact of_ite_fst (of_pair (postCqe (of_ite h.setQueue.kaTouch.bump h.setQueue.kaTouch))) (of_pair h.setQueue.kaTouch)

theorem admin {qi cls : Nat} {want : Nat → Bool} {f : State → Queue → Capsule → State × Nat × Nat} (h : s.Canon) (hf : ∀ u q c, u.Canon → (f u q c).1.Canon) :
    (s.admin qi cls want f).Canon := by
  unfold State.admin
  split
  · next e => exact of_fst_eq e h.adminTake_fst
  · next e => exact postCqe (hf _ _ _ (of_fst_eq e h.adminTake_fst))

theorem holdAdmin_fst {qi opc st q c} (h : s.Canon) : (s.holdAdmin qi opc st q c).1.Canon := of_pair h.setCmd.syncCmds

theorem adminReply {qi q c bytes data} (h : s.Canon) : (s.adminReply qi q c bytes data).Canon :=
  of_ite (of_ite h.emit.pf1Write.pf1Write h.emit.pf1Write) h.emit.qpSend

theorem connectRefuse {qp c status} (h : s.Canon) : (s.connectRefuse qp c status).Canon := h.bump.qpSend

theorem takeIoq {i a q} (h : s.Canon) : (s.takeIoq i a q).Canon := h.setQueue.setFld.setFld

theorem openAssoc {a x} (h : s.Canon) : (s.openAssoc a x).Canon := h.setAssoc.setReg.setFlag.setFlag.setFlag.setFld.setFld

theorem sendPage_fst {qi q c page off len} (h : s.Canon) : (s.sendPage qi q c page off len).1.Canon := of_ite_fst h (of_pair h.adminReply)

theorem ringAction {qi} (h : s.Canon) : (s.ringAction qi).Canon := by
  unfold State.ringAction
  split
  · exact h
  · refine of_ite h ?_
    split
    · exact h
    · exact h.freeQueue.setFld.syncLtr.modCmd
    · exact h.setQueue.modCmd

theorem ringStop {qi op act data} (h : s.Canon) : (s.ringStop qi op act data).Canon := by
  unfold State.ringStop
  split
  · next e => exact (of_fst_eq e h.adminTake_fst)
  · next e =>
    split
    · exact (of_fst_eq e h.adminTake_fst).postCqe
    · exact (of_fst_eq e h.adminTake_fst).holdAdmin_fst.setQueue.ringAction

/-! ### Queues and rings -/

theorem ioArrive {qi opc k dsm sgl} (h : s.Canon) : (s.ioArrive qi opc k dsm sgl).Canon := by
  unfold State.ioArrive
  split
  · exact h
  · split
    · exact h
    · refine of_ite h ?_
      extract_lets ranges busy chk st v home moves x s1 s2 s3
      have h2 : s2.Canon := of_ite h.setQueue.bump h.setQueue
      have h3 : s3.Canon := of_ite h2.bump h2
      exact of_ite h3.bump h3

theorem syncNudge (h : s.Canon) : s.syncNudge.Canon := h.setFld

theorem drainNudges (h : s.Canon) : s.drainNudges.Canon := by
  unfold State.drainNudges
  refine of_ite h.syncNudge (syncNudge (each h.frame fun _ _ ht => ?_))
  split
  · exact ht.nudge
  · exact ht.bump

theorem pushNudge {word held} (h : s.Canon) : (s.pushNudge word held).Canon :=
  of_ite (h.setFlag.bump.each fun _ _ ht => ht.readDoorbell) (of_ite h.frame.syncNudge h.frame.drainNudges)

theorem fetchEntries {qi q n} (h : s.Canon) : (s.fetchEntries qi q n).Canon := h.setQueue.each fun _ _ ht => of_ite ht.qpSend ht.pf1Read

theorem judgeDoorbell {qi q w} (h : s.Canon) : (s.judgeDoorbell qi q w).Canon :=
  of_ite h (of_ite h.bump (of_ite (of_ite h.bump h.bump.setQueue.aen) (of_ite h h.setQueue.syncLtr.kaTouch.fetchEntries)))

theorem markSkips {c} (h : s.Canon) : (s.markSkips c).Canon := by
  refine each h ?_
  intro t e ht
  dsimp only
  split
  · exact ht.modQueue
  · exact of_ite ht.modQueue ht.modQueue.bump
  · exact of_ite ht.modQueue ht.modQueue.bumpC.bumpC
  · exact of_ite ht.modQueue ht.modQueue.bumpC

theorem letIn {c qi q x} (h : s.Canon) : (s.letIn c qi q x).Canon := by
  unfold State.letIn
  refine of_ite ?_ ?_
  · exact h.setQueue.kaTouch.setCmd.syncCmds
  · exact syncCmds (of_ite h.setQueue.kaTouch.setCmd.placeLocks.dispatch.bumpC h.setQueue.kaTouch.setCmd.placeLocks.dispatch)

theorem readSegDone {h} (hs : s.Canon) : (s.readSegDone h).Canon := by
  unfold State.readSegDone
  split
  · exact hs
  · exact of_ite hs.unlock.setCmd.offEngines.syncCmds hs.setCmd

theorem retire {h c} (hs : s.Canon) : (s.retire h c).Canon := by
  unfold State.retire
  extract_lets s1 s2 s3
  have h1 : s1.Canon := by
    refine of_ite hs.bump ?_
    split
    · exact of_ite hs.postCqe.bump hs.postCqe
    · exact hs
  have h2 : s2.Canon := of_ite h1.bump h1
  split
  · exact h2.endCmd.monEvent.ringAction
  · exact h2.endCmd.monEvent

/-! ### Locks and volumes -/

theorem syncSet {pi} (h : s.Canon) : (s.syncSet pi).Canon := by
  unfold State.syncSet
  split
  · exact h
  · exact h.setFld.setFld

theorem syncVol {v} (h : s.Canon) : (s.syncVol v).Canon := by
  unfold State.syncVol
  split
  · exact h.setReg.setReg
  · exact h.setFlag.setFld.setFld.setFlag.setFld.setFlag.syncSet

theorem syncEvlog (h : s.Canon) : s.syncEvlog.Canon := by
  unfold State.syncEvlog
  split
  · exact h.setReg.setReg.setReg.setReg
  · exact h.setReg.setReg.setReg.setReg

theorem logRed {typ set pos first rows member stripe} (h : s.Canon) : (s.logRed typ set pos first rows member stripe).Canon :=
  of_ite h.frame.syncEvlog h.frame.health.syncEvlog

theorem syncRed (h : s.Canon) : s.syncRed.Canon := syncServing (setFlag (h.each fun _ _ ht => ht.setFld.setFlag.setFlag.setFld.set64.set64))

theorem syncLost (h : s.Canon) : s.syncLost.Canon := h.setFld

theorem recordLoss {set t mask first rows} (h : s.Canon) : (s.recordLoss set t mask first rows).Canon := by
  unfold State.recordLoss
  extract_lets
  split
  · exact h.putLost.bump.logRed.syncLost.syncRed
  · refine syncRed (each h.bump.logRed fun _ _ ht => ?_)
    split
    · split
      · exact ht.putVol.syncVol
      · exact ht
    · exact ht

/-! ### The stripe engines -/

theorem settle {h} (hs : s.Canon) : (s.settle h).Canon := by
  unfold State.settle
  split
  · exact of_ite hs.park hs
  · exact hs

theorem takeInto {e h} (hs : s.Canon) : (s.takeInto e h).Canon := hs.modEngine.syncCmds

theorem stealFrom {e v cnt} (h : s.Canon) : (s.stealFrom e v cnt).Canon := by
  unfold State.stealFrom
  split
  · exact h.bumpC
  · exact h.modEngine.takeInto.bumpC

theorem openEpoch {op b} (h : s.Canon) : (s.openEpoch op b).Canon := h.frame.setFld.set64.bump.setFlag.setFld.syncCmds

theorem globalResult {r} (h : s.Canon) : (s.globalResult r).Canon := h.frame.setFlag.setFld.setFld

theorem activate {b} (h : s.Canon) : (s.activate b).Canon := of_ite h.setFld h.openEpoch.setFld.setFld

theorem globalDone {r} (h : s.Canon) : (s.globalDone r).Canon := by
  unfold State.globalDone
  extract_lets
  split
  · exact h.globalResult
  · exact h.globalResult.frame.activate

theorem globalGo {op : Nat} {modes : Bool} {f : State → State} (h : s.Canon) (hf : ∀ t, t.Canon → (f t).Canon) : (s.globalGo op modes f).Canon :=
  of_ite h.malformed (of_ite (hf _ h.setFld) h.setFld.setFld)

theorem goBroadcast (h : s.Canon) : s.goBroadcast.Canon := h.globalGo fun _ ht => ht.emit.globalResult

theorem goBarrier {b} (h : s.Canon) : (s.goBarrier b).Canon := h.globalGo fun _ ht => ht.openEpoch

theorem goSnapshot {b} (h : s.Canon) : (s.goSnapshot b).Canon := h.globalGo fun _ ht => of_ite ht.setFld ht.setFlag.setFld.openEpoch.frame

theorem engReset (h : s.Canon) : s.engReset.Canon := syncCmds (frame (each (h.each fun _ _ ht => ht.endCmd.bump) fun _ _ ht => ht.setReg.setFlag))

theorem goReset (h : s.Canon) : s.goReset.Canon := h.globalGo fun _ ht => ht.engReset.globalResult

theorem armMaps {b ps} (h : s.Canon) : (s.armMaps b ps).Canon := by
  unfold State.armMaps
  refine each h fun _ _ ht => ?_
  split
  · exact ht
  · exact ht.frame.syncVol.syncVol

theorem snapArmed (h : s.Canon) : s.snapArmed.Canon := h.setFlag.setFld

theorem ucodeActivate {b} (h : s.Canon) : (s.ucodeActivate b).Canon := of_ite h (of_ite h.frame.setFld h.activate)

/-! ### The way of a command -/

theorem deferBack {order} (h : s.Canon) : (s.deferBack order).Canon := of_ite h h.frame.bump

theorem admitBack {order} (h : s.Canon) : (s.admitBack order).Canon := h.frame

theorem syncJrn (h : s.Canon) : s.syncJrn.Canon := h.setFld

theorem pushReads {u cluster l} (h : s.Canon) : (s.pushReads u cluster l).Canon := h.frame

theorem uncipher {h} (hs : s.Canon) : (s.uncipher h).Canon := hs.frame.each fun _ _ ht => ht.setFld

theorem finish {h status} (hs : s.Canon) : (s.finish h status).Canon := by
  unfold State.finish
  extract_lets
  split
  · exact hs.uncipher
  · refine of_ite ?_ ?_
    · exact syncCmds (park (of_ite hs.uncipher.setCmd.unlock hs.uncipher.setCmd))
    · exact of_ite hs.uncipher.endCmd (of_ite hs.uncipher.endCmd.winDone.sendNak hs.uncipher.setCmd)

theorem needReads {h} (hs : s.Canon) : (s.needReads h).Canon := by
  fun_cases State.needReads s h
  · exact hs
  · exact hs.recordLoss.finish
  · exact hs.pushReads
  · exact hs.pushReads.charge.bump

theorem lookupPieces_fst {c} (h : s.Canon) : (s.lookupPieces c).1.Canon := of_pair (foldl_fst h fun _ _ ht => of_pair ht.demandLookup_fst)

theorem fetchLine {v st kind} (h : s.Canon) : (s.fetchLine v st kind).Canon := of_ite h (of_ite h h.frame)

theorem startFill {f} (h : s.Canon) : (s.startFill f).Canon := pushReads (h.frame.charge.cond fun _ ht => ht.bump)

theorem admitFetches (h : s.Canon) : s.admitFetches.Canon := by
  unfold State.admitFetches
  split
  · exact h.admitBack
  · exact of_ite h.startFill.admitBack h.deferBack

theorem detect {v first last} (h : s.Canon) : (s.detect v first last).Canon :=
  of_ite h (of_ite (each (h.frame.each fun _ _ ht => of_ite ht.fetchLine ht) fun _ _ ht => ht.admitFetches) h.frame)

theorem chargeHost {c} (h : s.Canon) : (s.chargeHost c).Canon := by
  unfold State.chargeHost
  split
  · exact h.charge
  · exact h.charge
  · exact h.charge.charge
  · exact h.charge.charge
  · exact h.charge.charge
  · exact h

theorem startDemandFills {h c} (hs : s.Canon) : (s.startDemandFills h c).Canon := hs.each fun _ _ ht => of_ite ht (of_ite ht.bump ht.frame.charge)

theorem startWork {h} (hs : s.Canon) : (s.startWork h).Canon := by
  unfold State.startWork
  split
  · exact hs
  · refine of_ite hs.setCmd ?_
    extract_lets miss c1 s1 s2 s3 s4
    have h1 : s1.Canon := hs.setCmd.startDemandFills
    have h2 : s2.Canon := by
      unfold s2
      split
      · exact h1.detect
      · exact h1
    exact of_ite (of_ite h2.needReads.bump.dropRead.bump h2.needReads.bump) h2.needReads

theorem govAdmit {h} (hs : s.Canon) : (s.govAdmit h).Canon := by
  unfold State.govAdmit
  split
  · exact hs
  · refine of_ite hs (of_ite hs (of_ite hs.finish ?_))
    split
    next s1 ps e =>
    have h1 : s1.Canon := of_fst_eq e (of_ite_fst hs.lookupPieces_fst (of_pair hs))
    exact of_ite h1.setCmd.chargeHost.startWork.settle h1.setCmd.setCmd.frame.bump.settle

theorem syncJrnWait (h : s.Canon) : s.syncJrnWait.Canon := h.setFlag

theorem readFinish {h} (hs : s.Canon) : (s.readFinish h).Canon := by
  unfold State.readFinish
  split
  · exact hs
  · extract_lets
    split
    · exact of_ite (of_ite hs.endCmd hs.setCmd.park.respond) hs.setCmd.readSegDone
    · exact of_ite hs hs.finish
    · split
      · exact hs.setCmd.finish
      · refine of_ite ?_ ?_
        · exact readSegDone (setCmd (foldl_fst (of_pair hs.setCmd) fun _ _ ht => of_pair ht.pf1Write))
        · exact park (hs.setCmd.each fun _ _ ht => ht.qpSend)

theorem setPipe {p l} (h : s.Canon) : (s.setPipe p l).Canon := h.frame.setFld

theorem pushCipher {p r} (h : s.Canon) : (s.pushCipher p r).Canon := of_ite h.frame.setPipe.setFlag h.frame.setPipe.setFlag.bump

theorem cmdCipher {h} (hs : s.Canon) : (s.cmdCipher h).Canon := by
  unfold State.cmdCipher
  split
  · exact hs
  · refine of_ite hs ?_
    split
    · refine of_ite hs ?_
      split
      · exact hs.readFinish
      · refine of_ite hs.bump.finish ?_
        split
        · exact hs
        · exact hs.pushCipher.setCmd.settle
    · refine of_ite hs ?_
      dsimp only
      split
      · exact hs.bump.finish
      · split
        · exact hs.bump.setFld.mirrorSlot.finish
        · exact of_ite hs hs.setCmd.bump
        · split
          · exact hs
          · exact settle (setCmd (pushCipher (of_ite hs hs.reserve)))
    · exact hs

theorem writeBack {v x} (h : s.Canon) : (s.writeBack v x).Canon := by
  unfold State.writeBack
  refine of_ite h ?_
  split
  · split
    · exact of_ite h h.emit.bump.logRed
    · exact h
  · exact h

theorem dropFillSector {v b} (h : s.Canon) : (s.dropFillSector v b).Canon := h.frame

theorem loseRecord {r} (h : s.Canon) : (s.loseRecord r).Canon := by
  unfold State.loseRecord
  refine each h.frame fun _ _ ht => ?_
  split
  · exact ht.recordLoss
  · exact ht

theorem slabFor_some {v n stamp : Nat} (e : s.slabFor v n stamp = some t) (h : s.Canon) : t.Canon := by
  unfold State.slabFor at e
  split at e
  · cases e
  · split at e
    · cases e
    · dsimp only at e
      split at e
      · obtain ⟨_, _, rfl⟩ := Option.map_eq_some_iff.mp e
        exact h.putVol.syncVol
      · split at e
        · obtain ⟨_, _, rfl⟩ := Option.map_eq_some_iff.mp e
          exact h.putVol.syncVol
        · cases e
          exact h

theorem supersede {v a n} (h : s.Canon) : (s.supersede v a n).Canon := h.frame

theorem writeDone {h} (hs : s.Canon) : (s.writeDone h).Canon := by
  unfold State.writeDone
  split
  · exact hs
  · refine of_ite ?_ ?_
    · refine of_ite ?_ ?_
      · exact hs.unlock.finish
      · exact of_ite hs.unlock.setCmd.offEngines.syncCmds (of_ite hs.unlock.endCmd hs.unlock.endCmd.modQp.winDone.ackRetry)
    · exact of_ite hs.unlock.setCmd.offEngines.syncCmds hs.unlock.setCmd.park.syncCmds

/-! ### Protection sets and members -/

theorem modMem {m f} (h : s.Canon) : (s.modMem m f).Canon := h.frame

theorem setMem {m st} (h : s.Canon) : (s.setMem m st).Canon := h.setFld

theorem syncMem {m} (h : s.Canon) : (s.syncMem m).Canon := by
  unfold State.syncMem
  split
  · exact h.setFld.setFlag.setFld.setFlag.setFlag
  · exact h.setFld.setFlag.setFld.setFlag

theorem writeLabels {pi} (h : s.Canon) : (s.writeLabels pi).Canon := by
  unfold State.writeLabels
  split
  · exact h
  · exact h.each fun _ _ ht => ht.emit.emit.frame

theorem bumpGen {pi} (h : s.Canon) : (s.bumpGen pi).Canon := by
  unfold State.bumpGen
  split
  · exact h
  · exact h.putSet.writeLabels

theorem queueIntent {set p i isOpen slots} (h : s.Canon) : (s.queueIntent set p i isOpen slots).Canon := h.each fun _ _ ht => ht.frame

theorem rereplicate {m} (h : s.Canon) : (s.rereplicate m).Canon := by
  unfold State.rereplicate
  split
  · exact h
  · refine putSet (foldl_fst h fun _ _ ht => of_ite_fst ht ?_)
    extract_lets
    split
    · exact ht
    · exact of_pair ht.queueIntent.bump.logRed

theorem rebuildStart {m} (h : s.Canon) : (s.rebuildStart m).Canon := by
  unfold State.rebuildStart
  split
  · exact h
  · exact h.putSet.syncRed

theorem replaceSlot {pi slot m} (h : s.Canon) : (s.replaceSlot pi slot m).Canon := by
  unfold State.replaceSlot
  split
  · exact h
  · refine syncRed (logRed (syncMem ?_))
    split
    · exact h.putSet.setMem.bumpGen.syncMem
    · exact h.putSet.setMem.bumpGen

theorem autoReplace {m} (h : s.Canon) : (s.autoReplace m).Canon := by
  unfold State.autoReplace
  refine of_ite h ?_
  split
  · exact h
  · split
    · exact h
    · exact h.replaceSlot

theorem memberReturns {m whole} (h : s.Canon) : (s.memberReturns m whole).Canon := by
  unfold State.memberReturns
  split
  · exact h
  · exact h.setMem.frame.putSet.syncMem.syncRed

theorem fillDone {pi slot} (h : s.Canon) : (s.fillDone pi slot).Canon := by
  unfold State.fillDone
  split
  · exact h
  · split
    · exact h
    · exact h.putSet.setMem.bumpGen.syncMem.syncRed

/-! ### Drives -/

theorem syncPool (h : s.Canon) : s.syncPool.Canon := h.setFld.setFld

theorem setDrvQueue {m q x} (h : s.Canon) : (s.setDrvQueue m q x).Canon := h.modMem

theorem portEvent {m code n} (h : s.Canon) : (s.portEvent m code n).Canon := h.cond fun _ ht => ht.monEvent

theorem sectorEvents {r} (h : s.Canon) : (s.sectorEvents r).Canon := h.portEvent.monEvent

theorem post {cid q c} (h : s.Canon) : (s.post cid q c).Canon := h.setDrvQueue.modMem.emit.frame.syncPool.portEvent

theorem drvAdmin {m arg u} (h : s.Canon) : (s.drvAdmin m arg u).Canon := by
  unfold State.drvAdmin
  split
  · exact h
  · exact h.frame.post

theorem markWaited {r cnt} (h : s.Canon) : (s.markWaited r cnt).Canon := of_ite h h.frame.bump

theorem reroute (h : s.Canon) : s.reroute.Canon := h.each fun _ _ ht => ht.needReads

theorem suspect {m} (h : s.Canon) : (s.suspect m).Canon := of_ite h.modMem.setMem.frame.rereplicate.syncRed.reroute h

theorem ctrlReset {m} (h : s.Canon) : (s.ctrlReset m).Canon := h.frame.syncPool.setFld.modMem.bumpD.emit

theorem dmaFault {m} (h : s.Canon) : (s.dmaFault m).Canon := of_ite h.bumpD.emit.suspect.ctrlReset h.bumpD.emit

theorem feed {u m b w} (h : s.Canon) : (s.feed u m b w).Canon := by
  unfold State.feed
  split
  · split
    · exact h
    · exact h.setCmd.frame
  · exact h.frame
  · exact h

theorem droppedDone {h} (hs : s.Canon) : (s.droppedDone h).Canon := by
  unfold State.droppedDone
  split
  · exact hs
  · exact of_ite hs (endCmd (endFillsOf (hs.each fun _ _ ht => of_ite ht ht.putSide)))

theorem drvDone {cid c ok} (h : s.Canon) : (s.drvDone cid c ok).Canon := by
  unfold State.drvDone
  extract_lets r _ s1 lost missing s2
  have h1 : s1.Canon := h.frame.syncPool.cond fun _ ht => ht.sectorEvents
  have h2 : s2.Canon := of_ite h1 (cond (h1.each fun _ _ ht => ht.feed) fun _ ht => ht.frame)
  split
  · exact h2.needReads.droppedDone
  · exact h2.frame
  · exact h2.modMem
  · exact h2.modMem.setFlag
  · exact h2

theorem ladderEnd {m} (h : s.Canon) : (s.ladderEnd m).Canon := of_ite h h.setMem.setFld.modMem.syncRed.reroute

theorem timeout {cid c} (h : s.Canon) : (s.timeout cid c).Canon := of_ite h.bumpD.suspect.setFld.modMem.drvAdmin.bumpD (of_ite h.bumpD.ctrlReset h.bumpD)

theorem endDrvCmds {m} (h : s.Canon) : (s.endDrvCmds m).Canon := reroute (h.frame.syncPool.frame.each fun _ _ ht => ht.each fun _ _ hu => hu.feed)

theorem memberLeaves {m st} (h : s.Canon) : (s.memberLeaves m st).Canon := by
  unfold State.memberLeaves
  extract_lets s1 s2 s3 _ s4
  have h2 : s2.Canon := h.setMem.setFld.modMem.setFlag.rereplicate
  have h3 : s3.Canon := by
    unfold s3
    split
    · exact h2.bumpGen
    · exact h2
  have h4 : s4.Canon := of_ite h3.rebuildStart (of_ite h3.rebuildStart.autoReplace h3.frame)
  exact h4.endDrvCmds.syncRed.cond fun _ ht => ht.autoReplace

theorem memberFails {m} (h : s.Canon) : (s.memberFails m).Canon := h.bumpD.health.memberLeaves

theorem setLoc {m p dual} (h : s.Canon) : (s.setLoc m p dual).Canon := by
  unfold State.setLoc
  refine setFlag ?_
  split
  · exact h.setFld.setFld.setFld
  · exact h.setFld.setFld.setFld

theorem freeMember {m} (h : s.Canon) : (s.freeMember m).Canon := h.setReg.setReg.setReg.setFlag.frame

theorem holdOut {p code} (h : s.Canon) : (s.holdOut p code).Canon := by
  unfold State.holdOut
  extract_lets
  split
  · exact h.bumpD
  · exact h.bumpD.setLoc.setMem.setFld

theorem dropPlace {k} (h : s.Canon) : (s.dropPlace k).Canon := h.frame

theorem admitMember {m p f fmt st} (h : s.Canon) : (s.admitMember m p f fmt st).Canon := by
  unfold State.admitMember
  refine of_ite ?_ ?_
  · exact h.setLoc.setMem.setFlag.setFlag.setFld.setFld.modMem.setFlag.bumpD
  · exact h.setLoc.setMem.setFlag.setFlag.setFld.setFld.modMem.setFlag

theorem memberGone {m empty} (h : s.Canon) : (s.memberGone m empty).Canon :=
  of_ite (memberLeaves (bumpD (of_ite h.modMem h))) (of_ite (freeMember (of_ite h.modMem h)) (of_ite h.modMem h))

theorem halfDown {h} (hs : s.Canon) : (s.halfDown h).Canon := hs.setFlag.setFld.setFld.dropPlace.frame

theorem driveRemoval {half presence} (h : s.Canon) : (s.driveRemoval half presence).Canon := by
  unfold State.driveRemoval
  refine of_ite h (of_ite h (of_ite ?_ ?_))
  · split
    · exact of_ite h.halfDown.freeMember h.halfDown
    · exact h.halfDown
  · split
    · exact h.halfDown
    · exact of_ite h.halfDown.memberGone h.halfDown.frame.setFlag.bumpD.memberGone

theorem memCmd {op m : Nat} {f : State → State × Bool} (h : s.Canon) (hf : ∀ u, u.Canon → (f u).1.Canon) : (s.memCmd op m f).Canon :=
  of_ite h.malformed (setFld (hf _ h.setFld.setFld))

theorem goMemFail {m} (h : s.Canon) : (s.goMemFail m).Canon := h.memCmd fun _ ht => of_ite_fst (of_pair ht.memberFails) ht

theorem goMemRelease {m} (h : s.Canon) : (s.goMemRelease m).Canon := by
  unfold State.goMemRelease
  refine memCmd h fun _ ht => of_ite_fst ht ?_
  split
  · exact of_pair ht.freeMember
  · exact of_pair ht.freeMember.putSet.bumpGen.syncRed

theorem goMemRequalify {m} (h : s.Canon) : (s.goMemRequalify m).Canon := h.memCmd fun _ ht => of_ite_fst ht (of_pair ht.frame)

/-! ### Cache maintenance -/

theorem syncMnt (h : s.Canon) : s.syncMnt.Canon := by
  unfold State.syncMnt
  extract_lets
  split
  · exact h.setFlag.setFld.setFlag.setReg.setReg.setReg
  · exact h.setFlag.setFld.setFlag.setFld.setFld.setFlag.setFld.setFld.setFld

theorem mntDone {status lines locks skip} (h : s.Canon) : (s.mntDone status lines locks skip).Canon := by
  unfold State.mntDone
  split
  · exact h
  · exact h.frame.bump.monEvent.syncMnt

theorem mntInvalidate {o} (h : s.Canon) : (s.mntInvalidate o).Canon := h.frame.bumpBy.bumpBy.syncLocks.mntDone

theorem mntUnlock {o} (h : s.Canon) : (s.mntUnlock o).Canon := h.frame.syncLocks.mntDone

theorem mntLockLine_fst {v st} (h : s.Canon) : (s.mntLockLine v st).1.Canon := by
  unfold State.mntLockLine
  extract_lets s1
  have h1 : s1.Canon := of_ite h h.install
  split
  · exact of_pair h1
  · exact of_ite_fst (of_pair h1) (of_ite_fst (of_pair h1.setLine.syncLocks) (of_pair h1))

theorem modMnt {f} (h : s.Canon) : (s.modMnt f).Canon := by
  unfold State.modMnt
  split
  · exact h
  · exact h.frame

theorem mntLoop {n} (h : s.Canon) : (State.mntLoop n s).Canon := by
  induction n generalizing s with
  | zero => exact h
  | succ n ih =>
    unfold State.mntLoop
    split
    · exact h.syncMnt
    · refine of_ite (ih h.mntDone) (of_ite (ih h.mntDone) (of_ite (ih h.mntDone) ?_))
      refine of_ite (ih h.mntInvalidate) (of_ite (ih h.mntUnlock) (of_ite (of_ite (ih h.modMnt) (of_ite h.syncMnt (ih h.mntDone))) ?_))
      refine of_ite (ih h.modMnt) (of_ite (ih h.mntDone) (of_ite h.syncMnt ?_))
      split
      · exact ih h.modMnt
      · exact of_ite (ih h.modMnt) (ih h.mntLockLine_fst.modMnt)
      · exact h.frame.admitFetches.syncMnt

theorem mntRun (h : s.Canon) : s.mntRun.Canon := h.mntLoop

theorem mntFill {f} (h : s.Canon) : (s.mntFill f).Canon := by
  unfold State.mntFill
  extract_lets s1 mine step s2
  have hstep : ∀ {t ch sk}, State.Canon t → (step t ch sk).Canon := fun ht => of_ite ht.modMnt.mntRun ht
  have h2 : s2.Canon := of_ite h.dropFill h.dropFill.install
  exact of_ite (hstep h.dropFill.bump) (of_ite (hstep h.dropFill.bump) (of_ite (hstep h2) (hstep h2.mntLockLine_fst)))

theorem mntGo {op respect id} (h : s.Canon) : (s.mntGo op respect id).Canon := of_ite h.malformed h.setFld.setFlag.setFld.frame.mntRun

theorem popMnt {req} (h : s.Canon) : (s.popMnt req).Canon := by
  unfold State.popMnt
  split
  · exact h
  · exact h.frame.syncMnt

theorem cchCtlWrite {w} (h : s.Canon) : (s.cchCtlWrite w).Canon := of_ite h.setReg h.setReg.frame.bumpBy.syncLocks

/-! ### Destage, rebuild and replay -/

theorem writeNow {l} (h : s.Canon) : (s.writeNow l).Canon := h.each fun _ _ ht => ht.emit

theorem markStale {pi t poss} (h : s.Canon) : (s.markStale pi t poss).Canon := by
  unfold State.markStale
  split
  · exact h
  · exact of_ite h (h.putSet.each fun _ _ ht => ht.syncMem)

theorem openIntent {pi t mask jseq} (h : s.Canon) : (s.openIntent pi t mask jseq).Canon := by
  unfold State.openIntent
  split
  · exact h
  · exact metaSend (of_ite h.putSet.queueIntent.bump h.putSet.queueIntent)

theorem closeIntent {pi t} (h : s.Canon) : (s.closeIntent pi t).Canon := by
  unfold State.closeIntent
  split
  · exact h
  · split
    · exact h
    · exact h.putSet.queueIntent.metaSend

theorem intentBlock {m} (h : s.Canon) : (s.intentBlock m).Canon := of_ite h (of_ite h.frame h.emit.frame)

theorem markRun {set per run off w} (h : s.Canon) : (s.markRun set per run off w).Canon := by
  unfold State.markRun
  refine each h fun _ _ ht => ?_
  split
  · exact ht
  · split
    · exact ht
    · exact ht.putVol.syncVol

theorem clearBlocks {set t l} (h : s.Canon) : (s.clearBlocks set t l).Canon :=
  syncJrnWait (syncJrn (h.frame.each fun _ _ ht => ht.each fun _ _ hu => hu.cleanBlock))

theorem dropSlab {v n} (h : s.Canon) : (s.dropSlab v n).Canon := by
  unfold State.dropSlab
  split
  · exact h
  · exact h.putVol.syncVol

theorem freeZeroed {v n} (h : s.Canon) : (s.freeZeroed v n).Canon := by
  unfold State.freeZeroed
  exact dropSlab (syncJrnWait (syncJrn (each h.frame fun _ _ ht => ht.cleanBlock)))

theorem zeroWaits {set t} (h : s.Canon) : (s.zeroWaits set t).Canon := of_ite h h.frame.bump

theorem zeroPass {slot n} (h : s.Canon) : (s.zeroPass slot n).Canon := by
  unfold State.zeroPass
  extract_lets
  split
  · exact h.bumpBy
  · exact h.bumpBy.pushCipher.setPipe.monEvent

theorem sealZeros_some {p : PSet} {j : StripeJob} {cells : List (Nat × Nat)} {l : List (Nat × Nat × Nat)}
    (e : s.sealZeros p j cells = some (t, l)) (h : s.Canon) : t.Canon := by
  unfold State.sealZeros at e
  dsimp only at e
  split at e
  · cases e
    exact h
  · split at e
    · cases e
    · cases e
      exact zeroPass (of_ite h h.reserve)

theorem startDestage {set t p j blocks pl} (h : s.Canon) : (s.startDestage set t p j blocks pl).Canon :=
  h.openIntent.markStale.frame.charge.bumpBy.bumpBy.bumpBy.bumpBy.markRun

theorem destageStart {set t rd} (h : s.Canon) : (s.destageStart set t rd).Canon := by
  unfold State.destageStart
  split
  · refine of_ite h (of_ite h.freeZeroed (of_ite h.clearBlocks.markRun (of_ite h ?_)))
    split
    · exact h.zeroWaits
    · next e1 =>
      refine of_ite ((sealZeros_some e1 h).startDestage) ?_
      extract_lets
      split
      · exact h
      · exact (sealZeros_some e1 h).startDestage
  · exact h

theorem syncReplay (h : s.Canon) : s.syncReplay.Canon := of_ite h.setFlag.syncRed h

theorem holdupWrite {w} (h : s.Canon) : (s.holdupWrite w).Canon := h.setReg.setFld

/-! ### Sets, volumes, lost ranges and the event log -/

theorem rebuildAdmit_fst {use} (h : s.Canon) : (s.rebuildAdmit use).1.Canon := by
  unfold State.rebuildAdmit
  refine of_ite_fst ?_ ?_
  · exact of_ite_fst (of_pair h.deferBack) (of_pair h.charge.admitBack.frame)
  · exact of_ite_fst (of_pair h.charge.admitBack) (of_pair h.deferBack)

theorem loseRows {set t rows} (h : s.Canon) : (s.loseRows set t rows).Canon := h.each fun _ _ ht => ht.recordLoss

theorem rebuildChunk {set stripe rd} (h : s.Canon) : (s.rebuildChunk set stripe rd).Canon := by
  unfold State.rebuildChunk
  split
  · exact h
  · refine of_ite h (of_ite h.recordLoss (of_ite h.putSet.bump.logRed.syncRed (of_ite h ?_)))
    extract_lets
    split
    · next e => exact of_fst_eq e h.rebuildAdmit_fst
    · next t e =>
      have ht : t.Canon := of_fst_eq e h.rebuildAdmit_fst
      extract_lets t1 t2 t3
      have h3 : t3.Canon := ht.writeNow.putSet.bump.bumpBy.loseRows.syncRed
      split
      · exact of_ite h3.logRed h3
      · exact h3

theorem fillStep {m rd} (h : s.Canon) : (s.fillStep m rd).Canon := by
  unfold State.fillStep
  split
  · exact h
  · split
    · exact h
    · refine of_ite h ?_
      split
      · exact h.fillDone
      · split
        · exact h
        · refine of_ite h.putSet.syncRed (of_ite h (of_ite h ?_))
          extract_lets
          split
          · next e4 => exact (of_fst_eq e4 h.rebuildAdmit_fst)
          · next e4 => exact (of_fst_eq e4 h.rebuildAdmit_fst).writeNow.putSet.bump.bumpBy.loseRows.syncRed

theorem setCmdGo {op set slot m : Nat} {f : State → State × Nat} (h : s.Canon) (hf : ∀ u, u.Canon → (f u).1.Canon) : (s.setCmdGo op set slot m f).Canon :=
  have h1 := h.setFld.setFld.setFld.setFld
  of_ite h.malformed (of_ite h1.setFld (setFld (hf _ h1)))

theorem syncCfg {pi} (h : s.Canon) : (s.syncCfg pi).Canon := by
  unfold State.syncCfg
  split
  · exact h.setReg
  · exact h.setReg.setReg.setReg.setReg.set64.set64

theorem goSetCreate {set} (h : s.Canon) : (s.goSetCreate set).Canon := by
  unfold State.goSetCreate
  refine setCmdGo h fun _ ht => of_ite_fst ht (of_ite_fst ht (of_ite_fst ?_ ?_))
  · exact ht
  · exact of_pair (syncRed (syncSet (syncCfg (foldl (writeLabels (ht.useFree.putSet.foldl fun _ _ hu => hu.setMem)) fun _ _ hu => hu.syncMem))))

theorem goSetDelete {set} (h : s.Canon) : (s.goSetDelete set).Canon := by
  unfold State.goSetDelete
  refine setCmdGo h fun _ ht => ?_
  split
  · exact ht
  · refine of_ite_fst ?_ ?_
    · exact ht
    · exact of_pair (syncRed (syncCfg (foldl (putSet (ht.foldl fun _ _ hu => of_ite hu hu.emit.emit.setMem.frame)) fun _ _ hu => hu.syncMem)))

theorem goSetReplace {set slot m} (h : s.Canon) : (s.goSetReplace set slot m).Canon := by
  unfold State.goSetReplace
  refine setCmdGo h fun _ ht => ?_
  split
  · exact ht
  · exact of_ite_fst ht (of_ite_fst ht (of_ite_fst ht (of_pair ht.replaceSlot)))

theorem goPatrolNow {set} (h : s.Canon) : (s.goPatrolNow set).Canon := by
  unfold State.goPatrolNow
  refine setCmdGo h fun _ ht => ?_
  split
  · exact ht
  · exact of_pair ht.putSet.syncRed

theorem patrolAct {set p t row f} (h : s.Canon) : (s.patrolAct set p t row f).Canon := of_ite h.recordLoss h.writeNow.bump.logRed

theorem volCmdGo {op v set : Nat} {f : State → State × Nat} (h : s.Canon) (hf : ∀ u, u.Canon → (f u).1.Canon) : (s.volCmdGo op v set f).Canon :=
  of_ite h.malformed (of_ite h.setFld.setFld.setFld.setFld (setFld (hf _ h.setFld.setFld.setFld)))

theorem goVolCreate {v set} (h : s.Canon) : (s.goVolCreate v set).Canon :=
  h.volCmdGo fun _ ht => of_ite_fst ht (of_ite_fst ht (of_ite_fst ht (of_pair ht.putVol.syncVol)))

theorem goVolResize {v} (h : s.Canon) : (s.goVolResize v).Canon := by
  unfold State.goVolResize
  refine volCmdGo h fun _ ht => ?_
  extract_lets
  split
  · exact ht
  · exact of_ite_fst ht (of_ite_fst ht (of_pair ht.putVol.syncVol))

theorem goVolDelete {v} (h : s.Canon) : (s.goVolDelete v).Canon := by
  unfold State.goVolDelete
  refine volCmdGo h fun _ ht => ?_
  split
  · exact ht
  · exact of_ite_fst ht (of_pair ht.frame.putVol.syncVol.syncSet.syncJrn.syncJrnWait.syncRed)

theorem lostCmdGo {op i : Nat} {f : State → State × Nat} (h : s.Canon) (hf : ∀ u, u.Canon → (f u).1.Canon) : (s.lostCmdGo op i f).Canon :=
  of_ite h.malformed (of_ite h.setFld.setFld.setFld (setFld (hf _ h.setFld.setFld)))

theorem goLostRead {i} (h : s.Canon) : (s.goLostRead i).Canon := by
  unfold State.goLostRead
  refine lostCmdGo h fun _ ht => ?_
  split
  · exact of_pair ht.setReg.setReg.setReg.setReg
  · exact of_pair ht.setReg.setReg.setReg.setReg

theorem goLostClear {i rd} (h : s.Canon) : (s.goLostClear i rd).Canon := by
  unfold State.goLostClear
  refine lostCmdGo h fun _ ht => ?_
  split
  · exact ht
  · split
    · exact of_pair ht.putLost.syncLost.syncRed
    · split
      · exact of_pair ht.putLost.syncLost.syncRed
      · refine of_ite_fst ht ?_
        extract_lets
        split
        · exact of_pair ht.zeroWaits
        · next e3 => exact of_ite_fst ht (of_pair ((sealZeros_some e3 ht).putSet.writeNow.putLost.syncLost.syncRed))

theorem popEvlog {req} (h : s.Canon) : (s.popEvlog req).Canon := by
  unfold State.popEvlog
  split
  · exact h
  · exact h.frame.syncEvlog

/-! ### Slot and feed power -/

theorem assertReset {n} (h : s.Canon) : (s.assertReset n).Canon := h.frame

theorem slotGateOff {n} (h : s.Canon) : (s.slotGateOff n).Canon := h.frame.setFlag

theorem slotOff {n} (h : s.Canon) : (s.slotOff n).Canon := h.slotGateOff.setFld.assertReset

theorem slotJudge {n} (h : s.Canon) : (s.slotJudge n).Canon := of_ite h.slotOff h

theorem slotsJudge (h : s.Canon) : s.slotsJudge.Canon := h.each fun _ _ ht => ht.slotJudge

theorem ramp {n openPin} (h : s.Canon) : (s.ramp n openPin).Canon := of_ite h.slotGateOff.setFld.setFld.assertReset h.frame.setFld.assertReset

theorem slotFault {n cause} (h : s.Canon) : (s.slotFault n cause).Canon := by
  unfold State.slotFault
  extract_lets st s1
  have h1 : s1.Canon := h.slotGateOff.setFld.assertReset
  exact of_ite h1 (of_ite h1.setFld h1.setFld.bump)

theorem chCfgWrite {n w} (h : s.Canon) : (s.chCfgWrite n w).Canon := slotJudge (of_ite h.setReg.setFld.setFld h.setReg)

theorem drvPresence {h present} (hs : s.Canon) : (s.drvPresence h present).Canon := by
  unfold State.drvPresence
  refine of_ite hs (of_ite ?_ ?_)
  · split
    · exact hs.setFlag.frame.setFlag
    · exact hs.setFlag
  · refine foldl ?_ fun _ _ ht => of_ite ht.modMem ht
    split
    · exact hs.setFlag.frame
    · exact hs.setFlag

theorem slpCtlWrite {w} (h : s.Canon) : (s.slpCtlWrite w).Canon := of_ite h.setReg h.setReg.frame

theorem smbCfgWrite {w} (h : s.Canon) : (s.smbCfgWrite w).Canon := h.setReg.setFld

theorem fdGo {f st} (h : s.Canon) : (s.fdGo f st).Canon := h.frame.setFld

theorem fdCfgWrite {f w} (h : s.Canon) : (s.fdCfgWrite f w).Canon := of_ite h.setReg h.setReg.fdGo

theorem syncPfail (h : s.Canon) : s.syncPfail.Canon := h.setFlag

theorem setStage {g} (h : s.Canon) : (s.setStage g).Canon := h.frame.setFld

theorem enterDrive {slots feeds} (h : s.Canon) : (s.enterDrive slots feeds).Canon :=
  slotsJudge (each (h.frame.setStage.each fun _ _ ht => ht.setFld.setFld.setFlag) fun _ _ ht => of_ite ht ht.fdGo)

/-! ### Receiving on the Narzan link -/

theorem mirrorAcked {qs} (h : s.Canon) : (s.mirrorAcked qs).Canon := h.each fun _ _ ht => ht.writeDone

theorem mirrorAll (h : s.Canon) : s.mirrorAll.Canon := h.each fun _ _ ht => ht.writeDone

theorem sendStream {x} (h : s.Canon) : (s.sendStream x).Canon := by
  unfold State.sendStream
  split
  · split
    · exact h.mirrorRecord
    · exact h
  · split
    · exact h.nzlSend
    · exact h

theorem streamPump {n} (h : s.Canon) : (s.streamPump n).Canon := by
  induction n generalizing s with
  | zero => exact h
  | succ n ih =>
    unfold State.streamPump
    split
    · exact h
    · exact of_ite h (ih h.frame.sendStream.setFld)

theorem nzlResend {g} (h : s.Canon) : (s.nzlResend g).Canon := by
  unfold State.nzlResend
  extract_lets
  split
  · exact h
  · exact h.setGrp.bump.each fun _ _ ht => ht.emit.bumpBy

theorem nzlHeader {g ack credit} (h : s.Canon) : (s.nzlHeader g ack credit).Canon := h.setGrp.nzlPump.mirrorAcked.streamPump

theorem syncPresent (h : s.Canon) : s.syncPresent.Canon := h.cond fun _ ht => ht.setFlag

theorem groupDown {g} (h : s.Canon) : (s.groupDown g).Canon := by
  unfold State.groupDown
  extract_lets
  split
  · exact h.clrBit.setFlag.setFld.setGrp.setGrp.syncPresent
  · exact h.clrBit.setFlag.setFld.setGrp.setGrp.nzlPump

theorem dropMessages (h : s.Canon) : s.dropMessages.Canon := h.frame

theorem heartbeats (h : s.Canon) : s.heartbeats.Canon := h.each fun _ _ ht => ht.heartbeat

theorem sendHandshake (h : s.Canon) : s.sendHandshake.Canon := h.nzlSend.frame

theorem leaveService (h : s.Canon) : s.leaveService.Canon := h.frame.syncPfail

theorem dropMaps (h : s.Canon) : s.dropMaps.Canon :=
  syncJrn (syncRed (syncLost (each (h.frame.each fun _ _ ht => ht.syncVol) fun _ _ ht => ht.setReg.setReg.setReg.setReg)))

theorem becomeStale (h : s.Canon) : s.becomeStale.Canon := h.setFlag.setFlag.setFlag.frame.dropMaps

theorem endWaiting {status} (h : s.Canon) : (s.endWaiting status).Canon := h.frame

theorem dropWindows (h : s.Canon) : s.dropWindows.Canon := h.each fun _ _ ht => of_ite ht.dropRead.bump (of_ite ht (ht.endCmd.cond fun _ hu => hu.winDone))

theorem roleChange (h : s.Canon) : s.roleChange.Canon := h.frame.setFld

theorem fenced (h : s.Canon) : s.fenced.Canon := by
  unfold State.fenced
  extract_lets waits s0 s1 s2 s3 _ s4 s5
  have h0 : s0.Canon := of_ite h.setFlag.setFld h
  have h2 : s2.Canon := h0.dropWindows.each fun _ _ ht => ht.endCmd.cond fun _ hu => hu.bump
  have h3 : s3.Canon := h2.endWaiting.each fun _ _ ht => ht.finish
  exact h3.frame.leaveService.enterMode.setPartner.setFlag.setAna.becomeStale.dropMessages.roleChange

theorem armLost (h : s.Canon) : s.armLost.Canon := of_ite h.snapArmed.setFld h

theorem declareLost {cause} (h : s.Canon) : (s.declareLost cause).Canon := by
  unfold State.declareLost
  extract_lets s1 _ s2 s3 s4 _ s5
  have h1 : s1.Canon := h.setFld.bump.health
  have h2 : s2.Canon := h1.frame
  have h3 : s3.Canon := of_ite h2 (h2.each fun _ _ ht => ht.nzlOn)
  have h4 : s4.Canon := h3.setFlag.setFlag
  have h5 : s5.Canon := of_ite h4.frame.setAna h4
  exact of_ite h3 h5.armLost

theorem loseOnce {cause} (h : s.Canon) : (s.loseOnce cause).Canon := of_ite h.declareLost h

theorem fenceWrite (h : s.Canon) : s.fenceWrite.Canon := of_ite h h.declareLost

theorem startResync (h : s.Canon) : s.startResync.Canon := h.setPartner.mirrorAll.frame.setFlag.setFld.heartbeats.streamPump

theorem nzlBad {g} (h : s.Canon) : (s.nzlBad g).Canon := of_ite h.bump h.bump.setGrp.heartbeat.bump

theorem nzlRx {g : Nat} {m : NzlMsg} {f : State → State} (h : s.Canon) (hf : ∀ t, t.Canon → (f t).Canon) : (s.nzlRx g m f).Canon := by
  unfold State.nzlRx
  refine of_ite h (of_ite h.bumpBy.setFlag.nzlBad (of_ite h.bumpBy.setFlag.setGrp.nzlHeader (of_ite ?_ ?_)))
  · exact h.bumpBy.setFlag.setGrp.nzlHeader.bump.heartbeat
  · refine of_ite ?_ ?_
    · exact h.bumpBy.setFlag.setGrp.nzlHeader.bump.heartbeat
    · exact heartbeat (hf _ (of_ite h.bumpBy.setFlag.setGrp.nzlHeader.frame h.bumpBy.setFlag.setGrp.nzlHeader))

theorem takeRecord {r} (h : s.Canon) : (s.takeRecord r).Canon := h.frame.syncJrn

theorem takePart {r len} (h : s.Canon) : (s.takePart r len).Canon := of_ite h.frame h.frame.takeRecord

theorem metaItem {i} (h : s.Canon) : (s.metaItem i).Canon := by
  unfold State.metaItem
  split
  · split
    · exact h
    · exact h.frame
  · split
    · exact h.frame.syncVol
    · exact h.frame.syncVol
  · split
    · exact h.frame.syncCfg.syncSet.syncRed
    · exact h.frame.setReg.setReg.setReg.setReg
  · exact h.frame.syncLost
  · exact h.frame
  · exact h.frame
  · exact h.frame
  · exact h.setFld.setFlag
  · exact h

theorem adoptSetup {x} (h : s.Canon) : (s.adoptSetup x).Canon :=
  each (each (setFlag (setFld (setFld (frame (h.each fun _ _ ht => ht.setClass))))) fun _ _ ht => of_ite ht.loadSlot ht) fun _ _ ht => ht.bindVol

theorem offerSetup (h : s.Canon) : s.offerSetup.Canon := h.nzlSend

theorem cfgItem {i} (h : s.Canon) : (s.cfgItem i).Canon := by
  unfold State.cfgItem
  split
  · extract_lets _ s1 s2
    have h2 : s2.Canon := of_ite h.frame.setFld.setFld.sendHandshake h.frame.setFld.setFld
    exact of_ite h2.offerSetup h2
  · exact of_ite h.setFld h
  · exact h.frame
  · exact h.frame
  · extract_lets
    split
    · exact of_ite h.frame.adoptSetup.sealSetup h.frame
    · exact h.frame
  · exact h

theorem peerState {mode stale inStep resync img base} (h : s.Canon) : (s.peerState mode stale inStep resync img base).Canon := by
  unfold State.peerState
  extract_lets s1 _ s2 back _ s3
  have h2 : s2.Canon := h.setFld.setFld.setFld.frame
  have h3 : s3.Canon := of_ite h2.frame h2
  refine of_ite h2 (of_ite h2.loseOnce (of_ite h3 (of_ite (of_ite h3.setFlag h3) ?_)))
  exact of_ite h3 (of_ite (of_ite h3 h3.startResync) (of_ite h3.setPartner h3))

/-! ### Claim rounds -/

theorem startKey {n st hwm rec} (h : s.Canon) : (s.startKey n st hwm rec).Canon := of_ite h (of_ite h.frame.setReg.loadSlot.setFld h.frame.setReg.loadSlot)

theorem takeMembers (h : s.Canon) : s.takeMembers.Canon := h.each fun _ _ ht => of_ite ht.setMem.frame (of_ite ht.modMem.drvAdmin ht)

theorem emptyCache (h : s.Canon) : s.emptyCache.Canon := h.frame.syncLocks

theorem intentsResync (h : s.Canon) : s.intentsResync.Canon := h.frame

theorem takeover {cause} (h : s.Canon) : (s.takeover cause).Canon := by
  unfold State.takeover
  extract_lets swap jseq s0 _ _ s1 s2 keys src s3 s4
  have h0 : s0.Canon := of_ite h.setFlag.setFld h
  have h2 : s2.Canon := h0.frame.lapse.enterMode.setFlag.setAna.setPartner.emptyCache
  have h3 : s3.Canon := h2.frame.each fun _ _ ht => ht.startKey
  exact h3.takeMembers.intentsResync.syncPfail.syncJrn.bump.roleChange.syncRed.syncServing

theorem startSwap {handback} (h : s.Canon) : (s.startSwap handback).Canon := h.frame.setAna.lapse.endWaiting.each fun _ _ ht => ht.finish

theorem yieldRole (h : s.Canon) : s.yieldRole.Canon := roleChange (h.frame.leaveService.enterMode.setPartner.setFlag.setAna.bump.cond fun _ ht => ht.bump)

theorem judgeStage {won win slots feeds} (h : s.Canon) : (s.judgeStage won win slots feeds).Canon := by
  unfold State.judgeStage
  refine of_ite h (of_ite ?_ ?_)
  · split
    · exact h
    · exact h.enterDrive
    · exact h.enterDrive
  · exact of_ite (of_ite h.setStage h) h.setStage

theorem morningRole {won win} (h : s.Canon) : (s.morningRole won win).Canon := by
  unfold State.morningRole
  refine of_ite ?_ ?_
  · exact h.frame.enterMode.setAna.roleChange.takeMembers.syncPfail.syncJrn.syncRed.syncServing
  · exact of_ite h h.enterMode.setAna.becomeStale.roleChange

theorem clearLoop (h : s.Canon) : s.clearLoop.Canon := of_ite h.frame.setFld.setFlag h

theorem roundMode {won win} (h : s.Canon) : (s.roundMode won win).Canon := by
  unfold State.roundMode
  refine of_ite (of_ite h.morningRole.clearLoop h) (of_ite ?_ ?_)
  · refine of_ite h (of_ite h.frame.takeover ?_)
    split
    · exact of_ite h.takeover h
    · exact h
  · exact of_ite (of_ite (of_ite h.yieldRole h) (of_ite h.fenced h)) h

/-! ### The governor's interval -/

theorem sample {i x} (h : s.Canon) : (s.sample i x).Canon :=
  of_ite h.setFld.frame.setFlag.bump.health (of_ite h.setFld.frame.frame h.setFld.frame.setFlag.frame)

theorem samples {ts} (h : s.Canon) : (s.samples ts).Canon := h.each fun _ _ ht => of_ite ht.sample ht

theorem credit (h : s.Canon) : s.credit.Canon := h.frame

theorem fillBuckets (h : s.Canon) : s.fillBuckets.Canon := h.frame.syncLvl

theorem syncProfile (h : s.Canon) : s.syncProfile.Canon := h.setFld.setFlag.setFld

theorem admitHeld {h} (hs : s.Canon) : (s.admitHeld h).Canon := by
  unfold State.admitHeld
  split
  · exact hs
  · exact hs.chargeHost.startWork.settle

theorem passUrgent {n} (h : s.Canon) : (State.passUrgent n s).Canon := by
  induction n generalizing s with
  | zero => exact h
  | succ n ih =>
    unfold State.passUrgent
    split
    · exact h
    · exact of_ite (ih h.frame.admitHeld) h

theorem passShared {n} (h : s.Canon) : (State.passShared n s).Canon := by
  induction n generalizing s with
  | zero => exact h
  | succ n ih =>
    unfold State.passShared
    split
    · exact h
    · exact of_ite (ih h.frame.admitHeld) h

theorem preWakes (h : s.Canon) : s.preWakes.Canon := h.each fun _ _ ht => of_ite ht.setGate.charge.bump.admitBack ht.deferBack

theorem admissionPass (h : s.Canon) : s.admissionPass.Canon := of_ite h (mntRun (h.passUrgent.passShared.preWakes.each fun _ _ ht => ht.admitFetches))

theorem thermal (h : s.Canon) : s.thermal.Canon := cond (frame (h.useFree.setFld.setFld.setFlag.setFlag.setFlag.cond fun _ ht => ht.bump)) fun _ ht => ht.bump

theorem feedTrim (h : s.Canon) : s.feedTrim.Canon := of_ite h.frame.setFld.frame.bump h.frame.setFld

theorem judgeClamp (h : s.Canon) : s.judgeClamp.Canon := syncServing (frame (h.setFld.setFlag.setFlag.cond fun _ ht => ht.bump))

theorem nextFloor (h : s.Canon) : s.nextFloor.Canon := h.frame

theorem patrolPace (h : s.Canon) : s.patrolPace.Canon := of_ite h h.frame.setFld

theorem ageDeferred (h : s.Canon) : s.ageDeferred.Canon := h.frame

theorem countInterval (h : s.Canon) : s.countInterval.Canon := of_ite (frame (of_ite h.setFld h)) (of_ite h.setFld h)

theorem monInterval (h : s.Canon) : s.monInterval.Canon := h.frame.each fun _ _ ht => ht.monEvent

/-! ### The host endpoint -/

theorem syncHep (h : s.Canon) : s.syncHep.Canon := h.setFlag.setFlag.setFlag.setFlag.setFlag.setFld.syncPciTags

theorem aer {unc cor} (h : s.Canon) : (s.aer unc cor).Canon := h.frame

theorem pciPump {n} (h : s.Canon) : (s.pciPump n).Canon := by
  induction n generalizing s with
  | zero => exact h
  | succ n ih =>
    unfold State.pciPump
    split
    · exact ih h.frame.pciIssue
    · exact h

theorem retag (h : s.Canon) : s.retag.Canon := syncPciTags (pciPump (of_ite h.frame h))

theorem deadReads {p} (h : s.Canon) : (s.deadReads p).Canon := h.frame

theorem failRead {p} (h : s.Canon) : (s.failRead p).Canon := by
  unfold State.failRead
  extract_lets
  split
  · exact h.deadReads.modQueue
  · exact h.deadReads.modQueue
  · split
    · exact of_ite h.deadReads h.deadReads.finish
    · exact h.deadReads

theorem readBack {r data stamp} (h : s.Canon) : (s.readBack r data stamp).Canon := by
  unfold State.readBack
  split
  · exact of_ite h.modCmd h.modCmd.modCmd
  · exact h.readDone

theorem endRead {t} (h : s.Canon) : (s.endRead t).Canon := h.frame

theorem quarantineAll (h : s.Canon) : s.quarantineAll.Canon := h.frame

theorem bmeClear (h : s.Canon) : s.bmeClear.Canon := by
  unfold State.bmeClear
  refine of_ite h (syncHep ?_)
  refine each (frame (each (h.frame.quarantineAll.each fun _ _ ht => ht.endCmd) fun _ _ ht => ht.modQueue)) fun _ _ ht => ?_
  split
  · exact ht.failRead
  · exact ht

theorem bmeSet (h : s.Canon) : s.bmeSet.Canon := by
  unfold State.bmeSet
  refine of_ite h (syncHep (msixFlush (drainNudges (each h.frame fun _ _ ht => ?_))))
  split
  · exact ht.postCqe.bump
  · exact ht

theorem pf1Flush (h : s.Canon) : s.pf1Flush.Canon := by
  unfold State.pf1Flush
  refine syncCmds (syncLtr (syncNudge (clearRegs (quarantineAll (frame ?_)))))
  split
  · exact h.assocReset
  · exact h

theorem pf0Flush (h : s.Canon) : s.pf0Flush.Canon := mbxPump (h.frame.setFlag.each fun _ _ ht => ht.syncMbx)

theorem linkDown (h : s.Canon) : s.linkDown.Canon := h.frame.setFld.setFld.setFld.pf1Flush.pf0Flush.frame.retag.syncHep

theorem linkTrain {lanes rate} (h : s.Canon) : (s.linkTrain lanes rate).Canon := of_ite h h.frame.setFld.setFld.setFld

theorem admOpen (h : s.Canon) : s.admOpen.Canon := by
  unfold State.admOpen
  refine of_ite h (of_ite h.setFld (of_ite h.setFld ?_))
  split
  · exact h.setFld
  · exact h.openAssoc.setQueue.setFld.setFld.setFlag

theorem admWrite {v} (h : s.Canon) : (s.admWrite v).Canon := by
  unfold State.admWrite
  extract_lets en s1
  have h1 : s1.Canon := of_ite (setFld (of_ite h h.malformed)) h.setReg
  refine of_ite h1.admOpen ?_
  split
  · exact h1.assocReset.syncCmds
  · exact h1

theorem msixWrite {pf1 off v} (h : s.Canon) : (s.msixWrite pf1 off v).Canon := of_ite h (of_ite h.frame.msixFlush h.frame.msixFlush)

/-! ### The mailboxes -/

theorem mbxFarDown {d} (h : s.Canon) : (s.mbxFarDown d).Canon := h.bump.mbxErr

theorem mbxOver {d} (h : s.Canon) : (s.mbxOver d).Canon := h.bump.mbxErr

theorem mbxEom {d} (h : s.Canon) : (s.mbxEom d).Canon := of_ite (syncMbx (h.setMbxDir.bump.cond fun _ ht => ht.nzlSend)) h.mbxClose

theorem pushMc0 {w eom} (h : s.Canon) : (s.pushMc0 w eom).Canon := of_ite h.mbxFarDown (of_ite h.mbxOver (of_ite h.frame.mbxPump h.frame))

theorem mbxPush {d w eom} (h : s.Canon) : (s.mbxPush d w eom).Canon :=
  of_ite h.pushMc0 (of_ite h.mbxFarDown (of_ite h.mbxOver (of_ite h.setMbxDir.syncMbx.mbxEom h.setMbxDir.syncMbx)))

theorem pushBy {who n off w eom} (h : s.Canon) : (s.pushBy who n off w eom).Canon := by
  unfold State.pushBy
  split
  · exact h.accessWrite fun _ ht => ht.mbxPush
  · split
    · exact h.mbxPush
    · exact h

theorem mbxRelease {d code} (h : s.Canon) : (s.mbxRelease d code).Canon := by
  unfold State.mbxRelease
  refine of_ite ?_ ?_
  · split
    · exact h.setMbxDir.nzlSend.syncMbx
    · exact h.setMbxDir.nzlSend.syncMbx
  · exact h.mbxFree

theorem mbxPop {d} (h : s.Canon) : (s.mbxPop d).Canon := by
  unfold State.mbxPop
  refine of_ite ?_ ?_
  · split
    · exact h
    · exact of_ite h.mbxRelease h.setMbxDir.syncMbx
  · exact of_ite h.setFlag.mbxIrq h

theorem mbxAck {d code} (h : s.Canon) : (s.mbxAck d code).Canon := of_ite h.malformed (of_ite h.mbxRelease h)

theorem mboxIn {chan kind words code} (h : s.Canon) : (s.mboxIn chan kind words code).Canon :=
  of_ite (of_ite h.mbxOver h.setMbxDir.mbxDeliver) (of_ite h h.mbxFree)

/-! ### Errors of DRAM and staging SRAM -/

theorem dropLine {v st} (h : s.Canon) : (s.dropLine v st).Canon := h.frame.dropSide.syncLocks

theorem dramUe {chan ue} (h : s.Canon) : (s.dramUe chan ue).Canon := by
  unfold State.dramUe
  extract_lets
  split
  · extract_lets
    split
    · exact of_ite h h.health.frame.syncQ.pfcXon.setFld.setFld.setFlag.bump
    · exact h
  · split
    · exact of_ite h.health.setFld.setFld.setFlag.bump h.health.setFld.setFld.setFlag.bump.loseRecord.syncJrn
    · exact h
  · exact of_ite h.health.setFld.setFld.setFlag.bump h.health.setFld.setFld.setFlag.bump.criticalUe
  · exact of_ite h.health.dropLine.bump h

theorem restartCmd {h} (hs : s.Canon) : (s.restartCmd h).Canon := by
  unfold State.restartCmd
  split
  · exact hs
  · exact of_ite hs.uncipher.lookupPieces_fst.setCmd.needReads hs.uncipher.setCmd

theorem syncKat (h : s.Canon) : s.syncKat.Canon := h.setFlag.setFld

theorem katStart (h : s.Canon) : s.katStart.Canon := of_ite h h.frame.syncKat

theorem katFail {p} (h : s.Canon) : (s.katFail p).Canon := h.setFlag.bump.health

theorem hwmAck {req n} (h : s.Canon) : (s.hwmAck req n).Canon := by
  unfold State.hwmAck
  split
  · exact of_ite h.malformed h.setSlot.setFlag.hwmCheck.mirrorSlot
  · exact h.malformed

theorem goKsRead {n} (h : s.Canon) : (s.goKsRead n).Canon := h.setFld.set64.set64.setFld

/-! ### Counter snapshots, event selection and windows -/

theorem snapGroup {g} (h : s.Canon) : (s.snapGroup g).Canon := h.frame

theorem clearGroup {g} (h : s.Canon) : (s.clearGroup g).Canon := h.frame

theorem grpCtlWrite {g v} (h : s.Canon) : (s.grpCtlWrite g v).Canon := cond (h.setReg.cond fun _ ht => ht.snapGroup) fun _ ht => ht.clearGroup

theorem monCtlWrite {v} (h : s.Canon) : (s.monCtlWrite v).Canon := h.setReg.cond fun _ ht => ht.each fun _ _ hu => hu.snapGroup

theorem pcSelect {g k v} (h : s.Canon) : (s.pcSelect g k v).Canon := h.setReg.setFlag.frame

theorem bwRestart (h : s.Canon) : s.bwRestart.Canon := h.frame

theorem bwCfgWrite {v} (h : s.Canon) : (s.bwCfgWrite v).Canon := h.setReg.bwRestart

theorem hslotCfgWrite {k v} (h : s.Canon) : (s.hslotCfgWrite k v).Canon := h.setReg.frame

theorem monW1c {off v} (h : s.Canon) : (s.monW1c off v).Canon := of_ite h.frame h.frame

/-! ### Resets -/

theorem rstClasses (h : s.Canon) : s.rstClasses.Canon := of_ite h.setFld h

theorem chipState : s.chipState.Canon := rstClasses (of_regsWf (regsWf_resetRegs _ _ _))

theorem chipReset {cause} (h : s.Canon) : (s.chipReset cause).Canon := of_ite h (chipState.setFld.setFlag)

theorem startDawn : s.startDawn.Canon := chipState.setFld.setFld

theorem pornReset {cause : Fld} : (s.pornReset cause).Canon := setFlag (rstClasses (setStage (of_regsWf (regsWf_resetRegs _ _ _))))

theorem pornEnd {pf1 base} (h : s.Canon) : (s.pornEnd pf1 base).Canon := h.frame.setFlag.setFld

theorem rstWrite {v} (h : s.Canon) : (s.rstWrite v).Canon := of_ite h.malformed (of_ite h.chipReset h)

theorem blockRegs {b : Nat} : (s.blockRegs b).Canon := of_regsWf (regsWf_resetRegs _ _ _)

theorem blockShow {b} (h : s.Canon) : (s.blockShow b).Canon := by
  unfold State.blockShow
  split
  · exact h.syncCmds
  · exact h.each fun _ _ ht => ht.setGate
  · exact h.syncStg
  · exact h.syncKat.syncHwmReq
  · exact h

theorem blockReset {b} (h : s.Canon) : (s.blockReset b).Canon := of_ite h (blockRegs.blockShow.setBit)

theorem blkrstWrite {v} (h : s.Canon) : (s.blkrstWrite v).Canon := each (h.cond fun _ ht => ht.malformed) fun _ _ ht => ht.blockReset

theorem restoreMaps (h : s.Canon) : s.restoreMaps.Canon := by
  unfold State.restoreMaps
  split
  · exact h
  · exact syncRed (syncLost (each (h.frame.each fun _ _ ht => ht.syncVol) fun _ _ ht => ht.syncSet))

theorem trainGroups (h : s.Canon) : s.trainGroups.Canon := of_ite h (h.each fun _ _ ht => ht.setGrp)

/-! ### Reinstatement and commit -/

theorem commitAccept (h : s.Canon) : s.commitAccept.Canon :=
  offerSetup (h.setFld.setFld.setFld.setFld.setFld.frame.setFld.setFld.syncStg.each fun _ _ ht => ht.nzlSend)

theorem commitWrite {v} (h : s.Canon) : (s.commitWrite v).Canon := of_ite h (of_ite h.malformed (of_ite h.setFld.setFld.sendHandshake h.setFld))

/-! ### The mode sequencer -/

theorem abandonNight (h : s.Canon) : s.abandonNight.Canon := of_ite h (syncServing (h.setFlag.setFld.setFld.cond fun _ ht => ht.setAna))

theorem nightRequest (h : s.Canon) : s.nightRequest.Canon := of_ite h (of_ite h.setFld (h.frame.setFlag.setFld.cond fun _ ht => ht.setAna))

theorem enterNight (h : s.Canon) : s.enterNight.Canon := h.setFlag.enterMode.setFld.frame

theorem wake {en src} (h : s.Canon) : (s.wake en src).Canon := of_ite h (of_ite h.setFlag.abandonNight (of_ite h.setFlag.frame startDawn))

theorem bootFails {cause} (h : s.Canon) : (s.bootFails cause).Canon := h.setFlag.midnight

theorem loadFuses {kek prov ikh} (h : s.Canon) : (s.loadFuses kek prov ikh).Canon := by
  unfold State.loadFuses
  refine rstClasses (setFlag (setFlag ?_))
  split
  · exact h.frame
  · exact h.frame.setFlag.setFld

theorem avsWrite {acked} (h : s.Canon) : (s.avsWrite acked).Canon := h.frame.emit

theorem setBootCode {c v} (h : s.Canon) : (s.setBootCode c v).Canon := of_ite h.setFld h.setFld

theorem bootRun {c h} (hs : s.Canon) : (s.bootRun c h).Canon := hs.frame.setBootCode.setFld.setFld.setFlag.setFld

theorem wdogLoad (h : s.Canon) : s.wdogLoad.Canon := h.setFld

theorem kick {req v} (h : s.Canon) : (s.kick req v).Canon := by
  unfold State.kick
  split
  · exact of_ite h.malformed (of_ite h h.frame.wdogLoad)
  · exact h.malformed

theorem wdogReset (h : s.Canon) : s.wdogReset.Canon := of_ite h.chipReset (of_ite h.chipReset.setFld.setFlag h.chipReset.setFld)

theorem swapRequest (h : s.Canon) : s.swapRequest.Canon := of_ite h.setFld h.setFld.startSwap

/-! ### Register accesses -/

theorem codeWrite {off v} (h : s.Canon) : (s.codeWrite off v).Canon := by
  unfold State.codeWrite
  split
  · exact h
  · exact h.setReg

theorem goWrite {off : Nat} {v : Word} {busy : Bool} {f : State → State} (h : s.Canon) (hf : ∀ t, t.Canon → (f t).Canon) : (s.goWrite off v busy f).Canon :=
  of_ite h.codeWrite (of_ite h.malformed (hf _ h.codeWrite))

theorem writeSys {req off v aux} (h : s.Canon) : (s.writeSys req off v aux).Canon := by
  unfold State.writeSys
  refine of_ite ?_ ?_
  · exact cond (cond (h.cond fun _ ht => ht.swapRequest) fun _ ht => ht.nightRequest) fun _ ht => ht.abandonNight
  · refine of_ite ?_ ?_
    · exact h.commitWrite
    · exact of_ite (h.cond fun _ ht => ht.ucodeActivate) (of_ite h.rstWrite (of_ite h.blkrstWrite (of_ite h.kick h.codeWrite)))

theorem writeGov {off v} (h : s.Canon) : (s.writeGov off v).Canon := of_ite h.counterClear (of_ite h.codeWrite.syncLvl h.codeWrite)

theorem writeMbx {req off v} (h : s.Canon) : (s.writeMbx req off v).Canon := by
  unfold State.writeMbx
  refine of_ite h.counterClear (of_ite ?_ ?_)
  · exact cond (h.codeWrite.each fun _ _ ht => ht.syncMbx) fun _ ht => ht.mbxPump
  · exact of_ite h.mbxPush (of_ite h.mbxPush (of_ite h.mbxAck (of_ite h.malformed h.codeWrite)))

theorem writeProt {req off v} (h : s.Canon) : (s.writeProt req off v).Canon := by
  unfold State.writeProt
  refine of_ite h.counterClear (of_ite (h.goWrite fun _ ht => ht.aclRead) (of_ite ?_ ?_))
  · split
    · exact h.malformed
    · exact of_ite h.privRefused (of_ite h.frame (of_ite h.codeWrite h.frame))
  · exact h.codeWrite

theorem cmtGo {req v} (h : s.Canon) : (s.cmtGo req v).Canon := by
  unfold State.cmtGo
  split
  · exact h.cmtCmd fun _ ht => ht.stage_fst
  · exact h.cmtCmd fun _ ht => ht.confirm_fst
  · exact h.cmtCmd fun _ ht => ht.cancelBy
  · exact h.cmtCmd fun _ ht => ht

theorem writeHep {off v} (h : s.Canon) : (s.writeHep off v).Canon := of_ite h.counterClear h.codeWrite

theorem writeNet {off v} (h : s.Canon) : (s.writeNet off v).Canon := by
  unfold State.writeNet
  refine of_ite ?_ ?_
  · exact h.portCfgWrite
  · exact of_ite h.counterClear (of_ite h.timeStep (of_ite (h.codeWrite.each fun _ _ ht => of_ite ht.syncGate ht) h.codeWrite))

theorem tblGo {v errs} (h : s.Canon) : (s.tblGo v errs).Canon := by
  unfold State.tblGo
  extract_lets
  split
  · exact h
  · exact h.tblCmd fun _ ht => ht.tblInsert
  · exact h.tblCmd fun _ ht => ht.tblDelete
  · exact h.tblCmd fun _ ht => ht.tblSearch
  · exact h.tblCmd fun _ ht => ht.tblReadSlot
  · exact h.tblCmd fun _ ht => ht.tblClear
  · exact h.tblStat

theorem writeCls {off v aux} (h : s.Canon) : (s.writeCls off v aux).Canon :=
  of_ite h.counterClear (of_ite (h.goWrite fun _ ht => ht.tblGo) (of_ite h.profWrite h.codeWrite))

theorem lagCtlWrite {l v} (h : s.Canon) : (s.lagCtlWrite l v).Canon := of_ite h.setFlag.lagRebal h.setFlag.lagCount

theorem writeSwc {off v} (h : s.Canon) : (s.writeSwc off v).Canon := by
  unfold State.writeSwc
  refine of_ite h.counterClear (of_ite ?_ ?_)
  · exact of_ite h.lagCtlWrite (of_ite (of_ite h.codeWrite.lagRebal h.codeWrite.lagCount) h)
  · exact of_ite (h.codeWrite.cond fun _ ht => ht.syncQ) h.codeWrite

theorem writeEgs {off v} (h : s.Canon) : (s.writeEgs off v).Canon := by
  unfold State.writeEgs
  refine of_ite h.counterClear (of_ite ?_ ?_)
  · exact of_ite h.gateCtlWrite (of_ite h.malformed (h.codeWrite.cond fun _ ht => ht.syncGate))
  · exact of_ite h.malformed h.codeWrite

theorem qpcGo {v} (h : s.Canon) : (s.qpcGo v).Canon := by
  unfold State.qpcGo
  extract_lets
  split
  · exact h
  · exact h.qpcRead
  · exact h.qpcModify
  · exact h.qpcResult

theorem winGo {v} (h : s.Canon) : (s.winGo v).Canon := by
  unfold State.winGo
  extract_lets
  split
  · exact h
  · exact h.winReadOp
  · exact h.winMapReg
  · exact h.winRevokeReg
  · exact h.winModifyOp
  · exact h.winResult

theorem writeRdm {off v} (h : s.Canon) : (s.writeRdm off v).Canon := by
  unfold State.writeRdm
  refine of_ite ?_ ?_
  · exact h.counterClear
  · exact of_ite (h.goWrite fun _ ht => ht.qpcGo) (of_ite (h.goWrite fun _ ht => ht.winGo) (of_ite h.malformed h.codeWrite))

theorem qctxLoad {i} (h : s.Canon) : (s.qctxLoad i).Canon := by
  unfold State.qctxLoad
  refine of_ite h.setFlag ?_
  extract_lets s0
  have h0 : s0.Canon := h.setFlag.each fun _ _ ht => ht.setReg
  split
  · exact h0
  · extract_lets s1 s2 s3 s4
    have h1 : s1.Canon := h0.setFlag.setFld.setFld.setFlag.setFlag
    have h2 : s2.Canon := h1.setFld.setFld.setFld.setFld
    have h3 : s3.Canon := h2.setFld.setFld.setFlag.setFld
    have h4 : s4.Canon := h3.setFld.setFld.setFld.setFlag
    exact h4.setReg.set64.set64.set64

theorem writeCmdq {off v} (h : s.Canon) : (s.writeCmdq off v).Canon := of_ite h.counterClear (of_ite (h.goWrite fun _ ht => ht.qctxLoad) h.codeWrite)

theorem globalWrite {v stamp} (h : s.Canon) : (s.globalWrite v stamp).Canon := by
  unfold State.globalWrite
  split
  · exact h
  · exact h.goBroadcast
  · exact h.goBarrier
  · exact h.goSnapshot
  · exact h.goReset
  · exact h.setFld

theorem writeEng {off v aux} (h : s.Canon) : (s.writeEng off v aux).Canon :=
  of_ite h.counterClear (of_ite (h.goWrite fun _ ht => ht.globalWrite) (of_ite h.malformed h.codeWrite))

theorem writeDpt {off v} (h : s.Canon) : (s.writeDpt off v).Canon := by
  unfold State.writeDpt
  refine of_ite h.counterClear (of_ite h.codeWrite.slotsJudge (of_ite ?_ ?_))
  · refine goWrite h fun _ ht => ?_
    split
    · exact ht
    · exact ht.goMemFail
    · exact ht.goMemRelease
    · exact ht.goMemRequalify
  · exact of_ite h.malformed h.codeWrite

theorem setGo {v} (h : s.Canon) : (s.setGo v).Canon := by
  unfold State.setGo
  extract_lets
  split
  · exact h
  · exact h.goSetCreate
  · exact h.goSetDelete
  · exact h.goSetReplace
  · exact h.goPatrolNow
  · exact h.setCmdGo fun _ ht => ht

theorem volGo {v} (h : s.Canon) : (s.volGo v).Canon := by
  unfold State.volGo
  split
  · exact h
  · exact h.goVolCreate
  · exact h.goVolResize
  · exact h.goVolDelete

theorem lostGo {v rd} (h : s.Canon) : (s.lostGo v rd).Canon := by
  unfold State.lostGo
  split
  · exact h
  · exact h.goLostRead
  · exact h.goLostClear
  · exact h.lostCmdGo fun _ ht => ht

theorem writeRed {off v aux} (h : s.Canon) : (s.writeRed off v aux).Canon := by
  unfold State.writeRed
  refine of_ite h.counterClear (of_ite h.holdupWrite (of_ite ?_ ?_))
  · exact h.goWrite fun _ ht => ht.setGo
  · exact of_ite (h.goWrite fun _ ht => ht.volGo) (of_ite (h.goWrite fun _ ht => ht.lostGo) h.codeWrite)

theorem writeCch {off v} (h : s.Canon) : (s.writeCch off v).Canon := by
  unfold State.writeCch
  refine of_ite ?_ ?_
  · exact h.counterClear
  · exact of_ite h.cchCtlWrite (of_ite h.codeWrite.syncStg (of_ite (h.goWrite fun _ ht => of_ite ht ht.mntGo) h.codeWrite))

theorem writeCip {req off v} (h : s.Canon) : (s.writeCip req off v).Canon := by
  unfold State.writeCip
  refine of_ite h.counterClear (of_ite ?_ ?_)
  · exact h.codeWrite.cond fun _ ht => ht.katStart
  · exact of_ite h.hwmAck (of_ite (h.goWrite fun _ ht => ht.goKsRead) (of_ite h.malformed h.codeWrite))

theorem nzlCtlWrite {v} (h : s.Canon) : (s.nzlCtlWrite v).Canon := by
  unfold State.nzlCtlWrite
  refine cond ?_ fun _ ht => ht.fenceWrite
  exact of_ite (h.codeWrite.cond fun _ ht => ht.trainGroups) (h.codeWrite.each fun _ _ ht => setGrp (ht.cond fun _ hu => hu.groupDown))

theorem writeNzl {off v} (h : s.Canon) : (s.writeNzl off v).Canon := of_ite h.counterClear (of_ite h.nzlCtlWrite h.codeWrite)

theorem writeSlp {off v} (h : s.Canon) : (s.writeSlp off v).Canon := by
  unfold State.writeSlp
  exact of_ite h.counterClear (of_ite h.slpCtlWrite (of_ite h.smbCfgWrite (of_ite h.chCfgWrite (of_ite h.fdCfgWrite h.codeWrite))))

theorem writeMon {off v} (h : s.Canon) : (s.writeMon off v).Canon := by
  unfold State.writeMon
  refine of_ite h.monCtlWrite (of_ite h.bwCfgWrite ?_)
  exact of_ite h.monW1c (of_ite h.hslotCfgWrite (of_ite (of_ite h.grpCtlWrite (of_ite h.monW1c (of_ite h.pcSelect h))) h.codeWrite))

theorem writeDmc {off v} (h : s.Canon) : (s.writeDmc off v).Canon := of_ite h.counterClear (of_ite h.malformed h.codeWrite)

theorem regWrite {req off v aux} (h : s.Canon) : (s.regWrite req off v aux).Canon := by
  unfold State.regWrite
  refine of_ite h.writeSys (of_ite h.writeGov (of_ite h.writeMbx (of_ite h.writeProt (of_ite h.writeHep (of_ite h.writeNet ?_)))))
  split
  · exact h.writeCls
  · exact h.writeSwc
  · exact h.writeEgs
  · exact h.writeRdm
  · exact h.writeCmdq
  · exact h.writeEng
  · exact h.writeDpt
  · exact h.writeRed
  · exact h.writeCch
  · exact h.writeCip
  · exact h.writeNzl
  · exact h.writeSlp
  · exact h.writeMon
  · exact h.writeDmc

theorem rwcAttempt {req off} (h : s.Canon) : (s.rwcAttempt req off).Canon :=
  of_ite h (of_ite (h.accessWrite fun _ ht => ht) (setFlag (setFld (setFld (bump (h.cond fun _ ht => ht.privRefused))))))

theorem bar0Write {req off v aux} (h : s.Canon) : (s.bar0Write req off v aux).Canon :=
  of_ite h.rwcAttempt (of_ite h.cmtGo (h.accessWrite fun _ ht => ht.regWrite))

theorem admPageWrite {off v} (h : s.Canon) : (s.admPageWrite off v).Canon := of_ite h.malformed (of_ite h.admWrite (of_ite h (of_ite h.malformed h.codeWrite)))

theorem bar2Write {pf1 off v aux} (h : s.Canon) : (s.bar2Write pf1 off v aux).Canon := by
  unfold State.bar2Write
  refine of_ite ?_ ?_
  · exact of_ite (h.cond fun _ ht => ht.msixWrite) (h.pf1Access fun _ ht => of_ite ht.pushNudge (of_ite ht.admPageWrite ht.malformed))
  · exact h.cond fun _ ht => of_ite ht.msixWrite ht.malformed

theorem popErrQp (h : s.Canon) : s.popErrQp.Canon := by
  unfold State.popErrQp
  extract_lets
  split
  · exact h.frame.setReg.setFld.setFld.setFlag
  · exact h.frame.setReg

theorem readEffect {req off} (h : s.Canon) : (s.readEffect req off).Canon := by
  unfold State.readEffect
  refine of_ite h.popErrQp (of_ite h.popEvlog (of_ite h.popMnt (of_ite h.frame.syncHwmReq ?_)))
  refine of_ite h.frame (of_ite h.setFlag.modPort.syncTs (of_ite h.mbxPop ?_))
  split
  · exact of_ite h h.setReg
  · exact h

theorem bar0Read {req off} (h : s.Canon) : (s.bar0Read req off).Canon := cond (h.accessRead fun _ ht => ht.readEffect) fun _ ht => ht.latch

theorem userRead {pf1 off} (h : s.Canon) : (s.userRead pf1 off).Canon := of_ite h.emit (of_ite h.emit (h.emit.cond fun _ ht => ht.latch))

theorem bar2Read {pf1 off} (h : s.Canon) : (s.bar2Read pf1 off).Canon := by
  unfold State.bar2Read
  refine of_ite ?_ ?_
  · exact of_ite h (of_ite h.emit (of_ite h.malformed.emit (of_ite h.useFree.emit (of_ite h.emit (of_ite h.userRead h.malformed.emit)))))
  · exact of_ite h (of_ite h.emit (of_ite h.userRead (of_ite h h.malformed.emit)))

theorem romRead {off} (h : s.Canon) : (s.romRead off).Canon := of_ite h (emit (h.cond fun _ ht => ht.useFree))

theorem placeRead {place} (h : s.Canon) : (s.placeRead place).Canon := by
  unfold State.placeRead
  split
  · exact h.bar0Read
  · exact h.bar2Read
  · exact h.romRead

end Sys2Proof.Machine.State.Canon
end

section
namespace Sys2Proof.Machine

/-- The next state, where an outcome has one, is canonical. -/
structure NextCanon (o : Host.Outcome State Fault Refusal) : Prop where
  canon : ∀ t, o = .next t → t.Canon

end Sys2Proof.Machine

namespace Sys2Proof.Machine.State.Canon

variable {s : State}

theorem next (h : s.Canon) : NextCanon (.next s) := ⟨fun _ e => by cases e; exact h⟩

/-! ### The switch core -/

theorem execMatchSlot (h : s.Canon) : NextCanon (execMatchSlot s) := next (of_ite (monEvent (monEvent (h.frame.each fun _ _ ht => ht.moveCell))) h)

theorem execPfcXoffRepeat {port cls} (h : s.Canon) : NextCanon (execPfcXoffRepeat port cls s) := by
  unfold Machine.execPfcXoffRepeat
  split
  exact next (h.cond fun _ ht => ht.pushPause)

theorem execWredIdleUpdate {port cls} (h : s.Canon) : NextCanon (execWredIdleUpdate port cls s) := next (h.cond fun _ ht => ht.avgUpdate)

theorem execLagRebal {lag} (h : s.Canon) : NextCanon (execLagRebal lag s) := next (h.cond fun _ ht => ht.lagRebal)

/-! ### Egress scheduling -/

theorem execWheelSlotAdvance (h : s.Canon) : NextCanon (execWheelSlotAdvance s) := next (h.cond fun _ ht => ht.pass.wheelRelease)

theorem execEgressSelect {port dt} (h : s.Canon) : NextCanon (execEgressSelect port dt s) := h.egressSelect.next

theorem execGateEntryChange {port dt} (h : s.Canon) : NextCanon (execGateEntryChange port dt s) :=
  next (h.pass.cond fun _ ht => syncGate (ht.cond fun _ hu => hu.setFlag))

theorem execGateBankChange {port dt} (h : s.Canon) : NextCanon (execGateBankChange port dt s) := next (h.pass.cond fun _ ht => ht.gateChange)

theorem execGateBankSwitch {port dt} (h : s.Canon) : NextCanon (execGateBankSwitch port dt s) :=
  next (h.pass.cond fun _ ht => syncGate (bump (ht.setFld.setFlag.cond fun _ hu => hu.setFlag)))

theorem execDepthSample {dt} (h : s.Canon) : NextCanon (execDepthSample dt s) :=
  next (h.pass.cond fun _ ht => ht.each fun _ _ hu => hu.each fun _ _ hu2 => hu2.sampleQ)

/-! ### Network ports -/

theorem execPortCfgWrite {req port val} (h : s.Canon) : NextCanon (execPortCfgWrite req port val s) := next (h.accessWrite fun _ ht => ht.portCfgWrite)

theorem execPortEnable {req port} (h : s.Canon) : NextCanon (execPortEnable req port s) := next (h.accessWrite fun _ ht => ht.portCfgWrite)

theorem execPortDisable {req port} (h : s.Canon) : NextCanon (execPortDisable req port s) := next (h.accessWrite fun _ ht => ht.portCfgWrite)

theorem execPortRestart {req port} (h : s.Canon) : NextCanon (execPortRestart req port s) := next (h.accessWrite fun _ ht => ht.portCfgWrite)

theorem execLaneCheckComplete {port codes} (h : s.Canon) : NextCanon (execLaneCheckComplete port codes s) :=
  next (h.cond fun _ ht => of_ite ht.setFld.setFlag.setLink ht.setFld.setFlag.setLink)

theorem execAnResolved {port partner rs528} (h : s.Canon) : NextCanon (execAnResolved port partner rs528 s) := by
  unfold Machine.execAnResolved
  refine next (cond h fun _ ht => ?_)
  extract_lets
  split
  · exact ht.setFld
  · exact ht.setFld.setFld.setFld.setLink

theorem execAnRetryTimer {port} (h : s.Canon) : NextCanon (execAnRetryTimer port s) := next (h.cond fun _ ht => ht.emit)

theorem execTrainingComplete {port} (h : s.Canon) : NextCanon (execTrainingComplete port s) := next (h.cond fun _ ht => ht.setLink)

theorem execTrainingFail {port} (h : s.Canon) : NextCanon (execTrainingFail port s) := next (h.cond fun _ ht => of_ite ht.setLink ht.setFlag.setLink)

theorem execUpHoldExpiry {port} (h : s.Canon) : NextCanon (execUpHoldExpiry port s) := next (h.cond fun _ ht => ht.setFlag.setFlag.setLink.lagMemberUp)

theorem execLinkLost {port} (h : s.Canon) : NextCanon (execLinkLost port s) :=
  next (of_ite h (of_ite h.bump.setLink (of_ite (of_ite h.downHoldEnd h.setLink) h)))

theorem execLinkRestored {port} (h : s.Canon) : NextCanon (execLinkRestored port s) := next (h.cond fun _ ht => ht.bump.setLink)

theorem execDownHoldExpiry {port} (h : s.Canon) : NextCanon (execDownHoldExpiry port s) := next (h.cond fun _ ht => ht.downHoldEnd)

theorem execFaultHoldExpiry {port} (h : s.Canon) : NextCanon (execFaultHoldExpiry port s) := next (h.cond fun _ ht => ht.setLink)

theorem execPauseFrameRx {port pfc stop go} (h : s.Canon) : NextCanon (execPauseFrameRx port pfc stop go s) :=
  next (h.cond fun _ ht => ht.bump.bumpBy.countBw.cond fun _ hu => hu.pauseRx)

theorem execPauseTimeExpiry {port classes} (h : s.Canon) : NextCanon (execPauseTimeExpiry port classes s) := next (h.cond fun _ ht => ht.modPort.syncPortQ)

theorem execTimeRead {req dt} (h : s.Canon) : NextCanon (execTimeRead req dt s) := next (h.pass.accessRead fun _ ht => ht.frame)

theorem execTimeStep {req step dt} (h : s.Canon) : NextCanon (execTimeStep req step dt s) := next (h.pass.accessWrite fun _ ht => ht.timeStep)

theorem execTimeAdjust {req freq dt} (h : s.Canon) : NextCanon (execTimeAdjust req freq dt s) := next (h.pass.accessWrite fun _ ht => ht.setReg)

theorem execPpsOutPulse {dt} (h : s.Canon) : NextCanon (execPpsOutPulse dt s) := next (h.pass.cond fun _ ht => ht.emit)

theorem execPpsInEdge {falling dt} (h : s.Canon) : NextCanon (execPpsInEdge falling dt s) := next (h.pass.cond fun _ ht => ht.setFld.setFlag)

theorem execTsFifoPop {req port} (h : s.Canon) : NextCanon (execTsFifoPop req port s) :=
  next (of_ite (latch (h.accessRead fun _ ht => ht.setFlag.modPort.syncTs)) (h.accessRead fun _ ht => ht.setFlag.modPort.syncTs))

theorem execCounterClear {req off val} (h : s.Canon) : NextCanon (execCounterClear req off val s) := next (h.accessWrite fun _ ht => ht.counterClear)

/-! ### Parsing and classification -/

theorem execRxFrame {port dt id data fcsOk errs} (h : s.Canon) : NextCanon (execRxFrame port dt id data fcsOk errs s) := h.pass.rxFrame.next

theorem execRecircPass {dt errs} (h : s.Canon) : NextCanon (execRecircPass dt errs s) := by
  unfold Machine.execRecircPass
  refine next ?_
  split
  · exact h.pass
  · exact of_ite h.pass.frame.classify h.pass

theorem execTblInsert {req table errs} (h : s.Canon) : NextCanon (execTblInsert req table errs s) :=
  next (h.accessWrite fun _ ht => ht.tblCmd fun _ hu => hu.tblInsert)

theorem execTblDelete {req table errs} (h : s.Canon) : NextCanon (execTblDelete req table errs s) :=
  next (h.accessWrite fun _ ht => ht.tblCmd fun _ hu => hu.tblDelete)

theorem execTblSearch {req table errs} (h : s.Canon) : NextCanon (execTblSearch req table errs s) :=
  next (h.accessWrite fun _ ht => ht.tblCmd fun _ hu => hu.tblSearch)

theorem execTblReadSlot {req table way index errs} (h : s.Canon) : NextCanon (execTblReadSlot req table way index errs s) :=
  next (h.accessWrite fun _ ht => ht.tblCmd fun _ hu => hu.tblReadSlot)

theorem execTblClear {req table} (h : s.Canon) : NextCanon (execTblClear req table s) := next (h.accessWrite fun _ ht => ht.tblCmd fun _ hu => hu.tblClear)

theorem execTblClearDone (h : s.Canon) : NextCanon (execTblClearDone s) := next (h.cond fun _ ht => ht.frame.setFlag.setFld)

/-! ### The protection setup -/

theorem execCmtStage {req} (h : s.Canon) : NextCanon (execCmtStage req s) := next (h.cmtCmd fun _ ht => ht.stage_fst)

theorem execCmtConfirm {req} (h : s.Canon) : NextCanon (execCmtConfirm req s) := next (h.cmtCmd fun _ ht => ht.confirm_fst)

theorem execCmtCancel {req} (h : s.Canon) : NextCanon (execCmtCancel req s) := next (h.cmtCmd fun _ ht => ht.cancelBy)

theorem execCommitWindowLapse (h : s.Canon) : NextCanon (execCommitWindowLapse s) := next (h.cond fun _ ht => ht.lapse)

theorem execAclRead {req index} (h : s.Canon) : NextCanon (execAclRead req index s) := next (h.accessWrite fun _ ht => ht.aclRead)

theorem execJtagClose (h : s.Canon) : NextCanon (execJtagClose s) := next (h.cond fun _ ht => ht.setClass.setFld)

/-! ### The RDMA transport -/

theorem execQpcModify {req target index} (h : s.Canon) : NextCanon (execQpcModify req target index s) :=
  next (h.accessWrite fun _ ht => of_ite ht.malformed (ht.qpcCmd fun _ hu => hu.qpcModify))

theorem execQpcRead {req index} (h : s.Canon) : NextCanon (execQpcRead req index s) :=
  next (h.accessWrite fun _ ht => of_ite ht.malformed (ht.qpcCmd fun _ hu => hu.qpcRead))

theorem execQpFlushComplete {qp} (h : s.Canon) : NextCanon (execQpFlushComplete qp s) := next (h.cond fun _ ht => ht.modQp)

theorem execRdmaRequestRx {pkt dt} (h : s.Canon) : NextCanon (execRdmaRequestRx pkt dt s) := by
  unfold Machine.execRdmaRequestRx
  refine next (of_ite h.pass ?_)
  split
  · next e => exact of_fst_eq e h.pass.rxChecks_fst
  · next s1 i e =>
    have h1 : s1.Canon := of_fst_eq e h.pass.rxChecks_fst
    extract_lets s2 q d
    have h2 : s2.Canon := of_ite h1.sendCnp h1
    refine of_ite (of_ite h2.rxDupRead h2.bump.ackAgain) (of_ite h2.rxNakDiscard ?_)
    exact of_ite h2.rxInOrder (of_ite h2.rxOutOfOrder h2.bump.modQp)

theorem execReorderTimerExpiry {qp} (h : s.Canon) : NextCanon (execReorderTimerExpiry qp s) := next (h.cond fun _ ht => of_ite ht.setQp ht.setQp.sendNak)

theorem execAckDelayExpiry {qp} (h : s.Canon) : NextCanon (execAckDelayExpiry qp s) := next (h.cond fun _ ht => ht.modQp.sendAck)

theorem execRequesterMessageStart {qp dt} (h : s.Canon) : NextCanon (execRequesterMessageStart qp dt s) := by
  unfold Machine.execRequesterMessageStart
  refine next ?_
  split
  · exact h.pass
  · exact of_ite h.pass.setQp.sendMsg.syncStg h.pass

theorem execAckTimeout {qp} (h : s.Canon) : NextCanon (execAckTimeout qp s) :=
  next (h.cond fun _ ht => of_ite ht.drawAck (of_ite ht.bump.qpError ht.bump.setQp.resend))

theorem execAckRx {pkt dt} (h : s.Canon) : NextCanon (execAckRx pkt dt s) := by
  unfold Machine.execAckRx
  refine next (of_ite h.pass ?_)
  split
  · next e => exact of_fst_eq e h.pass.rxChecks_fst
  · next s1 i e =>
    have h1 : s1.Canon := of_fst_eq e h.pass.rxChecks_fst
    extract_lets s2 q
    have h2 : s2.Canon := of_ite h1.sendCnp h1
    split
    · exact h2.bump
    · exact h2
    · exact advanceUna (of_ite h2.setQp h2)

theorem execNakRx {pkt dt} (h : s.Canon) : NextCanon (execNakRx pkt dt s) := by
  unfold Machine.execNakRx
  refine next (of_ite h.pass ?_)
  split
  · next e => exact of_fst_eq e h.pass.rxChecks_fst
  · next s1 i e =>
    have h1 : s1.Canon := of_fst_eq e h.pass.rxChecks_fst
    extract_lets s2 s3 q
    have h2 : s2.Canon := of_ite h1.sendCnp h1
    have h3 : s3.Canon := h2.bump.advanceUna
    split
    · exact h2.bump
    · exact h2
    · refine of_ite (of_ite h3.qpError h3.setQp.resend) (of_ite (of_ite h3.qpError h3.setQp) ?_)
      exact of_ite h3.qpError (of_ite h3.qpError (of_ite h3.qpError h3))

theorem execRnrWaitExpiry {qp} (h : s.Canon) : NextCanon (execRnrWaitExpiry qp s) := next (h.cond fun _ ht => ht.setQp.resend)

theorem execReadResponseRx {pkt dt} (h : s.Canon) : NextCanon (execReadResponseRx pkt dt s) := by
  unfold Machine.execReadResponseRx
  refine next (of_ite h.pass ?_)
  split
  · next e => exact of_fst_eq e h.pass.rxChecks_fst
  · next s1 i e =>
    have h1 : s1.Canon := of_fst_eq e h.pass.rxChecks_fst
    extract_lets s2 q
    have h2 : s2.Canon := of_ite h1.sendCnp h1
    refine of_ite h2.bump ?_
    split
    · exact of_ite h2.bump h2.bump
    · refine of_ite h2.bump (of_ite h2.setQp ?_)
      extract_lets
      split
      · exact h2.setQp.advanceUna.readDone
      · exact h2.setQp.advanceUna

theorem execReadGapTimeout {qp} (h : s.Canon) : NextCanon (execReadGapTimeout qp s) := by
  unfold Machine.execReadGapTimeout
  refine next (cond h fun _ ht => ?_)
  split
  · exact ht
  · exact of_ite ht.qpError ht.setQp.sendMsg.bump

theorem execCnpRx {pkt dt} (h : s.Canon) : NextCanon (execCnpRx pkt dt s) := by
  unfold Machine.execCnpRx
  refine next (of_ite h.pass ?_)
  split
  · next e => exact of_fst_eq e h.pass.rxChecks_fst
  · next s1 i e =>
    have h1 : s1.Canon := of_fst_eq e h.pass.rxChecks_fst
    exact of_ite h1 (of_ite h1.bump h1.bump.setQp.setFld)

theorem execCcRecoverStep {qp} (h : s.Canon) : NextCanon (execCcRecoverStep qp s) := next (h.cond fun _ ht => of_ite ht.setQp.setFld ht.setQp.setFld)

theorem execWinMap {req index} (h : s.Canon) : NextCanon (execWinMap req index s) := next (h.accessWrite fun _ ht => ht.winCmd fun _ hu => hu.winMapReg)

theorem execWinRevoke {req index} (h : s.Canon) : NextCanon (execWinRevoke req index s) :=
  next (h.accessWrite fun _ ht => ht.winCmd fun _ hu => hu.winRevokeReg)

theorem execWinModify {req index} (h : s.Canon) : NextCanon (execWinModify req index s) := next (h.accessWrite fun _ ht => ht.winCmd fun _ hu => hu.winModifyOp)

theorem execWinRead {req index} (h : s.Canon) : NextCanon (execWinRead req index s) := next (h.accessWrite fun _ ht => ht.winCmd fun _ hu => hu.winReadOp)

theorem execWinFree {w} (h : s.Canon) : NextCanon (execWinFree w s) := next (h.cond fun _ ht => ht.winFree)

theorem execWinStallLimit {handle} (h : s.Canon) : NextCanon (execWinStallLimit handle s) := by
  unfold Machine.execWinStallLimit
  refine next ?_
  split
  · exact h
  · refine of_ite ?_ ?_
    · split
      · exact h.dropRead.bump
      · exact h.sendNak
      · exact h
    · exact h

/-! ### Fabrics and admin commands -/

theorem execConnect {qp} (h : s.Canon) : NextCanon (execConnect qp s) := by
  unfold Machine.execConnect
  refine next ?_
  split
  · exact h
  · refine of_ite h (of_ite h.frame.connectRefuse (of_ite ?_ ?_))
    · exact of_ite h.frame.connectRefuse (of_ite h.frame.connectRefuse h.frame.openAssoc.setQueue.useFree.postCqe)
    · split
      · exact of_ite h.frame.connectRefuse h.frame.takeIoq.useFree.postCqe
      · exact h.frame.connectRefuse
      · exact h.frame.connectRefuse

theorem execDisconnect {queue} (h : s.Canon) : NextCanon (execDisconnect queue s) := by
  unfold Machine.execDisconnect
  refine next ?_
  split
  · exact h
  · refine of_ite ?_ ?_
    · split
      · next e1 => exact (of_fst_eq e1 h.adminTake_fst)
      · next e1 => exact (of_fst_eq e1 h.adminTake_fst).postCqe.assocReset.syncCmds
    · split
      · exact of_ite (syncCmds (setFld (freeQueue (h.setQueue.postCqe.each fun _ _ ht => of_ite ht.modCmd ht.endCmd.bump)))) h
      · exact h

theorem execPropertyGet {queue} (h : s.Canon) : NextCanon (execPropertyGet queue s) := by
  unfold Machine.execPropertyGet
  refine next (admin h fun _ _ _ ht => ?_)
  extract_lets
  split
  · exact of_pair ht.useFree.emit
  · exact of_pair ht.useFree.emit
  · exact of_pair ht.emit
  · exact of_pair ht.emit
  · exact ht

theorem execPropertySet {queue} (h : s.Canon) : NextCanon (execPropertySet queue s) := by
  unfold Machine.execPropertySet
  refine next (admin h fun _ _ _ ht => ?_)
  split
  · exact ht
  · exact of_ite_fst (of_pair ht.setAssoc) ht

theorem execAuthenticationSend {queue} (h : s.Canon) : NextCanon (execAuthenticationSend queue s) := next (h.admin fun _ _ _ ht => ht)

theorem execAuthenticationReceive {queue} (h : s.Canon) : NextCanon (execAuthenticationReceive queue s) := next (h.admin fun _ _ _ ht => ht)

theorem execGetLogPage {queue} (h : s.Canon) : NextCanon (execGetLogPage queue s) :=
  next (h.admin fun _ _ _ ht => of_ite_fst ht.useFree.sendPage_fst (of_ite_fst ht.sendPage_fst (of_ite_fst ht.sendPage_fst (of_ite_fst ht.sendPage_fst ht))))

theorem execIdentify {queue} (h : s.Canon) : NextCanon (execIdentify queue s) := by
  unfold Machine.execIdentify
  refine next (admin h fun _ _ _ ht => ?_)
  extract_lets
  split
  · exact of_ite_fst ht (of_ite_fst ht ht.useFree.sendPage_fst)
  · exact ht.useFree.sendPage_fst
  · exact ht.sendPage_fst
  · exact of_ite_fst ht (of_ite_fst ht ht.useFree.sendPage_fst)
  · exact ht

theorem execAbort {queue} (h : s.Canon) : NextCanon (execAbort queue s) := by
  unfold Machine.execAbort
  refine next (admin h fun _ _ _ ht => ?_)
  extract_lets
  split
  · exact of_pair ht.bump
  · split
    · refine of_ite_fst ?_ ?_
      · refine of_pair (bump (endCmd (postCqe ?_)))
        split
        · exact ht.setAssoc
        · exact ht
      · exact of_pair ht.bump
    · split
      · exact of_pair ht.setQueue.postCqe.bump
      · exact of_pair ht.bump

theorem execSetFeatures {queue} (h : s.Canon) : NextCanon (execSetFeatures queue s) := by
  unfold Machine.execSetFeatures
  refine next (admin h fun _ _ _ ht => ?_)
  extract_lets
  split
  · refine of_pair ?_
    split
    · exact ht.setAssoc
    · exact ht
  · split
    · exact of_ite_fst ht (of_ite_fst ht (of_pair ht.setQueue))
    · exact ht
  · exact ht
  · exact ht
  · exact ht
  · exact ht

theorem execGetFeatures {queue} (h : s.Canon) : NextCanon (execGetFeatures queue s) := by
  unfold Machine.execGetFeatures
  refine next (admin h fun _ _ _ ht => ?_)
  extract_lets
  split
  · exact ht
  · exact ht
  · exact ht
  · exact ht
  · exact ht
  · split
    · exact ht
    · exact ht
  · exact ht

theorem execAsyncEventRequest {queue} (h : s.Canon) : NextCanon (execAsyncEventRequest queue s) := by
  unfold Machine.execAsyncEventRequest
  refine next ?_
  split
  · next e => exact (of_fst_eq e h.adminTake_fst)
  · next e =>
    split
    · exact (of_fst_eq e h.adminTake_fst)
    · refine of_ite ((of_fst_eq e h.adminTake_fst).postCqe) ?_
      split
      · exact (of_fst_eq e h.adminTake_fst).setAssoc.postCqe
      · exact (of_fst_eq e h.adminTake_fst).holdAdmin_fst.setAssoc

theorem execKeepAlive {queue} (h : s.Canon) : NextCanon (execKeepAlive queue s) := next (h.admin fun _ _ _ ht => of_pair ht.kaTouch)

theorem execKeepAliveExpiry {assoc dt} (h : s.Canon) : NextCanon (execKeepAliveExpiry assoc dt s) := by
  unfold Machine.execKeepAliveExpiry
  refine next ?_
  split
  · exact h.pass
  · exact h.pass.cond fun _ ht => ht.bump.assocReset.syncCmds

theorem execWindowMapCmd {queue data} (h : s.Canon) : NextCanon (execWindowMapCmd queue data s) := by
  unfold Machine.execWindowMapCmd
  refine next (admin h fun _ _ _ ht => of_ite_fst ht (of_ite_fst ht ?_))
  split
  · next e => exact (of_fst_eq e ht.winMapOp_fst)
  · next e => exact (of_fst_eq e ht.winMapOp_fst)
  · next e => exact (of_fst_eq e ht.winMapOp_fst)

theorem execWindowRevokeCmd {queue} (h : s.Canon) : NextCanon (execWindowRevokeCmd queue s) := by
  unfold Machine.execWindowRevokeCmd
  refine next ?_
  split
  · next e => exact (of_fst_eq e h.adminTake_fst)
  · next e => exact of_ite ((of_fst_eq e h.adminTake_fst).postCqe) ((of_fst_eq e h.adminTake_fst).holdAdmin_fst.winRevokeOp_fst)

theorem execRingAttach {queue data} (h : s.Canon) : NextCanon (execRingAttach queue data s) := by
  unfold Machine.execRingAttach
  refine next (admin h fun _ _ _ ht => of_ite_fst ht (of_ite_fst ht (of_ite_fst ht (of_ite_fst ht (of_ite_fst ht (of_ite_fst ht ?_))))))
  refine of_ite_fst ht ?_
  split
  · exact ht
  · exact of_pair ht.takeIoq

theorem execRingDetach {queue} (h : s.Canon) : NextCanon (execRingDetach queue s) := h.ringStop.next

theorem execRingReepoch {queue data} (h : s.Canon) : NextCanon (execRingReepoch queue data s) := h.ringStop.next

theorem execCommitStage {queue data} (h : s.Canon) : NextCanon (execCommitStage queue data s) := by
  unfold Machine.execCommitStage
  refine next (admin h fun _ _ _ ht => of_ite_fst (of_pair ht.bump) (of_ite_fst ht ?_))
  extract_lets
  split
  · next e => exact (of_fst_eq e ht.stage_fst)
  · next e => exact (of_fst_eq e ht.stage_fst)

theorem execCommitConfirm {queue} (h : s.Canon) : NextCanon (execCommitConfirm queue s) := by
  unfold Machine.execCommitConfirm
  refine next (admin h fun _ _ _ ht => of_ite_fst (of_pair ht.bump) ?_)
  split
  · next e => exact (of_fst_eq e ht.confirm_fst)
  · next e => exact (of_fst_eq e ht.confirm_fst)

theorem execUnsupportedCommand {queue} (h : s.Canon) : NextCanon (execUnsupportedCommand queue s) := by
  unfold Machine.execUnsupportedCommand
  refine next ?_
  split
  · exact h
  · refine of_ite (h.admin fun _ _ _ ht => ht) ?_
    split
    · exact of_ite h.setQueue h
    · exact h

/-! ### Queues and rings -/

theorem execIoFlush {queue} (h : s.Canon) : NextCanon (execIoFlush queue s) := h.ioArrive.next

theorem execIoWrite {queue sgl} (h : s.Canon) : NextCanon (execIoWrite queue sgl s) := h.ioArrive.next

theorem execIoRead {queue sgl} (h : s.Canon) : NextCanon (execIoRead queue sgl s) := h.ioArrive.next

theorem execIoCompare {queue sgl} (h : s.Canon) : NextCanon (execIoCompare queue sgl s) := h.ioArrive.next

theorem execIoWriteZeroes {queue} (h : s.Canon) : NextCanon (execIoWriteZeroes queue s) := h.ioArrive.next

theorem execIoDatasetManagement {queue ranges} (h : s.Canon) : NextCanon (execIoDatasetManagement queue ranges s) := h.ioArrive.next

theorem execLocalNudge {word held} (h : s.Canon) : NextCanon (execLocalNudge word held s) := next (h.pf1Access fun _ ht => ht.pushNudge)

theorem execDoorbellReadDue {queue late} (h : s.Canon) : NextCanon (execDoorbellReadDue queue late s) := by
  unfold Machine.execDoorbellReadDue
  refine next (cond h fun _ ht => ?_)
  extract_lets
  split
  · exact ht.drainNudges
  · exact of_ite ht.drainNudges (ht.drainNudges.readDoorbell.cond fun _ hu => hu.bump)

theorem execDoorbellReadReturn {queue} (h : s.Canon) : NextCanon (execDoorbellReadReturn queue s) := by
  unfold Machine.execDoorbellReadReturn
  refine next ?_
  split
  · exact h
  · split
    · exact h
    · exact of_ite h (of_ite h.setQueue.judgeDoorbell.readDoorbell h.setQueue.judgeDoorbell)

theorem execRingEntryReturn {queue} (h : s.Canon) : NextCanon (execRingEntryReturn queue s) := by
  unfold Machine.execRingEntryReturn
  refine next ?_
  split
  · exact h
  · split
    · exact h
    · exact of_ite h h.setQueue.bumpBy

theorem execRingIdleTimeout {queue} (h : s.Canon) : NextCanon (execRingIdleTimeout queue s) := next (h.cond fun _ ht => ht.modQueue.syncLtr)

theorem execArbiterAdmit {cluster} (h : s.Canon) : NextCanon (execArbiterAdmit cluster s) := by
  unfold Machine.execArbiterAdmit
  refine next (cond h ?_)
  intro t0 h0
  extract_lets wins t cands a
  have ht : t.Canon := markSkips (h0.each fun _ _ hu => of_ite hu.setCmd.placeLocks.dispatch hu)
  split
  · exact ht
  · extract_lets
    split
    · exact ht
    · exact ht.frame.letIn

theorem execLockGrant {handle} (h : s.Canon) : NextCanon (execLockGrant handle s) := by
  unfold Machine.execLockGrant
  refine next ?_
  split
  · exact h
  · exact of_ite h (of_ite h.frame.remoteOps.modCmd h.frame.remoteOps)

theorem execLastFrameTransmitted {handle} (h : s.Canon) : NextCanon (execLastFrameTransmitted handle s) := by
  unfold Machine.execLastFrameTransmitted
  refine next ?_
  split
  · exact h
  · exact of_ite h (of_ite (of_ite h.winDone.endCmd.winFree h) (of_ite h.setCmd.readSegDone h))

theorem execCommandRetire {handle} (h : s.Canon) : NextCanon (execCommandRetire handle s) := by
  unfold Machine.execCommandRetire
  refine next ?_
  split
  · exact h
  · exact of_ite h.retire h

/-! ### The stripe engines -/

theorem execContextResume {handle} (h : s.Canon) : NextCanon (execContextResume handle s) := by
  unfold Machine.execContextResume
  refine next ?_
  split
  · exact h
  · exact of_ite h h.frame

theorem execEngineTake {engine} (h : s.Canon) : NextCanon (execEngineTake engine s) := by
  unfold Machine.execEngineTake
  refine next (of_ite h ?_)
  split
  · exact h
  · exact h.modEngine.takeInto

theorem execStealProbe {engine} (h : s.Canon) : NextCanon (execStealProbe engine s) := by
  unfold Machine.execStealProbe
  refine next (of_ite h ?_)
  extract_lets
  split
  · exact h
  · exact h.modEngine.stealFrom

theorem execLocalProbeTimeout {engine} (h : s.Canon) : NextCanon (execLocalProbeTimeout engine s) := next (of_ite h.modEngine h)

theorem execRemoteStealProbe {engine} (h : s.Canon) : NextCanon (execRemoteStealProbe engine s) := by
  unfold Machine.execRemoteStealProbe
  refine next (of_ite h ?_)
  split
  · exact h
  · extract_lets
    split
    · exact h.modEngine
    · exact h.modEngine.frame.stealFrom

theorem execProbeSleepTimeout {engine} (h : s.Canon) : NextCanon (execProbeSleepTimeout engine s) := next (of_ite h.modEngine h)

theorem execHelpSignal {cluster} (h : s.Canon) : NextCanon (execHelpSignal cluster s) := next (of_ite h h.frame.setFlag)

theorem execSegmentPlace {handle} (h : s.Canon) : NextCanon (execSegmentPlace handle s) := by
  unfold Machine.execSegmentPlace
  refine next ?_
  split
  · exact h
  · exact of_ite h.setCmd.placeLocks.dispatch.bumpC.syncCmds h

theorem execGlobalBroadcast {req} (h : s.Canon) : NextCanon (execGlobalBroadcast req s) := next (h.accessWrite fun _ ht => ht.goBroadcast)

theorem execGlobalBarrier {req stamp} (h : s.Canon) : NextCanon (execGlobalBarrier req stamp s) := next (h.accessWrite fun _ ht => ht.goBarrier)

theorem execGlobalSnapshot {req stamp} (h : s.Canon) : NextCanon (execGlobalSnapshot req stamp s) := next (h.accessWrite fun _ ht => ht.goSnapshot)

theorem execGlobalReset {req} (h : s.Canon) : NextCanon (execGlobalReset req s) := next (h.accessWrite fun _ ht => ht.goReset)

theorem execBarrierArrived (h : s.Canon) : NextCanon (execBarrierArrived s) :=
  next (of_ite h (of_ite h.setFld (setFld (of_ite (h.each fun _ _ ht => ht.modEngine) h))))

theorem execSnapshotLocalArm (h : s.Canon) : NextCanon (execSnapshotLocalArm s) := next (of_ite h (of_ite h.armMaps.frame.nzlSend h.armMaps.frame.snapArmed))

theorem execBarrierDrainDone (h : s.Canon) : NextCanon (execBarrierDrainDone s) := by
  unfold Machine.execBarrierDrainDone
  refine next (of_ite h (of_ite h.globalDone (of_ite ?_ ?_)))
  · refine of_ite h (globalDone (bump (each h fun _ _ ht => ?_)))
    split
    · exact ht.putVol
    · exact ht
  · exact h

theorem execUcodeActivate {req stamp} (h : s.Canon) : NextCanon (execUcodeActivate req stamp s) := next (h.accessWrite fun _ ht => ht.ucodeActivate)

theorem execEngineBankSwitch {engine} (h : s.Canon) : NextCanon (execEngineBankSwitch engine s) :=
  next (of_ite h (of_ite h.modEngine h.modEngine.setFld.setFlag.setFld.setFlag.globalDone))

theorem execUcodeBankLoad {req version valid} (h : s.Canon) : NextCanon (execUcodeBankLoad req version valid s) := by
  unfold Machine.execUcodeBankLoad
  refine next ?_
  split
  · exact of_ite (h.cond fun _ ht => ht.setFld) (of_ite h (of_ite (h.cond fun _ ht => ht.setFld) (of_ite h h.frame.setFlag)))
  · exact h

/-! ### The way of a command -/

theorem execGovAdmit {handle} (h : s.Canon) : NextCanon (execGovAdmit handle s) := h.govAdmit.next

theorem execWriteDataReadIssue {handle} (h : s.Canon) : NextCanon (execWriteDataReadIssue handle s) := by
  unfold Machine.execWriteDataReadIssue
  refine next ?_
  split
  · exact h
  · refine of_ite h (of_ite (of_ite h h.setCmd.bump.syncJrnWait) (of_ite (of_ite h h.setCmd.bump) (settle ?_)))
    split
    · exact h.setCmd.syncJrnWait.syncStg
    · exact h.setCmd.syncJrnWait.syncStg.readHost

theorem execCipherRequest {who} (h : s.Canon) : NextCanon (execCipherRequest who s) := by
  unfold Machine.execCipherRequest
  refine next ?_
  split
  · exact h.cmdCipher
  · refine of_ite h (of_ite h.bump.health (of_ite h (of_ite h ?_)))
    split
    · exact h
    · exact pushCipher (of_ite h.reserve h)

theorem execSectorVerified {pipe} (h : s.Canon) : NextCanon (execSectorVerified pipe s) := by
  unfold Machine.execSectorVerified
  refine next ?_
  split
  · split
    · exact of_ite h.setPipe.bumpBy.monEvent h
    · exact h
  · refine of_ite h (of_ite h.setPipe.bump.monEvent ?_)
    split
    · exact h.setPipe
    · extract_lets
      split
      · exact h.setPipe
      · split
        · exact of_ite h.setPipe.bump.monEvent.writeBack.setCmd.readFinish h.setPipe.bump.monEvent.writeBack.setCmd
        · exact h

theorem execAuthFailure {pipe partner} (h : s.Canon) : NextCanon (execAuthFailure pipe partner s) := by
  unfold Machine.execAuthFailure
  refine next ?_
  cases s.decHead pipe with
  | none => exact h
  | some q =>
    cases hc : s.cmd? q.owner with
    | none => simpa only [hc] using h
    | some c =>
      simp only [hc]
      split
      · exact h
      · refine of_ite h ?_
        have h0 : (((s.bump CNT_CIP_AUTH_FAIL).monEvent 126 (0x80 + pipe) 1).uncipher q.owner).Canon := h.bump.monEvent.uncipher
        -- opaque, so that the lookups in it are not evaluated
        generalize ((s.bump CNT_CIP_AUTH_FAIL).monEvent 126 (0x80 + pipe) 1).uncipher q.owner = s0 at *
        split
        · split
          · exact h0.frame.setCmd
          · exact h0.loseRecord.finish
          · exact h0.finish
        · exact h0.dropCached.bump.setCmd.needReads.settle
        · split
          · exact of_ite h0.dropFillSector.recordLoss.finish h0.dropFillSector.setCmd.needReads.settle
          · exact h0.finish

theorem slabFor_foldl {v stamp : Nat} {ks : List Nat} {o : Option State} (ho : ∀ t, o = some t → t.Canon) {t : State}
    (e : ks.foldl (fun o k => o.bind fun t => t.slabFor v k stamp) o = some t) : t.Canon := by
  induction ks generalizing o with
  | nil => exact ho t e
  | cons k ks ih =>
    refine ih (fun u hu => ?_) e
    obtain ⟨w, hw, hk⟩ := Option.bind_eq_some_iff.mp hu
    exact slabFor_some hk (ho w hw)

theorem execJournalAppend {handle} (h : s.Canon) : NextCanon (execJournalAppend handle s) := by
  unfold Machine.execJournalAppend
  refine next ?_
  split
  · exact h
  · refine of_ite h (of_ite h.finish (of_ite h.finish ?_))
    extract_lets a n fit
    cases e : fit with
    | none => exact h.bump.finish
    | some s1 =>
      have h1 : s1.Canon := slabFor_foldl (fun t ht => by cases ht; exact h) e
      dsimp -zeta only
      extract_lets sealed img r s2 _ s3 s4 s5
      have h3 : s3.Canon := h1.uncipher.supersede.frame
      have h4 : s4.Canon := foldl (of_ite (h3.bumpBy.each fun _ _ hu => hu.monEvent) h3) fun _ _ ht => ht.appendBlock
      have h5 : s5.Canon := h4.modCmd.syncJrn.syncStg
      exact of_ite h5.mirrorRecord.modCmd.settle (writeDone (h5.cond fun _ ht => ht.mirrorRecord))

theorem execFillInstall {vol stripe} (h : s.Canon) : NextCanon (execFillInstall vol stripe s) := by
  unfold Machine.execFillInstall
  refine next ?_
  split
  · exact h
  · exact of_ite h.endDemand h

/-! ### Drives -/

theorem execDriveCommandIssue {index} (h : s.Canon) : NextCanon (execDriveCommandIssue index s) := by
  unfold Machine.execDriveCommandIssue
  refine next ?_
  split
  · exact h
  · refine of_ite h (of_ite (of_ite h h.drvAdmin) (of_ite h.markWaited ?_))
    split
    · exact h.markWaited
    · refine of_ite (of_ite h h.frame.bumpD) ?_
      extract_lets
      split
      · exact h.frame.post.modCmd.syncStg
      · exact h.frame.post

theorem execDriveSqRead {member queue slot} (h : s.Canon) : NextCanon (execDriveSqRead member queue slot s) := next (of_ite h h.emit)

theorem execDriveDmaAccess {member access} (h : s.Canon) : NextCanon (execDriveDmaAccess member access s) := by
  unfold Machine.execDriveDmaAccess
  refine next (of_ite h ?_)
  split
  · split
    · exact of_ite h.frame h.dmaFault
    · exact h.dmaFault
  · split
    · split
      · exact of_ite h.emit h.dmaFault
      · exact h.dmaFault
    · exact h.dmaFault
  · exact h.dmaFault

theorem execDriveCqeWrite {member queue slot phase cid status} (h : s.Canon) :
    NextCanon (execDriveCqeWrite member queue slot phase cid status s) := by
  unfold Machine.execDriveCqeWrite
  refine next (of_ite h (of_ite h.bumpD ?_))
  extract_lets wrap s1 mine s2
  have h2 : s2.Canon := of_ite h.setDrvQueue.ladderEnd.bumpD h.setDrvQueue
  split
  · exact h.setDrvQueue.bumpD
  · refine of_ite h.setDrvQueue.bumpD (of_ite h2.drvDone (of_ite h2.drvDone (of_ite h2.bumpD.drvDone ?_)))
    exact of_ite h2.frame (of_ite h2.frame h.setDrvQueue.frame.timeout)

theorem execCqHeadDoorbell {member queue} (h : s.Canon) : NextCanon (execCqHeadDoorbell member queue s) := next (of_ite h.setDrvQueue.emit h)

theorem execDriveReissueTimer {cid} (h : s.Canon) : NextCanon (execDriveReissueTimer cid s) := by
  unfold Machine.execDriveReissueTimer
  refine next ?_
  split
  · exact of_ite h.post h
  · exact h

theorem execDriveCmdTimeout {cid} (h : s.Canon) : NextCanon (execDriveCmdTimeout cid s) := by
  unfold Machine.execDriveCmdTimeout
  refine next ?_
  split
  · exact h
  · exact of_ite h (of_ite h.bumpD.memberFails h.timeout)

theorem execAbortWaitExpiry {member} (h : s.Canon) : NextCanon (execAbortWaitExpiry member s) := next (of_ite h.ctrlReset h)

theorem execCtrlDisabled {member} (h : s.Canon) : NextCanon (execCtrlDisabled member s) := next (of_ite h.modMem.emit h)

theorem execCtrlReady {member} (h : s.Canon) : NextCanon (execCtrlReady member s) := next (of_ite (modMem (h.each fun _ _ ht => ht.post)) h)

theorem execCtrlReadyTimeout {member} (h : s.Canon) : NextCanon (execCtrlReadyTimeout member s) := next (of_ite h.memberFails h)

theorem execCtrlResetComplete {member} (h : s.Canon) : NextCanon (execCtrlResetComplete member s) := next (of_ite h.ladderEnd h)

theorem execControllerFatalStatus {member} (h : s.Canon) : NextCanon (execControllerFatalStatus member s) :=
  next (of_ite h (of_ite (of_ite h h.ctrlReset) h.suspect.ctrlReset))

theorem execSlotResetRelease {half} (h : s.Canon) : NextCanon (execSlotResetRelease half s) := next (of_ite h.frame h)

theorem execDriveLinkUp {place width rate} (h : s.Canon) : NextCanon (execDriveLinkUp place width rate s) := by
  unfold Machine.execDriveLinkUp
  refine next (of_ite h ?_)
  split
  · exact of_ite h h.setFlag.setFld.setFld.setFlag
  · exact of_ite h (of_ite h.holdOut h.setFlag.setFld.setFld.frame)

theorem execDriveReady {place} (h : s.Canon) : NextCanon (execDriveReady place s) := next (of_ite h.frame h)

theorem execDriveQualify {place facts} (h : s.Canon) : NextCanon (execDriveQualify place facts s) := by
  unfold Machine.execDriveQualify
  refine next (of_ite h ?_)
  extract_lets s0 s1
  have h1 : s1.Canon := by
    unfold s1
    split
    · exact of_ite h.dropPlace.freeMember h.dropPlace
    · exact h.dropPlace
  split
  · split
    · split
      · exact h1.holdOut
      · exact h1.admitMember.syncMem
    · refine of_ite h1.holdOut ?_
      split
      · exact h1.admitMember.frame.setFlag
      · exact of_ite h1.admitMember.frame.bump.syncMem h1.admitMember.frame.memberReturns
  · refine holdOut ?_
    split
    · exact h1.setFlag
    · exact h1

theorem execDriveRemoval {half presence} (h : s.Canon) : NextCanon (execDriveRemoval half presence s) := h.driveRemoval.next

theorem execDpcLinkRetrain {half} (h : s.Canon) : NextCanon (execDpcLinkRetrain half s) := by
  unfold Machine.execDpcLinkRetrain
  refine next ?_
  split
  · exact of_ite h.frame h
  · exact h

theorem execXpHotplugEvent {xp slot insert dpc} (h : s.Canon) : NextCanon (execXpHotplugEvent xp slot insert dpc s) := by
  unfold Machine.execXpHotplugEvent
  refine next (of_ite h (of_ite h.frame.setFld (of_ite (of_ite h (of_ite h.setFlag.holdOut h.frame.setFld)) ?_)))
  extract_lets _ s1 s2 s3
  have h2 : s2.Canon := h.frame.dropPlace.setFld
  have h3 : s3.Canon := of_ite h2.setFlag h2
  split
  · exact h3.memberGone
  · exact h3

theorem execXpLinkDown {xp} (h : s.Canon) : NextCanon (execXpLinkDown xp s) :=
  next (of_ite h (h.setFlag.setFld.setFld.setFlag.setFld.frame.each fun _ _ ht => ht.memberGone))

theorem execReservationAcquireDone {member} (h : s.Canon) : NextCanon (execReservationAcquireDone member s) := next (of_ite h.modMem.setFlag.frame.syncPool h)

theorem execAcquireTimeout {member} (h : s.Canon) : NextCanon (execAcquireTimeout member s) := by
  unfold Machine.execAcquireTimeout
  refine next (of_ite h ?_)
  split
  · exact h.suspect.setFld.modMem.drvAdmin.bumpD
  · exact h.suspect.ctrlReset

theorem execMemberFailCmd {req member} (h : s.Canon) : NextCanon (execMemberFailCmd req member s) := next (h.accessWrite fun _ ht => ht.goMemFail)

theorem execMemberReleaseCmd {req member} (h : s.Canon) : NextCanon (execMemberReleaseCmd req member s) := next (h.accessWrite fun _ ht => ht.goMemRelease)

theorem execMemberRequalifyCmd {req member} (h : s.Canon) : NextCanon (execMemberRequalifyCmd req member s) :=
  next (h.accessWrite fun _ ht => ht.goMemRequalify)

/-! ### Cache maintenance -/

theorem execPrefetchFillComplete {vol stripe} (h : s.Canon) : NextCanon (execPrefetchFillComplete vol stripe s) := by
  unfold Machine.execPrefetchFillComplete
  refine next ?_
  split
  · exact h
  · exact of_ite h (of_ite h.mntFill (of_ite h.dropFill.bump (of_ite h.dropFill.bump (of_ite h.dropFill h.dropFill.putSide))))

theorem execMntInvalidate {req respect id} (h : s.Canon) : NextCanon (execMntInvalidate req respect id s) := next (h.accessWrite fun _ ht => ht.mntGo)

theorem execMntClean {req respect id} (h : s.Canon) : NextCanon (execMntClean req respect id s) := next (h.accessWrite fun _ ht => ht.mntGo)

theorem execMntPrefetch {req respect id} (h : s.Canon) : NextCanon (execMntPrefetch req respect id s) := next (h.accessWrite fun _ ht => ht.mntGo)

theorem execMntLock {req respect id} (h : s.Canon) : NextCanon (execMntLock req respect id s) := next (h.accessWrite fun _ ht => ht.mntGo)

theorem execMntUnlock {req respect id} (h : s.Canon) : NextCanon (execMntUnlock req respect id s) := next (h.accessWrite fun _ ht => ht.mntGo)

theorem execMntDonePop {req} (h : s.Canon) : NextCanon (execMntDonePop req s) := next (h.accessRead fun _ ht => ht.popMnt)

theorem execCacheDisable {req} (h : s.Canon) : NextCanon (execCacheDisable req s) := next (h.accessWrite fun _ ht => ht.cchCtlWrite)

/-! ### Destage, rebuild and replay -/

theorem execIntentBlockWrite (h : s.Canon) : NextCanon (execIntentBlockWrite s) := next (of_ite (h.each fun _ _ ht => ht.intentBlock) h)

theorem execDestageStart {set stripe rd} (h : s.Canon) : NextCanon (execDestageStart set stripe rd s) := h.destageStart.next

theorem execDestageComplete {set stripe} (h : s.Canon) : NextCanon (execDestageComplete set stripe s) := by
  unfold Machine.execDestageComplete
  refine next ?_
  split
  · exact h
  · exact of_ite h h.frame.closeIntent.clearBlocks.syncRed.mntRun

theorem execIntentReplay {found} (h : s.Canon) : NextCanon (execIntentReplay found s) := by
  unfold Machine.execIntentReplay
  refine next (of_ite h (syncReplay (syncRed (setFlag (each ?_ fun _ _ ht => ht.frame)))))
  refine each h fun _ _ ht => ?_
  split
  · exact ht
  · exact of_ite ht ht.putSet

theorem execIntentResync {set stripe rd} (h : s.Canon) : NextCanon (execIntentResync set stripe rd s) := by
  unfold Machine.execIntentResync
  refine next ?_
  split
  · exact h
  · split
    · exact h
    · exact of_ite h (of_ite h h.writeNow.closeIntent.bump.logRed.syncReplay)

theorem execHoldupWrite {req val} (h : s.Canon) : NextCanon (execHoldupWrite req val s) := next (h.accessWrite fun _ ht => ht.holdupWrite)

theorem execMissingHoldExpiry {member} (h : s.Canon) : NextCanon (execMissingHoldExpiry member s) := next (of_ite h h.frame.rebuildStart.autoReplace)

/-! ### Sets, volumes, lost ranges and the event log -/

theorem execRebuildChunk {set stripe rd} (h : s.Canon) : NextCanon (execRebuildChunk set stripe rd s) := h.rebuildChunk.next

theorem execMemberReturn {member rd} (h : s.Canon) : NextCanon (execMemberReturn member rd s) := h.fillStep.next

theorem execSetCreate {req set} (h : s.Canon) : NextCanon (execSetCreate req set s) := next (h.accessWrite fun _ ht => ht.goSetCreate)

theorem execSetDelete {req set} (h : s.Canon) : NextCanon (execSetDelete req set s) := next (h.accessWrite fun _ ht => ht.goSetDelete)

theorem execSetReplace {req set slot member} (h : s.Canon) : NextCanon (execSetReplace req set slot member s) :=
  next (h.accessWrite fun _ ht => ht.goSetReplace)

theorem execPatrolNow {req set} (h : s.Canon) : NextCanon (execPatrolNow req set s) := next (h.accessWrite fun _ ht => ht.goPatrolNow)

theorem execPatrolChunk {set stripe rd} (h : s.Canon) : NextCanon (execPatrolChunk set stripe rd s) := by
  unfold Machine.execPatrolChunk
  refine next ?_
  split
  · exact h
  · refine of_ite h (of_ite h.deferBack (of_ite h (syncRed (each h.admitBack.charge.bump.putSet fun _ _ ht => ?_))))
    split
    · exact ht.patrolAct
    · exact ht

theorem execVolCreate {req vol set} (h : s.Canon) : NextCanon (execVolCreate req vol set s) := next (h.accessWrite fun _ ht => ht.goVolCreate)

theorem execVolResize {req vol} (h : s.Canon) : NextCanon (execVolResize req vol s) := next (h.accessWrite fun _ ht => ht.goVolResize)

theorem execVolDelete {req vol} (h : s.Canon) : NextCanon (execVolDelete req vol s) := next (h.accessWrite fun _ ht => ht.goVolDelete)

theorem execLostRead {req index} (h : s.Canon) : NextCanon (execLostRead req index s) := next (h.accessWrite fun _ ht => ht.goLostRead)

theorem execLostClear {req index rd} (h : s.Canon) : NextCanon (execLostClear req index rd s) := next (h.accessWrite fun _ ht => ht.goLostClear)

theorem execEventLogPop {req} (h : s.Canon) : NextCanon (execEventLogPop req s) := next (h.accessRead fun _ ht => ht.popEvlog)

/-! ### Slot and feed power -/

theorem execSlotRampStart {ch openPin} (h : s.Canon) : NextCanon (execSlotRampStart ch openPin s) := next (of_ite h.ramp h)

theorem execSlotPowerGood {ch vout vgs} (h : s.Canon) : NextCanon (execSlotPowerGood ch vout vgs s) := next (of_ite h (of_ite h.setFlag.frame.setFld h.setFlag))

theorem execSlotPgLoss {ch v1 v2} (h : s.Canon) : NextCanon (execSlotPgLoss ch v1 v2 s) := next (of_ite h (h.setFlag.cond fun _ ht => ht.bump))

theorem execGateNoRise {ch vgs} (h : s.Canon) : NextCanon (execGateNoRise ch vgs s) := next (of_ite h h.slotGateOff.setFld.setFld.bump)

theorem execCurrentLimit {ch uv} (h : s.Canon) : NextCanon (execCurrentLimit ch uv s) := next (of_ite h (of_ite h.setFlag (of_ite h.setFlag h)))

theorem execFaultTimerExpiry {ch} (h : s.Canon) : NextCanon (execFaultTimerExpiry ch s) := next (of_ite h.slotFault.bump h)

theorem execFastTrip {ch uv} (h : s.Canon) : NextCanon (execFastTrip ch uv s) := next (of_ite h.slotFault.bump.frame h)

theorem execSlotReverseCurrent {ch since} (h : s.Canon) : NextCanon (execSlotReverseCurrent ch since s) :=
  next (of_ite h (of_ite h.slotGateOff.setFld.bump.frame h.slotFault.bump))

theorem execSagReramp {ch openPin} (h : s.Canon) : NextCanon (execSagReramp ch openPin s) := next (of_ite h.ramp h)

theorem execRetryWaitExpiry {ch openPin} (h : s.Canon) : NextCanon (execRetryWaitExpiry ch openPin s) :=
  next (of_ite h (of_ite h.slotOff h.setFld.bump.frame.ramp))

theorem execAttemptsClear {ch} (h : s.Canon) : NextCanon (execAttemptsClear ch s) := next (of_ite h.setFld h)

theorem execSlotClear {req ch} (h : s.Canon) : NextCanon (execSlotClear req ch s) := next (h.accessWrite fun _ ht => ht.chCfgWrite)

theorem execSlotModeWrite {req ch mode} (h : s.Canon) : NextCanon (execSlotModeWrite req ch mode s) := next (h.accessWrite fun _ ht => ht.chCfgWrite)

theorem execPresenceDebounced {pos present} (h : s.Canon) : NextCanon (execPresenceDebounced pos present s) := by
  unfold Machine.execPresenceDebounced
  have h1 : ∀ {f i}, (if present then s.setBit f i else s.clrBit f i).Canon := of_ite h.setBit h.clrBit
  have h2 : ∀ {f i g b p q}, (((if present then s.setBit f i else s.clrBit f i).setFlag g b).drvPresence p q).Canon := h1.setFlag.drvPresence
  exact next (of_ite h (of_ite (slotJudge (of_ite h2.setFld.bump.setFld h2.setFld.bump)) h2))

theorem execSgpioFrame {inputs} (h : s.Canon) : NextCanon (execSgpioFrame inputs s) := next (of_ite h (frame (frame (of_ite h.emit h))))

theorem execSmbusStuck {bus fresh} (h : s.Canon) : NextCanon (execSmbusStuck bus fresh s) :=
  next (of_ite h (of_ite h.frame.emit h.frame.emit.clrBit.setBit.bump))

theorem execFeedReversed {feed vin} (h : s.Canon) : NextCanon (execFeedReversed feed vin s) := next (of_ite h.fdGo h)

theorem execFeedPolarityRestored {feed} (h : s.Canon) : NextCanon (execFeedPolarityRestored feed s) := next (of_ite h.fdGo h)

theorem execFeedPrechargeStart {feed vin} (h : s.Canon) : NextCanon (execFeedPrechargeStart feed vin s) := next (of_ite h.fdGo h)

theorem execFeedPrechargeDone {feed vin vbus} (h : s.Canon) : NextCanon (execFeedPrechargeDone feed vin vbus s) := next (of_ite h.fdGo h)

theorem execFeedPrechargeTimeout {feed} (h : s.Canon) : NextCanon (execFeedPrechargeTimeout feed s) := next (of_ite h.fdGo.bump h)

theorem execFeedReverse {feed vin vbus} (h : s.Canon) : NextCanon (execFeedReverse feed vin vbus s) := next (of_ite h.fdGo.bump.frame h)

theorem execFeedUnblock {feed vin vbus} (h : s.Canon) : NextCanon (execFeedUnblock feed vin vbus s) := next (of_ite h.fdGo h)

theorem execFeedOvervoltage {feed vin} (h : s.Canon) : NextCanon (execFeedOvervoltage feed vin s) := next (of_ite h.fdGo.bump h)

theorem execFeedUndervoltage {feed vin} (h : s.Canon) : NextCanon (execFeedUndervoltage feed vin s) := next (of_ite h.fdGo h)

theorem execFeedFaultWaitExpiry {feed} (h : s.Canon) : NextCanon (execFeedFaultWaitExpiry feed s) := next (of_ite h.fdGo h)

theorem execFeedDisable {req feed} (h : s.Canon) : NextCanon (execFeedDisable req feed s) := next (h.accessWrite fun _ ht => ht.fdCfgWrite)

theorem execSenseWireOpen {feed wire} (h : s.Canon) : NextCanon (execSenseWireOpen feed wire s) :=
  next (of_ite h (of_ite h.setBit.bump.setFld (of_ite h.setBit.bump.fdGo h.setBit.bump)))

theorem execPowerFailWarning {va vb} (h : s.Canon) : NextCanon (execPowerFailWarning va vb s) := next (of_ite h h.setFlag.bump.syncPfail)

theorem execPowerFailClear {va vb} (h : s.Canon) : NextCanon (execPowerFailClear va vb s) := next (of_ite h.setFlag.syncPfail h)

theorem execVhvUvlo (h : s.Canon) : NextCanon (execVhvUvlo s) :=
  next (of_ite h (each (h.frame.each fun _ _ ht => of_ite ht ht.slotOff) fun _ _ ht => of_ite ht ht.fdGo))

theorem execVhvUvloRecovery (h : s.Canon) : NextCanon (execVhvUvloRecovery s) := h.frame.next

/-! ### Receiving on the Narzan link -/

theorem execNzlGroupTrained {group codes} (h : s.Canon) : NextCanon (execNzlGroupTrained group codes s) := by
  unfold Machine.execNzlGroupTrained
  refine next (of_ite h ?_)
  extract_lets _ s0 s1
  have h0 : s0.Canon := of_ite h.frame h
  have h1 : s1.Canon := h0.setGrp.setBit.setFlag.setFld.nzlPump
  exact of_ite h1.setFld.sendHandshake h1

theorem execNzlGroupRetry {group codes} (h : s.Canon) : NextCanon (execNzlGroupRetry group codes s) := next (of_ite h h.setFld.setGrp)

theorem execNzlTrainingFail {group} (h : s.Canon) : NextCanon (execNzlTrainingFail group s) := next (of_ite h.setGrp h)

theorem execNzlGroupLinkLoss {group} (h : s.Canon) : NextCanon (execNzlGroupLinkLoss group s) := next (of_ite h.groupDown h)

theorem execPartnerSilenceTimeout (h : s.Canon) : NextCanon (execPartnerSilenceTimeout s) := next (of_ite h.setFlag.loseOnce (of_ite h.loseOnce h))

theorem execAckStallTimeout (h : s.Canon) : NextCanon (execAckStallTimeout s) := next (of_ite h.loseOnce h)

theorem execFenceWrite {req} (h : s.Canon) : NextCanon (execFenceWrite req s) := next (h.accessWrite fun _ ht => ht.fenceWrite)

theorem execStaleTimeout (h : s.Canon) : NextCanon (execStaleTimeout s) := next (of_ite h.becomeStale h)

theorem execLossHoldExpiry (h : s.Canon) : NextCanon (execLossHoldExpiry s) := next (of_ite h.setFlag.setPartner.dropMessages.mirrorAll h)

theorem execResyncComplete (h : s.Canon) : NextCanon (execResyncComplete s) :=
  next (of_ite h (of_ite (of_ite h.setFlag.setFld.heartbeats h) (of_ite h.setFlag.setFlag.setFlag.frame.heartbeats h)))

theorem execNzlBadFrame {group frames} (h : s.Canon) : NextCanon (execNzlBadFrame group frames s) := next (of_ite h.bumpBy.nzlBad h)

theorem execMirrorRx {group m} (h : s.Canon) : NextCanon (execMirrorRx group m s) := by
  unfold Machine.execMirrorRx
  refine next ?_
  split
  · exact h.nzlRx fun _ ht => ht.takePart
  · exact h

theorem execMetaRx {group m} (h : s.Canon) : NextCanon (execMetaRx group m s) := by
  unfold Machine.execMetaRx
  refine next ?_
  split
  · exact h.nzlRx fun _ ht => ht.each fun _ _ hu => hu.metaItem
  · exact h

theorem execCfgRx {group m} (h : s.Canon) : NextCanon (execCfgRx group m s) := by
  unfold Machine.execCfgRx
  refine next ?_
  split
  · exact h.nzlRx fun _ ht => ht.each fun _ _ hu => hu.cfgItem
  · exact h

theorem execPartnerHandshake (h : s.Canon) : NextCanon (execPartnerHandshake s) := by
  unfold Machine.execPartnerHandshake
  refine next ?_
  split
  · exact of_ite h.setFld.nzlSend h
  · exact h

theorem execHandshakeTimeout (h : s.Canon) : NextCanon (execHandshakeTimeout s) := next (of_ite h.setFld h)

theorem execHeartbeatRx {group m} (h : s.Canon) : NextCanon (execHeartbeatRx group m s) := by
  unfold Machine.execHeartbeatRx
  refine next ?_
  split
  · exact of_ite h (peerState (h.bump.setFlag.setGrp.nzlHeader.cond fun _ ht => ht.nzlResend))
  · exact h

theorem execFenceRx {group m} (h : s.Canon) : NextCanon (execFenceRx group m s) := by
  unfold Machine.execFenceRx
  refine next ?_
  split
  · exact h.nzlRx fun _ ht => of_ite ht (of_ite ht.loseOnce.fenced (of_ite ht.loseOnce ht.loseOnce.becomeStale))
  · exact h

theorem execHeartbeatSend {group} (h : s.Canon) : NextCanon (execHeartbeatSend group s) := next (h.cond fun _ ht => ht.heartbeat)

theorem execNzlReplayTimeout {group} (h : s.Canon) : NextCanon (execNzlReplayTimeout group s) := by
  unfold Machine.execNzlReplayTimeout
  refine next (of_ite h ?_)
  split
  · exact h
  · exact of_ite h.bump.groupDown h.nzlResend

theorem execSnapshotArmRx {group m} (h : s.Canon) : NextCanon (execSnapshotArmRx group m s) := by
  unfold Machine.execSnapshotArmRx
  refine next ?_
  split
  · exact h.nzlRx fun _ ht => ht.armMaps.nzlSend
  · exact h

theorem execSnapshotArmedRx {group m} (h : s.Canon) : NextCanon (execSnapshotArmedRx group m s) := by
  unfold Machine.execSnapshotArmedRx
  refine next ?_
  split
  · exact h.nzlRx fun _ ht => of_ite ht.snapArmed ht
  · exact h

theorem execSwapEndRx {group m} (h : s.Canon) : NextCanon (execSwapEndRx group m s) := by
  unfold Machine.execSwapEndRx
  refine next ?_
  split
  · exact h.nzlRx fun _ ht => ht.frame
  · exact h

/-! ### Claim rounds -/

theorem execClaimRoundStart (h : s.Canon) : NextCanon (execClaimRoundStart s) := next (of_ite h (h.frame.cond fun _ ht => ht.setFlag.setFlag))

theorem execTakeoverAdmissionOpen (h : s.Canon) : NextCanon (execTakeoverAdmissionOpen s) := next (of_ite h.frame.setAna h)

theorem execSwapDrainTimeout (h : s.Canon) : NextCanon (execSwapDrainTimeout s) :=
  next (of_ite h (nzlSend (frame (h.dropWindows.endWaiting.each fun _ _ ht => of_ite ht.finish (of_ite ht.modCmd ht)))))

theorem execHandbackHoldoff (h : s.Canon) : NextCanon (execHandbackHoldoff s) := next (of_ite h.frame.nzlSend h)

theorem execHandbackRx {group m} (h : s.Canon) : NextCanon (execHandbackRx group m s) := by
  unfold Machine.execHandbackRx
  refine next ?_
  split
  · exact h.nzlRx fun _ ht => of_ite ht.startSwap ht
  · exact h

theorem execScheduledSwap (h : s.Canon) : NextCanon (execScheduledSwap s) := next (of_ite h (of_ite h (of_ite h.startSwap h.frame)))

theorem execClaimRoundEnd {win slots feeds} (h : s.Canon) : NextCanon (execClaimRoundEnd win slots feeds s) := by
  unfold Machine.execClaimRoundEnd
  refine next ?_
  split
  · exact h
  · refine of_ite h.frame.judgeStage (setFld (roundMode (nzlSend (of_ite ?_ ?_))))
    · exact h.frame.judgeStage.setFld.setFld.bump
    · exact of_ite h.frame.judgeStage.setFld.setFld.bump.frame.setFlag h.frame.judgeStage.setFld.setFld.bump.frame

theorem execClaimReportRx {group m} (h : s.Canon) : NextCanon (execClaimReportRx group m s) := by
  unfold Machine.execClaimReportRx
  refine next ?_
  split
  · exact h.nzlRx fun _ ht => of_ite ht (of_ite ht.frame ht.frame.setFlag.bump.health)
  · exact h

/-! ### The governor's interval -/

theorem execGovSlowTick {dt ts feed} (h : s.Canon) : NextCanon (execGovSlowTick dt ts feed s) := by
  unfold Machine.execGovSlowTick
  refine next (of_ite ?_ (of_ite h.pass ?_))
  · split
    · exact h.frame
    · exact h
  · extract_lets s1 f _ s2 s3 s4
    have h3 : s3.Canon := h.pass.credit.frame.samples.syncProfile.admissionPass.syncLvl
    have h4 : s4.Canon := of_ite h3.monEvent h3
    exact syncServing (of_ite h4.monEvent h4)

theorem execGovIntervalEnd (h : s.Canon) : NextCanon (execGovIntervalEnd s) := by
  unfold Machine.execGovIntervalEnd
  refine next (of_ite h ?_)
  extract_lets s0 s1 t s2 s3
  have h0 : s0.Canon := h.countInterval.cond fun _ ht => ht.monInterval
  have h1 : s1.Canon := h0.ageDeferred.cond fun _ ht => ht.bump
  have h3 : s3.Canon := h1.thermal.useFree.setFld.feedTrim
  exact of_ite h0 h3.judgeClamp.nextFloor.patrolPace.bump.syncLvl

theorem execDeferExpiry {handle} (h : s.Canon) : NextCanon (execDeferExpiry handle s) := by
  unfold Machine.execDeferExpiry
  refine next ?_
  split
  · exact h
  · split
    · exact h
    · exact of_ite h h.frame.finish.bump

theorem execDriveIdleLow {member} (h : s.Canon) : NextCanon (execDriveIdleLow member s) := next (of_ite h h.drvAdmin.bump)

/-! ### The host endpoint -/

theorem execPcieCompletionRx {tag status bytes data stamp} (h : s.Canon) : NextCanon (execPcieCompletionRx tag status bytes data stamp s) := by
  unfold Machine.execPcieCompletionRx
  refine next (of_ite h ?_)
  split
  · exact h.wakeLink.bump.aer
  · refine of_ite ?_ ?_
    · exact retag (of_ite h.wakeLink.aer.bump.endRead h.wakeLink.aer.bump.endRead.failRead)
    · exact of_ite h.wakeLink.frame (retag (of_ite h.wakeLink.endRead h.wakeLink.endRead.readBack))

theorem execCompletionTimeout {tag dt} (h : s.Canon) : NextCanon (execCompletionTimeout tag dt s) := by
  unfold Machine.execCompletionTimeout
  refine next ?_
  split
  · exact h.pass
  · exact of_ite h.pass (retag (of_ite h.pass.aer.bump.endRead.frame h.pass.aer.bump.endRead.frame.failRead))

theorem execTagQuarantineEnd {tag dt} (h : s.Canon) : NextCanon (execTagQuarantineEnd tag dt s) := by
  unfold Machine.execTagQuarantineEnd
  refine next ?_
  split
  · exact h.pass
  · exact of_ite h.pass.frame.retag h.pass

theorem execBmeClear (h : s.Canon) : NextCanon (execBmeClear s) := next (h.cond fun _ ht => ht.bmeClear)

theorem execBmeSet (h : s.Canon) : NextCanon (execBmeSet s) := next (h.cond fun _ ht => ht.bmeSet)

theorem execFlrPf1 (h : s.Canon) : NextCanon (execFlrPf1 s) := next (h.cond fun _ ht => ht.pf1Flush.frame.retag.syncHep.bump)

theorem execFlrPf0 (h : s.Canon) : NextCanon (execFlrPf0 s) := next (h.cond fun _ ht => ht.frame.pf0Flush.syncHep.bump)

theorem execPerstAssert (h : s.Canon) : NextCanon (execPerstAssert s) := next (h.cond fun _ ht => ht.linkDown)

theorem execL0sEntry (h : s.Canon) : NextCanon (execL0sEntry s) := next (h.cond fun _ ht => ht.setFld.bump)

theorem execL1Entry (h : s.Canon) : NextCanon (execL1Entry s) := next (h.cond fun _ ht => ht.setFld.bump)

theorem execLocalAdminEnable {val} (h : s.Canon) : NextCanon (execLocalAdminEnable val s) := next (h.pf1Access fun _ ht => ht.admWrite)

theorem execLocalAdminDisable {val} (h : s.Canon) : NextCanon (execLocalAdminDisable val s) := next (h.pf1Access fun _ ht => ht.admWrite)

theorem execDiagApertureRead {off data ue} (h : s.Canon) : NextCanon (execDiagApertureRead off data ue s) :=
  next (of_ite h (of_ite h.malformed.emit (of_ite h.emit (of_ite h.bump.emit h.emit))))

theorem execConfigurationRequest {pf1 what} (h : s.Canon) : NextCanon (execConfigurationRequest pf1 what s) := by
  unfold Machine.execConfigurationRequest
  refine next (of_ite h (of_ite h.emit (of_ite ?_ ?_)))
  · refine of_ite h ?_
    split
    · exact h.bmeSet
    · exact h.bmeClear
    · exact h.frame.retag.msixFlush.syncHep
  · exact h.frame.msixFlush.syncHep

/-! ### The mailboxes -/

theorem execMbxTx {who chan word} (h : s.Canon) : NextCanon (execMbxTx who chan word s) := h.pushBy.next

theorem execMbxTxEom {who chan word} (h : s.Canon) : NextCanon (execMbxTxEom who chan word s) := h.pushBy.next

theorem execMbxRx {who chan} (h : s.Canon) : NextCanon (execMbxRx who chan s) := by
  unfold Machine.execMbxRx
  refine next ?_
  split
  · exact h.accessRead fun _ ht => ht.mbxPop
  · split
    · exact h.emit.mbxPop
    · exact h

theorem execMbxAck {who chan code} (h : s.Canon) : NextCanon (execMbxAck who chan code s) := by
  unfold Machine.execMbxAck
  refine next ?_
  split
  · exact h.accessWrite fun _ ht => ht.mbxAck
  · split
    · exact h.mbxAck
    · exact h

theorem execMbxFarEndDown {dir} (h : s.Canon) : NextCanon (execMbxFarEndDown dir s) := next (h.cond fun _ ht => ht.setMbxDir.mbxErr.syncMbx)

theorem execMbxFarEndUp {dir} (h : s.Canon) : NextCanon (execMbxFarEndUp dir s) :=
  next (h.cond fun _ ht => cond (of_ite (of_ite ht.bump.setMbxDir.nzlSend ht.bump.mbxDeliver) ht) fun _ hu => hu.mbxPump)

theorem execMboxRx {group m} (h : s.Canon) : NextCanon (execMboxRx group m s) := by
  unfold Machine.execMboxRx
  refine next ?_
  split
  · exact h.nzlRx fun _ ht => ht.mboxIn
  · exact h

/-! ### Errors of DRAM and staging SRAM -/

theorem execDramUe {chan ue} (h : s.Canon) : NextCanon (execDramUe chan ue s) := next (of_ite h.dramUe h)

theorem execDramScrubLine {chan ce ue} (h : s.Canon) : NextCanon (execDramScrubLine chan ce ue s) := by
  unfold Machine.execDramScrubLine
  refine next (of_ite h (of_ite h.deferBack ?_))
  extract_lets
  split
  · exact h.admitBack.charge.bumpBy.dramUe
  · exact h.admitBack.charge.bumpBy

theorem execStagingUe {slot} (h : s.Canon) : NextCanon (execStagingUe slot s) := by
  unfold Machine.execStagingUe
  refine next (of_ite h ?_)
  extract_lets
  split
  · split
    · refine of_ite h ?_
      extract_lets
      split
      · exact h.bump.sramError.setCmd.readHost.park
      · exact h.bump.sramError.setCmd
    · exact h
  · split
    · split
      · split
        · exact h.bump.sramError.dropFillSector.uncipher.setCmd.needReads.settle
        · exact h
      · exact h
    · exact h
  · exact of_ite h.bump.sramError.qpError h

theorem execEngineUeRestart {engine handle} (h : s.Canon) : NextCanon (execEngineUeRestart engine handle s) := by
  have h0 : ∀ {u b f i c k e}, ((((s.sramError u b).setBit f i).bumpC c k).health e).Canon := h.sramError.setBit.bumpC.health
  unfold Machine.execEngineUeRestart
  refine next (of_ite h (of_ite h0.criticalUe ?_))
  split
  · exact h0
  · extract_lets
    split
    · exact of_ite h0.modEngine.modEngine.restartCmd.bumpC.settle.syncCmds h0.modEngine.modEngine.bumpC.syncCmds
    · exact h0.modEngine.modEngine.syncCmds

theorem execKatRun {req} (h : s.Canon) : NextCanon (execKatRun req s) := next (h.accessWrite fun _ ht => ht.katStart)

theorem execKatComplete {pipe pass} (h : s.Canon) : NextCanon (execKatComplete pipe pass s) := next (of_ite h (syncKat (h.frame.cond fun _ ht => ht.katFail)))

theorem execHwmAck {req slot} (h : s.Canon) : NextCanon (execHwmAck req slot s) := next (h.accessWrite fun _ ht => ht.hwmAck)

theorem execZeroizeComplete {slot} (h : s.Canon) : NextCanon (execZeroizeComplete slot s) := next (of_ite h.zeroizeEnd h)

theorem execKeySlotRead {req slot} (h : s.Canon) : NextCanon (execKeySlotRead req slot s) := next (h.accessWrite fun _ ht => ht.goKsRead)

/-! ### Counter snapshots, event selection and windows -/

theorem execGroupSnap {req group val} (h : s.Canon) : NextCanon (execGroupSnap req group val s) := next (h.accessWrite fun _ ht => ht.grpCtlWrite)

theorem execGroupClear {req group val} (h : s.Canon) : NextCanon (execGroupClear req group val s) := next (h.accessWrite fun _ ht => ht.grpCtlWrite)

theorem execSnapAll {req val} (h : s.Canon) : NextCanon (execSnapAll req val s) := next (h.accessWrite fun _ ht => ht.monCtlWrite)

theorem execPcSelect {req group k val} (h : s.Canon) : NextCanon (execPcSelect req group k val s) := next (h.accessWrite fun _ ht => ht.pcSelect)

theorem execBwWindowEnd {dt} (h : s.Canon) : NextCanon (execBwWindowEnd dt s) :=
  next (of_ite h.pass (bwRestart (setFld (h.pass.each fun _ _ ht => ht.set64.set64))))

theorem execBwCfgWrite {req val} (h : s.Canon) : NextCanon (execBwCfgWrite req val s) := next (h.accessWrite fun _ ht => ht.bwCfgWrite)

theorem execHealthWindowEnd (h : s.Canon) : NextCanon (execHealthWindowEnd s) := next (h.cond fun _ ht => ht.frame)

/-! ### Resets -/

theorem execPwronNAssert (h : s.Canon) : NextCanon (execPwronNAssert s) := next (of_ite h (of_ite h.frame (pornReset )))

theorem execPwronNRelease {pf1 base} (h : s.Canon) : NextCanon (execPwronNRelease pf1 base s) := next (of_ite h (of_ite h.frame h.frame.pornEnd))

theorem execAonSupplyLow (h : s.Canon) : NextCanon (execAonSupplyLow s) := next (of_ite h (of_ite h.frame (pornReset )))

theorem execAonSupplyGood {pf1 base} (h : s.Canon) : NextCanon (execAonSupplyGood pf1 base s) := next (of_ite h (of_ite h.frame h.frame.pornEnd))

theorem execWarmNAssert (h : s.Canon) : NextCanon (execWarmNAssert s) := next (of_ite h h.chipReset.frame)

theorem execWarmNRelease (h : s.Canon) : NextCanon (execWarmNRelease s) := next (of_ite h.frame h)

theorem execSysRstWrite {req val} (h : s.Canon) : NextCanon (execSysRstWrite req val s) := next (h.accessWrite fun _ ht => ht.rstWrite)

theorem execBlockReset {req val} (h : s.Canon) : NextCanon (execBlockReset req val s) := next (h.accessWrite fun _ ht => ht.blkrstWrite)

theorem execBlockResetEnd {block} (h : s.Canon) : NextCanon (execBlockResetEnd block s) :=
  next (of_ite h (of_ite h.clrBit (of_ite h.clrBit.restoreMaps (of_ite h.clrBit.trainGroups h.clrBit))))

/-! ### Reinstatement and commit -/

theorem execSetupReinstate (h : s.Canon) : NextCanon (execSetupReinstate s) := by
  unfold Machine.execSetupReinstate
  refine next (of_ite h ?_)
  split
  · exact h
  · exact h.adoptSetup.setClass.setFlag

theorem execConfigCommit {req} (h : s.Canon) : NextCanon (execConfigCommit req s) := next (h.accessWrite fun _ ht => ht.commitWrite)

theorem execCommitCheckComplete (h : s.Canon) : NextCanon (execCommitCheckComplete s) := by
  unfold Machine.execCommitCheckComplete
  refine next (of_ite h ?_)
  extract_lets
  split
  · exact h.netCommit_fst.setFld.commitAccept
  · exact h.netCommit_fst.setFld.setFld.setFld

/-! ### The mode sequencer -/

theorem execNightRequest {req} (h : s.Canon) : NextCanon (execNightRequest req s) := next (h.accessWrite fun _ ht => ht.nightRequest)

theorem execNightCancel {req} (h : s.Canon) : NextCanon (execNightCancel req s) := next (h.accessWrite fun _ ht => ht.abandonNight)

theorem execNightDrainComplete (h : s.Canon) : NextCanon (execNightDrainComplete s) :=
  next (of_ite h (of_ite h.becomeStale.frame.heartbeats.enterNight h.enterNight))

theorem execNightDrainTimeout (h : s.Canon) : NextCanon (execNightDrainTimeout s) := next (of_ite h.abandonNight h)

theorem execPowerGatesClosed (h : s.Canon) : NextCanon (execPowerGatesClosed s) := next (of_ite h (of_ite (startDawn ) h.frame))

theorem execWakePin (h : s.Canon) : NextCanon (execWakePin s) := h.wake.next

theorem execPerstRelease {lanes rate} (h : s.Canon) : NextCanon (execPerstRelease lanes rate s) := next (of_ite h.wake.linkTrain h.wake)

theorem execClaimLossWake (h : s.Canon) : NextCanon (execClaimLossWake s) := h.wake.next

theorem execAlarmCountdownEnd (h : s.Canon) : NextCanon (execAlarmCountdownEnd s) := next (of_ite h.frame.wake h)

theorem execMainPowerGatesOpen (h : s.Canon) : NextCanon (execMainPowerGatesOpen s) := next (of_ite h.frame h)

theorem execPllLock {lanes rate kek prov ikh} (h : s.Canon) : NextCanon (execPllLock lanes rate kek prov ikh s) :=
  next (of_ite h (of_ite h.frame.loadFuses.linkTrain.setFld.bootFails h.frame.loadFuses.linkTrain))

theorem execAvsSetpoint {acked} (h : s.Canon) : NextCanon (execAvsSetpoint acked s) := next (of_ite h.avsWrite h)

theorem execAvsRetry {acked} (h : s.Canon) : NextCanon (execAvsRetry acked s) := next (of_ite h.avsWrite h)

theorem execImageVerified {nor header body} (h : s.Canon) : NextCanon (execImageVerified nor header body s) := by
  unfold Machine.execImageVerified
  refine next (of_ite h ?_)
  split
  · exact h
  · exact of_ite h.bootRun h

theorem execImageFailed {nor header body readError} (h : s.Canon) : NextCanon (execImageFailed nor header body readError s) := by
  unfold Machine.execImageFailed
  refine next (of_ite h ?_)
  split
  · exact h
  · exact of_ite h (of_ite h.frame.setBootCode.bootFails h.frame.setBootCode)

theorem execSramBistComplete {bad} (h : s.Canon) : NextCanon (execSramBistComplete bad s) := by
  unfold Machine.execSramBistComplete
  refine next (of_ite h ?_)
  split
  · exact h.frame
  · exact h.setFld.bootFails

theorem execSramInitComplete {katBad} (h : s.Canon) : NextCanon (execSramInitComplete katBad s) :=
  next (of_ite h (syncKat (h.frame.each fun _ _ ht => ht.katFail)))

theorem execDramTrainingComplete {densities} (h : s.Canon) : NextCanon (execDramTrainingComplete densities s) :=
  next (of_ite h h.frame.setFld.setFld.setFld.setFld)

theorem execDawnComplete (h : s.Canon) : NextCanon (execDawnComplete s) :=
  next (of_ite h (trainGroups (restoreMaps (h.enterMode.fillBuckets.each fun _ _ ht => ht.setGate))))

theorem execCriticalSramUe {unit} (h : s.Canon) : NextCanon (execCriticalSramUe unit s) := h.criticalUe.next

theorem execWdogKick {req val} (h : s.Canon) : NextCanon (execWdogKick req val s) := by
  unfold Machine.execWdogKick
  refine next ?_
  split
  · exact of_ite h.kick (h.accessWrite fun _ ht => ht.kick)
  · exact h.accessWrite fun _ ht => ht.kick

theorem execWdogStage1Expiry (h : s.Canon) : NextCanon (execWdogStage1Expiry s) :=
  next (of_ite h (of_ite h.setFlag.wdogReset (wdogLoad (frame (of_ite h.setFlag.setFlag.midnight h.setFlag)))))

theorem execWdogStage2Expiry (h : s.Canon) : NextCanon (execWdogStage2Expiry s) := next (of_ite h.wdogReset h)

theorem execSwapRequest {req} (h : s.Canon) : NextCanon (execSwapRequest req s) := next (h.accessWrite fun _ ht => ht.swapRequest)

theorem execPdiStatusFrame {chans feeds} (h : s.Canon) : NextCanon (execPdiStatusFrame chans feeds s) := by
  unfold Machine.execPdiStatusFrame
  refine next (of_ite h (cond ?_ fun _ ht => ht.frame))
  refine each ?_ fun _ _ ht => ?_
  · refine each h fun _ _ ht => ?_
    split
    · exact ht.setFld.setFld
    · exact ht
  · split
    · exact ht.setFld.setFld.setFld
    · exact ht

theorem execPdiLoss (h : s.Canon) : NextCanon (execPdiLoss s) := next (of_ite h.setFlag h)

theorem execPdiRecovery (h : s.Canon) : NextCanon (execPdiRecovery s) := next (of_ite h.setFlag.slotsJudge h)

theorem execClusterClockGate {cluster} (h : s.Canon) : NextCanon (execClusterClockGate cluster s) := next (of_ite h.setGate h)

theorem execClusterPowerGate {cluster} (h : s.Canon) : NextCanon (execClusterPowerGate cluster s) := next (of_ite h.setGate h)

theorem execGatingEntryComplete {cluster} (h : s.Canon) : NextCanon (execGatingEntryComplete cluster s) := by
  unfold Machine.execGatingEntryComplete
  refine next (of_ite h ?_)
  extract_lets
  split
  · exact h.frame.setGate.cond fun _ ht => ht.wakeCluster
  · exact h.frame.setGate.cond fun _ ht => ht.wakeCluster
  · exact h

theorem execPipelineClockGate {pipe} (h : s.Canon) : NextCanon (execPipelineClockGate pipe s) := next (of_ite h.setFlag h)

theorem execGatedDomainAccess {domain} (h : s.Canon) : NextCanon (execGatedDomainAccess domain s) := by
  unfold Machine.execGatedDomainAccess
  refine next (of_ite h ?_)
  split
  · exact h.wakeCluster
  · exact h.setFlag

theorem execXtalSwitch (h : s.Canon) : NextCanon (execXtalSwitch s) := next (of_ite h h.frame)

theorem execXtalFail (h : s.Canon) : NextCanon (execXtalFail s) := h.frame.next

theorem execJtagInstruction {instr} (h : s.Canon) : NextCanon (execJtagInstruction instr s) := by
  unfold Machine.execJtagInstruction
  refine next ?_
  split
  · exact h.emit
  · exact of_ite h.frame.emit h.emit
  · exact h.emit

/-! ### Register accesses -/

theorem execRegisterWrite {place val aux} (h : s.Canon) : NextCanon (execRegisterWrite place val aux s) := by
  unfold Machine.execRegisterWrite
  refine next ?_
  split
  · exact h.bar0Write
  · exact h.bar2Write
  · exact h

theorem execRwcWriteAttempt {req off} (h : s.Canon) : NextCanon (execRwcWriteAttempt req off s) := next (of_ite h.rwcAttempt h)

theorem execRead64bitLowWord {place} (h : s.Canon) : NextCanon (execRead64bitLowWord place s) := h.placeRead.next

theorem execRcRead {place} (h : s.Canon) : NextCanon (execRcRead place s) := h.placeRead.next

theorem execMalformedAccess {place write narrow} (h : s.Canon) : NextCanon (execMalformedAccess place write narrow s) := by
  unfold Machine.execMalformedAccess
  refine next ?_
  split
  · refine of_ite ?_ ?_
    · exact h.cond fun _ ht => of_ite ht.malformed ht.malformed.emit
    · exact of_ite h (of_ite (h.accessWrite fun _ ht => ht) (h.readRefused.cond fun _ ht => ht.emit))
  · exact of_ite h (of_ite (of_ite h.malformed h.malformed.emit) (of_ite h.bar2Write h.bar2Read))
  · exact h

end Sys2Proof.Machine.State.Canon
end

section
namespace Sys2Proof.Machine.State.Canon
variable {s : State}

/-! ### One step -/

/-- Every command leaves the register file canonical. -/
theorem exec (h : s.Canon) (c : Instr) : NextCanon (exec c s) := match c with
  | .registerWrite .. => execRegisterWrite h
  | .malformedAccess .. => execMalformedAccess h
  | .read64bitLowWord .. => execRead64bitLowWord h
  | .rcRead .. => execRcRead h
  | .rwcWriteAttempt .. => execRwcWriteAttempt h
  | .pwronNAssert => execPwronNAssert h
  | .pwronNRelease .. => execPwronNRelease h
  | .aonSupplyLow => execAonSupplyLow h
  | .aonSupplyGood .. => execAonSupplyGood h
  | .warmNAssert => execWarmNAssert h
  | .warmNRelease => execWarmNRelease h
  | .sysRstWrite .. => execSysRstWrite h
  | .blockReset .. => execBlockReset h
  | .blockResetEnd .. => execBlockResetEnd h
  | .pdiStatusFrame .. => execPdiStatusFrame h
  | .pdiLoss => execPdiLoss h
  | .pdiRecovery => execPdiRecovery h
  | .clusterClockGate .. => execClusterClockGate h
  | .clusterPowerGate .. => execClusterPowerGate h
  | .gatingEntryComplete .. => execGatingEntryComplete h
  | .pipelineClockGate .. => execPipelineClockGate h
  | .gatedDomainAccess .. => execGatedDomainAccess h
  | .wakePin => execWakePin h
  | .perstRelease .. => execPerstRelease h
  | .claimLossWake => execClaimLossWake h
  | .nightRequest .. => execNightRequest h
  | .nightCancel .. => execNightCancel h
  | .nightDrainComplete => execNightDrainComplete h
  | .nightDrainTimeout => execNightDrainTimeout h
  | .powerGatesClosed => execPowerGatesClosed h
  | .alarmCountdownEnd => execAlarmCountdownEnd h
  | .mainPowerGatesOpen => execMainPowerGatesOpen h
  | .pllLock .. => execPllLock h
  | .avsSetpoint .. => execAvsSetpoint h
  | .avsRetry .. => execAvsRetry h
  | .imageVerified .. => execImageVerified h
  | .imageFailed .. => execImageFailed h
  | .sramBistComplete .. => execSramBistComplete h
  | .sramInitComplete .. => execSramInitComplete h
  | .dramTrainingComplete .. => execDramTrainingComplete h
  | .dawnComplete => execDawnComplete h
  | .setupReinstate => execSetupReinstate h
  | .configCommit .. => execConfigCommit h
  | .commitCheckComplete => execCommitCheckComplete h
  | .criticalSramUe .. => execCriticalSramUe h
  | .wdogKick .. => execWdogKick h
  | .wdogStage1Expiry => execWdogStage1Expiry h
  | .wdogStage2Expiry => execWdogStage2Expiry h
  | .swapRequest .. => execSwapRequest h
  | .ucodeActivate .. => execUcodeActivate h
  | .engineBankSwitch .. => execEngineBankSwitch h
  | .ucodeBankLoad .. => execUcodeBankLoad h
  | .portCfgWrite .. => execPortCfgWrite h
  | .portEnable .. => execPortEnable h
  | .portDisable .. => execPortDisable h
  | .portRestart .. => execPortRestart h
  | .laneCheckComplete .. => execLaneCheckComplete h
  | .anResolved .. => execAnResolved h
  | .anRetryTimer .. => execAnRetryTimer h
  | .trainingComplete .. => execTrainingComplete h
  | .trainingFail .. => execTrainingFail h
  | .upHoldExpiry .. => execUpHoldExpiry h
  | .linkLost .. => execLinkLost h
  | .linkRestored .. => execLinkRestored h
  | .downHoldExpiry .. => execDownHoldExpiry h
  | .faultHoldExpiry .. => execFaultHoldExpiry h
  | .rxFrame .. => execRxFrame h
  | .pauseFrameRx .. => execPauseFrameRx h
  | .recircPass .. => execRecircPass h
  | .pfcXoffRepeat .. => execPfcXoffRepeat h
  | .wredIdleUpdate .. => execWredIdleUpdate h
  | .matchSlot => execMatchSlot h
  | .tblInsert .. => execTblInsert h
  | .tblDelete .. => execTblDelete h
  | .tblSearch .. => execTblSearch h
  | .tblReadSlot .. => execTblReadSlot h
  | .tblClear .. => execTblClear h
  | .tblClearDone => execTblClearDone h
  | .lagRebal .. => execLagRebal h
  | .egressSelect .. => execEgressSelect h
  | .wheelSlotAdvance => execWheelSlotAdvance h
  | .gateEntryChange .. => execGateEntryChange h
  | .gateBankChange .. => execGateBankChange h
  | .gateBankSwitch .. => execGateBankSwitch h
  | .depthSample .. => execDepthSample h
  | .counterClear .. => execCounterClear h
  | .tsFifoPop .. => execTsFifoPop h
  | .timeRead .. => execTimeRead h
  | .timeStep .. => execTimeStep h
  | .timeAdjust .. => execTimeAdjust h
  | .ppsOutPulse .. => execPpsOutPulse h
  | .ppsInEdge .. => execPpsInEdge h
  | .rdmaRequestRx .. => execRdmaRequestRx h
  | .reorderTimerExpiry .. => execReorderTimerExpiry h
  | .ackDelayExpiry .. => execAckDelayExpiry h
  | .ackTimeout .. => execAckTimeout h
  | .ackRx .. => execAckRx h
  | .nakRx .. => execNakRx h
  | .rnrWaitExpiry .. => execRnrWaitExpiry h
  | .readResponseRx .. => execReadResponseRx h
  | .readGapTimeout .. => execReadGapTimeout h
  | .cnpRx .. => execCnpRx h
  | .ccRecoverStep .. => execCcRecoverStep h
  | .requesterMessageStart .. => execRequesterMessageStart h
  | .qpcModify .. => execQpcModify h
  | .qpcRead .. => execQpcRead h
  | .qpFlushComplete .. => execQpFlushComplete h
  | .winMap .. => execWinMap h
  | .winRevoke .. => execWinRevoke h
  | .winModify .. => execWinModify h
  | .winRead .. => execWinRead h
  | .winFree .. => execWinFree h
  | .winStallLimit .. => execWinStallLimit h
  | .connect .. => execConnect h
  | .disconnect .. => execDisconnect h
  | .propertyGet .. => execPropertyGet h
  | .propertySet .. => execPropertySet h
  | .authenticationSend .. => execAuthenticationSend h
  | .authenticationReceive .. => execAuthenticationReceive h
  | .getLogPage .. => execGetLogPage h
  | .identify .. => execIdentify h
  | .abort .. => execAbort h
  | .setFeatures .. => execSetFeatures h
  | .getFeatures .. => execGetFeatures h
  | .asyncEventRequest .. => execAsyncEventRequest h
  | .keepAlive .. => execKeepAlive h
  | .windowMapCmd .. => execWindowMapCmd h
  | .windowRevokeCmd .. => execWindowRevokeCmd h
  | .ringAttach .. => execRingAttach h
  | .ringDetach .. => execRingDetach h
  | .ringReepoch .. => execRingReepoch h
  | .commitStage .. => execCommitStage h
  | .commitConfirm .. => execCommitConfirm h
  | .unsupportedCommand .. => execUnsupportedCommand h
  | .ioFlush .. => execIoFlush h
  | .ioWrite .. => execIoWrite h
  | .ioRead .. => execIoRead h
  | .ioCompare .. => execIoCompare h
  | .ioWriteZeroes .. => execIoWriteZeroes h
  | .ioDatasetManagement .. => execIoDatasetManagement h
  | .keepAliveExpiry .. => execKeepAliveExpiry h
  | .doorbellReadDue .. => execDoorbellReadDue h
  | .doorbellReadReturn .. => execDoorbellReadReturn h
  | .ringEntryReturn .. => execRingEntryReturn h
  | .localNudge .. => execLocalNudge h
  | .arbiterAdmit .. => execArbiterAdmit h
  | .lockGrant .. => execLockGrant h
  | .govAdmit .. => execGovAdmit h
  | .commandRetire .. => execCommandRetire h
  | .lastFrameTransmitted .. => execLastFrameTransmitted h
  | .engineTake .. => execEngineTake h
  | .contextResume .. => execContextResume h
  | .stealProbe .. => execStealProbe h
  | .localProbeTimeout .. => execLocalProbeTimeout h
  | .remoteStealProbe .. => execRemoteStealProbe h
  | .probeSleepTimeout .. => execProbeSleepTimeout h
  | .helpSignal .. => execHelpSignal h
  | .engineUeRestart .. => execEngineUeRestart h
  | .segmentPlace .. => execSegmentPlace h
  | .globalBroadcast .. => execGlobalBroadcast h
  | .globalBarrier .. => execGlobalBarrier h
  | .globalSnapshot .. => execGlobalSnapshot h
  | .globalReset .. => execGlobalReset h
  | .barrierArrived => execBarrierArrived h
  | .barrierDrainDone => execBarrierDrainDone h
  | .snapshotLocalArm => execSnapshotLocalArm h
  | .driveCommandIssue .. => execDriveCommandIssue h
  | .driveSqRead .. => execDriveSqRead h
  | .driveDmaAccess .. => execDriveDmaAccess h
  | .driveCqeWrite .. => execDriveCqeWrite h
  | .cqHeadDoorbell .. => execCqHeadDoorbell h
  | .slotResetRelease .. => execSlotResetRelease h
  | .driveLinkUp .. => execDriveLinkUp h
  | .driveReady .. => execDriveReady h
  | .driveQualify .. => execDriveQualify h
  | .driveRemoval .. => execDriveRemoval h
  | .dpcLinkRetrain .. => execDpcLinkRetrain h
  | .xpHotplugEvent .. => execXpHotplugEvent h
  | .xpLinkDown .. => execXpLinkDown h
  | .reservationAcquireDone .. => execReservationAcquireDone h
  | .acquireTimeout .. => execAcquireTimeout h
  | .driveCmdTimeout .. => execDriveCmdTimeout h
  | .abortWaitExpiry .. => execAbortWaitExpiry h
  | .ctrlDisabled .. => execCtrlDisabled h
  | .ctrlReady .. => execCtrlReady h
  | .ctrlReadyTimeout .. => execCtrlReadyTimeout h
  | .ctrlResetComplete .. => execCtrlResetComplete h
  | .driveReissueTimer .. => execDriveReissueTimer h
  | .memberFailCmd .. => execMemberFailCmd h
  | .memberReleaseCmd .. => execMemberReleaseCmd h
  | .memberRequalifyCmd .. => execMemberRequalifyCmd h
  | .writeDataReadIssue .. => execWriteDataReadIssue h
  | .journalAppend .. => execJournalAppend h
  | .destageStart .. => execDestageStart h
  | .destageComplete .. => execDestageComplete h
  | .intentBlockWrite => execIntentBlockWrite h
  | .intentReplay .. => execIntentReplay h
  | .intentResync .. => execIntentResync h
  | .powerFailWarning .. => execPowerFailWarning h
  | .powerFailClear .. => execPowerFailClear h
  | .missingHoldExpiry .. => execMissingHoldExpiry h
  | .rebuildChunk .. => execRebuildChunk h
  | .memberReturn .. => execMemberReturn h
  | .setCreate .. => execSetCreate h
  | .setDelete .. => execSetDelete h
  | .setReplace .. => execSetReplace h
  | .patrolNow .. => execPatrolNow h
  | .patrolChunk .. => execPatrolChunk h
  | .volCreate .. => execVolCreate h
  | .volResize .. => execVolResize h
  | .volDelete .. => execVolDelete h
  | .lostRead .. => execLostRead h
  | .lostClear .. => execLostClear h
  | .eventLogPop .. => execEventLogPop h
  | .holdupWrite .. => execHoldupWrite h
  | .fillInstall .. => execFillInstall h
  | .prefetchFillComplete .. => execPrefetchFillComplete h
  | .mntInvalidate .. => execMntInvalidate h
  | .mntClean .. => execMntClean h
  | .mntPrefetch .. => execMntPrefetch h
  | .mntLock .. => execMntLock h
  | .mntUnlock .. => execMntUnlock h
  | .mntDonePop .. => execMntDonePop h
  | .cacheDisable .. => execCacheDisable h
  | .dramScrubLine .. => execDramScrubLine h
  | .dramUe .. => execDramUe h
  | .stagingUe .. => execStagingUe h
  | .cipherRequest .. => execCipherRequest h
  | .sectorVerified .. => execSectorVerified h
  | .authFailure .. => execAuthFailure h
  | .katRun .. => execKatRun h
  | .katComplete .. => execKatComplete h
  | .hwmAck .. => execHwmAck h
  | .zeroizeComplete .. => execZeroizeComplete h
  | .keySlotRead .. => execKeySlotRead h
  | .govSlowTick .. => execGovSlowTick h
  | .govIntervalEnd => execGovIntervalEnd h
  | .deferExpiry .. => execDeferExpiry h
  | .driveIdleLow .. => execDriveIdleLow h
  | .nzlGroupTrained .. => execNzlGroupTrained h
  | .nzlGroupRetry .. => execNzlGroupRetry h
  | .nzlBadFrame .. => execNzlBadFrame h
  | .mirrorRx .. => execMirrorRx h
  | .metaRx .. => execMetaRx h
  | .cfgRx .. => execCfgRx h
  | .heartbeatRx .. => execHeartbeatRx h
  | .fenceRx .. => execFenceRx h
  | .claimReportRx .. => execClaimReportRx h
  | .handbackRx .. => execHandbackRx h
  | .mboxRx .. => execMboxRx h
  | .snapshotArmRx .. => execSnapshotArmRx h
  | .swapEndRx .. => execSwapEndRx h
  | .snapshotArmedRx .. => execSnapshotArmedRx h
  | .nzlReplayTimeout .. => execNzlReplayTimeout h
  | .heartbeatSend .. => execHeartbeatSend h
  | .partnerSilenceTimeout => execPartnerSilenceTimeout h
  | .ackStallTimeout => execAckStallTimeout h
  | .fenceWrite .. => execFenceWrite h
  | .staleTimeout => execStaleTimeout h
  | .lossHoldExpiry => execLossHoldExpiry h
  | .claimRoundStart => execClaimRoundStart h
  | .claimRoundEnd .. => execClaimRoundEnd h
  | .takeoverAdmissionOpen => execTakeoverAdmissionOpen h
  | .partnerHandshake => execPartnerHandshake h
  | .handshakeTimeout => execHandshakeTimeout h
  | .resyncComplete => execResyncComplete h
  | .swapDrainTimeout => execSwapDrainTimeout h
  | .handbackHoldoff => execHandbackHoldoff h
  | .scheduledSwap => execScheduledSwap h
  | .cmtStage .. => execCmtStage h
  | .cmtConfirm .. => execCmtConfirm h
  | .cmtCancel .. => execCmtCancel h
  | .commitWindowLapse => execCommitWindowLapse h
  | .aclRead .. => execAclRead h
  | .jtagClose => execJtagClose h
  | .flrPf1 => execFlrPf1 h
  | .flrPf0 => execFlrPf0 h
  | .bmeClear => execBmeClear h
  | .bmeSet => execBmeSet h
  | .perstAssert => execPerstAssert h
  | .l0sEntry => execL0sEntry h
  | .l1Entry => execL1Entry h
  | .pcieCompletionRx .. => execPcieCompletionRx h
  | .completionTimeout .. => execCompletionTimeout h
  | .tagQuarantineEnd .. => execTagQuarantineEnd h
  | .localAdminEnable .. => execLocalAdminEnable h
  | .localAdminDisable .. => execLocalAdminDisable h
  | .diagApertureRead .. => execDiagApertureRead h
  | .mbxTx .. => execMbxTx h
  | .mbxTxEom .. => execMbxTxEom h
  | .mbxRx .. => execMbxRx h
  | .mbxAck .. => execMbxAck h
  | .mbxFarEndDown .. => execMbxFarEndDown h
  | .mbxFarEndUp .. => execMbxFarEndUp h
  | .presenceDebounced .. => execPresenceDebounced h
  | .slotRampStart .. => execSlotRampStart h
  | .slotPowerGood .. => execSlotPowerGood h
  | .slotPgLoss .. => execSlotPgLoss h
  | .gateNoRise .. => execGateNoRise h
  | .currentLimit .. => execCurrentLimit h
  | .faultTimerExpiry .. => execFaultTimerExpiry h
  | .fastTrip .. => execFastTrip h
  | .slotReverseCurrent .. => execSlotReverseCurrent h
  | .sagReramp .. => execSagReramp h
  | .retryWaitExpiry .. => execRetryWaitExpiry h
  | .attemptsClear .. => execAttemptsClear h
  | .slotClear .. => execSlotClear h
  | .slotModeWrite .. => execSlotModeWrite h
  | .feedReversed .. => execFeedReversed h
  | .feedPolarityRestored .. => execFeedPolarityRestored h
  | .feedPrechargeStart .. => execFeedPrechargeStart h
  | .feedPrechargeDone .. => execFeedPrechargeDone h
  | .feedPrechargeTimeout .. => execFeedPrechargeTimeout h
  | .feedReverse .. => execFeedReverse h
  | .feedUnblock .. => execFeedUnblock h
  | .feedOvervoltage .. => execFeedOvervoltage h
  | .feedUndervoltage .. => execFeedUndervoltage h
  | .feedFaultWaitExpiry .. => execFeedFaultWaitExpiry h
  | .feedDisable .. => execFeedDisable h
  | .senseWireOpen .. => execSenseWireOpen h
  | .vhvUvlo => execVhvUvlo h
  | .sgpioFrame .. => execSgpioFrame h
  | .smbusStuck .. => execSmbusStuck h
  | .groupSnap .. => execGroupSnap h
  | .snapAll .. => execSnapAll h
  | .groupClear .. => execGroupClear h
  | .pcSelect .. => execPcSelect h
  | .bwWindowEnd .. => execBwWindowEnd h
  | .bwCfgWrite .. => execBwCfgWrite h
  | .healthWindowEnd => execHealthWindowEnd h
  | .xtalSwitch => execXtalSwitch h
  | .xtalFail => execXtalFail h
  | .configurationRequest .. => execConfigurationRequest h
  | .pauseTimeExpiry .. => execPauseTimeExpiry h
  | .ringIdleTimeout .. => execRingIdleTimeout h
  | .nzlGroupLinkLoss .. => execNzlGroupLinkLoss h
  | .nzlTrainingFail .. => execNzlTrainingFail h
  | .controllerFatalStatus .. => execControllerFatalStatus h
  | .vhvUvloRecovery => execVhvUvloRecovery h
  | .jtagInstruction .. => execJtagInstruction h

theorem step (h : s.Canon) : NextCanon (step s) := by
  unfold Machine.step
  split
  · exact h.next
  · exact exec h.frame _

end Sys2Proof.Machine.State.Canon

namespace Sys2Proof.Machine

/-- Settles O4: no effect writes the register file but through writeRegs, filters and resets, so every command keeps it canonical (R8, R15). -/
theorem stepKeepsCanonicalRegisters : Obligations.StepKeepsCanonicalRegisters := by
  unfold Obligations.StepKeepsCanonicalRegisters
  intro s t h e
  exact ((State.Canon.step ⟨h⟩).canon t e).regsOk

end Sys2Proof.Machine
end

section
/-! SUPPORT. Offsets that no register occupies (R25): where the register map ends within a block, and what an access there counts. -/

namespace Sys2Proof.Machine

/-! ### Where no register lies -/

/-- A register that is found lies at an element of its descriptor's array. -/
theorem findReg_index {l : List RegDesc} {off : Nat} {d : RegDesc} {ix : List Nat} (h : findReg l off = some (d, ix)) :
    d.base ≤ off ∧ dimIndex d.dims (off - d.base) = some ix := by
  induction l with
  | nil => simp [findReg] at h
  | cons a l ih =>
    unfold findReg at h
    split at h
    next hbase =>
      split at h
      next ix' hix =>
        split at h
        · simp only [Option.some.injEq, Prod.mk.injEq] at h
          obtain ⟨rfl, rfl⟩ := h
          exact ⟨hbase, hix⟩
        · exact ih h
      · exact ih h
    · exact ih h

/-- The distance of an array's last element from its base. -/
def dimTop : List (Nat × Nat) → Nat
  | [] => 0
  | (stride, count) :: ds => stride * (count - 1) + dimTop ds

theorem le_dimTop {dims : List (Nat × Nat)} {r : Nat} {ix : List Nat} (h : dimIndex dims r = some ix) : r ≤ dimTop dims := by
  induction dims generalizing r ix with
  | nil =>
    simp only [dimIndex] at h
    split at h
    next hr => exact hr.le
    · simp at h
  | cons e ds ih =>
    obtain ⟨stride, count⟩ := e
    simp only [dimIndex] at h
    split at h
    next hlt =>
      obtain ⟨ix', hix, -⟩ := Option.map_eq_some_iff.1 h
      calc r = stride * (r / stride) + r % stride := (Nat.div_add_mod r stride).symm
        _ ≤ stride * (count - 1) + dimTop ds := Nat.add_le_add (Nat.mul_le_mul_left _ (by omega)) (ih hix)
    · simp at h

/-- Every register of a descriptor lies below a bound. -/
def RegDesc.below (bound : Nat) (d : RegDesc) : Bool := decide (d.base + dimTop d.dims < bound)

/-- No register of the network block lies beyond its last port page. -/
theorem regsNet_below : regsNet.all (RegDesc.below 0x140000) = true := by decide

theorem findReg_eq_none_of_below {l : List RegDesc} {bound off : Nat} (hl : l.all (RegDesc.below bound) = true) (h : bound ≤ off) : findReg l off = none := by
  cases hf : findReg l off with
  | none => rfl
  | some e =>
    obtain ⟨hbase, hix⟩ := findReg_index (d := e.1) (ix := e.2) hf
    have htop := le_dimTop hix
    have hlt := List.all_eq_true.1 hl _ (findReg_mem (d := e.1) (ix := e.2) hf)
    simp only [RegDesc.below, decide_eq_true_eq] at hlt
    omega

/-- The gap between the 64 KiB blocks and the network block. -/
theorem regAt_gap_low {off : Nat} (h0 : 0x50000 ≤ off) (h1 : off < 0x100000) : regAt off = none := by
  have hblk : off / 0x100000 = 0 := by omega
  obtain ⟨k, hk⟩ : ∃ k, off / 0x10000 = k + 5 := ⟨off / 0x10000 - 5, by omega⟩
  rw [regAt, regBlock, if_neg (by omega), hblk, hk]
  rfl

/-- The gap behind the port pages of the network block. -/
theorem regAt_gap_net {off : Nat} (h0 : 0x140000 ≤ off) (h1 : off < 0x200000) : regAt off = none := by
  have hblk : off / 0x100000 = 1 := by omega
  rw [regAt, regBlock, if_neg (by omega), hblk]
  exact findReg_eq_none_of_below regsNet_below h0

/-- The gap behind the last 1 MiB block. -/
theorem regAt_gap_high {off : Nat} (h0 : 0x1000000 ≤ off) (h1 : off < 0x4000000) : regAt off = none := by
  obtain ⟨k, hk⟩ : ∃ k, off / 0x100000 = k + 16 := ⟨off / 0x100000 - 16, by omega⟩
  rw [regAt, regBlock, if_neg (by omega), hk]
  rfl

/-! ### What an access there counts -/

theorem State.absent_of_regAt_none (s : State) (req : Requester) {off : Nat} (h : regAt off = none) : s.absent req off = true := by
  simp [State.absent, h]

/-- A write to an offset that does not answer is refused by class or malformed, whatever effect it would have. -/
theorem State.accessWrite_of_absent (s : State) (req : Requester) (off : Nat) (f : State → State) (hr : s.reachable req = true) (ha : s.absent req off = true) :
    s.accessWrite req off f = if s.classOf req < 2 then s.privRefused else s.malformed := by
  simp [State.accessWrite, hr, ha]

/-- The requester's class refuses a read (R374). -/
def State.readBelowClass (s : State) (req : Requester) (off : Nat) : Bool :=
  s.classOf req == 0 && !(off == SYS_IDREV || (0x30000 ≤ off && off < 0x40000))

theorem State.readRefused_of_absent (s : State) (req : Requester) (off : Nat) (hr : s.reachable req = true) (ha : s.absent req off = true) :
    s.readRefused req off = if s.readBelowClass req off then s.privRefused else s.malformed := by
  simp [State.readRefused, State.readBelowClass, hr, ha]

/-- A read of an offset that does not answer returns 0 and has no effect beside its counts. -/
theorem State.bar0Read_of_absent (s : State) (req : Requester) (off : Nat) (hr : s.reachable req = true) (ha : s.absent req off = true) :
    s.bar0Read req off = (s.readRefused req off).emit (.read req off 0) := by
  have hok : s.readOk req off = false := by simp [State.readOk, ha]
  simp [State.bar0Read, State.accessRead, State.cond, hr, hok]

theorem State.bar0Write_of_regAt_none (s : State) (req : Requester) {off : Nat} (v : Word) (aux : WriteAux) (hr : s.reachable req = true) (h : regAt off = none) :
    s.bar0Write req off v aux = if s.classOf req < 2 then s.privRefused else s.malformed := by
  have hrwc : isRwc off = false := by simp [isRwc, h]
  have hcmt : off ≠ PROT_CMT_CMD := by
    rintro rfl
    exact absurd h (by decide)
  simp only [State.bar0Write, hrwc, hcmt, decide_false, Bool.false_and, Bool.false_eq_true, if_false]
  exact s.accessWrite_of_absent req off _ hr (s.absent_of_regAt_none req h)

theorem State.get64_malformed_privRefused (s : State) : s.privRefused.get64 CNT_HEP_MALFORMED = (s.get64 CNT_HEP_MALFORMED + 1) % 2 ^ 64 := by
  have hpriv := (RegsOnly.refl [CNT_PROT_PRIV_REFUSED, CNT_PROT_PRIV_REFUSED + 4] s).bump CNT_PROT_PRIV_REFUSED rfl (by simp) (by simp)
  rw [State.privRefused, State.get64_malformed, hpriv.get64 (by decide) (by decide)]

theorem RegsOnly.mono {offs offs' : List Nat} {s t : State} (h : RegsOnly offs s t) (hsub : offs ⊆ offs') : RegsOnly offs' s t :=
  ⟨h.1, fun off ho => h.2 off fun hm => ho (hsub hm)⟩

/-- Refused by class or malformed, an access is counted as malformed, and the two refusal counters are all it changes (R25, R374). -/
theorem State.refused_shows (s : State) (belowClass : Prop) [Decidable belowClass] :
    (if belowClass then s.privRefused else s.malformed).get64 CNT_HEP_MALFORMED = (s.get64 CNT_HEP_MALFORMED + 1) % 2 ^ 64 ∧
      RegsOnly [CNT_HEP_MALFORMED, CNT_HEP_MALFORMED + 4, CNT_PROT_PRIV_REFUSED, CNT_PROT_PRIV_REFUSED + 4] s (if belowClass then s.privRefused else s.malformed) := by
  split
  · exact ⟨s.get64_malformed_privRefused, s.privRefused_frame.mono (by simp)⟩
  · exact ⟨s.get64_malformed, s.malformed_frame.mono (by simp)⟩

end Sys2Proof.Machine

open Sys2Proof Sys2Proof.Machine

/-- Settles O21: no register lies there, so a write and a read are refused by class or malformed before any effect. -/
theorem unoccupiedOffsets : Obligations.UnoccupiedOffsets := by
  unfold Obligations.UnoccupiedOffsets
  refine ⟨fun s req off val aux hr hn => ?_, fun s req off hr hn => ?_, fun off h => ?_⟩
  · have ha := s.absent_of_regAt_none req hn
    obtain ⟨hcount, hframe⟩ := s.refused_shows (s.classOf req < 2)
    refine .of_eq ?_ ⟨hcount, hframe, ?_⟩
    · simp only [exec, execRegisterWrite, s.bar0Write_of_regAt_none req val aux hr hn]
    · simp [exec, execMalformedAccess, ha, s.accessWrite_of_absent req off _ hr ha]
  · have ha := s.absent_of_regAt_none req hn
    have hread := s.bar0Read_of_absent req off hr ha
    rw [s.readRefused_of_absent req off hr ha] at hread
    obtain ⟨hcount, hframe⟩ := s.refused_shows (s.readBelowClass req off = true)
    refine .of_eq (t := s.bar0Read req off) ?_ ⟨?_, ?_, ?_, rfl, rfl⟩
    · simp [exec, execMalformedAccess, State.cond, hr, ha, s.bar0Read_of_absent req off hr ha]
    · rw [hread, State.get64_emit, hcount]
    · rw [hread, State.emit, hframe.1]
    · rw [hread]; exact hframe.emit _
  · rcases h with ⟨h0, h1⟩ | ⟨h0, h1⟩ | ⟨h0, h1⟩
    · exact regAt_gap_low h0 h1
    · exact regAt_gap_net h0 h1
    · exact regAt_gap_high h0 h1
end

section
/-! SUPPORT. The gate phases of the engine clusters, the measurements of the power die's status frame, and the outputs held without it (R17–R21, R437). -/

namespace Sys2Proof.Machine

/-! ### Gate phases -/

theorem ENG_CL_STAT_POWER_whole (c : Fin 16) : (ENG_CL_STAT_POWER c.val).whole = true := by revert c; decide

theorem CIP_PIPE_STAT_GATED_whole (p : Fin 32) : (CIP_PIPE_STAT_GATED p.val).whole = true := by revert p; decide

theorem GatePhase.code_lt (g : GatePhase) : g.code < 2 ^ 2 := by cases g <;> decide

/-- A new gate phase changes the cluster's phase and the two registers that show it (R223, R347). -/
theorem State.setGate_frame (s : State) (c : Nat) (g : GatePhase) :
    RegsOnly [(ENG_CL_STAT_POWER c).off, GOV_STAT] { s with eng := { s.eng with gates := tput s.eng.gates c g } } (s.setGate c g) :=
  ((RegsOnly.refl _ _).setFld _ _ (by simp)).setFld _ _ (by simp [GOV_STAT_AWAKE])

/-- The new phase is read back from the cluster and, as its code, from POWER. -/
theorem State.setGate_shows (s : State) (c : Fin 16) (g : GatePhase) :
    (s.setGate c.val g).gate c.val = g ∧ (s.setGate c.val g).fld (ENG_CL_STAT_POWER c.val) = g.code := by
  refine ⟨tget_tput_same _ _ _ _, ?_⟩
  have hoff : GOV_STAT_AWAKE.off ≠ (ENG_CL_STAT_POWER c.val).off := by
    simp only [GOV_STAT_AWAKE, GOV_STAT, ENG_CL_STAT_POWER, ENG_CL_STAT]; omega
  rw [State.setGate, State.fld_setFld_other _ _ _ _ hoff, State.fld_setFld_same _ _ _ (ENG_CL_STAT_POWER_whole c)]
  exact Nat.mod_eq_of_lt g.code_lt

/-- A charge changes the buckets and the three registers that show them (R330, R331). -/
theorem State.charge_frame (s : State) (entry n : Nat) :
    RegsOnly [GOV_CHIP_LVL, GOV_DRV_LVL, GOV_STAT] { s with gov := (s.charge entry n).gov } (s.charge entry n) :=
  (((RegsOnly.refl _ _).setFld GOV_CHIP_LVL_LEVEL _ (by decide)).setFld GOV_DRV_LVL_LEVEL _ (by decide)).setFlag GOV_STAT_DRV_EN _ (by decide)

theorem State.reg_charge (s : State) (entry n : Nat) {off : Nat} (h : off ∉ [GOV_CHIP_LVL, GOV_DRV_LVL, GOV_STAT]) : (s.charge entry n).reg off = s.reg off :=
  ((s.charge_frame entry n).2 off h).trans (by simp only [State.reg])

/-- Neither a new gate phase nor a charge changes a wake counter of the governor. -/
theorem State.get64_charge_setGate (s : State) (c : Fin 16) (g : GatePhase) (entry n : Nat) {counter : Nat} (hlo : CNT_GOV_WAKE_CG ≤ counter)
    (hhi : counter ≤ CNT_GOV_WAKE_PG) : ((s.setGate c.val g).charge entry n).get64 counter = s.get64 counter ∧ (s.setGate c.val g).get64 counter = s.get64 counter := by
  simp only [CNT_GOV_WAKE_CG, CNT_GOV_WAKE_PG] at hlo hhi
  have hgate : (s.setGate c.val g).get64 counter = s.get64 counter := by
    rw [(s.setGate_frame c.val g).get64 (by simp [ENG_CL_STAT_POWER, ENG_CL_STAT, GOV_STAT]; omega) (by simp [ENG_CL_STAT_POWER, ENG_CL_STAT, GOV_STAT]; omega)]
    rfl
  have hapart : ∀ off, 0x10440 ≤ off → off ∉ [GOV_CHIP_LVL, GOV_DRV_LVL, GOV_STAT] := fun off h => by
    simp [GOV_CHIP_LVL, GOV_DRV_LVL, GOV_STAT]; omega
  refine ⟨?_, hgate⟩
  rw [State.get64, State.reg_charge _ _ _ (hapart _ hlo), State.reg_charge _ _ _ (hapart _ (by omega)), ← State.get64, hgate]

/-- A wake out of a gate phase: the phase, the charge and the count of `wakeCluster`. -/
def State.wakeFrom (s : State) (c entry counter : Nat) : State := ((s.setGate c .awake).charge entry 1).bump counter

/-- A woken cluster is awake and shows it, and the wake is counted (R20, R341). -/
theorem State.wakeFrom_shows (s : State) (c : Fin 16) (entry : Nat) {counter : Nat} (hc : counter = CNT_GOV_WAKE_CG ∨ counter = CNT_GOV_WAKE_PG) :
    (s.wakeFrom c.val entry counter).gate c.val = .awake ∧ (s.wakeFrom c.val entry counter).fld (ENG_CL_STAT_POWER c.val) = 0 ∧
      (s.wakeFrom c.val entry counter).get64 counter = (s.get64 counter + 1) % 2 ^ 64 := by
  obtain ⟨hphase, hpower⟩ := s.setGate_shows c .awake
  have hcharge := (s.setGate c.val .awake).charge_frame entry 1
  have hbump := (CountsOnly.refl [counter, counter + 4] ((s.setGate c.val .awake).charge entry 1)).bump counter (by simp) (by simp)
  have hval : CNT_GOV_WAKE_CG ≤ counter ∧ counter ≤ CNT_GOV_WAKE_PG ∧ regImpl counter = 0xFFFFFFFF ∧ regImpl (counter + 4) = 0xFFFFFFFF ∧
      counter ≠ HEP_STAT ∧ counter + 4 ≠ HEP_STAT := by
    rcases hc with rfl | rfl <;> decide
  obtain ⟨hlo, hhi, himpl, himpl', hstat⟩ := hval
  refine ⟨?_, ?_, ?_⟩
  · rw [State.gate, State.wakeFrom, hbump.1, hcharge.1]
    exact hphase
  · have hreg : (ENG_CL_STAT_POWER c.val).off = 0x700100 + 4 * c.val := rfl
    simp only [CNT_GOV_WAKE_PG] at hhi
    rw [State.fld, State.wakeFrom, hbump.2 _ (by simp [hreg]; omega) (by simp [hreg, HEP_STAT]; omega),
      State.reg_charge _ _ _ (by simp [hreg, GOV_CHIP_LVL, GOV_DRV_LVL, GOV_STAT]; omega)]
    exact hpower
  · rw [State.wakeFrom, State.bump, State.get64_bumpBy _ _ _ himpl himpl' hstat, (s.get64_charge_setGate c .awake entry 1 hlo hhi).1]

theorem State.wakeCluster_of_clockGated {s : State} {c : Nat} (h : s.gate c = .clockGated) : s.wakeCluster c = s.wakeFrom c 8 CNT_GOV_WAKE_CG := by
  simp only [State.wakeCluster, h, State.wakeFrom]

theorem State.wakeCluster_of_powerGated {s : State} {c : Nat} (h : s.gate c = .powerGated) : s.wakeCluster c = s.wakeFrom c 9 CNT_GOV_WAKE_PG := by
  simp only [State.wakeCluster, h, State.wakeFrom]

/-! ### The status frame of the power die -/

/-- Effects on an array of registers, each on the register of its own index: the register of a listed index holds what its own effect left. -/
theorem State.each_reg_of_mem {f : State → Nat → State} {reg : Nat → Nat} (hreg : Function.Injective reg) (hf : ∀ t n, RegsOnly [reg n] t (f t n)) {n : Nat} :
    ∀ {l : List Nat}, n ∈ l → ∀ s : State, ∃ u : State, (s.each l f).reg (reg n) = (f u n).reg (reg n) := by
  intro l
  induction l using List.reverseRecOn with
  | nil => simp
  | append_singleton l a ih =>
    intro hn s
    have hlast : s.each (l ++ [a]) f = f (s.each l f) a := by simp [State.each]
    rw [hlast]
    by_cases ha : n = a
    · subst ha; exact ⟨_, rfl⟩
    · obtain ⟨u, hu⟩ := ih (by simpa [ha] using hn) s
      exact ⟨u, by rw [(hf _ a).2 _ (by simpa using hreg.ne ha), hu]⟩

theorem RegsOnly.each {α : Type} {offs : List Nat} {s t : State} (h : RegsOnly offs s t) (l : List α) (f : State → α → State)
    (hf : ∀ u a, a ∈ l → RegsOnly offs u (f u a)) : RegsOnly offs s (t.each l f) := by
  induction l generalizing t with
  | nil => exact h
  | cons a l ih => exact ih (h.trans (hf t a (by simp))) fun u b hb => hf u b (by simp [hb])

/-- A channel's measurements in a status frame (R437). -/
def State.measureChannel (chans : List (Fin 65536 × Fin 65536)) (t : State) (n : Nat) : State := match chans[n]? with
  | some x => (t.setFld (SLP_CH_MEAS_IOUT n) x.1.val).setFld (SLP_CH_MEAS_VOUT n) x.2.val
  | none => t

/-- A feed's measurements in a status frame (R437). -/
def State.measureFeed (feeds : List (Fin 65536 × Fin 65536 × Fin 65536)) (t : State) (f : Nat) : State := match feeds[f]? with
  | some x => ((t.setFld (SLP_FD_MEAS_VIN f) x.1.val).setFld (SLP_FD_MEAS_IIN f) x.2.1.val).setFld (SLP_FD_VBUS_VBUS f) x.2.2.val
  | none => t

/-- The measurements of a status frame. -/
def State.measured (s : State) (chans : List (Fin 65536 × Fin 65536)) (feeds : List (Fin 65536 × Fin 65536 × Fin 65536)) : State :=
  (s.each (List.range 32) (State.measureChannel chans)).each [0, 1] (State.measureFeed feeds)

theorem State.measureChannel_frame (chans : List (Fin 65536 × Fin 65536)) (t : State) (n : Nat) : RegsOnly [SLP_CH_MEAS n] t (t.measureChannel chans n) := by
  unfold State.measureChannel
  split
  · exact ((RegsOnly.refl _ t).setFld _ _ (by simp [SLP_CH_MEAS_IOUT])).setFld _ _ (by simp [SLP_CH_MEAS_VOUT])
  · exact RegsOnly.refl _ t

theorem State.measureFeed_frame (feeds : List (Fin 65536 × Fin 65536 × Fin 65536)) (t : State) (f : Nat) :
    RegsOnly [SLP_FD_MEAS f, SLP_FD_VBUS f] t (t.measureFeed feeds f) := by
  unfold State.measureFeed
  split
  · exact (((RegsOnly.refl _ t).setFld _ _ (by simp [SLP_FD_MEAS_VIN])).setFld _ _ (by simp [SLP_FD_MEAS_IIN])).setFld _ _ (by simp [SLP_FD_VBUS_VBUS])
  · exact RegsOnly.refl _ t

theorem SLP_CH_MEAS_whole (n : Fin 32) : (SLP_CH_MEAS_IOUT n.val).whole = true ∧ (SLP_CH_MEAS_VOUT n.val).whole = true := by revert n; decide

theorem SLP_CH_MEAS_injective : Function.Injective SLP_CH_MEAS := fun a b h => by simp only [SLP_CH_MEAS] at h; omega

theorem State.measureChannel_shows (chans : List (Fin 65536 × Fin 65536)) (hlen : chans.length = 32) (t : State) (n : Fin 32) :
    (t.measureChannel chans n.val).fld (SLP_CH_MEAS_IOUT n.val) = (chans.getD n.val (0, 0)).1.val ∧
      (t.measureChannel chans n.val).fld (SLP_CH_MEAS_VOUT n.val) = (chans.getD n.val (0, 0)).2.val := by
  obtain ⟨hi, hv⟩ := SLP_CH_MEAS_whole n
  have hget : chans[n.val]? = some (chans.getD n.val (0, 0)) := by simp [List.getD, hlen]
  simp only [State.measureChannel, hget]
  constructor
  · rw [State.fld_setFld_apart _ _ _ _ hi (by simp [SLP_CH_MEAS_IOUT, SLP_CH_MEAS_VOUT]), State.fld_setFld_same _ _ _ hi]
    exact Nat.mod_eq_of_lt (Fin.isLt _)
  · rw [State.fld_setFld_same _ _ _ hv]
    exact Nat.mod_eq_of_lt (Fin.isLt _)

theorem State.measureChannels_frame (s : State) (chans : List (Fin 65536 × Fin 65536)) :
    RegsOnly ((List.range 32).map SLP_CH_MEAS) s (s.each (List.range 32) (State.measureChannel chans)) :=
  (RegsOnly.refl _ s).each _ _ fun u n hn => (u.measureChannel_frame chans n).mono (by simpa using ⟨n, by simpa using hn, rfl⟩)

theorem State.measured_frame (s : State) (chans : List (Fin 65536 × Fin 65536)) (feeds : List (Fin 65536 × Fin 65536 × Fin 65536)) :
    RegsOnly [SLP_FD_MEAS 0, SLP_FD_VBUS 0, SLP_FD_MEAS 1, SLP_FD_VBUS 1] (s.each (List.range 32) (State.measureChannel chans)) (s.measured chans feeds) := by
  refine (RegsOnly.refl _ _).each _ _ fun u f hf => ?_
  rcases (by simpa using hf : f = 0 ∨ f = 1) with rfl | rfl
  · exact (u.measureFeed_frame feeds 0).mono (by simp)
  · exact (u.measureFeed_frame feeds 1).mono (by simp)

/-- The measurements are registers, and nothing else changes with them. -/
theorem State.measured_rest (s : State) (chans : List (Fin 65536 × Fin 65536)) (feeds : List (Fin 65536 × Fin 65536 × Fin 65536)) :
    s.measured chans feeds = { s with regs := (s.measured chans feeds).regs } := by
  rw [(s.measured_frame chans feeds).1, (s.measureChannels_frame chans).1]

/-- The feeds' measurements leave the channels' as they are. -/
theorem State.measured_reg (s : State) (chans : List (Fin 65536 × Fin 65536)) (feeds : List (Fin 65536 × Fin 65536 × Fin 65536)) (n : Fin 32) :
    (s.measured chans feeds).reg (SLP_CH_MEAS n.val) = (s.each (List.range 32) (State.measureChannel chans)).reg (SLP_CH_MEAS n.val) :=
  (s.measured_frame chans feeds).2 _ (by simp [SLP_CH_MEAS, SLP_FD_MEAS, SLP_FD_VBUS]; omega)

/-- A status frame leaves each channel's current and voltage in its register (R17, R437). -/
theorem State.measured_shows (s : State) (chans : List (Fin 65536 × Fin 65536)) (feeds : List (Fin 65536 × Fin 65536 × Fin 65536)) (hlen : chans.length = 32)
    (n : Fin 32) : (s.measured chans feeds).fld (SLP_CH_MEAS_IOUT n.val) = (chans.getD n.val (0, 0)).1.val ∧
      (s.measured chans feeds).fld (SLP_CH_MEAS_VOUT n.val) = (chans.getD n.val (0, 0)).2.val := by
  obtain ⟨u, hu⟩ := State.each_reg_of_mem SLP_CH_MEAS_injective (State.measureChannel_frame chans) (List.mem_range.2 n.isLt) s
  obtain ⟨hi, hv⟩ := u.measureChannel_shows chans hlen n
  rw [← s.measured_reg chans feeds n] at hu
  exact ⟨(congrArg (fieldOf · 0 16) hu).trans hi, (congrArg (fieldOf · 16 16) hu).trans hv⟩

/-- The fan duty commanded with a status frame. -/
def State.commandFan (t : State) : State := { t with slp := { t.slp with fanDuty := t.fld GOV_FAN_DUTY } }

theorem State.commandFan_rest {s u : State} (h : u = { s with regs := u.regs }) (c : Bool) :
    u.cond c State.commandFan =
      { s with regs := (u.cond c State.commandFan).regs, slp := { s.slp with fanDuty := (u.cond c State.commandFan).slp.fanDuty } } := by
  rw [h]; cases c <;> rfl

theorem State.commandFan_fld (u : State) (c : Bool) (f : Fld) : (u.cond c State.commandFan).fld f = u.fld f := by cases c <;> rfl

/-! ### Outputs held without the interface -/

/-- Where the outputs are not this part's to drive, no channel is judged. -/
theorem State.slotsJudge_of_not_drives {s : State} (h : s.pdDrives = false) : s.slotsJudge = s := by
  have hjudge : ∀ n, s.slotJudge n = s := fun n => by simp [State.slotJudge, h]
  unfold State.slotsJudge
  generalize List.range 32 = l
  induction l with
  | nil => rfl
  | cons n l ih => rw [State.each_cons, hjudge n, ih]

end Sys2Proof.Machine

open Sys2Proof Sys2Proof.Machine

/-- Settles O14: each command is a measurement, a flag, a gate phase or a wake, and its frame is that operation's. -/
theorem powerDieAndGating : Obligations.PowerDieAndGating := by
  unfold Obligations.PowerDieAndGating
  refine ⟨fun s chans feeds n hruns hheld hchans _ => ?_, fun s hruns => ?_, fun s hruns hheld hstage => ?_, fun s c hrun hidle hg => ?_,
    fun s c hrun hidle hg hmin => ?_, fun s c hpow hg hdue => ?_, fun s c hpow hg hdue => ?_, fun s p hpow hempty hkat => ?_, fun s p hpow => ?_,
    fun s c hpow hg => ?_, fun s hhold => ?_, fun s => rfl, fun s hmode => ?_, fun s hmode hhold => ?_, fun s n halt hclass => ?_⟩
  · let u := s.measured chans feeds
    obtain ⟨hi, hv⟩ := s.measured_shows chans feeds hchans n
    have he : exec (.pdiStatusFrame chans feeds) s = .next (u.cond (u.mode != 0 && u.sys.hold == .none) State.commandFan) := by
      simp only [exec, execPdiStatusFrame, hruns, hheld]
      rfl
    refine .of_eq he ⟨?_, ?_, State.commandFan_rest (s.measured_rest chans feeds) _⟩
    · rw [State.commandFan_fld, hi]
    · rw [State.commandFan_fld, hv]
  · exact .of_eq (t := s.setFlag SLP_STAT_HELD true) (by simp [exec, execPdiLoss, hruns])
      ⟨State.flag_setFlag_same _ _ _ (by decide) rfl, (RegsOnly.refl _ s).setFlag _ _ (by decide)⟩
  · have hdrives : (s.setFlag SLP_STAT_HELD false).pdDrives = false := by simp [State.pdDrives, hstage]
    refine .of_eq (t := s.setFlag SLP_STAT_HELD false) ?_ ⟨State.flag_setFlag_same _ _ _ (by decide) rfl, State.fld_setFld_apart _ _ _ _ (by decide) (by decide)⟩
    simp [exec, execPdiRecovery, hruns, hheld, State.slotsJudge_of_not_drives hdrives]
  · obtain ⟨hphase, hpower⟩ := s.setGate_shows c .enteringCg
    exact .of_eq (t := s.setGate c.val .enteringCg) (by simp [exec, execClusterClockGate, hrun, hidle, hg]) ⟨hphase, hpower, s.setGate_frame c.val .enteringCg⟩
  · obtain ⟨hphase, hpower⟩ := s.setGate_shows c .enteringPg
    exact .of_eq (t := s.setGate c.val .enteringPg) (by simp [exec, execClusterPowerGate, hrun, hidle, hg, hmin])
      ⟨hphase, hpower, s.setGate_frame c.val .enteringPg⟩
  · let u : State := { s with eng := { s.eng with wakeDue := tdel s.eng.wakeDue c.val } }
    obtain ⟨hphase, hpower⟩ := u.setGate_shows c .powerGated
    exact .of_eq (t := u.setGate c.val .powerGated) (by simp [exec, execGatingEntryComplete, hpow, hg, hdue, State.cond, u])
      ⟨hphase, hpower, u.setGate_frame c.val .powerGated⟩
  · let u : State := { s with eng := { s.eng with wakeDue := tdel s.eng.wakeDue c.val } }
    obtain ⟨hphase, -⟩ := u.setGate_shows c .clockGated
    obtain ⟨hawake, hpower, hcount⟩ := (u.setGate c.val .clockGated).wakeFrom_shows c 8 (.inl rfl)
    refine .of_eq (t := (u.setGate c.val .clockGated).wakeFrom c.val 8 CNT_GOV_WAKE_CG) ?_ ⟨hawake, hpower, ?_⟩
    · simp [exec, execGatingEntryComplete, hpow, hg, hdue, State.cond, u, State.wakeCluster_of_clockGated hphase]
    · rw [hcount, (u.get64_charge_setGate c .clockGated 8 1 (by decide) (by decide)).2]
      rfl
  · exact .of_eq (t := s.setFlag (CIP_PIPE_STAT_GATED p.val) true) (by simp [exec, execPipelineClockGate, hpow, hempty, hkat])
      ⟨State.flag_setFlag_same _ _ _ (CIP_PIPE_STAT_GATED_whole p) rfl, (RegsOnly.refl _ s).setFlag _ _ (by simp)⟩
  · exact .of_eq (t := s.setFlag (CIP_PIPE_STAT_GATED p.val) false) (by simp [exec, execGatedDomainAccess, hpow])
      ⟨State.flag_setFlag_same _ _ _ (CIP_PIPE_STAT_GATED_whole p) rfl, (RegsOnly.refl _ s).setFlag _ _ (by simp)⟩
  · obtain ⟨hawake, -, hcount⟩ := s.wakeFrom_shows c 9 (.inr rfl)
    exact .of_eq (by simp [exec, execGatedDomainAccess, hpow, State.wakeCluster_of_powerGated hg]) ⟨hawake, hcount⟩
  · simp [exec, execXtalSwitch, hhold]
  · simp [exec, execJtagInstruction, hmode, State.emit]
  · simp [exec, execJtagInstruction, hmode, hhold, State.emit]
  · simp [exec, execJtagInstruction, hclass, State.emit]
end

section
/-! SUPPORT. Fields under frames and resets, and the wake from NIGHT (R15, R44, R46, R474). -/

namespace Sys2Proof.Machine

/-! ### Fields under frames -/

theorem RegsOnly.fld {offs : List Nat} {s t : State} (h : RegsOnly offs s t) (f : Fld) (hf : f.off ∉ offs) : t.fld f = s.fld f := by
  rw [State.fld, State.fld, h.2 _ hf]

theorem RegsOnly.flag {offs : List Nat} {s t : State} (h : RegsOnly offs s t) (f : Fld) (hf : f.off ∉ offs) : t.flag f = s.flag f := by
  rw [State.flag, State.flag, h.fld f hf]

theorem State.mode_setFld (s : State) (f : Fld) (v : Nat) (h : f.off ≠ SYS_MODE ∨ 3 ≤ f.lo) : (s.setFld f v).mode = s.mode :=
  State.fld_setFld_apart _ _ _ _ (by decide) (h.elim .inl fun hlo => .inr (.inr hlo))

theorem State.mode_setFlag (s : State) (f : Fld) (b : Bool) (h : f.off ≠ SYS_MODE ∨ 3 ≤ f.lo) : (s.setFlag f b).mode = s.mode :=
  s.mode_setFld f _ h

/-! ### Held fields -/

/-- A field that a reset keeps whole keeps its value. -/
theorem fieldOf_mixWord {keep : Word} {lo wd : Nat} (h : fieldOf keep lo wd = 2 ^ wd - 1) (old rst : Word) :
    fieldOf (mixWord keep old rst) lo wd = fieldOf old lo wd := by
  apply Nat.eq_of_testBit_eq
  intro i
  have hkeep := testBit_fieldOf keep lo wd i
  rw [h, Nat.testBit_two_pow_sub_one] at hkeep
  rw [testBit_fieldOf, testBit_fieldOf, mixWord]
  by_cases hi : i < wd
  · simp only [hi, decide_true, Bool.true_and] at hkeep
    simp [BitVec.getLsbD_or, BitVec.getLsbD_and, BitVec.getLsbD_not, ← hkeep]
  · simp [hi]

/-- A held field keeps its value under a CHIP reset (R15). -/
theorem State.chipState_fld (s : State) (h : s.RegsOk) (f : Fld) (hf : fieldOf (heldBits f.off) f.lo f.wd = 2 ^ f.wd - 1) (ho : f.off ≠ PROT_PRIV_LOCAL) :
    s.chipState.fld f = s.fld f := by
  rw [State.fld, s.chipState_reg h ho, fieldOf_mixWord hf, State.fld]

/-- A register that is held whole keeps its value under a CHIP reset. -/
theorem State.chipState_reg_held (s : State) (h : s.RegsOk) {off : Nat} (hh : heldBits off = regImpl off) (ho : off ≠ PROT_PRIV_LOCAL) :
    s.chipState.reg off = s.reg off := by
  rw [s.chipState_reg h ho, hh, mixWord_keep (s.reg_impl h _) (regPor_impl _)]

/-- A CHIP reset shows DAWN. -/
theorem State.chipState_mode (s : State) (h : s.RegsOk) : s.chipState.mode = 1 := by
  refine State.mode_of_reg ?_
  rw [s.chipState_reg h (by decide), show heldBits SYS_MODE = 0 by decide, mixWord_zero]

/-- Of SYS only the levels of the PORn sources outlast a CHIP reset. -/
theorem State.chipState_sys (s : State) : s.chipState.sys = { supplyLow := s.sys.supplyLow, pwronLow := s.sys.pwronLow } := by
  unfold State.chipState
  rw [(State.rstClasses_frame _).1]

/-! ### The wake from NIGHT -/

/-- The start of DAWN writes SYS_MODE over the state of a CHIP reset (R474). -/
theorem State.startDawn_frame (s : State) : RegsOnly [SYS_MODE] s.chipState s.startDawn :=
  ((RegsOnly.refl _ _).setFld _ _ (by decide)).setFld _ _ (by decide)

/-- A wake shows DAWN, PREV NIGHT and CAUSE 1, and sets no bit of SYS_RST_CAUSE (R60, R474). -/
theorem State.startDawn_shows (s : State) (h : s.RegsOk) :
    s.startDawn.mode = 1 ∧ s.startDawn.fld SYS_MODE_PREV = 0 ∧ s.startDawn.fld SYS_MODE_CAUSE = 1 ∧ s.startDawn.reg SYS_RST_CAUSE = s.reg SYS_RST_CAUSE := by
  refine ⟨?_, ?_, State.fld_setFld_same _ _ _ (by decide), ?_⟩
  · rw [State.startDawn, State.mode_setFld _ _ _ (.inr (by decide)), State.mode_setFld _ _ _ (.inr (by decide)), s.chipState_mode h]
  · rw [State.startDawn, State.fld_setFld_apart _ _ _ _ (by decide) (by decide)]
    exact State.fld_setFld_same _ _ _ (by decide)
  · rw [s.startDawn_frame.2 _ (by decide), s.chipState_reg_held h (by decide) (by decide)]

/-- A source that may wake the part is recorded, and starts DAWN where the gates are closed (R44). -/
theorem State.wake_of_gatesClosed {s : State} {en src : Fld} (hsrc : src.off = SYS_WAKE_SRC) (hm : s.mode = 0) (hh : s.sys.hold = .none)
    (hg : s.sys.gatesClosing = false) (he : s.flag en = true) : s.wake en src = (s.setFlag src true).startDawn := by
  have hmode : (s.setFlag src true).mode = 0 := by rw [State.mode_setFlag _ _ _ (.inl (by rw [hsrc]; decide)), hm]
  simp [State.wake, hm, hh, he, hmode, hg]

/-- While the gates close the source is recorded and the wake held (R46). -/
theorem State.wake_of_gatesClosing {s : State} {en src : Fld} (hsrc : src.off = SYS_WAKE_SRC) (hm : s.mode = 0) (hh : s.sys.hold = .none)
    (hg : s.sys.gatesClosing = true) (he : s.flag en = true) :
    s.wake en src = State.setFlag { s with sys := { s.sys with heldWake := true } } src true := by
  have hmode : (s.setFlag src true).mode = 0 := by rw [State.mode_setFlag _ _ _ (.inl (by rw [hsrc]; decide)), hm]
  simp only [State.wake, hm, hh, he, hmode, State.setFlag_sys, hg]
  rfl

/-- The recorded source outlasts the reset of the wake. -/
theorem State.startDawn_of_source {s : State} (h : s.RegsOk) {src : Fld} (hsrc : src.off = SYS_WAKE_SRC) (hw : src.whole = true)
    (hheld : fieldOf (heldBits src.off) src.lo src.wd = 2 ^ src.wd - 1) (h1 : src.wd = 1) :
    (s.setFlag src true).startDawn.mode = 1 ∧ (s.setFlag src true).startDawn.fld SYS_MODE_PREV = 0 ∧ (s.setFlag src true).startDawn.fld SYS_MODE_CAUSE = 1 ∧
      (s.setFlag src true).startDawn.reg SYS_RST_CAUSE = s.reg SYS_RST_CAUSE ∧ (s.setFlag src true).startDawn.flag src = true ∧
      RegsOnly [SYS_MODE] (s.setFlag src true).chipState (s.setFlag src true).startDawn := by
  have hok := State.RegsOk_setFlag h src true
  have hframe := (s.setFlag src true).startDawn_frame
  obtain ⟨hmode, hprev, hcause, hrst⟩ := (s.setFlag src true).startDawn_shows hok
  refine ⟨hmode, hprev, hcause, ?_, ?_, hframe⟩
  · rw [hrst, State.setFlag, State.reg_setFld_other _ _ _ _ (by rw [hsrc]; decide)]
  · rw [hframe.flag _ (by rw [hsrc]; decide), State.flag, State.chipState_fld _ hok _ hheld (by rw [hsrc]; decide), ← State.flag]
    exact State.flag_setFlag_same _ _ _ hw h1

/-- A release of PERST_N trains no link in the DAWN that it starts: the PLLs have not locked (R48, R49). -/
theorem State.startDawn_no_link (s : State) (h : s.RegsOk) : (s.startDawn.powered || (s.startDawn.mode == 1 && s.startDawn.sys.hold == .none && s.startDawn.sys.pllLocked)) = false := by
  have hsys : s.startDawn.sys = { supplyLow := s.sys.supplyLow, pwronLow := s.sys.pwronLow } := s.chipState_sys
  obtain ⟨hmode, -⟩ := s.startDawn_shows h
  simp [State.powered, State.running, State.inService, State.serving, hmode, hsys]

end Sys2Proof.Machine

open Sys2Proof Sys2Proof.Machine

/-- Settles O9: a wake is `startDawn` on the state with its source recorded, and a source's flag is held. -/
theorem wakeSources : Obligations.WakeSources := by
  unfold Obligations.WakeSources
  refine ⟨fun s h hm hh hg he => ?_, fun s lanes rate h hm hh hg he => ?_, fun s h hm hh hg he => ?_, fun s h ha hm hh hg he => ?_,
    fun s hm hh hg he => ?_, fun s hm hh hg hw => ?_, fun s h hm hh hg hw => ?_⟩
  · exact .of_eq (by rw [exec, execWakePin, State.wake_of_gatesClosed rfl hm hh hg he]) (State.startDawn_of_source h rfl (by decide) (by decide) rfl)
  · refine .of_eq ?_ (State.startDawn_of_source (src := SYS_WAKE_SRC_PERST) h rfl (by decide) (by decide) rfl)
    rw [exec, execPerstRelease, State.wake_of_gatesClosed rfl hm hh hg he]
    dsimp only
    rw [State.startDawn_no_link _ (State.RegsOk_setFlag h _ _), if_neg Bool.false_ne_true]
  · exact .of_eq (by rw [exec, execClaimLossWake, State.wake_of_gatesClosed rfl hm hh hg he]) (State.startDawn_of_source h rfl (by decide) (by decide) rfl)
  · let u : State := { s with gov := { s.gov with alarm := none } }
    refine .of_eq ?_ (State.startDawn_of_source (s := u) (src := SYS_WAKE_SRC_ALARM) h rfl (by decide) (by decide) rfl)
    rw [exec, execAlarmCountdownEnd, if_pos ha, State.wake_of_gatesClosed (s := u) rfl hm hh hg he]
  · let u : State := { s with sys := { s.sys with heldWake := true } }
    exact .of_eq (t := u.setFlag SYS_WAKE_SRC_WAKE_PIN true) (by rw [exec, execWakePin, State.wake_of_gatesClosing rfl hm hh hg he])
      ⟨rfl, State.flag_setFlag_same _ _ _ (by decide) rfl, (RegsOnly.refl _ _).setFlag _ _ (by decide)⟩
  · simp [exec, execPowerGatesClosed, hm, hh, hg, hw]
  · let u : State := { s with sys := { s.sys with gatesClosing := false } }
    obtain ⟨hmode, hprev, hcause, hrst⟩ := u.startDawn_shows h
    exact .of_eq (t := u.startDawn) (by simp [exec, execPowerGatesClosed, hm, hh, hg, hw, u]) ⟨hmode, hprev, hcause, hrst, u.startDawn_frame⟩
end

section
/-! SUPPORT. The commands that are one register write: what each does is an admitted access's effect (R41, R373, R374). -/

namespace Sys2Proof.Machine

/-- An admitted write takes its effect. -/
theorem State.accessWrite_of_admits {s : State} {req : Requester} {off : Nat} (h : s.Admits req off) (f : State → State) : s.accessWrite req off f = f s := by
  obtain ⟨hreach, hclass, hmode, habsent⟩ := h
  exact s.accessWrite_ok req off f hreach hclass hmode habsent

/-- Outside DAWN the kick register answers as any other register (R55). -/
theorem exec_wdogKick_of_mode_ne {s : State} (h : s.mode ≠ 1) (req : Requester) (val : Word) :
    exec (.wdogKick req val) s = .next (s.accessWrite req SYS_WDOG_KICK fun t => t.kick req val) := by
  cases req <;> simp [exec, execWdogKick, State.dawn, h]

/-- A command that is one register write is an access to its offset, but for a kick in DAWN. -/
theorem exec_of_writerOf {c : Instr} {s : State} {req : Requester} {off : Nat} (h : writerOf c = some (req, off)) (hk : off ≠ SYS_WDOG_KICK ∨ s.mode ≠ 1) :
    ∃ f : State → State, exec c s = .next (s.accessWrite req off f) := by
  cases c
  case wdogKick val =>
    cases h
    exact ⟨_, exec_wdogKick_of_mode_ne (hk.resolve_left fun hne => hne rfl) _ _⟩
  all_goals cases h
  all_goals exact ⟨_, rfl⟩

/-- In MIDNIGHT a write is malformed outside the offsets that MIDNIGHT takes writes at (R41). -/
theorem State.accessWrite_of_midnight {s : State} {req : Requester} {off : Nat} (f : State → State) (hr : s.reachable req = true) (hc : 2 ≤ s.classOf req)
    (hm : s.mode = 7) (ho : midnightWrite off = false) : s.accessWrite req off f = s.malformed := by
  simp [State.accessWrite, hr, hc.not_gt, hm, ho]

end Sys2Proof.Machine

open Sys2Proof Sys2Proof.Machine

/-- Settles O16: each of the commands is an access, and MIDNIGHT refuses it. -/
theorem writesInMidnightAreFrozen : Obligations.WritesInMidnightAreFrozen := by
  unfold Obligations.WritesInMidnightAreFrozen
  intro c s req off hw hr hc hm ho
  obtain ⟨f, he⟩ := exec_of_writerOf (s := s) hw (.inr (by omega))
  rw [State.accessWrite_of_midnight f hr hc hm ho] at he
  exact .of_eq he ⟨s.get64_malformed, s.malformed_frame.counts⟩

/-- Settles O17: each of the commands is an access, and no register answers it. -/
theorem unreachableWritesDoNothing : Obligations.UnreachableWritesDoNothing := by
  unfold Obligations.UnreachableWritesDoNothing
  intro c s req off hw hr hk
  obtain ⟨f, he⟩ := exec_of_writerOf hw hk
  rw [he, s.accessWrite_unreachable req off f hr]
end

section
/-! SUPPORT. Changes of mode (R54, R60), MIDNIGHT (R42, R53, R62) and the watchdog (R51, R55). -/

namespace Sys2Proof.Machine

/-! ### What a count or a message leaves -/

theorem CountsOnly.fld {offs : List Nat} {s t : State} (h : CountsOnly offs s t) (f : Fld) (hf : f.off ∉ HEP_STAT :: offs) : t.fld f = s.fld f := by
  rw [State.fld, State.fld, h.2 _ (fun hm => hf (.tail _ hm)) fun he => hf (he ▸ .head _)]

theorem CountsOnly.flag {offs : List Nat} {s t : State} (h : CountsOnly offs s t) (f : Fld) (hf : f.off ∉ HEP_STAT :: offs) : t.flag f = s.flag f := by
  rw [State.flag, State.flag, h.fld f hf]

theorem CountsOnly.mode {offs : List Nat} {s t : State} (h : CountsOnly offs s t) (hf : SYS_MODE ∉ offs) : t.mode = s.mode :=
  h.fld SYS_MODE_CUR (by simpa [SYS_MODE_CUR, SYS_MODE, HEP_STAT] using hf)

theorem CountsOnly.mono {offs offs' : List Nat} {s t : State} (h : CountsOnly offs s t) (hsub : offs ⊆ offs') : CountsOnly offs' s t :=
  ⟨h.1, fun off ho => h.2 off fun hm => ho (hsub hm)⟩

theorem CountsOnly.sys {offs : List Nat} {s t : State} (h : CountsOnly offs s t) : t.sys = s.sys := by rw [h.1]

theorem CountsOnly.nzl {offs : List Nat} {s t : State} (h : CountsOnly offs s t) : t.nzl = s.nzl := by rw [h.1]

theorem CountsOnly.cmdq {offs : List Nat} {s t : State} (h : CountsOnly offs s t) : t.cmdq = s.cmdq := by rw [h.1]

theorem CountsOnly.red {offs : List Nat} {s t : State} (h : CountsOnly offs s t) : t.red = s.red := by rw [h.1]

theorem CountsOnly.withProt {offs : List Nat} {s t : State} (h : CountsOnly offs s t) (p : Prot) : CountsOnly offs { s with prot := p } { t with prot := p } :=
  ⟨by rw [h.1], h.2⟩

/-! ### Changes of mode -/

/-- The fields of SYS_MODE that a change of mode writes, before its message. -/
def State.modeFields (s : State) (m cause : Nat) : State := ((s.setFld SYS_MODE_PREV s.mode).setFld SYS_MODE_CUR m).setFld SYS_MODE_CAUSE cause

theorem State.modeFields_frame (s : State) (m cause : Nat) : RegsOnly [SYS_MODE] s (s.modeFields m cause) :=
  (((RegsOnly.refl _ s).setFld _ _ (by decide)).setFld _ _ (by decide)).setFld _ _ (by decide)

/-- A change of mode writes those fields and raises a message (R60, R409). -/
theorem State.enterMode_message (s : State) (m cause : Nat) : CountsOnly [] (s.modeFields m cause) (s.enterMode m cause) :=
  (CountsOnly.refl _ _).cond _ _ ((CountsOnly.refl _ _).msix0 5)

theorem State.enterMode_frame (s : State) (m cause : Nat) : CountsOnly [SYS_MODE] s (s.enterMode m cause) :=
  (s.modeFields_frame m cause).counts.trans ((s.enterMode_message m cause).mono (by simp))

/-- CUR, PREV and CAUSE after a change of mode (R60). -/
theorem State.enterMode_shows (s : State) {m cause : Nat} (hm : m < 8) (hc : cause < 16) :
    (s.enterMode m cause).mode = m ∧ (s.enterMode m cause).fld SYS_MODE_PREV = s.mode ∧ (s.enterMode m cause).fld SYS_MODE_CAUSE = cause := by
  have hmsg := s.enterMode_message m cause
  refine ⟨?_, ?_, ?_⟩
  · rw [hmsg.mode (by simp), State.modeFields, State.mode_setFld _ _ _ (.inr (by decide)), State.mode, State.fld_setFld_same _ _ _ (by decide)]
    exact Nat.mod_eq_of_lt hm
  · rw [hmsg.fld _ (by decide), State.modeFields, State.fld_setFld_apart _ _ _ _ (by decide) (by decide), State.fld_setFld_apart _ _ _ _ (by decide) (by decide),
      State.fld_setFld_same _ _ _ (by decide)]
    exact Nat.mod_eq_of_lt s.mode_lt
  · rw [hmsg.fld _ (by decide), State.modeFields, State.fld_setFld_same _ _ _ (by decide)]
    exact Nat.mod_eq_of_lt hc

/-- The flags of SYS_MODE between CUR and PREV stay with a change of mode. -/
theorem State.enterMode_flag (s : State) (m cause : Nat) (f : Fld) (ho : f.off = SYS_MODE) (hw : f.whole = true) (hlo : 3 ≤ f.lo) (hhi : f.lo + f.wd ≤ 8) :
    (s.enterMode m cause).flag f = s.flag f := by
  rw [(s.enterMode_message m cause).flag _ (by rw [ho]; decide), State.modeFields,
    State.flag_setFld_apart _ SYS_MODE_CAUSE _ _ hw (.inr (.inr (hhi.trans (by decide)))), State.flag_setFld_apart _ SYS_MODE_CUR _ _ hw (.inr (.inl hlo)),
    State.flag_setFld_apart _ SYS_MODE_PREV _ _ hw (.inr (.inr hhi))]

/-- A lapse drops the pending change and is counted (R382, R384). -/
theorem State.lapse_frame (s : State) : CountsOnly [PROT_CMT_STAT, CNT_PROT_LAPSED, CNT_PROT_LAPSED + 4] { s with prot := s.lapse.prot } s.lapse := by
  unfold State.lapse
  split
  · exact CountsOnly.refl _ _
  · have hbump : CountsOnly [PROT_CMT_STAT, CNT_PROT_LAPSED, CNT_PROT_LAPSED + 4] s.dropChange (s.dropChange.bump CNT_PROT_LAPSED) :=
      (CountsOnly.refl _ _).bump _ (by simp) (by simp)
    have hprot : (s.dropChange.bump CNT_PROT_LAPSED).prot = { s.prot with change := none } := by rw [hbump.1]; rfl
    rw [hprot]
    exact ((((RegsOnly.refl _ _).setFlag _ _ (by decide)).setFld _ _ (by decide)).counts).trans hbump

theorem State.lapse_fld (s : State) (f : Fld) (hf : f.off ∉ [HEP_STAT, PROT_CMT_STAT, CNT_PROT_LAPSED, CNT_PROT_LAPSED + 4]) : s.lapse.fld f = s.fld f :=
  s.lapse_frame.fld f hf

theorem State.lapse_flag (s : State) (f : Fld) (hf : f.off ∉ [HEP_STAT, PROT_CMT_STAT, CNT_PROT_LAPSED, CNT_PROT_LAPSED + 4]) : s.lapse.flag f = s.flag f :=
  s.lapse_frame.flag f hf

/-- A lapse leaves the mode as it is. -/
theorem State.lapse_mode (s : State) : s.lapse.mode = s.mode := s.lapse_fld _ (by decide)

/-! ### MIDNIGHT -/

/-- What the start of MIDNIGHT ends beside the mode: a pause, and a leave of the pair (R42, R54). -/
def State.midnightBase (s : State) : State :=
  { s with sys := { s.sys with midnightFromDawn := s.mode == 1 }, nzl := { s.nzl with pause := .none, leaving := false } }

/-- The fields of SYS_MODE that MIDNIGHT writes. -/
def State.midnightMode (s : State) (cause : Nat) : State := ((s.enterMode 7 cause).setFlag SYS_MODE_NIGHT_PEND false).setFlag SYS_MODE_PARTNER false

theorem State.midnightMode_frame (s : State) (cause : Nat) : CountsOnly [SYS_MODE] s (s.midnightMode cause) :=
  ((s.enterMode_frame 7 cause).setFlag _ _ (by decide)).setFlag _ _ (by decide)

theorem State.midnightMode_shows (s : State) {cause : Nat} (hc : cause < 16) :
    (s.midnightMode cause).mode = 7 ∧ (s.midnightMode cause).fld SYS_MODE_PREV = s.mode ∧ (s.midnightMode cause).fld SYS_MODE_CAUSE = cause ∧
      (s.midnightMode cause).flag SYS_MODE_NIGHT_PEND = false ∧ (s.midnightMode cause).flag SYS_MODE_PARTNER = false := by
  obtain ⟨hmode, hprev, hcause⟩ := s.enterMode_shows (m := 7) (by decide) hc
  unfold State.midnightMode
  refine ⟨?_, ?_, ?_, ?_, State.flag_setFlag_same _ _ _ (by decide) rfl⟩
  · rw [State.mode_setFlag _ _ _ (.inr (by decide)), State.mode_setFlag _ _ _ (.inr (by decide)), hmode]
  · rw [State.setFlag, State.fld_setFld_apart _ _ _ _ (by decide) (by decide), State.setFlag, State.fld_setFld_apart _ _ _ _ (by decide) (by decide), hprev]
  · rw [State.setFlag, State.fld_setFld_apart _ _ _ _ (by decide) (by decide), State.setFlag, State.fld_setFld_apart _ _ _ _ (by decide) (by decide), hcause]
  · rw [State.setFlag, State.flag_setFld_apart _ _ _ _ (by decide) (by decide), State.flag_setFlag_same _ _ _ (by decide) rfl]

theorem State.midnight_eq {s : State} (h0 : s.mode ≠ 0) (h7 : s.mode ≠ 7) (cause : Nat) : s.midnight cause = (s.midnightBase.midnightMode cause).lapse := by
  rw [State.midnight, if_neg (by simp [h0, h7])]
  rfl

/-- MIDNIGHT changes the mode, ends a pause, and lapses a pending change; every other part of the state stays (R42, R54, R384). -/
theorem State.midnight_frame {s : State} (h0 : s.mode ≠ 0) (h7 : s.mode ≠ 7) (cause : Nat) :
    CountsOnly [SYS_MODE, PROT_CMT_STAT, CNT_PROT_LAPSED, CNT_PROT_LAPSED + 4] { s.midnightBase with prot := (s.midnight cause).prot } (s.midnight cause) := by
  rw [State.midnight_eq h0 h7]
  exact (((s.midnightBase.midnightMode_frame cause).mono (by simp)).withProt _).trans ((State.lapse_frame _).mono (by simp))

/-- CUR, PREV, CAUSE and the flags that MIDNIGHT clears (R42, R54, R60). -/
theorem State.midnight_shows {s : State} (h0 : s.mode ≠ 0) (h7 : s.mode ≠ 7) {cause : Nat} (hc : cause < 16) :
    (s.midnight cause).mode = 7 ∧ (s.midnight cause).fld SYS_MODE_PREV = s.mode ∧ (s.midnight cause).fld SYS_MODE_CAUSE = cause ∧
      (s.midnight cause).flag SYS_MODE_NIGHT_PEND = false ∧ (s.midnight cause).flag SYS_MODE_PARTNER = false := by
  have hshows := s.midnightBase.midnightMode_shows hc
  rw [State.midnight_eq h0 h7, State.lapse_mode, State.lapse_fld _ _ (by decide), State.lapse_fld _ _ (by decide), State.lapse_flag _ _ (by decide),
    State.lapse_flag _ _ (by decide)]
  exact hshows

theorem State.midnight_fld {s : State} (h0 : s.mode ≠ 0) (h7 : s.mode ≠ 7) (cause : Nat) (f : Fld)
    (hf : f.off ∉ [HEP_STAT, SYS_MODE, PROT_CMT_STAT, CNT_PROT_LAPSED, CNT_PROT_LAPSED + 4]) : (s.midnight cause).fld f = s.fld f :=
  (State.midnight_frame h0 h7 cause).fld f hf

theorem State.midnight_flag {s : State} (h0 : s.mode ≠ 0) (h7 : s.mode ≠ 7) (cause : Nat) (f : Fld)
    (hf : f.off ∉ [HEP_STAT, SYS_MODE, PROT_CMT_STAT, CNT_PROT_LAPSED, CNT_PROT_LAPSED + 4]) : (s.midnight cause).flag f = s.flag f :=
  (State.midnight_frame h0 h7 cause).flag f hf

/-- MIDNIGHT is entered with the bit of its cause set (R42, R53, R62). -/
theorem State.midnight_of_cause {s : State} (h0 : s.mode ≠ 0) (h7 : s.mode ≠ 7) {bit : Fld} (ho : bit.off = SYS_MIDNIGHT_CAUSE) (hw : bit.whole = true)
    (h1 : bit.wd = 1) {cause : Nat} (hc : cause < 16) :
    ((s.setFlag bit true).midnight cause).mode = 7 ∧ ((s.setFlag bit true).midnight cause).fld SYS_MODE_PREV = s.mode ∧
      ((s.setFlag bit true).midnight cause).fld SYS_MODE_CAUSE = cause ∧ ((s.setFlag bit true).midnight cause).flag SYS_MODE_NIGHT_PEND = false ∧
      ((s.setFlag bit true).midnight cause).flag SYS_MODE_PARTNER = false ∧ ((s.setFlag bit true).midnight cause).flag bit = true := by
  have hmode : (s.setFlag bit true).mode = s.mode := State.mode_setFlag _ _ _ (.inl (by rw [ho]; decide))
  rw [← hmode] at h0 h7
  obtain ⟨hcur, hprev, hcause, hpend, hpartner⟩ := State.midnight_shows h0 h7 hc
  refine ⟨hcur, hprev.trans hmode, hcause, hpend, hpartner, ?_⟩
  rw [State.midnight_flag h0 h7 cause _ (by rw [ho]; decide)]
  exact State.flag_setFlag_same s bit true hw h1

/-! ### Critical errors -/

/-- An error in a critical SRAM is recorded in MON, and raises no health event of its own (R446). -/
theorem State.sramError_frame (s : State) {unit : Nat} (h1 : 1 ≤ unit) (h9 : unit ≤ 9) : RegsOnly [MON_SRAM_LAST] s (s.sramError unit true) := by
  unfold State.sramError
  simp only [h1, h9, decide_true, Bool.and_self, Bool.not_true, if_true, Bool.false_eq_true, if_false]
  split
  · exact RegsOnly.refl _ s
  · exact (((RegsOnly.refl _ s).setFld _ _ (by decide)).setFlag _ _ (by decide)).setFlag _ _ (by decide)

/-- The unit of the first critical error is recorded before MIDNIGHT (R53, R62). -/
def State.recordUnit (s : State) (unit : Nat) : State := (s.sramError unit true).setFld SYS_MIDNIGHT_CAUSE_UNIT unit

theorem State.recordUnit_frame (s : State) {unit : Nat} (h1 : 1 ≤ unit) (h9 : unit ≤ 9) : RegsOnly [MON_SRAM_LAST, SYS_MIDNIGHT_CAUSE] s (s.recordUnit unit) :=
  ((s.sramError_frame h1 h9).mono (by simp)).setFld _ _ (by decide)

theorem State.criticalUe_of_first {s : State} (h0 : s.mode ≠ 0) (h7 : s.mode ≠ 7) (hh : s.sys.hold = .none) {unit : Nat} (h1 : 1 ≤ unit) (h9 : unit ≤ 9)
    (hf : s.flag SYS_MIDNIGHT_CAUSE_SRAM_UE = false) : s.criticalUe unit = ((s.recordUnit unit).setFlag SYS_MIDNIGHT_CAUSE_SRAM_UE true).midnight 11 := by
  have hflag : (s.sramError unit true).flag SYS_MIDNIGHT_CAUSE_SRAM_UE = false := ((s.sramError_frame h1 h9).flag _ (by decide)).trans hf
  simp [State.criticalUe, h0, h7, hh, hflag, State.recordUnit]

/-- MIDNIGHT after a critical error: its cause, the unit of the first error, and what ends with the service (R42, R53, R54, R62). -/
theorem State.criticalUe_shows {s : State} (h0 : s.mode ≠ 0) (h7 : s.mode ≠ 7) {unit : Nat} (h1 : 1 ≤ unit) (h9 : unit ≤ 9) :
    let t := ((s.recordUnit unit).setFlag SYS_MIDNIGHT_CAUSE_SRAM_UE true).midnight 11
    t.mode = 7 ∧ t.fld SYS_MODE_PREV = s.mode ∧ t.fld SYS_MODE_CAUSE = 11 ∧ t.flag SYS_MIDNIGHT_CAUSE_SRAM_UE = true ∧ t.fld SYS_MIDNIGHT_CAUSE_UNIT = unit ∧
      t.flag SYS_MODE_PARTNER = false ∧ t.flag SYS_MODE_NIGHT_PEND = false ∧ t.sys.midnightFromDawn = (s.mode == 1) ∧ t.nzl.pause = .none ∧ t.cmdq = s.cmdq := by
  have hrec := s.recordUnit_frame h1 h9
  have hum : (s.recordUnit unit).mode = s.mode := hrec.fld _ (by decide)
  have hvm : ((s.recordUnit unit).setFlag SYS_MIDNIGHT_CAUSE_SRAM_UE true).mode = s.mode := (State.mode_setFlag _ _ _ (.inl (by decide))).trans hum
  rw [← hum] at h0 h7
  obtain ⟨hmode, hprev, hcause, hpend, hpartner, hue⟩ := State.midnight_of_cause h0 h7 (bit := SYS_MIDNIGHT_CAUSE_SRAM_UE) (cause := 11) rfl (by decide) rfl (by decide)
  rw [hum, ← hvm] at h0 h7
  have hframe := State.midnight_frame h0 h7 11
  refine ⟨hmode, hprev.trans hum, hcause, hue, ?_, hpartner, hpend, ?_, by rw [hframe.nzl]; rfl, hframe.cmdq.trans hrec.counts.cmdq⟩
  · rw [State.midnight_fld h0 h7 _ _ (by decide), State.setFlag, State.fld_setFld_apart _ _ _ _ (by decide) (by decide), State.recordUnit,
      State.fld_setFld_same _ _ _ (by decide)]
    exact Nat.mod_eq_of_lt (show _ < 256 by omega)
  · rw [hframe.sys, ← hvm]; rfl

/-! ### The watchdog -/

theorem State.max_period_lt (s : State) : max 16 (s.fld SYS_WDOG_CTL_PERIOD) < 2 ^ SYS_WDOG_STAT_REMAIN.wd := by
  have hlt : s.fld SYS_WDOG_CTL_PERIOD < 2 ^ 10 := Nat.mod_lt _ (by decide)
  exact max_lt (by decide) hlt

/-- REMAIN is loaded with PERIOD, and 16 where PERIOD is lower (R55, R66). -/
theorem State.wdogLoad_remain (s : State) : s.wdogLoad.fld SYS_WDOG_STAT_REMAIN = max 16 (s.fld SYS_WDOG_CTL_PERIOD) := by
  rw [State.wdogLoad, State.fld_setFld_same _ _ _ (by decide), Nat.mod_eq_of_lt s.max_period_lt]

theorem State.wdogLoad_frame (s : State) : RegsOnly [SYS_WDOG_STAT] s s.wdogLoad := (RegsOnly.refl _ s).setFld _ _ (by decide)

theorem State.wdogLoad_stage1 (s : State) : s.wdogLoad.flag SYS_WDOG_STAT_STAGE1 = s.flag SYS_WDOG_STAT_STAGE1 :=
  State.flag_setFld_apart _ _ _ _ (by decide) (by decide)

/-- Only a management core's key is a kick (R55). -/
theorem State.kick_malformed (s : State) {req : Requester} {val : Word} (h : val ≠ 0x4B1C ∨ req = .pf0 ∨ req = .uart ∨ req = .jtag) : s.kick req val = s.malformed := by
  cases req with
  | mc n =>
    have hval : val ≠ 0x4B1C := by simpa using h
    exact if_pos (by simpa using hval)
  | pf0 => rfl
  | pf1 => rfl
  | uart => rfl
  | jtag => rfl

/-- A CHIP reset writes PREV and its cause over the state that it leaves. -/
theorem State.chipReset_frame {s : State} (hn : s.sys.hold = .none) {cause : Fld} (ho : cause.off = SYS_RST_CAUSE) :
    RegsOnly [SYS_MODE, SYS_RST_CAUSE] s.chipState (s.chipReset cause) := by
  rw [State.chipReset, if_neg (by simp [hn])]
  exact ((RegsOnly.refl _ _).setFld _ _ (by decide)).setFlag _ _ (by rw [ho]; decide)

/-- A held field keeps its value under a CHIP reset from a source. -/
theorem State.chipReset_fld {s : State} (h : s.RegsOk) (hn : s.sys.hold = .none) {cause : Fld} (ho : cause.off = SYS_RST_CAUSE) (f : Fld)
    (hf : fieldOf (heldBits f.off) f.lo f.wd = 2 ^ f.wd - 1) (hapart : f.off ∉ [SYS_MODE, SYS_RST_CAUSE, PROT_PRIV_LOCAL]) :
    (s.chipReset cause).fld f = s.fld f := by
  rw [(State.chipReset_frame hn ho).fld f (fun hm => hapart (by simp at hm ⊢; tauto)), s.chipState_fld h f hf (fun he => hapart (by simp [he]))]

theorem State.chipReset_flag {s : State} (h : s.RegsOk) (hn : s.sys.hold = .none) {cause : Fld} (ho : cause.off = SYS_RST_CAUSE) (f : Fld)
    (hf : fieldOf (heldBits f.off) f.lo f.wd = 2 ^ f.wd - 1) (hapart : f.off ∉ [SYS_MODE, SYS_RST_CAUSE, PROT_PRIV_LOCAL]) :
    (s.chipReset cause).flag f = s.flag f := by
  rw [State.flag, State.flag, State.chipReset_fld h hn ho f hf hapart]

/-- A watchdog reset is not counted once the part has served (R51). -/
theorem State.wdogReset_of_served {s : State} (h : s.sys.served = true) : s.wdogReset = s.chipReset SYS_RST_CAUSE_WDOG := by
  simp [State.wdogReset, h]

/-- A watchdog reset below the boot-loop limit counts one (R51). -/
theorem State.wdogReset_counts {s : State} (h : s.RegsOk) (hn : s.sys.hold = .none) (hs : s.sys.served = false) (hc : s.fld SYS_BOOT_LOOP_CNT < 3) :
    s.wdogReset = (s.chipReset SYS_RST_CAUSE_WDOG).setFld SYS_BOOT_LOOP_CNT (s.fld SYS_BOOT_LOOP_CNT + 1) := by
  have hcnt : (s.chipReset SYS_RST_CAUSE_WDOG).fld SYS_BOOT_LOOP_CNT = s.fld SYS_BOOT_LOOP_CNT :=
    State.chipReset_fld h hn rfl _ (by decide) (by decide)
  have hmin : min 4 (s.fld SYS_BOOT_LOOP_CNT + 1) = s.fld SYS_BOOT_LOOP_CNT + 1 := by omega
  have hne : s.fld SYS_BOOT_LOOP_CNT ≠ 3 := by omega
  simp [State.wdogReset, hn, hs, hcnt, hmin, hne]

theorem State.chipReset_sys {s : State} (hn : s.sys.hold = .none) {cause : Fld} (ho : cause.off = SYS_RST_CAUSE) :
    (s.chipReset cause).sys = { supplyLow := s.sys.supplyLow, pwronLow := s.sys.pwronLow } := by
  rw [(State.chipReset_frame hn ho).1]
  exact s.chipState_sys

/-- Stage 1 outside DAWN and MORNING: MIDNIGHT begins, and stage 2 runs from PERIOD (R55). -/
def State.stage1Midnight (s : State) : State :=
  let v := ((s.setFlag SYS_WDOG_STAT_STAGE1 true).setFlag SYS_MIDNIGHT_CAUSE_WDOG true).midnight 11
  { v with sys := { v.sys with wdogStage2 := true } }.wdogLoad

theorem State.stage1Midnight_shows {s : State} (h0 : s.mode ≠ 0) (h7 : s.mode ≠ 7) :
    s.stage1Midnight.mode = 7 ∧ s.stage1Midnight.flag SYS_WDOG_STAT_STAGE1 = true ∧ s.stage1Midnight.flag SYS_MIDNIGHT_CAUSE_WDOG = true ∧
      s.stage1Midnight.fld SYS_MODE_CAUSE = 11 ∧ s.stage1Midnight.sys.wdogStage2 = true ∧
      s.stage1Midnight.fld SYS_WDOG_STAT_REMAIN = max 16 (s.fld SYS_WDOG_CTL_PERIOD) := by
  let u := (s.setFlag SYS_WDOG_STAT_STAGE1 true).setFlag SYS_MIDNIGHT_CAUSE_WDOG true
  let v := u.midnight 11
  let w : State := { v with sys := { v.sys with wdogStage2 := true } }
  have hum : u.mode = s.mode := (State.mode_setFlag _ _ _ (.inl (by decide))).trans (State.mode_setFlag _ _ _ (.inl (by decide)))
  rw [← hum] at h0 h7
  obtain ⟨hmode, -, hcause, -⟩ := State.midnight_shows h0 h7 (cause := 11) (by decide)
  have hload : RegsOnly [SYS_WDOG_STAT] w s.stage1Midnight := w.wdogLoad_frame
  have hstage : w.flag SYS_WDOG_STAT_STAGE1 = true := (State.midnight_flag h0 h7 11 _ (by decide)).trans
    ((State.flag_setFld_apart _ _ _ _ (by decide) (by decide)).trans (State.flag_setFlag_same _ _ _ (by decide) rfl))
  have hwdog : w.flag SYS_MIDNIGHT_CAUSE_WDOG = true := (State.midnight_flag h0 h7 11 _ (by decide)).trans (State.flag_setFlag_same _ _ _ (by decide) rfl)
  have hperiod : w.fld SYS_WDOG_CTL_PERIOD = s.fld SYS_WDOG_CTL_PERIOD := (State.midnight_fld h0 h7 11 _ (by decide)).trans
    ((State.fld_setFld_other _ _ _ _ (by decide)).trans (State.fld_setFld_other _ _ _ _ (by decide)))
  refine ⟨(hload.fld _ (by decide)).trans hmode, ?_, ?_, (hload.fld _ (by decide)).trans hcause, rfl, ?_⟩
  · exact w.wdogLoad_stage1.trans hstage
  · exact (hload.flag _ (by decide)).trans hwdog
  · exact w.wdogLoad_remain.trans (by rw [hperiod])

theorem State.inService_mode {s : State} (h : s.inService = true) : 3 ≤ s.mode ∧ s.mode ≤ 6 := by
  simp only [State.inService, State.serving, Bool.or_eq_true, beq_iff_eq] at h
  omega

theorem exec_wdogStage1Expiry_of_inService {s : State} (ha : s.sys.wdogArmed = true) (h2 : s.sys.wdogStage2 = false) (hr : s.fld SYS_WDOG_STAT_REMAIN = 0)
    (hh : s.sys.hold = .none) (hserv : s.inService = true) : exec .wdogStage1Expiry s = .next s.stage1Midnight := by
  have hmode : (s.setFlag SYS_WDOG_STAT_STAGE1 true).mode = s.mode := State.mode_setFlag _ _ _ (.inl (by decide))
  have hserv' : (s.setFlag SYS_WDOG_STAT_STAGE1 true).inService = true := by
    rw [State.inService, State.serving, hmode, ← State.serving, ← State.inService, hserv]
  have hne : ¬ (s.mode = 1 ∨ s.mode = 2) := by have := State.inService_mode hserv; omega
  simp only [exec, execWdogStage1Expiry, ha, h2, hr, hh]
  simp [hmode, hne, hserv', State.stage1Midnight]

theorem exec_wdogStage1Expiry_of_morning {s : State} (ha : s.sys.wdogArmed = true) (h2 : s.sys.wdogStage2 = false) (hr : s.fld SYS_WDOG_STAT_REMAIN = 0)
    (hh : s.sys.hold = .none) (hm : s.mode = 2) : exec .wdogStage1Expiry s = .next (s.setFlag SYS_WDOG_STAT_STAGE1 true).wdogReset := by
  have hmode : (s.setFlag SYS_WDOG_STAT_STAGE1 true).mode = 2 := (State.mode_setFlag _ _ _ (.inl (by decide))).trans hm
  simp only [exec, execWdogStage1Expiry, ha, h2, hr, hh]
  simp [hmode]

/-- A counted watchdog reset: that of a CHIP reset, with LOOP_CNT one higher (R51, R65). -/
theorem State.wdogReset_shows {s : State} (h : s.RegsOk) (hn : s.sys.hold = .none) (hs : s.sys.served = false) (hc : s.fld SYS_BOOT_LOOP_CNT < 3) :
    s.wdogReset.mode = 1 ∧ s.wdogReset.fld SYS_MODE_PREV = s.mode ∧ s.wdogReset.flag SYS_RST_CAUSE_WDOG = true ∧
      s.wdogReset.flag SYS_WDOG_STAT_STAGE1 = s.flag SYS_WDOG_STAT_STAGE1 ∧ s.wdogReset.fld SYS_BOOT_LOOP_CNT = s.fld SYS_BOOT_LOOP_CNT + 1 ∧
      s.wdogReset.sys.wdogArmed = false := by
  obtain ⟨hmode, hprev, hflag, -⟩ := s.chipReset_shows h hn (cause := SYS_RST_CAUSE_WDOG) rfl (by decide) rfl
  have hcount : RegsOnly [SYS_BOOT] (s.chipReset SYS_RST_CAUSE_WDOG) s.wdogReset := by
    rw [State.wdogReset_counts h hn hs hc]
    exact (RegsOnly.refl _ _).setFld _ _ (by decide)
  refine ⟨(hcount.fld _ (by decide)).trans hmode, (hcount.fld _ (by decide)).trans hprev, (hcount.flag _ (by decide)).trans hflag, ?_, ?_, ?_⟩
  · rw [hcount.flag _ (by decide), State.chipReset_flag h hn rfl _ (by decide) (by decide)]
  · rw [State.wdogReset_counts h hn hs hc, State.fld_setFld_same _ _ _ (by decide)]
    exact Nat.mod_eq_of_lt (show _ < 8 by omega)
  · rw [State.wdogReset_counts h hn hs hc, State.setFld_sys, State.chipReset_sys hn rfl]

end Sys2Proof.Machine

open Sys2Proof Sys2Proof.Machine

/-- Settles O12: a critical error and stage 1 are `midnight` on the state with its cause recorded; a watchdog reset is `chipReset`, and LOOP_CNT is held. -/
theorem watchdogAndMidnight : Obligations.WatchdogAndMidnight := by
  unfold Obligations.WatchdogAndMidnight
  refine ⟨fun s unit hlo hhi hh hf hch => ?_, fun s n ha harm hm => ?_, fun s req val ha hm hkey => ?_, fun s harm h2 hrem hh hserv => ?_,
    fun s h harm h2 hrem hh hm hserved hcnt => ?_, fun s h hm harm h2 hrem hh hen hserved => ?_, fun s hen => ?_⟩
  · refine .of_eq ?_ (State.criticalUe_shows (by omega) (by omega) (by omega) (by omega))
    rw [exec, execCriticalSramUe, State.criticalUe_of_first (by omega) (by omega) hh (by omega) (by omega) hf]
  · let u : State := { s with sys := { s.sys with wdogStage2 := false } }
    refine .of_eq (t := u.wdogLoad) ?_ ⟨u.wdogLoad_remain, u.wdogLoad_stage1, u.wdogLoad_frame⟩
    rw [exec_wdogKick_of_mode_ne hm, State.accessWrite_of_admits ha]
    simp [State.kick, harm, u]
  · refine .of_eq ?_ ⟨s.get64_malformed, s.malformed_frame.counts⟩
    rw [exec_wdogKick_of_mode_ne hm, State.accessWrite_of_admits ha, s.kick_malformed hkey]
  · have hrange := State.inService_mode hserv
    exact .of_eq (exec_wdogStage1Expiry_of_inService harm h2 hrem hh hserv) (State.stage1Midnight_shows (by omega) (by omega))
  · let u := s.setFlag SYS_WDOG_STAT_STAGE1 true
    have hcntu : u.fld SYS_BOOT_LOOP_CNT = s.fld SYS_BOOT_LOOP_CNT := State.fld_setFld_other _ _ _ _ (by decide)
    obtain ⟨hmode, hprev, hflag, hstage, hcount, hdisarmed⟩ := State.wdogReset_shows (s := u) (State.RegsOk_setFlag h _ _) hh hserved (by omega)
    refine .of_eq (t := u.wdogReset) (exec_wdogStage1Expiry_of_morning harm h2 hrem hh hm) ⟨hmode, ?_, hflag, ?_, by rw [hcount, hcntu], hdisarmed⟩
    · rw [hprev, State.mode_setFlag _ _ _ (.inl (by decide)), hm]
    · rw [hstage, State.flag_setFlag_same _ _ _ (by decide) rfl]
  · obtain ⟨hmode, hprev, hflag, -⟩ := s.chipReset_shows h hh (cause := SYS_RST_CAUSE_WDOG) rfl (by decide) rfl
    refine .of_eq (t := s.chipReset SYS_RST_CAUSE_WDOG) ?_ ⟨hmode, hprev.trans hm, hflag, by rw [State.chipReset_sys hh rfl],
      State.chipReset_fld h hh rfl _ (by decide) (by decide)⟩
    simp [exec, execWdogStage2Expiry, hm, harm, h2, hrem, hen, hh, State.wdogReset_of_served hserved]
  · simp [exec, execWdogStage2Expiry, hen]
end

section
/-! SUPPORT. What the effects of the blocks leave of the sequencer: its state, the registers of SYS, and the ANA state. -/

namespace Sys2Proof.Machine

/-- Effects outside the SYS block leave the sequencer's state, the registers of SYS (R24), and the ANA state. -/
structure State.SysKept (s t : State) : Prop where
  sys : t.sys = s.sys
  regs : ∀ off, off < 0x10000 → t.reg off = s.reg off
  ana : t.fld CMDQ_STAT_ANA = s.fld CMDQ_STAT_ANA

/-- A register outside SYS that does not hold the ANA state. -/
abbrev OutsideSys (off : Nat) : Prop := 0x10000 ≤ off ∧ off ≠ CMDQ_STAT

end Sys2Proof.Machine

namespace Sys2Proof.Machine.State.SysKept

variable {s t u : State}

/-! ### Writes, counts and messages, to be chained by dot in the order of the effects -/

theorem refl (s : State) : s.SysKept s := ⟨rfl, fun _ _ => rfl, rfl⟩

/-- A field of SYS reads as before. -/
theorem fld (h : s.SysKept t) (f : Fld) (hf : f.off < 0x10000 := by decide) : t.fld f = s.fld f := by
  rw [State.fld, State.fld, h.regs _ hf]

theorem flag (h : s.SysKept t) (f : Fld) (hf : f.off < 0x10000 := by decide) : t.flag f = s.flag f := by
  rw [State.flag, State.flag, h.fld f hf]

theorem mode (h : s.SysKept t) : t.mode = s.mode := h.fld SYS_MODE_CUR

/-- A record update that keeps the register file and the sequencer's state. -/
theorem frame (h : s.SysKept t) (hregs : u.regs = t.regs := by rfl) (hsys : u.sys = t.sys := by rfl) : s.SysKept u := by
  have hreg : ∀ off, u.reg off = t.reg off := fun off => by rw [State.reg, State.reg, hregs]
  exact ⟨hsys.trans h.sys, fun off ho => (hreg off).trans (h.regs off ho), by rw [← h.ana, State.fld, State.fld, hreg]⟩

theorem setReg {off : Nat} {w : Word} (h : s.SysKept t) (ho : OutsideSys off := by decide) : s.SysKept (t.setReg off w) :=
  ⟨h.sys, fun o hlt => (State.reg_setReg_other _ _ _ _ (by omega)).trans (h.regs o hlt), (State.fld_setReg_other _ _ _ _ ho.2).trans h.ana⟩

theorem setFld {f : Fld} {v : Nat} (h : s.SysKept t) (ho : OutsideSys f.off := by decide) : s.SysKept (t.setFld f v) := h.setReg ho

theorem setFlag {f : Fld} {b : Bool} (h : s.SysKept t) (ho : OutsideSys f.off := by decide) : s.SysKept (t.setFlag f b) := h.setReg ho

theorem emit {o : Out} (h : s.SysKept t) : s.SysKept (t.emit o) := h.frame

/-- A frame of counts outside SYS. -/
theorem counts {offs : List Nat} (h : s.SysKept t) (hc : CountsOnly offs t u) (ho : ∀ off ∈ offs, OutsideSys off) : s.SysKept u := by
  have hreg : ∀ off, (∀ o ∈ offs, off ≠ o) → off ≠ HEP_STAT → u.reg off = t.reg off := fun off hn hs => hc.2 off (fun hm => hn off hm rfl) hs
  refine ⟨hc.sys.trans h.sys, fun off hlt => (hreg off (fun o hm => ?_) (by simp only [HEP_STAT]; omega)).trans (h.regs off hlt), ?_⟩
  · have := (ho o hm).1; omega
  · rw [← h.ana, State.fld, State.fld, hreg CMDQ_STAT_ANA.off (fun o hm => (ho o hm).2.symm) (by decide)]

theorem wakeLink (h : s.SysKept t) : s.SysKept t.wakeLink := h.counts (CountsOnly.refl [] _).wakeLink (by simp)

theorem msix1 {v : Nat} (h : s.SysKept t) : s.SysKept (t.msix1 v) := h.counts ((CountsOnly.refl [] _).msix1 v) (by simp)

theorem monEvent {g code n : Nat} (h : s.SysKept t) : s.SysKept (t.monEvent g code n) := h.counts ((CountsOnly.refl [] _).monEvent g code n) (by simp)

theorem bumpBy {off n : Nat} (h : s.SysKept t) (ho : OutsideSys off ∧ OutsideSys (off + 4) := by decide) : s.SysKept (t.bumpBy off n) :=
  h.counts (offs := [off, off + 4]) ((CountsOnly.refl _ _).bumpBy _ _ (by simp) (by simp)) (by simpa using ho)

theorem bump {off : Nat} (h : s.SysKept t) (ho : OutsideSys off ∧ OutsideSys (off + 4) := by decide) : s.SysKept (t.bump off) := h.bumpBy ho

theorem bumpCBy {c off n : Nat} (h : s.SysKept t) (ho : OutsideSys off ∧ OutsideSys (off + 4) := by decide) : s.SysKept (t.bumpCBy c off n) := (h.bumpBy ho).monEvent

/-! ### Branches, folds and effects that take an effect -/

theorem of_ite {c : Prop} [Decidable c] (ht : s.SysKept t) (hu : s.SysKept u) : s.SysKept (if c then t else u) := by
  split
  · exact ht
  · exact hu

theorem each {α : Type} {l : List α} {f : State → α → State} (h : s.SysKept t) (hf : ∀ u a, s.SysKept u → s.SysKept (f u a)) : s.SysKept (t.each l f) := by
  induction l generalizing t with
  | nil => exact h
  | cons a l ih => exact ih (hf t a h)

theorem cond {c : Bool} {f : State → State} (h : s.SysKept t) (hf : ∀ u, s.SysKept u → s.SysKept (f u)) : s.SysKept (t.cond c f) := by
  cases c
  · exact h
  · exact hf t h

/-! ### The content cache -/

theorem ageUp {ks} (h : s.SysKept t) : s.SysKept (t.ageUp ks) := h.frame

theorem evict {l} (h : s.SysKept t) : s.SysKept (t.evict l) := of_ite h h.frame.bump

theorem chooseWay_fst {v st} (h : s.SysKept t) : s.SysKept (t.chooseWay v st).1 := by
  unfold State.chooseWay
  extract_lets
  split
  · split
    · exact h
    · exact h.evict.frame
  · split
    · exact h
    · split
      · exact h
      · split
        · exact h.ageUp.evict.frame
        · exact h.ageUp

theorem install {v st key sectors lock} (h : s.SysKept t) : s.SysKept (t.install v st key sectors lock) := by
  unfold State.install
  refine of_ite h ?_
  extract_lets
  split
  · exact h.frame.bump.setFld
  · have hway := h.chooseWay_fst (v := v) (st := st)
    split
    next e => rw [e] at hway; exact hway.frame.bump.setFld
    next e => rw [e] at hway; exact hway.bump

theorem endDemand {f} (h : s.SysKept t) : s.SysKept (t.endDemand f) := of_ite h.frame.bump (of_ite h.frame h.frame.install)

theorem endFillsOf {handle} (h : s.SysKept t) : s.SysKept (t.endFillsOf handle) := h.each fun _ _ hu => hu.endDemand

/-! ### The Narzan link -/

theorem setGrp {g x} (h : s.SysKept t) : s.SysKept (t.setGrp g x) := h.frame

theorem syncGrp {g} (h : s.SysKept t) : s.SysKept (t.syncGrp g) :=
  h.setFld ⟨by simp only [NZL_GRP_STAT_CREDIT, NZL_GRP_STAT]; omega, by simp only [NZL_GRP_STAT_CREDIT, NZL_GRP_STAT, CMDQ_STAT]; omega⟩

theorem nzlPump {g n} (h : s.SysKept t) : s.SysKept (t.nzlPump g n) := by
  induction n generalizing t with
  | zero => exact h
  | succ n ih =>
    unfold State.nzlPump
    extract_lets x
    split
    · exact h.syncGrp
    · exact of_ite h.syncGrp (ih h.setGrp.emit.bumpBy)

theorem nzlOn {g b} (h : s.SysKept t) : s.SysKept (t.nzlOn g b) := nzlPump (setGrp (of_ite h.frame h))

theorem nzlSend {b} (h : s.SysKept t) : s.SysKept (t.nzlSend b) := by
  unfold State.nzlSend
  split
  · exact h
  · exact h.nzlOn

theorem metaSend {items} (h : s.SysKept t) : s.SysKept (t.metaSend items) := of_ite h.nzlSend h

/-! ### Commands, queues and associations -/

theorem setQp {i q} (h : s.SysKept t) : s.SysKept (t.setQp i q) := h.frame

theorem winDone {w} (h : s.SysKept t) : s.SysKept (t.winDone w) := h.frame

theorem setQueue {q x} (h : s.SysKept t) : s.SysKept (t.setQueue q x) := h.frame

theorem setAssoc {a x} (h : s.SysKept t) : s.SysKept (t.setAssoc a x) := h.frame

theorem qpSend {i m} (h : s.SysKept t) : s.SysKept (t.qpSend i m) := of_ite h.frame h

theorem pf1Write {addr n data} (h : s.SysKept t) : s.SysKept (t.pf1Write addr n data) := of_ite h (h.wakeLink.each fun _ _ hu => hu.emit)

theorem postCqe {qi cid status result sqe} (h : s.SysKept t) : s.SysKept (t.postCqe qi cid status result sqe) := by
  unfold State.postCqe
  split
  · exact h
  · refine of_ite (of_ite (frame (t := t) h).setFlag h) ?_
    extract_lets
    split
    · exact h.setQueue.bump.qpSend
    · exact h.setQueue.bump.pf1Write.cond fun _ hu => hu.msix1
    · exact h.setQueue.bump.qpSend

theorem syncCmds (h : s.SysKept t) : s.SysKept t.syncCmds := by
  refine setFld (setFld (setFld (each (h.setFld) fun u c hu => ?_)))
  have hstat : OutsideSys (ENG_CL_STAT c) := ⟨by simp only [ENG_CL_STAT]; omega, by simp only [ENG_CL_STAT, CMDQ_STAT]; omega⟩
  have hshard : OutsideSys (ENG_SHARD_STAT c) := ⟨by simp only [ENG_SHARD_STAT]; omega, by simp only [ENG_SHARD_STAT, CMDQ_STAT]; omega⟩
  exact of_ite (((hu.setFld hshard).setFld hstat).setFlag hstat) ((hu.setFld hshard).setFld hstat)

theorem remoteOps {handle home es} (h : s.SysKept t) : s.SysKept (t.remoteOps handle home es) := by
  unfold State.remoteOps
  split
  · exact h
  · exact of_ite h h.bumpCBy

theorem unlock {handle} (h : s.SysKept t) : s.SysKept (t.unlock handle) := of_ite h.endFillsOf.frame.remoteOps.metaSend h.endFillsOf.frame.remoteOps

theorem endCmd {handle} (h : s.SysKept t) : s.SysKept (t.endCmd handle) := (frame (t := (t.unlock handle).offEngines handle) h.unlock.frame).syncCmds

theorem modCmd {handle f} (h : s.SysKept t) : s.SysKept (t.modCmd handle f) := by
  unfold State.modCmd
  split
  · exact h.frame
  · exact h

theorem aen {a typ info page} (h : s.SysKept t) : s.SysKept (t.aen a typ info page) := by
  unfold State.aen
  split
  · exact h
  · split
    · exact of_ite h h.setAssoc
    · extract_lets
      split
      · exact h.setAssoc
      · refine endCmd ?_
        split
        · exact h.setAssoc.postCqe
        · exact h.setAssoc

theorem endWinReqs {i} (h : s.SysKept t) : s.SysKept (t.endWinReqs i) := h.each fun _ _ hu => winDone (of_ite hu.modCmd hu.endCmd)

theorem freeQueue {qi} (h : s.SysKept t) : s.SysKept (t.freeQueue qi) := of_ite (frame (t := t) h).setFld h.frame

theorem assocReset {a} (h : s.SysKept t) : s.SysKept (t.assocReset a) := by
  unfold State.assocReset
  split
  · exact h
  · extract_lets qs waiting s1 cs s2 s3 ps s4 _ s5 s6
    have h2 : s.SysKept s2 := h.bump.bumpBy.each fun _ _ hu => of_ite hu.modCmd hu.endCmd.bump
    have h3 : s.SysKept s3 := h2.each fun _ _ hu => hu.freeQueue
    have h4 : s.SysKept s4 := h3.each fun _ _ hu => (hu.each fun _ _ hv => hv.winDone).endWinReqs.setQp
    have h6 : s.SysKept s6 := by
      have hreg : s.SysKept (s5.setReg (CMDQ_ASSOC a) 0) :=
        (frame (u := s5) h4).setReg ⟨by simp only [CMDQ_ASSOC]; omega, by simp only [CMDQ_ASSOC, CMDQ_STAT]; omega⟩
      exact ⟨hreg.sys, fun off hlt => (State.reg_setFld_other _ _ _ _ (by simp only [CMDQ_STAT_ASSOC, CMDQ_STAT]; omega)).trans (hreg.regs off hlt),
        (State.fld_setFld_apart _ _ _ _ (by decide) (by decide)).trans hreg.ana⟩
    exact h6.cond fun u hu => (frame (t := u) hu).setFlag.setFlag

end Sys2Proof.Machine.State.SysKept
end

section
/-! SUPPORT. NIGHT: the ANA state, requests, the abandoned entry, and the entry (R45, R46, R61). -/

namespace Sys2Proof.Machine

/-- A change of the ANA state shows it, and leaves the sequencer and SYS alone (R45, R174). -/
theorem State.setAna_shows (s : State) {v : Nat} (hv : v < 16) :
    (s.setAna v).fld CMDQ_STAT_ANA = v ∧ (s.setAna v).sys = s.sys ∧ ∀ off, off < 0x10000 → (s.setAna v).reg off = s.reg off := by
  by_cases hsame : s.fld CMDQ_STAT_ANA = v
  · rw [State.setAna, if_pos hsame]
    exact ⟨hsame, rfl, fun _ _ => rfl⟩
  · let u : State := { s with cmdq := { s.cmdq with anaCount := (s.cmdq.anaCount + 1) % 2 ^ 64 } }
    have hkept : (u.setFld CMDQ_STAT_ANA v).SysKept (s.setAna v) := by
      rw [State.setAna, if_neg hsame]
      exact (State.SysKept.refl _).each fun _ _ ht => ht.aen
    refine ⟨?_, hkept.sys, fun off hlt => ?_⟩
    · rw [hkept.ana, State.fld_setFld_same _ _ _ (by decide)]
      exact Nat.mod_eq_of_lt hv
    · rw [hkept.regs off hlt, State.reg_setFld_other _ _ _ _ (by simp only [CMDQ_STAT_ANA, CMDQ_STAT]; omega)]
      rfl

/-! ### Requests -/

/-- A request that is taken: the pending flag, RESULT 1, and the count of the drain from 0 (R45, R61). -/
def State.nightPending (s : State) : State :=
  (State.setFlag { s with sys := { s.sys with nightFrom := s.mode, drainCount := 0 } } SYS_MODE_NIGHT_PEND true).setFld SYS_MODE_REQ_RESULT 1

theorem State.nightRequest_of_accepted {s : State} (hp : s.flag SYS_MODE_NIGHT_PEND = false) (hr : s.nightRefusal = 0) :
    s.nightRequest = s.nightPending.cond s.serving (fun t => t.setAna 3) := by
  rw [State.nightRequest, hp, hr]
  rfl

theorem State.nightRequest_of_refused {s : State} (hp : s.flag SYS_MODE_NIGHT_PEND = false) (hr : s.nightRefusal = 2) :
    s.nightRequest = s.setFld SYS_MODE_REQ_RESULT 2 := by
  simp [State.nightRequest, hp, hr]

theorem State.nightPending_shows (s : State) :
    s.nightPending.flag SYS_MODE_NIGHT_PEND = true ∧ s.nightPending.fld SYS_MODE_REQ_RESULT = 1 ∧ s.nightPending.mode = s.mode := by
  unfold State.nightPending
  refine ⟨?_, State.fld_setFld_same _ _ _ (by decide), ?_⟩
  · rw [State.flag_setFld_apart _ _ _ _ (by decide) (by decide), State.flag_setFlag_same _ _ _ (by decide) rfl]
  · rw [State.mode_setFld _ _ _ (.inl (by decide)), State.mode_setFlag _ _ _ (.inr (by decide))]
    rfl

theorem State.nightPending_frame (s : State) : RegsOnly [SYS_MODE, SYS_MODE_REQ] { s with sys := s.nightPending.sys } s.nightPending :=
  ((RegsOnly.refl _ _).setFlag _ _ (by decide)).setFld _ _ (by decide)

/-! ### The abandoned entry -/

/-- What an abandoned entry shows (R46). -/
def State.nightAbandoned (s : State) : State := ((s.setFlag SYS_MODE_NIGHT_PEND false).setFld SYS_MODE_REQ_RESULT 4).setFld SYS_MODE_CAUSE 10

theorem State.nightAbandoned_mode (s : State) : s.nightAbandoned.mode = s.mode := by
  rw [State.nightAbandoned, State.mode_setFld _ _ _ (.inr (by decide)), State.mode_setFld _ _ _ (.inl (by decide)), State.mode_setFlag _ _ _ (.inr (by decide))]

theorem State.nightAbandoned_frame (s : State) : RegsOnly [SYS_MODE, SYS_MODE_REQ] s s.nightAbandoned :=
  (((RegsOnly.refl _ s).setFlag _ _ (by decide)).setFld _ _ (by decide)).setFld _ _ (by decide)

theorem State.nightAbandoned_shows (s : State) : s.nightAbandoned.flag SYS_MODE_NIGHT_PEND = false ∧ s.nightAbandoned.fld SYS_MODE_REQ_RESULT = 4 ∧
    s.nightAbandoned.fld SYS_MODE_CAUSE = 10 := by
  unfold State.nightAbandoned
  refine ⟨?_, ?_, State.fld_setFld_same _ _ _ (by decide)⟩
  · rw [State.flag_setFld_apart _ _ _ _ (by decide) (by decide), State.flag_setFld_apart _ _ _ _ (by decide) (by decide), State.flag_setFlag_same _ _ _ (by decide) rfl]
  · rw [State.fld_setFld_apart _ _ _ _ (by decide) (by decide), State.fld_setFld_same _ _ _ (by decide)]
    rfl

/-- In TWILIGHT an entry is abandoned with no change of the ANA state or of the mode. -/
theorem State.abandonNight_of_twilight {s : State} (hp : s.flag SYS_MODE_NIGHT_PEND = true) (hm : s.mode = 6) : s.abandonNight = s.nightAbandoned := by
  have hserv : s.nightAbandoned.serving = false := by simp [State.serving, s.nightAbandoned_mode, hm]
  have hsync : s.nightAbandoned.syncServing = s.nightAbandoned := by rw [State.syncServing, hserv]; rfl
  rw [State.abandonNight, hp]
  change (s.nightAbandoned.cond s.nightAbandoned.serving (fun t => t.setAna 1)).syncServing = _
  rw [hserv]
  exact hsync

theorem State.abandonNight_shows {s : State} (hp : s.flag SYS_MODE_NIGHT_PEND = true) (hm : s.mode = 6) :
    s.abandonNight.flag SYS_MODE_NIGHT_PEND = false ∧ s.abandonNight.fld SYS_MODE_REQ_RESULT = 4 ∧ s.abandonNight.fld SYS_MODE_CAUSE = 10 ∧ s.abandonNight.mode = 6 ∧
      RegsOnly [SYS_MODE, SYS_MODE_REQ] s s.abandonNight := by
  rw [State.abandonNight_of_twilight hp hm]
  obtain ⟨hpend, hresult, hcause⟩ := s.nightAbandoned_shows
  exact ⟨hpend, hresult, hcause, s.nightAbandoned_mode.trans hm, s.nightAbandoned_frame⟩

/-! ### The entry -/

/-- The registers of the entry: the flag, the mode and its message, and REMAIN (R45 step 6, R55). -/
def State.nightRegs (s : State) : State := ((s.setFlag SYS_MODE_NIGHT_PEND false).enterMode 0 9).setFld SYS_WDOG_STAT_REMAIN 0

theorem State.nightRegs_frame (s : State) : CountsOnly [SYS_MODE, SYS_WDOG_STAT] s s.nightRegs :=
  (((RegsOnly.refl _ s).setFlag SYS_MODE_NIGHT_PEND false (by decide)).counts.trans ((State.enterMode_frame _ 0 9).mono (by simp))).setFld _ _ (by decide)

theorem State.nightRegs_shows (s : State) : s.nightRegs.mode = 0 ∧ s.nightRegs.flag SYS_MODE_NIGHT_PEND = false ∧ s.nightRegs.fld SYS_MODE_CAUSE = 9 ∧
    s.nightRegs.fld SYS_MODE_PREV = s.mode ∧ s.nightRegs.fld SYS_WDOG_STAT_REMAIN = 0 := by
  obtain ⟨hmode, hprev, hcause⟩ := (s.setFlag SYS_MODE_NIGHT_PEND false).enterMode_shows (m := 0) (cause := 9) (by decide) (by decide)
  unfold State.nightRegs
  refine ⟨?_, ?_, ?_, ?_, State.fld_setFld_same _ _ _ (by decide)⟩
  · rw [State.mode_setFld _ _ _ (.inl (by decide)), hmode]
  · rw [State.flag_setFld_apart _ _ _ _ (by decide) (by decide), State.enterMode_flag _ _ _ _ rfl (by decide) (by decide) (by decide),
      State.flag_setFlag_same _ _ _ (by decide) rfl]
  · rw [State.fld_setFld_other _ _ _ _ (by decide), hcause]
  · rw [State.fld_setFld_other _ _ _ _ (by decide), hprev, State.mode_setFlag _ _ _ (.inr (by decide))]

end Sys2Proof.Machine

open Sys2Proof Sys2Proof.Machine

/-- Settles O10: a request is `nightPending`, a cancel `nightAbandoned`, the entry `enterNight`, and a change of the ANA state leaves SYS alone. -/
theorem nightRequests : Obligations.NightRequests := by
  unfold Obligations.NightRequests
  refine ⟨fun s req ha hp hm => ?_, fun s req ha hp hm hd hpart => ?_, fun s req ha hp hm => ?_, fun s req ha hp => ?_, fun s req ha hp hm => ?_,
    fun s req ha hp => ?_, fun s hrun hp hm hmax => ?_, fun s hrun hp hm hd => ?_⟩
  · obtain ⟨hpend, hresult, hmode⟩ := s.nightPending_shows
    refine .of_eq (t := s.nightPending) ?_ ⟨hpend, hresult, hmode.trans hm, ?_, s.nightPending_frame⟩
    · have hserv : s.serving = false := by simp [State.serving, hm]
      rw [exec, execNightRequest, State.accessWrite_of_admits ha, State.nightRequest_of_accepted hp (by simp [State.nightRefusal, hm]), hserv]
      rfl
    · rw [← hm]; rfl
  · obtain ⟨hpend, hresult, hmode⟩ := s.nightPending_shows
    obtain ⟨hana, hsys, hregs⟩ := s.nightPending.setAna_shows (v := 3) (by decide)
    have hfld : ∀ f : Fld, f.off < 0x10000 → (s.nightPending.setAna 3).fld f = s.nightPending.fld f := fun f hf => by rw [State.fld, State.fld, hregs _ hf]
    refine .of_eq (t := s.nightPending.setAna 3) ?_ ⟨?_, (hfld _ (by decide)).trans hresult, (hfld _ (by decide)).trans hmode, hsys, hana⟩
    · have hserv : s.serving = true := by rcases hm with hm | hm <;> simp [State.serving, hm]
      have hrefusal : s.nightRefusal = 0 := by rcases hm with hm | hm <;> simp [State.nightRefusal, hm, hd, State.partnered, hpart]
      rw [exec, execNightRequest, State.accessWrite_of_admits ha, State.nightRequest_of_accepted hp hrefusal, hserv]
      rfl
    · rw [State.flag, hfld _ (by decide), ← State.flag, hpend]
  · have hrefusal : s.nightRefusal = 2 := by rcases hm with hm | hm | hm <;> simp [State.nightRefusal, hm]
    refine .of_eq (t := s.setFld SYS_MODE_REQ_RESULT 2) ?_
      ⟨State.fld_setFld_same _ _ _ (by decide), State.mode_setFld _ _ _ (.inl (by decide)), (RegsOnly.refl _ s).setFld _ _ (by decide)⟩
    rw [exec, execNightRequest, State.accessWrite_of_admits ha, State.nightRequest_of_refused hp hrefusal]
  · rw [exec, execNightRequest, State.accessWrite_of_admits ha, State.nightRequest, if_pos hp]
  · exact .of_eq (by rw [exec, execNightCancel, State.accessWrite_of_admits ha]) (State.abandonNight_shows hp hm)
  · rw [exec, execNightCancel, State.accessWrite_of_admits ha, State.abandonNight, hp]
    rfl
  · exact .of_eq (by simp [exec, execNightDrainTimeout, hrun, hp, hmax]) (State.abandonNight_shows hp hm)
  · obtain ⟨hmode, hpend, hcause, hprev, hremain⟩ := s.nightRegs_shows
    have hframe := s.nightRegs_frame
    refine .of_eq (t := s.enterNight) (by simp [exec, execNightDrainComplete, hrun, hp, hd, hm]) ⟨hmode, hpend, hcause, hprev, hremain, ?_, rfl, hframe.cmdq, hframe.red⟩
    change { s.nightRegs.sys with gatesClosing := true, heldWake := false, wdogArmed := false, wdogStage2 := false } = _
    rw [hframe.sys]
end

section
/-! SUPPORT. DAWN: fuses and link, boot copies, training, and the start of MORNING (R36, R42, R48–R51). -/

namespace Sys2Proof.Machine

/-! ### The fuses and the link -/

/-- The KEK as the fuses give it, with its check value (R48 step 2, R315). -/
def State.loadKek (s : State) (kek : Option Nat) : State :=
  let k := match s.cip.kek with
    | some x => some x
    | none => kek
  let s1 := { s with cip := { s.cip with kek := k } }
  match k with
    | none => s1
    | some x => (s1.setFlag CIP_KEK_PROG true).setFld CIP_KEK_KCV (leNat (toBe 16 (Config.aes256 x 0)) 0 2)

theorem State.loadKek_frame (s : State) (kek : Option Nat) : RegsOnly [CIP_KEK] { s with cip := (s.loadKek kek).cip } (s.loadKek kek) := by
  unfold State.loadKek
  extract_lets k _ s1
  clear_value k
  cases k with
  | none => exact RegsOnly.refl _ _
  | some x => exact ((RegsOnly.refl _ _).setFlag CIP_KEK_PROG true (by decide)).setFld CIP_KEK_KCV _ (by decide)

/-- The fused bits of PROT_STAT over a loaded KEK: blown bits stay blown. -/
def State.blowBits (s : State) (prov ikh : Bool) : State :=
  (s.setFlag PROT_STAT_PROV (s.flag PROT_STAT_PROV || prov)).setFlag PROT_STAT_IKH (s.flag PROT_STAT_IKH || ikh)

theorem State.loadFuses_eq (s : State) (kek : Option Nat) (prov ikh : Bool) : s.loadFuses kek prov ikh = ((s.loadKek kek).blowBits prov ikh).rstClasses := rfl

theorem State.blowBits_frame (s : State) (prov ikh : Bool) : RegsOnly [PROT_STAT] s (s.blowBits prov ikh) :=
  ((RegsOnly.refl _ s).setFlag _ _ (by decide)).setFlag _ _ (by decide)

/-- The fuses set the check value of the KEK, the fused bits, and the port classes that go with them (R48 step 2, R378). -/
theorem State.loadFuses_frame (s : State) (kek : Option Nat) (prov ikh : Bool) :
    RegsOnly [CIP_KEK, PROT_STAT, PROT_PRIV_LOCAL] { s with cip := (s.loadKek kek).cip } (s.loadFuses kek prov ikh) :=
  (((s.loadKek_frame kek).mono (by simp)).trans ((State.blowBits_frame _ prov ikh).mono (by simp))).trans ((State.rstClasses_frame _).mono (by simp))

theorem State.loadFuses_prov (s : State) (kek : Option Nat) (prov ikh : Bool) :
    (s.loadFuses kek prov ikh).flag PROT_STAT_PROV = (s.flag PROT_STAT_PROV || prov) := by
  have hkek : (s.loadKek kek).flag PROT_STAT_PROV = s.flag PROT_STAT_PROV := (s.loadKek_frame kek).flag _ (by decide)
  rw [State.loadFuses_eq, (State.rstClasses_frame _).flag _ (by decide), State.blowBits, State.setFlag, State.flag_setFld_apart _ _ _ _ (by decide) (by decide),
    State.flag_setFlag_same _ _ _ (by decide) rfl, hkek]

theorem State.linkTrain_frame (s : State) (lanes rate : Nat) : RegsOnly [HEP_STAT] { s with hep := (s.linkTrain lanes rate).hep } (s.linkTrain lanes rate) := by
  unfold State.linkTrain
  split
  · exact RegsOnly.refl _ _
  · exact (((RegsOnly.refl _ _).setFld _ _ (by decide)).setFld _ _ (by decide)).setFld _ _ (by decide)

/-- A link that trains is up, in L0, at the lanes that trained (R49). -/
theorem State.linkTrain_shows {s : State} {lanes : Nat} (rate : Nat) (hl : s.hep.linkUp = false) (h0 : 0 < lanes) (h32 : lanes < 32) :
    (s.linkTrain lanes rate).hep.linkUp = true ∧ (s.linkTrain lanes rate).fld HEP_STAT_WIDTH = lanes ∧ (s.linkTrain lanes rate).fld HEP_STAT_LPS = 1 := by
  rw [State.linkTrain, if_neg (by simp [hl, h0.ne'])]
  refine ⟨rfl, ?_, ?_⟩
  · rw [State.fld_setFld_apart _ _ _ _ (by decide) (by decide), State.fld_setFld_same _ _ _ (by decide)]
    exact Nat.mod_eq_of_lt h32
  · rw [State.fld_setFld_apart _ _ _ _ (by decide) (by decide), State.fld_setFld_apart _ _ _ _ (by decide) (by decide), State.fld_setFld_same _ _ _ (by decide)]
    rfl

theorem RegsOnly.withHep {offs : List Nat} {s t : State} (h : RegsOnly offs s t) (x : Hep) : RegsOnly offs { s with hep := x } { t with hep := x } :=
  ⟨by rw [h.1], h.2⟩

/-- The PLLs have locked (R48 step 2). -/
def State.lockPlls (s : State) : State := { s with sys := { s.sys with pllLocked := true } }

/-- The state that the lock of the PLLs leaves: fuses loaded, link trained (R48 step 2, R49). -/
def State.plled (s : State) (lanes rate : Nat) (kek : Option Nat) (prov ikh : Bool) : State := (s.lockPlls.loadFuses kek prov ikh).linkTrain lanes rate

theorem State.plled_frame (s : State) (lanes rate : Nat) (kek : Option Nat) (prov ikh : Bool) :
    RegsOnly [CIP_KEK, PROT_STAT, PROT_PRIV_LOCAL, HEP_STAT]
      { s.lockPlls with cip := (s.lockPlls.loadKek kek).cip, hep := (s.plled lanes rate kek prov ikh).hep } (s.plled lanes rate kek prov ikh) :=
  (((s.lockPlls.loadFuses_frame kek prov ikh).mono (by simp)).withHep _).trans ((State.linkTrain_frame _ lanes rate).mono (by simp))

/-- Fields outside the fuses and the link stay. -/
theorem State.plled_fld (s : State) (lanes rate : Nat) (kek : Option Nat) (prov ikh : Bool) (f : Fld) (hf : f.off ∉ [CIP_KEK, PROT_STAT, PROT_PRIV_LOCAL, HEP_STAT]) :
    (s.plled lanes rate kek prov ikh).fld f = s.fld f :=
  (s.plled_frame lanes rate kek prov ikh).fld f hf

theorem State.dawn_of_mode {s : State} (hm : s.mode = 1) (hh : s.sys.hold = .none) : s.dawn = true := by simp [State.dawn, hm, hh]

/-- The lock of the PLLs, and MIDNIGHT at once at the boot-loop limit (R48 step 2, R51). -/
theorem exec_pllLock {s : State} (hd : s.dawn = true) (hg : s.sys.gatesOpen = true) (hp : s.sys.pllLocked = false) (lanes : Fin 17) (rate : Fin 6)
    (kek : Option Nat) (prov ikh : Bool) : exec (.pllLock lanes rate kek prov ikh) s =
      .next (if (s.plled lanes rate kek prov ikh).fld SYS_BOOT_LOOP_CNT = 4 && (s.plled lanes rate kek prov ikh).flag SYS_BOOT_LOOP_SW then
        ((s.plled lanes rate kek prov ikh).setFld SYS_BOOT_LOOP_CNT 0).bootFails SYS_MIDNIGHT_CAUSE_BOOT_LOOP else s.plled lanes rate kek prov ikh) := by
  rw [exec, execPllLock, hd, hg, hp]
  rfl

/-! ### Boot copies -/

theorem State.setBootCode_frame (s : State) (c v : Nat) : RegsOnly [PROT_BOOT_STAT] s (s.setBootCode c v) := by
  unfold State.setBootCode
  split
  · exact (RegsOnly.refl _ s).setFld _ _ (by decide)
  · exact (RegsOnly.refl _ s).setFld _ _ (by decide)

/-- The NOR holds two copies. -/
theorem State.bootCopy_lt {s : State} {c : Nat} (h : s.bootCopy = some c) : c < 2 := by
  have hpref : s.fld SYS_BOOT_PREF < 2 ^ 1 := Nat.mod_lt _ (by decide)
  simp only [State.bootCopy] at h
  split at h
  · cases h; exact hpref
  · split at h
    · cases h; omega
    · cases h

/-- A copy that runs shows in SYS_BOOT, and the watchdog runs from PERIOD (R50, R55). -/
theorem State.bootRun_shows (s : State) {c : Nat} (hc : c < 2) (h : List (BitVec 8)) :
    (s.bootRun c h).fld SYS_BOOT_RUN = c ∧ (s.bootRun c h).flag SYS_BOOT_FALLBACK = (c != s.fld SYS_BOOT_PREF) ∧
      (s.bootRun c h).fld SYS_WDOG_STAT_REMAIN = max 16 (s.fld SYS_WDOG_CTL_PERIOD) := by
  let u : State := { s with sys := { s.sys with imageRunning := true, imgVersion := leNat h 8 2, imgMinPartner := leNat h 10 2, wdogArmed := true } }
  let v := (u.setBootCode c 15).setFld PROT_BOOT_STAT_SVN (leNat h 16 2)
  have hv : RegsOnly [PROT_BOOT_STAT] u v := (u.setBootCode_frame c 15).setFld _ _ (by decide)
  let w := v.setFld SYS_BOOT_RUN c
  have hpref : w.fld SYS_BOOT_PREF = s.fld SYS_BOOT_PREF := (State.fld_setFld_apart _ _ _ _ (by decide) (by decide)).trans (hv.fld _ (by decide))
  have hperiod : w.fld SYS_WDOG_CTL_PERIOD = s.fld SYS_WDOG_CTL_PERIOD := (State.fld_setFld_other _ _ _ _ (by decide)).trans (hv.fld _ (by decide))
  change ((w.setFlag SYS_BOOT_FALLBACK (c != w.fld SYS_BOOT_PREF)).setFld SYS_WDOG_STAT_REMAIN (max 16 (w.fld SYS_WDOG_CTL_PERIOD))).fld SYS_BOOT_RUN = c ∧
    ((w.setFlag SYS_BOOT_FALLBACK (c != w.fld SYS_BOOT_PREF)).setFld SYS_WDOG_STAT_REMAIN (max 16 (w.fld SYS_WDOG_CTL_PERIOD))).flag SYS_BOOT_FALLBACK = _ ∧
    ((w.setFlag SYS_BOOT_FALLBACK (c != w.fld SYS_BOOT_PREF)).setFld SYS_WDOG_STAT_REMAIN (max 16 (w.fld SYS_WDOG_CTL_PERIOD))).fld SYS_WDOG_STAT_REMAIN = _
  rw [hpref, hperiod]
  refine ⟨?_, ?_, ?_⟩
  · rw [State.fld_setFld_other _ _ _ _ (by decide), State.setFlag, State.fld_setFld_apart _ _ _ _ (by decide) (by decide), State.fld_setFld_same _ _ _ (by decide)]
    exact Nat.mod_eq_of_lt hc
  · rw [State.flag_setFld_apart _ _ _ _ (by decide) (by decide), State.flag_setFlag_same _ _ _ (by decide) rfl]
  · rw [State.fld_setFld_same _ _ _ (by decide), Nat.mod_eq_of_lt s.max_period_lt]

theorem State.bootRun_frame (s : State) (c : Nat) (h : List (BitVec 8)) :
    RegsOnly [PROT_BOOT_STAT, SYS_BOOT, SYS_WDOG_STAT]
      { s with sys := { s.sys with imageRunning := true, imgVersion := leNat h 8 2, imgMinPartner := leNat h 10 2, wdogArmed := true } } (s.bootRun c h) :=
  (((((State.setBootCode_frame _ c 15).mono (by simp)).setFld _ _ (by decide)).setFld _ _ (by decide)).setFlag _ _ (by decide)).setFld _ _ (by decide)

/-- A copy that passes every check runs (R50, R387). -/
theorem exec_imageVerified {s : State} {c : Nat} (hd : s.dawn = true) (hp : s.sys.pllLocked = true) (hr : s.sys.imageRunning = false) (hc : s.bootCopy = some c)
    (nor : Nat) (header : List (BitVec 8)) (body : Nat) :
    exec (.imageVerified nor header body) s = .next (if s.bootCheck c nor header body = 0 then s.bootRun c header else s) := by
  rw [exec, execImageVerified, hd, hp, hr, hc]
  rfl

/-- A bad header is the first check that fails (R387). -/
theorem State.bootCheck_of_badHeader (s : State) (c nor : Nat) {h : List (BitVec 8)} (body : Nat) (hh : headerOk h = false) : s.bootCheck c nor h body = 1 :=
  if_pos (by simp [hh])

/-- A copy that fails is marked, and leaves its code (R50, R387). -/
def State.failCopy (s : State) (c code : Nat) : State := State.setBootCode { s with sys := { s.sys with copiesFailed := s.sys.copiesFailed ||| 2 ^ c } } c code

theorem State.failCopy_frame (s : State) (c code : Nat) :
    RegsOnly [PROT_BOOT_STAT] { s with sys := { s.sys with copiesFailed := s.sys.copiesFailed ||| 2 ^ c } } (s.failCopy c code) := State.setBootCode_frame _ c code

theorem State.failCopy_zero_code (s : State) {code : Nat} (h : code < 16) : (s.failCopy 0 code).fld PROT_BOOT_STAT_FAIL0 = code := by
  rw [State.failCopy, State.setBootCode, if_pos rfl, State.fld_setFld_same _ _ _ (by decide)]
  exact Nat.mod_eq_of_lt h

theorem bitOf_eq_testBit (v i : Nat) : bitOf v i = v.testBit i := by
  rw [bitOf, Nat.testBit_eq_decide_div_mod_eq]
  rfl

/-- With copy 0 preferred and failed, copy 1 is next unless it failed too (R50). -/
theorem State.bootCopy_failCopy_zero {s : State} (hp : s.fld SYS_BOOT_PREF = 0) (code : Nat) :
    (s.failCopy 0 code).bootCopy = if bitOf s.sys.copiesFailed 1 then none else some 1 := by
  have hframe := s.failCopy_frame 0 code
  have hpref : (s.failCopy 0 code).fld SYS_BOOT_PREF = 0 := (hframe.fld _ (by decide)).trans hp
  have hfailed : (s.failCopy 0 code).sys.copiesFailed = s.sys.copiesFailed ||| 1 := by rw [hframe.1]; rfl
  have hone : Nat.testBit 1 1 = false := by decide
  simp only [State.bootCopy, hpref, hfailed, bitOf_eq_testBit, Nat.testBit_or]
  cases s.sys.copiesFailed.testBit 1 <;> simp [hone]

/-- A copy whose check or reading fails: the other copy is next, or MIDNIGHT begins (R50, R51). -/
theorem exec_imageFailed {s : State} {c : Nat} (hd : s.dawn = true) (hp : s.sys.pllLocked = true) (hr : s.sys.imageRunning = false) (hc : s.bootCopy = some c)
    (nor : Nat) (header : List (BitVec 8)) (body : Nat) {readError : Bool} {code : Nat} (hcode : (if readError then 8 else s.bootCheck c nor header body) = code)
    (h0 : code ≠ 0) : exec (.imageFailed nor header body readError) s =
      .next (if (s.failCopy c code).bootCopy.isNone then (s.failCopy c code).bootFails SYS_MIDNIGHT_CAUSE_BOOT_BOTH else s.failCopy c code) := by
  rw [exec, execImageFailed, hd, hp, hr, hc]
  simp only [Bool.and_self, Bool.not_false, Bool.not_true, Bool.false_eq_true, if_false]
  rw [hcode, if_neg h0]
  rfl

/-- A boot failure enters MIDNIGHT with CAUSE 12 and its bit (R42, R62). -/
theorem State.bootFails_shows {s : State} (hm : s.mode = 1) {bit : Fld} (ho : bit.off = SYS_MIDNIGHT_CAUSE) (hw : bit.whole = true) (h1 : bit.wd = 1) :
    (s.bootFails bit).mode = 7 ∧ (s.bootFails bit).flag bit = true ∧ (s.bootFails bit).fld SYS_MODE_CAUSE = 12 := by
  obtain ⟨hmode, -, hcause, -, -, hbit⟩ := State.midnight_of_cause (s := s) (by omega) (by omega) ho hw h1 (cause := 12) (by decide)
  exact ⟨hmode, hbit, hcause⟩

/-- A boot failure leaves the fields outside the mode, the causes and a lapsed change. -/
theorem State.bootFails_fld {s : State} (hm : s.mode = 1) {bit : Fld} (ho : bit.off = SYS_MIDNIGHT_CAUSE) (f : Fld) (hw : f.whole = true)
    (hf : f.off ∉ [HEP_STAT, SYS_MODE, PROT_CMT_STAT, CNT_PROT_LAPSED, CNT_PROT_LAPSED + 4])
    (hapart : bit.off ≠ f.off ∨ bit.lo + bit.wd ≤ f.lo ∨ f.lo + f.wd ≤ bit.lo) : (s.bootFails bit).fld f = s.fld f := by
  have hmode : (s.setFlag bit true).mode = 1 := (State.mode_setFlag _ _ _ (.inl (by rw [ho]; decide))).trans hm
  rw [State.bootFails, State.midnight_fld (by omega) (by omega) _ _ hf]
  exact State.fld_setFld_apart _ _ _ _ hw hapart

/-! ### SRAM and DRAM -/

theorem exec_sramInitComplete {s : State} (hd : s.dawn = true) (hb : s.sys.bistDone = true) (hi : s.sys.sramInit = false) :
    exec (.sramInitComplete 0) s = .next (State.syncKat { s with sys := { s.sys with sramInit := true } }) := by
  have hgood : (List.range 32).filter (fun p => bitOf (0 : Word).toNat p) = [] := by decide
  rw [exec, execSramInitComplete, hd, hb, hi, hgood]
  rfl

/-- Eight channels of 4 GiB, trained alike (R36, R48 step 7). -/
def State.trained (s : State) : State :=
  (((State.setFld { s with sys := { s.sys with dramTrained := true, dramDiffer := false } } DMC_INFO_CH_MASK 0xFF).setFld DMC_INFO_DENSITY 4).setFld
    DMC_INFO_INSTALLED_GIB 32).setFld DMC_PART_STAT_USABLE_GIB 31

theorem exec_dramTrainingComplete {s : State} (hd : s.dawn = true) (hp : s.sys.pllLocked = true) :
    exec (.dramTrainingComplete [4, 4, 4, 4, 4, 4, 4, 4, 0, 0, 0, 0]) s = .next s.trained := by
  rw [exec, execDramTrainingComplete, hd, hp]
  rfl

theorem State.trained_frame (s : State) :
    RegsOnly [DMC_INFO, DMC_PART_STAT] { s with sys := { s.sys with dramTrained := true, dramDiffer := false } } s.trained :=
  ((((RegsOnly.refl _ _).setFld _ _ (by decide)).setFld _ _ (by decide)).setFld _ _ (by decide)).setFld _ _ (by decide)

theorem State.trained_shows (s : State) : s.trained.fld DMC_INFO_CH_MASK = 0xFF ∧ s.trained.fld DMC_INFO_DENSITY = 4 ∧ s.trained.fld DMC_INFO_INSTALLED_GIB = 32 ∧
    s.trained.fld DMC_PART_STAT_USABLE_GIB = 31 := by
  unfold State.trained
  refine ⟨?_, ?_, ?_, State.fld_setFld_same _ _ _ (by decide)⟩
  · rw [State.fld_setFld_other _ _ _ _ (by decide), State.fld_setFld_apart _ _ _ _ (by decide) (by decide), State.fld_setFld_apart _ _ _ _ (by decide) (by decide),
      State.fld_setFld_same _ _ _ (by decide)]
    rfl
  · rw [State.fld_setFld_other _ _ _ _ (by decide), State.fld_setFld_apart _ _ _ _ (by decide) (by decide), State.fld_setFld_same _ _ _ (by decide)]
    rfl
  · rw [State.fld_setFld_other _ _ _ _ (by decide), State.fld_setFld_same _ _ _ (by decide)]
    rfl

/-! ### MORNING -/

/-- What no effect of a fold changes, the fold does not change. -/
theorem State.each_keeps {α β : Type} (g : State → β) {f : State → α → State} (hf : ∀ t a, g (f t a) = g t) (l : List α) (s : State) : g (s.each l f) = g s := by
  induction l generalizing s with
  | nil => rfl
  | cons a l ih => exact (ih (f s a)).trans (hf s a)

theorem State.gate_setGate (s : State) (c d : Nat) (g : GatePhase) : (s.setGate c g).gate d = if c = d then g else s.gate d := by
  by_cases h : c = d
  · subst h
    rw [if_pos rfl]
    exact tget_tput_same _ _ _ _
  · rw [if_neg h]
    exact tget_tput_other _ _ _ _ _ h

/-- Gating every listed cluster gates each. -/
theorem State.gate_each_setGate (g : GatePhase) {l : List Nat} {c : Nat} (hc : c ∈ l) (s : State) : (s.each l (fun t n => t.setGate n g)).gate c = g := by
  induction l using List.reverseRecOn with
  | nil => simp at hc
  | append_singleton l a ih =>
    have hlast : s.each (l ++ [a]) (fun t n => t.setGate n g) = (s.each l (fun t n => t.setGate n g)).setGate a g := by simp [State.each]
    rw [hlast, State.gate_setGate]
    by_cases ha : a = c
    · rw [if_pos ha]
    · rw [if_neg ha]
      exact ih (by simpa [Ne.symm ha] using hc)

namespace State.SysKept

variable {s t : State}

theorem fillBuckets (h : s.SysKept t) : s.SysKept t.fillBuckets :=
  ((frame (u := { t with gov := t.fillBuckets.gov }) h).setFld (f := GOV_CHIP_LVL_LEVEL)).setFld (f := GOV_DRV_LVL_LEVEL) |>.setFlag (f := GOV_STAT_DRV_EN)

theorem setGate {c g} (h : s.SysKept t) : s.SysKept (t.setGate c g) := by
  refine setFld (setFld h.frame ?_)
  exact ⟨by simp only [ENG_CL_STAT_POWER, ENG_CL_STAT]; omega, by simp only [ENG_CL_STAT_POWER, ENG_CL_STAT, CMDQ_STAT]; omega⟩

theorem trainGroups (h : s.SysKept t) : s.SysKept t.trainGroups := of_ite h (h.each fun _ _ hu => hu.setGrp)

end State.SysKept

theorem State.fillBuckets_red (s : State) : s.fillBuckets.red = s.red := by
  rw [State.fillBuckets, State.syncLvl, State.setFlag_red, State.setFld_red, State.setFld_red]

theorem State.fillBuckets_cmdq (s : State) : s.fillBuckets.cmdq = s.cmdq := by
  rw [State.fillBuckets, State.syncLvl, State.setFlag_cmdq, State.setFld_cmdq, State.setFld_cmdq]

/-- What no change of a Narzan group changes, the start of training does not change. -/
theorem State.trainGroups_keeps {β : Type} (g : State → β) (hg : ∀ t i x, g (t.setGrp i x) = g t) (s : State) : g s.trainGroups = g s := by
  unfold State.trainGroups
  split
  · rfl
  · exact State.each_keeps g (fun t i => hg t i _) _ s

/-- MORNING before the maps are restored: the mode, full buckets, gated clusters (R39, R42, R331). -/
def State.morning (s : State) : State := (s.enterMode 2 2).fillBuckets.each (List.range 16) (fun t c => t.setGate c .clockGated)

theorem State.morning_kept (s : State) : (s.enterMode 2 2).SysKept s.morning := (State.SysKept.refl _).fillBuckets.each fun _ _ ht => ht.setGate

theorem State.morning_red (s : State) : s.morning.red = s.red := by
  rw [State.morning, State.each_keeps State.red (f := fun t c => t.setGate c .clockGated) fun _ _ => rfl, State.fillBuckets_red, (s.enterMode_frame 2 2).red]

theorem State.morning_cmdq (s : State) : s.morning.cmdq = s.cmdq := by
  rw [State.morning, State.each_keeps State.cmdq (f := fun t c => t.setGate c .clockGated) fun _ _ => rfl, State.fillBuckets_cmdq, (s.enterMode_frame 2 2).cmdq]

/-- With no maps to restore, DAWN ends with the groups' training (R42, R48, R350). -/
theorem exec_dawnComplete {s : State} (hd : s.dawn = true) (hr : s.sys.imageRunning = true) (hb : s.sys.bistDone = true) (hi : s.sys.sramInit = true)
    (ht : s.sys.dramTrained = true) (hs : s.red.saved = none) : exec .dawnComplete s = .next s.morning.trainGroups := by
  have hsaved : s.morning.red.saved = none := by rw [s.morning_red, hs]
  have hrestore : s.morning.restoreMaps = s.morning := by rw [State.restoreMaps, hsaved]
  rw [exec, execDawnComplete, hd, hr, hb, hi, ht]
  exact congrArg (fun t : State => Host.Outcome.next t.trainGroups) hrestore

end Sys2Proof.Machine

open Sys2Proof Sys2Proof.Machine

/-- Settles O11: each step is one of `plled`, `bootRun`, `failCopy`, `bootFails`, `morning` or a flag, and its frame is that operation's. -/
theorem dawnSteps : Obligations.DawnSteps := by
  unfold Obligations.DawnSteps
  refine ⟨fun s hm hh => ?_, fun s lanes rate kek prov ikh hm hh hg hp hc hl hlanes => ?_, fun s lanes rate kek prov ikh hm hh hg hp hc hsw => ?_,
    fun s acked hm hh hp ht => ?_, fun s acked hm hh hp ht hd => ?_, fun s nor header body c hm hh hp hr hc => ?_,
    fun s nor header body hm hh hp hr hc hpref hbad hother => ?_, fun s nor header body hm hh hp hr hc hpref hother => ?_, fun s hm hh hg => ?_,
    fun s u hm hh hg => ?_, fun s hm hh hb hi => ?_, fun s densities hm hh hp hd => ?_, fun s hm hh hr hb hi hd hs => ?_⟩
  · simp [exec, execMainPowerGatesOpen, State.dawn_of_mode hm hh]
  · let u := s.lockPlls.loadFuses kek prov ikh
    have hframe := s.plled_frame lanes rate kek prov ikh
    have hlink : u.hep.linkUp = false := (congrArg (fun t : State => t.hep.linkUp) (s.lockPlls.loadFuses_frame kek prov ikh).1).trans hl
    obtain ⟨hup, hwidth, hlps⟩ := State.linkTrain_shows rate.val hlink hlanes (by omega)
    refine .of_eq (t := s.plled lanes rate kek prov ikh) ?_ ⟨by rw [hframe.1]; rfl, (State.plled_fld _ _ _ _ _ _ _ (by decide)).trans hm, hup, hwidth, hlps, ?_⟩
    · have hcnt : (s.plled lanes rate kek prov ikh).fld SYS_BOOT_LOOP_CNT ≠ 4 := by rwa [State.plled_fld _ _ _ _ _ _ _ (by decide)]
      rw [exec_pllLock (State.dawn_of_mode hm hh) hg hp, if_neg (by simp [hcnt])]
    · rw [State.plled, (State.linkTrain_frame _ _ _).flag _ (by decide)]
      exact s.lockPlls.loadFuses_prov kek prov ikh
  · let u := s.plled lanes rate kek prov ikh
    let v := u.setFld SYS_BOOT_LOOP_CNT 0
    have hmode : v.mode = 1 := (State.mode_setFld _ _ _ (.inl (by decide))).trans ((State.plled_fld _ _ _ _ _ _ _ (by decide)).trans hm)
    have hcnt : u.fld SYS_BOOT_LOOP_CNT = 4 := (State.plled_fld _ _ _ _ _ _ _ (by decide)).trans hc
    have hflag : u.flag SYS_BOOT_LOOP_SW = true := ((s.plled_frame lanes rate kek prov ikh).flag _ (by decide)).trans hsw
    obtain ⟨hmid, hbit, hcause⟩ := State.bootFails_shows hmode (bit := SYS_MIDNIGHT_CAUSE_BOOT_LOOP) rfl (by decide) rfl
    refine .of_eq (t := v.bootFails SYS_MIDNIGHT_CAUSE_BOOT_LOOP) ?_ ⟨hmid, hbit, ?_, ?_, hcause⟩
    · rw [exec_pllLock (State.dawn_of_mode hm hh) hg hp, if_pos (by simp [u] at hcnt hflag; simp [hcnt, hflag])]
    · rw [State.bootFails_fld hmode rfl _ (by decide) (by decide) (by decide)]
      exact State.fld_setFld_same _ _ _ (by decide)
    · rw [State.flag, State.bootFails_fld hmode rfl _ (by decide) (by decide) (by decide), ← State.flag]
      exact (State.flag_setFld_apart _ _ _ _ (by decide) (by decide)).trans hflag
  · simp [exec, execAvsSetpoint, hm, hh, hp, ht, State.avsWrite, State.emit]
  · simp [exec, execAvsRetry, hm, hh, hp, ht, hd, State.avsWrite, State.emit]
  · have hlt := State.bootCopy_lt hc
    by_cases hcheck : s.bootCheck c nor header body = 0
    · obtain ⟨hrun, hfall, hremain⟩ := s.bootRun_shows hlt header
      refine .of_eq (t := s.bootRun c header) (by rw [exec_imageVerified (State.dawn_of_mode hm hh) hp hr hc, if_pos hcheck]) ?_
      have hsys := congrArg State.sys (s.bootRun_frame c header).1
      rw [if_pos hcheck]
      exact ⟨hsys, hrun, hfall, hremain, by rw [hsys]; exact s.bootRun_frame c header⟩
    · refine .of_eq (t := s) (by rw [exec_imageVerified (State.dawn_of_mode hm hh) hp hr hc, if_neg hcheck]) ?_
      rw [if_neg hcheck]
  · have hframe := s.failCopy_frame 0 1
    have hcopy : (s.failCopy 0 1).bootCopy = some 1 := by simp [State.bootCopy_failCopy_zero hpref, hother]
    refine .of_eq (t := s.failCopy 0 1) ?_ ⟨s.failCopy_zero_code (by decide), hcopy, (hframe.fld _ (by decide)).trans hm, hframe⟩
    have hcode : (if false = true then 8 else s.bootCheck 0 nor header body) = 1 := by
      rw [if_neg Bool.false_ne_true, State.bootCheck_of_badHeader s 0 nor body hbad]
    rw [exec_imageFailed (State.dawn_of_mode hm hh) hp hr hc nor header body hcode (by decide), hcopy, Option.isNone_some, if_neg Bool.false_ne_true]
  · have hframe := s.failCopy_frame 0 8
    have hcopy : (s.failCopy 0 8).bootCopy = none := by simp [State.bootCopy_failCopy_zero hpref, hother]
    have hmode : (s.failCopy 0 8).mode = 1 := (hframe.fld _ (by decide)).trans hm
    obtain ⟨hmid, hbit, hcause⟩ := State.bootFails_shows hmode (bit := SYS_MIDNIGHT_CAUSE_BOOT_BOTH) rfl (by decide) rfl
    refine .of_eq (t := (s.failCopy 0 8).bootFails SYS_MIDNIGHT_CAUSE_BOOT_BOTH) ?_ ⟨?_, hmid, hbit, hcause⟩
    · rw [exec_imageFailed (State.dawn_of_mode hm hh) hp hr hc nor header body (readError := true) (code := 8) rfl (by decide), hcopy, Option.isNone_none, if_pos rfl]
    · rw [State.bootFails_fld hmode rfl _ (by decide) (by decide) (by decide), s.failCopy_zero_code (by decide)]
  · simp [exec, execSramBistComplete, State.dawn_of_mode hm hh, hg]
  · let v := s.setFld SYS_MIDNIGHT_CAUSE_UNIT (u.val + 1)
    have hmode : v.mode = 1 := (State.mode_setFld _ _ _ (.inl (by decide))).trans hm
    obtain ⟨hmid, hbit, hcause⟩ := State.bootFails_shows hmode (bit := SYS_MIDNIGHT_CAUSE_BIST) rfl (by decide) rfl
    refine .of_eq (t := v.bootFails SYS_MIDNIGHT_CAUSE_BIST) (by simp [exec, execSramBistComplete, State.dawn_of_mode hm hh, hg, v]) ⟨hmid, hbit, ?_, hcause⟩
    rw [State.bootFails_fld hmode rfl _ (by decide) (by decide) (by decide), State.fld_setFld_same _ _ _ (by decide)]
    exact Nat.mod_eq_of_lt (show _ < 256 by omega)
  · let u : State := { s with sys := { s.sys with sramInit := true } }
    refine .of_eq (t := u.syncKat) ?_ ⟨rfl, ?_, ((RegsOnly.refl _ _).setFlag _ _ (by decide)).setFld _ _ (by decide)⟩
    · exact exec_sramInitComplete (State.dawn_of_mode hm hh) hb hi
    · exact (State.flag_setFld_apart _ _ _ _ (by decide) (by decide)).trans (State.flag_setFlag_same _ _ _ (by decide) rfl)
  · subst hd
    have hframe := s.trained_frame
    obtain ⟨hmask, hdens, hinst, huse⟩ := s.trained_shows
    exact .of_eq (exec_dramTrainingComplete (State.dawn_of_mode hm hh) hp) ⟨rfl, hmask, hdens, hinst, huse, hframe⟩
  · obtain ⟨hmode, hprev, hcause⟩ := s.enterMode_shows (m := 2) (cause := 2) (by decide) (by decide)
    have hkept := s.morning_kept.trainGroups
    refine .of_eq (exec_dawnComplete (State.dawn_of_mode hm hh) hr hb hi hd hs)
      ⟨hkept.mode.trans hmode, (hkept.fld _).trans (hprev.trans hm), (hkept.fld _).trans hcause, fun c => ?_, ?_, ?_⟩
    · rw [State.trainGroups_keeps (fun t => t.gate c) fun _ _ _ => rfl]
      exact State.gate_each_setGate _ (List.mem_range.2 c.isLt) _
    · rw [State.trainGroups_keeps State.red fun _ _ _ => rfl, s.morning_red]
    · rw [State.trainGroups_keeps State.cmdq fun _ _ _ => rfl, s.morning_cmdq]
end

section
/-! SUPPORT. The commit (R52), the reinstated setup (R378) and planned swaps (R57, R61). -/

namespace Sys2Proof.Machine

/-! ### The commit -/

/-- A commit is taken in MORNING while none runs; only a handshake that was refused would start again with it (R52). -/
theorem State.commitWrite_of_morning {s : State} (hm : s.mode = 2) (hs : s.fld SYS_CFG_STATUS ≠ 1) (hh : s.fld NZL_STAT_HS < 4) :
    s.commitWrite 1 = s.setFld SYS_CFG_STATUS 1 := by
  have hhs : (s.setFld SYS_CFG_STATUS 1).fld NZL_STAT_HS = s.fld NZL_STAT_HS := State.fld_setFld_other _ _ _ _ (by decide)
  rw [State.commitWrite, if_neg (by simp [hm, fieldOf]), if_neg hs]
  exact if_neg (by rw [hhs]; omega)

theorem State.commitWrite_of_running {s : State} (hm : s.mode = 2) (hs : s.fld SYS_CFG_STATUS = 1) : s.commitWrite 1 = s.malformed := by
  rw [State.commitWrite, if_neg (by simp [hm, fieldOf]), if_pos hs]

theorem State.commitWrite_of_mode_ne {s : State} (hm : s.mode ≠ 2) : s.commitWrite 1 = s := by
  rw [State.commitWrite, if_pos (by simp [hm])]

/-- The blocks that can refuse have a number of 8 bits (R64). -/
theorem State.commitRefusals_lt {s : State} {b : Nat} (h : b ∈ s.commitRefusals) : b < 256 := by
  obtain ⟨e, he, hsome⟩ := List.mem_filterMap.1 h
  have hlt : e.1 < 256 := by
    revert e
    simp only [List.forall_mem_cons]
    simp
  split at hsome
  · exact Option.some.inj hsome ▸ hlt
  · cases hsome

theorem State.SysKept.netCommit {s t : State} (h : s.SysKept t) : s.SysKept t.netCommit.1 :=
  h.each fun _ e hu => hu.setFld ⟨by simp only [NET_PORT_STAT_CFG_ERR, NET_PORT_STAT]; omega, by simp only [NET_PORT_STAT_CFG_ERR, NET_PORT_STAT, CMDQ_STAT]; omega⟩

/-- The errors that the checks leave beside the refusal (R52, R290). -/
def State.commitErrors (s : State) : State := s.netCommit.1.setFld DMC_PART_STAT_ERR s.dmcError

theorem State.commitErrors_mode (s : State) : s.commitErrors.mode = s.mode := ((State.SysKept.refl s).netCommit.setFld (f := DMC_PART_STAT_ERR)).mode

theorem exec_commitCheckComplete_of_refused {s : State} {b : Nat} {l : List Nat} (hr : s.running = true) (hm : s.mode = 2) (hs : s.fld SYS_CFG_STATUS = 1)
    (hc : s.commitReady = true) (hb : s.commitRefusals = b :: l) :
    exec .commitCheckComplete s = .next ((s.commitErrors.setFld SYS_CFG_STATUS 2).setFld SYS_CFG_FAIL_BLK b) := by
  rw [exec, execCommitCheckComplete, if_neg (by simp [hr, hm, hs, hc]), hb]
  rfl

/-! ### The reinstated setup -/

theorem State.SysKept.setClass {s t : State} {c v : Nat} (h : s.SysKept t) : s.SysKept (t.setClass c v) := by
  have hport (hc : c < 64) : OutsideSys (NET_PRIV_CLASS c).off :=
    ⟨by simp only [NET_PRIV_CLASS, NET_PRIV]; omega, by simp only [NET_PRIV_CLASS, NET_PRIV, CMDQ_STAT]; omega⟩
  unfold State.setClass
  split
  next hc =>
    exact of_ite (State.SysKept.each (h.setFld (hport hc)) fun _ _ hu => hu.assocReset) (h.setFld (hport hc))
  next => exact h.setReg

/-- The setup of a copy that carries no key records and no bound volumes, as it is taken (R376, R378). -/
def State.takeSetup (s : State) (x : Setup) : State :=
  let s1 := s.each x.classes (fun t e => t.setClass e.1 e.2)
  { s1 with prot := { s1.prot with acl := x.acl, stewards := x.stewards, gen := x.gen, records := x.records } }

theorem State.adoptSetup_of_bare (s : State) {x : Setup} (hr : x.records = []) (hb : x.binds = []) :
    s.adoptSetup x = (((s.takeSetup x).setFld PROT_GEN_L_GEN x.gen).setFld PROT_BOOT_POLICY_MIN_SVN x.minSvn).setFlag PROT_STAT_PROV true := by
  rw [State.adoptSetup, hr, hb, State.takeSetup, hr]
  rfl

/-- JTAG's class in PROT_PRIV_LOCAL (R373). -/
def jtagClass : Fld := ⟨PROT_PRIV_LOCAL, 14, 2⟩

theorem State.setClass_jtag (s : State) (v : Nat) : s.setClass 71 v = s.setFld jtagClass v := rfl

/-- A reinstatement takes the setup, and ends with JTAG's class 0 (R378). -/
def State.reinstate (s : State) (x : Setup) : State := ((s.adoptSetup x).setClass 71 0).setFlag PROT_STAT_REINST true

theorem exec_setupReinstate {s : State} {x : Setup} (hr : s.running = true) (hm : s.mode = 2) (hp : s.flag PROT_STAT_PROV = true)
    (hi : s.flag PROT_STAT_REINST = false) (hb : s.bestCopy = some x) : exec .setupReinstate s = .next (s.reinstate x) := by
  rw [exec, execSetupReinstate, if_neg (by simp [hr, hm, hp, hi]), hb]
  rfl

theorem State.reinstate_shows (s : State) {x : Setup} (hr : x.records = []) (hb : x.binds = []) :
    (s.reinstate x).flag PROT_STAT_REINST = true ∧ (s.reinstate x).fld PROT_GEN_L_GEN = x.gen % 2 ^ 32 ∧ (s.reinstate x).prot = (s.takeSetup x).prot ∧
      (s.reinstate x).classOf .jtag = 0 ∧ (s.reinstate x).mode = s.mode := by
  rw [State.reinstate, State.setClass_jtag, s.adoptSetup_of_bare hr hb]
  refine ⟨State.flag_setFlag_same _ _ _ (by decide) rfl, ?_, rfl, ?_, ?_⟩
  · rw [State.setFlag, State.fld_setFld_other _ _ _ _ (by decide), State.fld_setFld_other _ _ _ _ (by decide), State.setFlag, State.fld_setFld_other _ _ _ _ (by decide),
      State.fld_setFld_other _ _ _ _ (by decide), State.fld_setFld_same _ _ _ (by decide)]
    rfl
  · change State.fld _ jtagClass = 0
    rw [State.setFlag, State.fld_setFld_other _ _ _ _ (by decide), State.fld_setFld_same _ _ _ (by decide), Nat.zero_mod]
  · have htaken : s.SysKept (s.takeSetup x) := ((State.SysKept.refl s).each fun _ _ hu => hu.setClass).frame
    exact (State.SysKept.setFlag (f := PROT_STAT_REINST) (State.SysKept.setFld (f := jtagClass) (htaken.setFld.setFld.setFlag))).mode

/-! ### Planned swaps -/

theorem State.swapRequest_of_refused {s : State} {n : Nat} (h : s.swapRefusal = n) (hn : n ≠ 0) : s.swapRequest = s.setFld SYS_MODE_REQ_RESULT n := by
  rw [State.swapRequest, h, if_pos (by simpa using hn)]

theorem State.swapRefusal_of_state {s : State} (h : s.serving = false ∨ s.flag SYS_MODE_NIGHT_PEND = true) : s.swapRefusal = 2 := by
  rw [State.swapRefusal, if_pos (by simpa using h)]

theorem State.swapRefusal_of_partner {s : State} (hs : s.serving = true) (hn : s.flag SYS_MODE_NIGHT_PEND = false) (hp : s.flag SYS_MODE_PARTNER = false) :
    s.swapRefusal = 3 := by
  rw [State.swapRefusal, if_neg (by simp [hs, hn]), if_pos (by simp [State.partnered, hp])]

/-- A change of the ANA state with no association to tell of it leaves the other blocks. -/
theorem State.setAna_of_idle {s : State} (h : s.cmdq.assocs = []) (v : Nat) : (s.setAna v).nzl = s.nzl ∧ (s.setAna v).cmdq.cmds = s.cmdq.cmds := by
  unfold State.setAna
  split
  · exact ⟨rfl, rfl⟩
  · extract_lets _ s1
    have hassocs : s1.cmdq.assocs = [] := h
    rw [hassocs]
    exact ⟨rfl, rfl⟩

/-- The pause of a swap (R57). -/
def State.pauseForSwap (s : State) : State := { s with nzl := { s.nzl with pause := .swap, handback := false } }

/-- The state of a swap that starts, before the commands end: the pause, the ANA state Change, and the lapse (R57). -/
def State.swapPaused (s : State) : State := (s.pauseForSwap.setAna 0xF).lapse

/-- With no association and no command, a swap only pauses and ends what waits in the queues (R57). -/
theorem State.startSwap_of_idle {s : State} (hc : s.cmdq.cmds = []) (ha : s.cmdq.assocs = []) : s.startSwap false = s.swapPaused.endWaiting 0x303 := by
  have hcmds : s.swapPaused.cmdq.cmds = [] := by
    rw [State.swapPaused, (State.lapse_frame _).cmdq]
    exact (State.setAna_of_idle (s := s.pauseForSwap) ha 0xF).2.trans hc
  change (s.swapPaused.endWaiting 0x303).each (s.swapPaused.cmdq.cmds.filter _) _ = _
  rw [hcmds]
  rfl

theorem State.swapPaused_shows {s : State} (ha : s.cmdq.assocs = []) : s.swapPaused.nzl.pause = .swap ∧ s.swapPaused.nzl.handback = false ∧
    s.swapPaused.fld CMDQ_STAT_ANA = 0xF ∧ ∀ f : Fld, f.off < 0x10000 → s.swapPaused.fld f = s.fld f := by
  obtain ⟨hana, -, hregs⟩ := s.pauseForSwap.setAna_shows (v := 0xF) (by decide)
  have hnzl : s.swapPaused.nzl = s.pauseForSwap.nzl := (State.lapse_frame _).nzl.trans (State.setAna_of_idle (s := s.pauseForSwap) ha 0xF).1
  refine ⟨congrArg Nzl.pause hnzl, congrArg Nzl.handback hnzl, (State.lapse_fld _ _ (by decide)).trans hana, fun f hf => ?_⟩
  rw [State.swapPaused, State.lapse_fld _ f (by simp only [List.mem_cons, HEP_STAT, PROT_CMT_STAT, CNT_PROT_LAPSED, List.not_mem_nil, or_false]; omega), State.fld, hregs _ hf]
  rfl

end Sys2Proof.Machine

open Sys2Proof Sys2Proof.Machine

/-- Settles O13: a commit is `commitWrite` or its refusal, a swap `swapRefusal` or `swapPaused`, and a setup without keys is reinstated as it stands. -/
theorem commitAndSwap : Obligations.CommitAndSwap := by
  unfold Obligations.CommitAndSwap
  refine ⟨fun s req ha hm hs hh => ?_, fun s req ha hm hs => ?_, fun s req ha hm => ?_, fun s b l hr hm hs hc hb => ?_, fun s req ha hs hn hp => ?_,
    fun s req ha h => ?_, fun s req ha h0 hc hi => ?_, fun s x hr hm hp hi hb hrec hbind => ?_⟩
  · exact .of_eq (by rw [exec, execConfigCommit, State.accessWrite_of_admits ha, State.commitWrite_of_morning hm hs hh])
      ⟨State.fld_setFld_same _ SYS_CFG_STATUS _ (by decide), (State.mode_setFld _ _ _ (.inl (by decide))).trans hm, (RegsOnly.refl _ s).setFld _ _ (by decide)⟩
  · exact .of_eq (by rw [exec, execConfigCommit, State.accessWrite_of_admits ha, State.commitWrite_of_running hm hs]) ⟨s.get64_malformed, s.malformed_frame.counts⟩
  · rw [exec, execConfigCommit, State.accessWrite_of_admits ha, State.commitWrite_of_mode_ne hm]
  · refine .of_eq (exec_commitCheckComplete_of_refused hr hm hs hc hb) ⟨?_, ?_, ?_⟩
    · rw [State.fld_setFld_apart _ _ _ _ (by decide) (by decide)]
      exact State.fld_setFld_same _ _ _ (by decide)
    · rw [State.fld_setFld_same _ _ _ (by decide)]
      exact Nat.mod_eq_of_lt (State.commitRefusals_lt (hb ▸ List.mem_cons_self))
    · rw [State.mode_setFld _ _ _ (.inl (by decide)), State.mode_setFld _ _ _ (.inl (by decide)), s.commitErrors_mode, hm]
  · exact .of_eq (by rw [exec, execSwapRequest, State.accessWrite_of_admits ha, State.swapRequest_of_refused (State.swapRefusal_of_partner hs hn hp) (by decide)])
      ⟨State.fld_setFld_same _ SYS_MODE_REQ_RESULT _ (by decide), (RegsOnly.refl _ s).setFld _ _ (by decide)⟩
  · exact .of_eq (by rw [exec, execSwapRequest, State.accessWrite_of_admits ha, State.swapRequest_of_refused (State.swapRefusal_of_state h) (by decide)])
      ⟨State.fld_setFld_same _ SYS_MODE_REQ_RESULT _ (by decide), (RegsOnly.refl _ s).setFld _ _ (by decide)⟩
  · let u := s.setFld SYS_MODE_REQ_RESULT 1
    obtain ⟨hpause, hback, hana, hfld⟩ := State.swapPaused_shows (s := u) hi
    refine .of_eq (t := u.swapPaused.endWaiting 0x303) ?_ ⟨(hfld SYS_MODE_REQ_RESULT (by decide)).trans (State.fld_setFld_same _ _ _ (by decide)), hpause, hback,
      (hfld SYS_MODE_CUR (by decide)).trans (State.mode_setFld _ _ _ (.inl (by decide))), hana⟩
    rw [exec, execSwapRequest, State.accessWrite_of_admits ha, State.swapRequest, h0, if_neg (by decide), State.startSwap_of_idle (s := u) hc hi]
  · obtain ⟨hreinst, hgen, hprot, hjtag, hmode⟩ := s.reinstate_shows hrec hbind
    exact .of_eq (exec_setupReinstate hr hm hp hi hb)
      ⟨hreinst, hgen, congrArg Prot.acl hprot, congrArg Prot.stewards hprot, hjtag, hmode.trans hm⟩
end

section
/-! SUPPORT. What counting leaves (R9, R85), and what queueing a frame leaves: the classifier, the command queues and the registers below the switch core's
(R24, R109). -/

namespace Sys2Proof.Machine

/-! ### Counters under frames -/

/-- A 64-bit counter in two whole registers, neither of them the link state that a message wakes (R9, R85, R399). -/
abbrev IsCounter (off : Nat) : Prop := regImpl off = 0xFFFFFFFF ∧ regImpl (off + 4) = 0xFFFFFFFF ∧ off ≠ HEP_STAT ∧ off + 4 ≠ HEP_STAT

theorem State.get64_bumpBy_of_isCounter (s : State) {off : Nat} (h : IsCounter off) (n : Nat) : (s.bumpBy off n).get64 off = (s.get64 off + n) % 2 ^ 64 := by
  obtain ⟨hlow, hhigh, hhep⟩ := h
  exact s.get64_bumpBy off n hlow hhigh hhep

theorem CountsOnly.get64 {offs : List Nat} {s t : State} (h : CountsOnly offs s t) {off : Nat} (h0 : off ∉ HEP_STAT :: offs) (h1 : off + 4 ∉ HEP_STAT :: offs) :
    t.get64 off = s.get64 off := by
  simp only [List.mem_cons, not_or] at h0 h1
  rw [State.get64, State.get64, h.2 _ h0.2 h0.1, h.2 _ h1.2 h1.1]

/-- Counting elsewhere leaves a counter as it is. -/
theorem State.get64_bumpBy_apart (s : State) {off c : Nat} (h : IsCounter off) (ha : off + 8 ≤ c ∨ c + 8 ≤ off) (n : Nat) : (s.bumpBy c n).get64 off = s.get64 off := by
  obtain ⟨-, -, h0, h1⟩ := h
  exact ((CountsOnly.refl [c, c + 4] s).bumpBy c n (by simp) (by simp)).get64 (by simp [h0]; omega) (by simp [h1]; omega)

theorem CountsOnly.countBw {offs : List Nat} {s t : State} (h : CountsOnly offs s t) (tx : Bool) (p n : Nat) : CountsOnly offs s (t.countBw tx p n) := by
  unfold State.countBw
  split
  · exact h
  · split
    · exact h.mon _
    · exact h.mon _

theorem State.get64_countBw (s : State) (tx : Bool) (p n : Nat) {off : Nat} (h : IsCounter off) : (s.countBw tx p n).get64 off = s.get64 off :=
  ((CountsOnly.refl [] s).countBw tx p n).get64 (by simpa using h.2.2.1) (by simpa using h.2.2.2)

theorem CountsOnly.ports {offs : List Nat} {s t : State} (h : CountsOnly offs s t) : t.ports = s.ports := by rw [h.1]

theorem CountsOnly.cls {offs : List Nat} {s t : State} (h : CountsOnly offs s t) : t.cls = s.cls := by rw [h.1]

theorem CountsOnly.swc {offs : List Nat} {s t : State} (h : CountsOnly offs s t) : t.swc = s.swc := by rw [h.1]

/-! ### Queueing -/

/-- Effects of the switch core leave the classifier, the command queues, and every register below the switch core's but the link state (R24). -/
def State.ClsKept (s t : State) : Prop :=
  t.cls = s.cls ∧ t.cmdq = s.cmdq ∧ ∀ off, off < 0x300000 → off ≠ HEP_STAT → t.reg off = s.reg off

end Sys2Proof.Machine

namespace Sys2Proof.Machine.State.ClsKept

variable {s t u : State}

theorem cls (h : s.ClsKept t) : t.cls = s.cls := h.1

theorem cmdq (h : s.ClsKept t) : t.cmdq = s.cmdq := h.2.1

theorem regs (h : s.ClsKept t) : ∀ off, off < 0x300000 → off ≠ HEP_STAT → t.reg off = s.reg off := h.2.2

theorem refl (s : State) : s.ClsKept s := ⟨rfl, rfl, fun _ _ _ => rfl⟩

theorem fld (h : s.ClsKept t) (f : Fld) (hf : f.off < 0x300000 ∧ f.off ≠ HEP_STAT) : t.fld f = s.fld f := by
  rw [State.fld, State.fld, h.regs _ hf.1 hf.2]

theorem get64 (h : s.ClsKept t) (off : Nat) (ho : off + 4 < 0x300000 ∧ off ≠ HEP_STAT ∧ off + 4 ≠ HEP_STAT) : t.get64 off = s.get64 off := by
  rw [State.get64, State.get64, h.regs off (by omega) ho.2.1, h.regs (off + 4) ho.1 ho.2.2]

/-- A record update that keeps the register file, the classifier and the command queues. -/
theorem frame (h : s.ClsKept t) (hregs : u.regs = t.regs) (hcls : u.cls = t.cls) (hcmdq : u.cmdq = t.cmdq) : s.ClsKept u :=
  ⟨hcls.trans h.cls, hcmdq.trans h.cmdq, fun off ho hh => by rw [State.reg, hregs]; exact h.regs off ho hh⟩

theorem setFld {f : Fld} {v : Nat} (h : s.ClsKept t) (ho : 0x300000 ≤ f.off) : s.ClsKept (t.setFld f v) :=
  ⟨h.cls, h.cmdq, fun off hlt hh => (State.reg_setFld_other _ _ _ _ (by omega)).trans (h.regs off hlt hh)⟩

theorem bumpBy {off n : Nat} (h : s.ClsKept t) (ho : 0x300000 ≤ off) : s.ClsKept (t.bumpBy off n) := by
  have hc := (CountsOnly.refl [off, off + 4] t).bumpBy off n (by simp) (by simp)
  exact ⟨hc.cls.trans h.cls, hc.cmdq.trans h.cmdq, fun o hlt hh => (hc.2 o (by simp; omega) hh).trans (h.regs o hlt hh)⟩

theorem bump {off : Nat} (h : s.ClsKept t) (ho : 0x300000 ≤ off) : s.ClsKept (t.bump off) := h.bumpBy ho

theorem cond {c : Bool} {f : State → State} (h : s.ClsKept t) (hf : ∀ u, s.ClsKept u → s.ClsKept (f u)) : s.ClsKept (t.cond c f) := by
  cases c
  · exact h
  · exact hf t h

theorem pfcXoff {p c} (h : s.ClsKept t) : s.ClsKept (t.pfcXoff p c) := by
  unfold State.pfcXoff
  dsimp only
  split
  · exact h.frame rfl rfl rfl
  · exact h

theorem syncQ {q} (h : s.ClsKept t) : s.ClsKept (t.syncQ q) :=
  (((h.setFld (Nat.le_add_right_of_le (by decide))).setFld (Nat.le_add_right_of_le (by decide))).setFld (by decide)).setFld (by decide)

theorem avgUpdate {q} (h : s.ClsKept t) : s.ClsKept (t.avgUpdate q) := setFld (h.frame rfl rfl rfl) (Nat.le_add_right_of_le (by decide))

/-- The decisions of R109, whatever they are. -/
theorem enqueue {f0 port cls} (h : s.ClsKept t) : s.ClsKept (t.enqueue f0 port cls) := by
  have h2 : ∀ q, s.ClsKept (t.avgUpdate q).useFree := fun q => (h.avgUpdate (q := q)).frame rfl rfl rfl
  fun_cases State.enqueue t f0 port cls
  · exact h.bump (by decide)
  · exact (h2 _).bump (Nat.le_add_right_of_le (by decide))
  · exact ((h2 _).bump (Nat.le_add_right_of_le (by decide))).cond fun _ hu => hu.bump (by decide)
  · refine pfcXoff (cond (bumpBy (bump (syncQ (frame ((h2 _).cond fun _ hu => hu.bump ?_) rfl rfl rfl)) ?_) ?_) fun _ hu => hu.bump ?_)
    all_goals exact Nat.le_add_right_of_le (by decide)

end Sys2Proof.Machine.State.ClsKept
end

section
/-! SUPPORT. What `exec` runs for the instructions of the network ports, so that later proofs cite the instruction and never unfold `exec` over every one. -/

namespace Sys2Proof.Machine

variable (req : Requester) (p : Port) (dt : Nat) (s : State)

theorem exec_portRestart :
    exec (.portRestart req p) s = .next (s.accessWrite req (NET_PORT_CFG p) fun t => t.portCfgWrite p (t.reg (NET_PORT_CFG p) ||| 0x800)) := rfl

theorem exec_rxFrame (id : Nat) (data : List (BitVec 8)) (fcsOk : Bool) (errs : List SlotErr) :
    exec (.rxFrame p dt id data fcsOk errs) s = .next ((s.pass dt).rxFrame p id data fcsOk errs) := rfl

theorem exec_recircPass (errs : List SlotErr) : exec (.recircPass dt errs) s = execRecircPass dt errs s := rfl

theorem exec_pauseFrameRx (pfc : Bool) (stop go : Fin 256) : exec (.pauseFrameRx p pfc stop go) s = execPauseFrameRx p pfc stop go s := rfl

theorem exec_pauseTimeExpiry (classes : Fin 256) : exec (.pauseTimeExpiry p classes) s =
    .next (s.cond s.running fun t => (t.modPort p fun x => { x with stopped := x.stopped - (x.stopped &&& classes.val) }).syncPortQ p) := rfl

theorem exec_counterClear (off : Nat) (val : Word) :
    exec (.counterClear req off val) s = .next (s.accessWrite req off fun t => t.counterClear off val) := rfl

theorem exec_tsFifoPop : exec (.tsFifoPop req p) s = execTsFifoPop req p s := rfl

theorem exec_timeRead : exec (.timeRead req dt) s = .next ((s.pass dt).accessRead req NET_TIME_NS (BitVec.ofNat 32 ((s.pass dt).devNs % 1000000000)) fun t =>
    { t with sys := { t.sys with timeLatches := tput t.sys.timeLatches (reqNum req) (t.devNs / 1000000000 % 2 ^ 48) } }) := rfl

theorem exec_timeStep (step : Word) : exec (.timeStep req step dt) s = .next ((s.pass dt).accessWrite req NET_TIME_STEP fun t => t.timeStep step) := rfl

theorem exec_timeAdjust (freq : Word) :
    exec (.timeAdjust req freq dt) s = .next ((s.pass dt).accessWrite req NET_TIME_ADJ fun t => t.setReg NET_TIME_ADJ freq) := rfl

theorem exec_ppsOutPulse : exec (.ppsOutPulse dt) s =
    .next ((s.pass dt).cond ((s.pass dt).running && (s.pass dt).flag NET_TIME_CTL_OUT_EN && (s.pass dt).flag NET_TIME_CTL_VALID)
      fun t => t.emit (.ppsOut (max 1 (t.fld NET_TIME_CTL_OUT_WIDTH)))) := rfl

theorem exec_ppsInEdge (falling : Bool) : exec (.ppsInEdge falling dt) s =
    .next ((s.pass dt).cond ((s.pass dt).running && (s.pass dt).flag NET_TIME_CTL_IN_EN && (s.pass dt).flag NET_TIME_CTL_IN_EDGE == falling)
      fun t => (t.setFld NET_PPS_CAP_NS (t.devNs % 1000000000)).setFlag NET_PPS_CAP_VALID true) := rfl

end Sys2Proof.Machine
end

section
/-! SUPPORT. A port restarted where its configuration register holds RESTART (R70, R76). -/

namespace Sys2Proof.Machine

/-- In MORNING, an enabled port NP0 whose NET_PORT_CFG holds RESTART beside the PORn configuration: the register implements the bit, so the canonical
form of the register file (R8) admits it, though no write of the model stores it. -/
def restartStored : State := { State.reset with regs := [(SYS_MODE, 2), (SYS_RST_CAUSE, 1), (NET_PORT_CFG 0, 0x24000885), (NZL_CLAIM, 0xF03FF)] }

/-- An admitted PORT_RESTART is a write of the port's own configuration with RESTART set (R76). -/
theorem exec_portRestart_of_admits {s : State} {req : Requester} {p : Port} (h : s.Admits req (NET_PORT_CFG p)) :
    exec (.portRestart req p) s = .next (s.portCfgWrite p (s.reg (NET_PORT_CFG p) ||| 0x800)) := by
  rw [exec_portRestart, State.accessWrite_of_admits h]

/-- The state meets every hypothesis of PORT_RESTART's clause, for the UART and NP0. -/
theorem restartStored_admits : restartStored.RegsOk ∧ restartStored.Admits .uart (NET_PORT_CFG (0 : Port)) ∧ restartStored.mode = 2 ∧ restartStored.grpMode 0 = 0 ∧
    restartStored.flag (NET_PORT_CFG_EN 0) = true ∧ restartStored.linkUsable 0 = false := by decide

/-- The write that restarts the port stores the configuration without RESTART (R70). -/
theorem restartStored_restart : (restartStored.portCfgWrite (0 : Port) (restartStored.reg (NET_PORT_CFG 0) ||| 0x800)).reg (NET_PORT_CFG 0) = 0x24000085 := by decide

end Sys2Proof.Machine

open Sys2Proof Sys2Proof.Machine

/-- Refutes O22: PORT_RESTART stores NET_PORT_CFG without RESTART, so from `restartStored` the register does not keep its word. -/
theorem not_linkStates : ¬ Obligations.LinkStates := by
  unfold Obligations.LinkStates
  rintro ⟨-, -, -, -, -, hrestart, -⟩
  obtain ⟨hregs, hadmits, hmode, hgrp, hen, hlink⟩ := restartStored_admits
  obtain ⟨t, ht, -, hkept, -⟩ := hrestart restartStored .uart 0 hregs hadmits hmode hgrp hen hlink
  rw [exec_portRestart_of_admits hadmits] at ht
  cases ht
  exact absurd (restartStored_restart.symm.trans hkept) (by decide)
end

section
/-! SUPPORT. What receiving a frame counts on its port, and what pause leaves of it (R76, R78, R79, R85). -/

namespace Sys2Proof.Machine

/-! ### The counters of a port's page -/

/-- The counters of the port pages, the last registers of NET's list (R85). -/
def netCounters : RegDesc := { base := 0x100100, dims := [(4096, 64), (4, 32)], impl := 0xFFFFFFFF }

/-- Descriptors that hold no register at an offset are passed over. -/
theorem findReg_append_of_skipped {ds es : List RegDesc} {off : Nat} (h : ∀ d ∈ ds, d.base ≤ off → dimIndex d.dims (off - d.base) = none) :
    findReg (ds ++ es) off = findReg es off := by
  induction ds with
  | nil => rfl
  | cons d ds ih =>
    rw [List.forall_mem_cons] at h
    rw [List.cons_append, findReg]
    split
    next hle =>
      rw [h.1 hle]
      exact ih h.2
    next => exact ih h.2

/-- NET's other registers are one in each port page below the counters, or single ones behind the counters of their page. -/
theorem regsNet_eq : ∃ ds, regsNet = ds ++ [netCounters] ∧
    ∀ d ∈ ds, d.dims = [(4096, 64)] ∧ 0x100000 ≤ d.base ∧ d.base < 0x100100 ∨ d.dims = [] ∧ 0x180 ≤ d.base % 4096 := ⟨regsNet.dropLast, by decide, by decide⟩

/-- A word among the counters of port 0's page is, a page per port on, a word among the counters of every port's page. -/
theorem regAt_netCounter {p c : Nat} (hp : p < 64) (h0 : 0x100100 ≤ c) (h1 : c < 0x100180) (h4 : (c - 0x100100) % 4 = 0) :
    ∃ ix, regAt (c + 0x1000 * p) = some (netCounters, ix) := by
  obtain ⟨ds, hds, hplace⟩ := regsNet_eq
  have hskip : ∀ d ∈ ds, d.base ≤ c + 0x1000 * p → dimIndex d.dims (c + 0x1000 * p - d.base) = none := fun d hd hle => by
    obtain ⟨hdims, hlo, hhi⟩ | ⟨hdims, hbehind⟩ := hplace d hd
    · have hrest : (c + 0x1000 * p - d.base) % 4096 ≠ 0 := by omega
      simp only [hdims, dimIndex, if_neg hrest, Option.map_none, ite_self]
    · have hrest : c + 0x1000 * p - d.base ≠ 0 := by omega
      simp only [hdims, dimIndex, if_neg hrest]
  have hblock : regBlock (c + 0x1000 * p) = ds ++ [netCounters] := by
    have hnet : (c + 0x1000 * p) / 0x100000 = 1 := by omega
    rw [← hds, regBlock, if_neg (by omega), hnet]
    rfl
  have hin : c - 0x100100 < 4096 := Nat.lt_of_lt_of_le (Nat.sub_lt_right_of_lt_add h0 h1) (by decide)
  have hword : (c - 0x100100) / 4 < 32 := Nat.div_lt_of_lt_mul (Nat.sub_lt_right_of_lt_add h0 h1)
  have hindex : dimIndex netCounters.dims (c - 0x100100 + 0x1000 * p) = some [p, (c - 0x100100) / 4] := by
    simp only [netCounters, dimIndex, Nat.add_mul_div_left _ _ (show 0 < 4096 by decide), Nat.div_eq_of_lt hin, Nat.zero_add, if_pos hp,
      Nat.add_mul_mod_self_left, Nat.mod_eq_of_lt hin, if_pos hword, if_pos h4, Option.map_some]
  have hbase : netCounters.base ≤ c + 0x1000 * p := Nat.le_trans h0 (Nat.le_add_right _ _)
  refine ⟨[p, (c - 0x100100) / 4], ?_⟩
  rw [regAt, hblock, findReg_append_of_skipped hskip, findReg, if_pos hbase, show netCounters.base = 0x100100 from rfl, Nat.sub_add_comm h0, hindex]
  rfl

/-- A counter of a port's page is a 64-bit counter of R85, and 0 at PORn. -/
theorem netCounter_shows {p c : Nat} (hp : p < 64)
    (hc : (0x100100 ≤ c ∧ c + 4 < 0x100180 ∧ (c - 0x100100) % 4 = 0 ∧ (c + 4 - 0x100100) % 4 = 0) ∧ HEP_STAT < c) :
    IsCounter (c + 0x1000 * p) ∧ regPor (c + 0x1000 * p) = 0 ∧ regPor (c + 0x1000 * p + 4) = 0 := by
  obtain ⟨⟨h0, h1, hlow4, hhigh4⟩, hhep⟩ := hc
  obtain ⟨i, hlow⟩ := regAt_netCounter hp h0 (Nat.lt_of_le_of_lt (Nat.le_add_right _ _) h1) hlow4
  obtain ⟨j, hhigh⟩ := regAt_netCounter hp (Nat.le_add_right_of_le h0) h1 hhigh4
  rw [Nat.add_right_comm] at hhigh
  have hbehind : HEP_STAT < c + 0x1000 * p := Nat.lt_add_right _ hhep
  rw [IsCounter, regImpl, regImpl, regPor, regPor, hlow, hhigh]
  exact ⟨⟨rfl, rfl, hbehind.ne', (Nat.lt_add_right 4 hbehind).ne'⟩, rfl, rfl⟩

/-- Registers of one port's page lie as those of port 0's do. -/
theorem netPage_le {a b n : Nat} (h : a + n ≤ b) (p : Nat) : a + 0x1000 * p + n ≤ b + 0x1000 * p := by
  rw [Nat.add_right_comm]
  exact Nat.add_le_add_right h _

/-- The port pages lie below the classifier (R24). -/
theorem netPage_lt {a n : Nat} (h : a + n < 0x101000) (p : Port) : a + 0x1000 * p + n < 0x140000 := by omega

/-! ### A frame is received -/

/-- The counters behind CNT_NET_RX_BYTES that a received frame can move. -/
theorem rxCounter_isCounter {p : Port} {off : Nat} (h : off ∈ [CNT_NET_RX_FCS_ERR p, CNT_NET_RX_LEN_ERR p, CNT_NET_PAUSE_RX p, CNT_NET_VLAN_DROP p]) :
    IsCounter off ∧ CNT_NET_RX_BYTES p + 8 ≤ off := by
  have hcounter : ∀ c ∈ [0x100120, 0x100128, 0x100140, 0x100168], IsCounter (c + 0x1000 * p) ∧ CNT_NET_RX_BYTES p + 8 ≤ c + 0x1000 * p := fun c hc =>
    have hplace : _ ∧ 0x100110 ≤ c := by revert c; decide
    ⟨(netCounter_shows p.isLt hplace.1).1, netPage_le hplace.2 p⟩
  obtain ⟨c, hc, rfl⟩ := List.mem_map.1 (show off ∈ [0x100120, 0x100128, 0x100140, 0x100168].map (· + 0x1000 * p.val) from h)
  exact hcounter c hc

theorem CNT_NET_RX_isCounter (p : Port) : IsCounter (CNT_NET_RX_FRAMES p) ∧ IsCounter (CNT_NET_RX_BYTES p) :=
  ⟨(netCounter_shows p.isLt (by decide)).1, (netCounter_shows p.isLt (by decide)).1⟩

/-- What every frame received on a port counts, whatever becomes of it: itself, its octets, and the octets of the bandwidth window (R85, R444). -/
def State.rxCounted (s : State) (p len : Nat) : State := ((s.bump (CNT_NET_RX_FRAMES p)).bumpBy (CNT_NET_RX_BYTES p) len).countBw false p len

theorem State.rxCounted_eq (s : State) (p len : Nat) :
    s.rxCounted p len = ((s.bump (CNT_NET_RX_FRAMES p)).bumpBy (CNT_NET_RX_BYTES p) len).countBw false p len := rfl

theorem State.rxCounted_frame (s : State) (p len : Nat) :
    CountsOnly [CNT_NET_RX_FRAMES p, CNT_NET_RX_FRAMES p + 4, CNT_NET_RX_BYTES p, CNT_NET_RX_BYTES p + 4] s (s.rxCounted p len) :=
  (((CountsOnly.refl _ s).bump _ (by simp) (by simp)).bumpBy _ _ (by simp) (by simp)).countBw _ _ _

/-- The registers below the page's first counter and behind its octets keep their fields, but for the link state. -/
theorem State.rxCounted_fld (s : State) (p len : Nat) {f : Fld} (hh : HEP_STAT < f.off) (h : f.off + 1 ≤ CNT_NET_RX_FRAMES p ∨ CNT_NET_RX_BYTES p + 8 ≤ f.off) :
    (s.rxCounted p len).fld f = s.fld f :=
  (s.rxCounted_frame p len).fld f (by simp only [CNT_NET_RX_FRAMES, CNT_NET_RX_BYTES, List.mem_cons, List.not_mem_nil, or_false] at h ⊢; omega)

theorem State.rxCounted_shows (s : State) (p : Port) (len : Nat) : (s.rxCounted p len).get64 (CNT_NET_RX_FRAMES p) = (s.get64 (CNT_NET_RX_FRAMES p) + 1) % 2 ^ 64 ∧
    (s.rxCounted p len).get64 (CNT_NET_RX_BYTES p) = (s.get64 (CNT_NET_RX_BYTES p) + len) % 2 ^ 64 := by
  obtain ⟨hframes, hbytes⟩ := CNT_NET_RX_isCounter p
  have hapart : CNT_NET_RX_FRAMES p + 8 ≤ CNT_NET_RX_BYTES p := netPage_le (by decide) p
  constructor
  · rw [State.rxCounted_eq, State.get64_countBw _ _ _ _ hframes, State.get64_bumpBy_apart _ hframes (.inl hapart)]
    exact s.get64_bumpBy_of_isCounter hframes 1
  · rw [State.rxCounted_eq, State.get64_countBw _ _ _ _ hbytes, State.get64_bumpBy_of_isCounter _ hbytes, State.bump, s.get64_bumpBy_apart hbytes (.inr hapart)]

theorem State.rxCounted_get64_behind (s : State) (p len : Nat) {off : Nat} (h : IsCounter off) (hb : CNT_NET_RX_BYTES p + 8 ≤ off) :
    (s.rxCounted p len).get64 off = s.get64 off := by
  have hf : CNT_NET_RX_FRAMES p + 8 ≤ off := (netPage_le (by decide) p).trans (Nat.le_of_add_right_le hb)
  rw [State.rxCounted_eq, State.get64_countBw _ _ _ _ h, State.get64_bumpBy_apart _ h (.inr hb), State.bump, State.get64_bumpBy_apart _ h (.inr hf)]

/-- A received frame that one more counter of its page counts, and nothing else sees. -/
theorem State.rxCounted_bump_shows (s : State) (p : Port) (len : Nat) {off : Nat} (h : off ∈ [CNT_NET_RX_FCS_ERR p, CNT_NET_RX_LEN_ERR p, CNT_NET_PAUSE_RX p, CNT_NET_VLAN_DROP p]) :
    ((s.rxCounted p len).bump off).get64 off = (s.get64 off + 1) % 2 ^ 64 ∧
    ((s.rxCounted p len).bump off).get64 (CNT_NET_RX_FRAMES p) = (s.get64 (CNT_NET_RX_FRAMES p) + 1) % 2 ^ 64 ∧
    ((s.rxCounted p len).bump off).get64 (CNT_NET_RX_BYTES p) = (s.get64 (CNT_NET_RX_BYTES p) + len) % 2 ^ 64 ∧
    CountsOnly [off, off + 4, CNT_NET_RX_FRAMES p, CNT_NET_RX_FRAMES p + 4, CNT_NET_RX_BYTES p, CNT_NET_RX_BYTES p + 4] s ((s.rxCounted p len).bump off) := by
  obtain ⟨hcounter, hbehind⟩ := rxCounter_isCounter h
  obtain ⟨hframes, hbytes⟩ := CNT_NET_RX_isCounter p
  obtain ⟨hframesUp, hbytesUp⟩ := s.rxCounted_shows p len
  have hf : CNT_NET_RX_FRAMES p + 8 ≤ off := (netPage_le (by decide) p).trans (Nat.le_of_add_right_le hbehind)
  refine ⟨?_, ?_, ?_, ((s.rxCounted_frame p len).mono (by simp)).bump off (by simp) (by simp)⟩
  · rw [State.bump, State.get64_bumpBy_of_isCounter _ hcounter, s.rxCounted_get64_behind p len hcounter hbehind]
  · rw [State.bump, State.get64_bumpBy_apart _ hframes (.inl hf), hframesUp]
  · rw [State.bump, State.get64_bumpBy_apart _ hbytes (.inl hbehind), hbytesUp]

/-! ### Pause -/

theorem State.mode_of_running {s : State} (h : s.running = true) : s.mode ≠ 7 := by
  intro h7
  simp [State.running, State.inService, State.serving, h7] at h

theorem State.powered_of_running {s : State} (h : s.running = true) : s.powered = true := by
  have hh : s.sys.hold = .none := by simpa using (Bool.and_eq_true_iff.1 h).2
  simp [State.powered, h, hh]

/-- While the data path runs, a received pause or PFC frame is counted and acts (R78). -/
theorem exec_pauseFrameRx_of_running {s : State} {p : Port} (hr : s.running = true) (hl : s.linkUsable p = true) (pfc : Bool) (stop go : Fin 256) :
    exec (.pauseFrameRx p pfc stop go) s = .next ((s.rxCounted p 64).pauseRx p pfc stop go) := by
  simp [exec_pauseFrameRx, execPauseFrameRx, State.cond, State.powered_of_running hr, hl, State.mode_of_running hr, State.rxCounted_eq]

/-- A class mask with some classes released and some stopped. -/
def PortSt.paused (x : PortSt) (stop go : Nat) : PortSt := { x with stopped := (x.stopped - (x.stopped &&& go)) ||| stop }

/-- Receiving a frame leaves the port's flow control as configured. -/
theorem State.rxCounted_fc (s : State) (p len : Nat) {f : Fld} (h : f.off = NET_FC_CFG p) : (s.rxCounted p len).fld f = s.fld f :=
  s.rxCounted_fld p len (h ▸ Nat.lt_add_right _ (by decide)) (.inl (h ▸ netPage_le (by decide) p))

/-- A PFC frame is counted; under MODE 2 it stops and releases its enabled classes (R78). -/
theorem State.pauseRx_pfc (s : State) (p stop go : Nat) : s.pauseRx p true stop go = if s.fld (NET_FC_CFG_MODE p) = 2 then
      ((s.bump (CNT_NET_PAUSE_RX p)).modPort p fun x => x.paused (stop &&& s.fld (NET_FC_CFG_PFC_EN p)) (go &&& s.fld (NET_FC_CFG_PFC_EN p))).syncPortQ p
    else s.bump (CNT_NET_PAUSE_RX p) := by
  simp [State.pauseRx, PortSt.paused]

theorem State.port_modPort (s : State) (p : Nat) (f : PortSt → PortSt) : (s.modPort p f).port p = f (s.port p) := tget_tput_same _ _ _ _

/-- Queue status lies in EGS_Q_STAT of the port's queues. -/
theorem State.syncPortQ_frame (s : State) (p : Nat) : RegsOnly ((List.range 9).map fun c => EGS_Q_STAT (16 * p + c)) s (s.syncPortQ p) := by
  refine (RegsOnly.refl _ s).each _ _ fun u c hc => ?_
  have hm : EGS_Q_STAT (16 * p + c) ∈ (List.range 9).map fun c => EGS_Q_STAT (16 * p + c) := List.mem_map.2 ⟨c, hc, rfl⟩
  exact (((((RegsOnly.refl _ u).setFlag _ _ hm).setFlag _ _ hm).setFlag _ _ hm).setFlag _ _ hm).setFld _ _ hm

theorem EGS_Q_STAT_notMem {off : Nat} (h : off < 0x400000) (p : Nat) : off ∉ (List.range 9).map fun c => EGS_Q_STAT (16 * p + c) := fun hm => by
  obtain ⟨c, -, rfl⟩ := List.mem_map.1 hm
  exact absurd ((show 0x400000 ≤ 0x41000C by decide).trans (Nat.le_add_right _ _)) (Nat.not_le_of_lt h)

/-- A change of a port's state, with the queue status that follows it, is seen in that port alone. -/
theorem State.modPort_syncPortQ_shows (s : State) (p : Nat) (f : PortSt → PortSt) :
    ((s.modPort p f).syncPortQ p).port p = f (s.port p) ∧ ((s.modPort p f).syncPortQ p).swc = s.swc ∧ ((s.modPort p f).syncPortQ p).cmdq = s.cmdq ∧
    ∀ off, off + 4 < 0x400000 → ((s.modPort p f).syncPortQ p).get64 off = s.get64 off := by
  have hframe := (s.modPort p f).syncPortQ_frame p
  refine ⟨?_, hframe.counts.swc, hframe.counts.cmdq, fun off ho => 
    hframe.get64 (EGS_Q_STAT_notMem (Nat.lt_of_add_right_lt ho) p) (EGS_Q_STAT_notMem ho p)⟩
  have hport : ((s.modPort p f).syncPortQ p).port p = (s.modPort p f).port p := by rw [State.port, State.port, hframe.counts.ports]
  rw [hport, State.port_modPort]

end Sys2Proof.Machine
end

section
/-! SUPPORT. Device time, the timestamp FIFO, and the clearing of a page's counters (R81, R85). -/

namespace Sys2Proof.Machine

/-! ### Reads with an effect -/

/-- A read that reaches its register is answered, and takes its effect but on a register that is frozen in MIDNIGHT (R41). -/
theorem State.accessRead_of_readOk {s : State} {req : Requester} {off : Nat} (h : s.readOk req off = true) (val : Word) (f : State → State) :
    s.accessRead req off val f = if s.mode == 7 && !midnightOpen off then s.emit (.read req off val) else f (s.emit (.read req off val)) := by
  have hr : s.reachable req = true := by
    by_contra hn
    simp [State.readOk, hn] at h
  simp only [State.accessRead, hr, h, Bool.not_true, Bool.false_eq_true, if_false, if_true]

theorem State.accessRead_of_mode_ne {s : State} {req : Requester} {off : Nat} (h : s.readOk req off = true) (hm : s.mode ≠ 7) (val : Word) (f : State → State) :
    s.accessRead req off val f = f (s.emit (.read req off val)) :=
  (State.accessRead_of_readOk h val f).trans (if_neg (by simp [hm]))

/-- In MIDNIGHT a read of a frozen register is answered, and has no effect (R41). -/
theorem State.accessRead_of_frozen {s : State} {req : Requester} {off : Nat} (h : s.readOk req off = true) (hm : s.mode = 7) (ho : midnightOpen off = false) (val : Word)
    (f : State → State) : s.accessRead req off val f = s.emit (.read req off val) :=
  (State.accessRead_of_readOk h val f).trans (if_pos (by simp [hm, ho]))

/-! ### Device time -/

/-- The seconds of the device time latched for a requester (R81). -/
def State.latchTime (s : State) (req : Requester) : State :=
  { s with sys := { s.sys with timeLatches := tput s.sys.timeLatches (reqNum req) (s.devNs / 1000000000 % 2 ^ 48) } }

/-- A read of the nanoseconds that reaches them is answered and latches the seconds (R81). -/
theorem exec_timeRead_of_readOk {s : State} {req : Requester} {dt : Nat} (h : (s.pass dt).readOk req NET_TIME_NS = true) (hm : (s.pass dt).mode ≠ 7) :
    exec (.timeRead req dt) s = .next (((s.pass dt).emit (.read req NET_TIME_NS (BitVec.ofNat 32 ((s.pass dt).devNs % 1000000000)))).latchTime req) := by
  rw [exec_timeRead, State.accessRead_of_mode_ne h hm]
  rfl

theorem State.each_of_fixed {α : Type} {f : State → α → State} {l : List α} {s : State} (h : ∀ a ∈ l, f s a = s) : s.each l f = s := by
  induction l with
  | nil => rfl
  | cons a l ih =>
    show (f s a).each l f = s
    rw [h a (by simp)]
    exact ih fun b hb => h b (by simp [hb])

/-- With no gate list enabled, a step moves the device time and nothing follows it (R81, R130). -/
theorem State.timeStep_of_no_gates {s : State} (h : ∀ p : Port, s.flag (EGS_GATE_CTL_EN p) = false) (step : Word) :
    s.timeStep step = { s with clock := { s.clock with dev := ((s.clock.dev : Int) + signed 32 step.toNat * 1024000000000).toNat } } := by
  refine State.each_of_fixed fun p hp => if_neg ?_
  have hen := h ⟨p, List.mem_range.1 hp⟩
  exact fun he => absurd (he.symm.trans hen) (by decide)

/-- A capture writes its nanoseconds and VALID into NET_PPS_CAP (R81). -/
theorem State.ppsCapture_shows (s : State) {ns : Nat} (h : ns < 2 ^ 30) :
    ((s.setFld NET_PPS_CAP_NS ns).setFlag NET_PPS_CAP_VALID true).fld NET_PPS_CAP_NS = ns ∧
    ((s.setFld NET_PPS_CAP_NS ns).setFlag NET_PPS_CAP_VALID true).flag NET_PPS_CAP_VALID = true ∧
    RegsOnly [NET_PPS_CAP] s ((s.setFld NET_PPS_CAP_NS ns).setFlag NET_PPS_CAP_VALID true) := by
  refine ⟨?_, State.flag_setFlag_same _ _ _ (by decide) rfl, ((RegsOnly.refl _ s).setFld _ _ (by decide)).setFlag _ _ (by decide)⟩
  rw [State.setFlag, State.fld_setFld_apart _ _ _ _ (by decide) (by decide), State.fld_setFld_same _ _ _ (by decide)]
  exact Nat.mod_eq_of_lt h

/-! ### The timestamp FIFO -/

theorem NET_TS_LOW_OVF_whole (p : Port) : (NET_TS_LOW_OVF p).whole = true := by revert p; decide

theorem midnightOpen_NET_TS_LOW (p : Port) : midnightOpen (NET_TS_LOW p) = false := by revert p; decide

theorem State.syncTs_frame (s : State) (p : Nat) : RegsOnly [NET_TS_LOW p, NET_TS_HIGH p] s (s.syncTs p) := by
  have hlow : ∀ ns, RegsOnly [NET_TS_LOW p, NET_TS_HIGH p] s (s.setFld (NET_TS_LOW_NS p) ns) := fun ns => (RegsOnly.refl _ s).setFld _ _ (by simp [NET_TS_LOW_NS])
  unfold State.syncTs
  split
  · exact ((hlow 0).setFlag _ _ (by simp [NET_TS_LOW_VALID])).setReg _ _ (by simp)
  · exact (((hlow _).setFlag _ _ (by simp [NET_TS_LOW_VALID])).setFld _ _ (by simp [NET_TS_HIGH_SEQ_ID])).setFld _ _ (by simp [NET_TS_HIGH_SEC_LO])

/-- The head's nanoseconds and VALID stand beside OVF. -/
theorem State.syncTs_ovf (s : State) (p : Port) : (s.syncTs p).flag (NET_TS_LOW_OVF p) = s.flag (NET_TS_LOW_OVF p) := by
  have hw := NET_TS_LOW_OVF_whole p
  have hhigh : NET_TS_HIGH p ≠ (NET_TS_LOW_OVF p).off := by simp [NET_TS_HIGH, NET_TS_LOW_OVF, NET_TS_LOW]
  have hlow : ∀ (ns : Nat) (v : Bool), ((s.setFld (NET_TS_LOW_NS p) ns).setFlag (NET_TS_LOW_VALID p) v).flag (NET_TS_LOW_OVF p) = s.flag (NET_TS_LOW_OVF p) := fun ns v => by
    rw [State.setFlag, State.flag_setFld_apart _ _ _ _ hw (.inr (.inr (by simp [NET_TS_LOW_OVF, NET_TS_LOW_VALID]))),
      State.flag_setFld_apart _ _ _ _ hw (.inr (.inl (by simp [NET_TS_LOW_OVF, NET_TS_LOW_NS])))]
  unfold State.syncTs
  split
  · rw [State.flag, State.fld_setReg_other _ _ _ _ hhigh]
    exact hlow 0 false
  · next ns sec seq rest _ =>
    rw [State.flag_setFld_apart _ _ _ _ hw (.inl hhigh), State.flag_setFld_apart _ _ _ _ hw (.inl hhigh)]
    exact hlow ns true

theorem RegsOnly.modPort {offs : List Nat} {s t : State} (h : RegsOnly offs s t) (p : Nat) (f : PortSt → PortSt) : RegsOnly offs (s.modPort p f) (t.modPort p f) :=
  ⟨by rw [h.1]; rfl, h.2⟩

theorem State.flag_modPort (s : State) (p : Nat) (f : PortSt → PortSt) (g : Fld) : (s.modPort p f).flag g = s.flag g := rfl

/-- The FIFO without its head. -/
def PortSt.tsPopped (x : PortSt) : PortSt := { x with tsFifo := x.tsFifo.drop 1 }

/-- What a pop of the timestamp FIFO leaves (R85). -/
def State.popTs (s : State) (p : Nat) : State := ((s.setFlag (NET_TS_LOW_OVF p) false).modPort p PortSt.tsPopped).syncTs p

theorem State.popTs_frame (s : State) (p : Nat) : RegsOnly [NET_TS_LOW p, NET_TS_HIGH p] (s.modPort p PortSt.tsPopped) (s.popTs p) := by
  have hovf : RegsOnly [NET_TS_LOW p, NET_TS_HIGH p] s (s.setFlag (NET_TS_LOW_OVF p) false) := (RegsOnly.refl _ s).setFlag _ _ (by simp [NET_TS_LOW_OVF])
  exact (hovf.modPort p _).trans (State.syncTs_frame _ p)

theorem State.popTs_rest (s : State) (p : Nat) : (s.popTs p).out = s.out ∧ (s.popTs p).swc = s.swc := by
  rw [(s.popTs_frame p).1]
  exact ⟨rfl, rfl⟩

theorem State.popTs_ovf (s : State) (p : Port) : (s.popTs p).flag (NET_TS_LOW_OVF p) = false := by
  rw [State.popTs, State.syncTs_ovf, State.flag_modPort, State.flag_setFlag_same s _ false (NET_TS_LOW_OVF_whole p) rfl]

theorem State.popTs_tsFifo (s : State) (p : Nat) : ((s.popTs p).port p).tsFifo = (s.port p).tsFifo.drop 1 := by
  have hport : (s.popTs p).port p = (s.modPort p PortSt.tsPopped).port p := by rw [State.port, State.port, (s.popTs_frame p).counts.ports]
  rw [hport, State.port_modPort, PortSt.tsPopped]

/-- A read of NET_TS low that reaches it outside MIDNIGHT is answered, pops, and latches the high word (R85). -/
theorem exec_tsFifoPop_of_readOk {s : State} {req : Requester} {p : Port} (h : s.readOk req (NET_TS_LOW p) = true) (hm : s.mode ≠ 7) :
    exec (.tsFifoPop req p) s = .next (((s.emit (.read req (NET_TS_LOW p) (s.reg (NET_TS_LOW p)))).popTs p).latch req (s.reg (NET_TS_HIGH p))) := by
  simp only [exec_tsFifoPop, execTsFifoPop, State.accessRead_of_mode_ne h hm, h, if_true]
  rfl

/-- In MIDNIGHT it is answered and latches, and nothing is popped (R41). -/
theorem exec_tsFifoPop_of_midnight {s : State} {req : Requester} {p : Port} (h : s.readOk req (NET_TS_LOW p) = true) (hm : s.mode = 7) :
    exec (.tsFifoPop req p) s = .next ((s.emit (.read req (NET_TS_LOW p) (s.reg (NET_TS_LOW p)))).latch req (s.reg (NET_TS_HIGH p))) := by
  simp only [exec_tsFifoPop, execTsFifoPop, State.accessRead_of_frozen h hm (midnightOpen_NET_TS_LOW p), h, if_true]

theorem State.latched_latch (s : State) (req : Requester) (w : Word) : (s.latch req w).latched req = w := tget_tput_same _ _ _ _

/-! ### Counters cleared -/

/-- A cleared register is back at its PORn value. -/
theorem State.reg_clearRegs_of_mem (s : State) {lo hi off : Nat} (h0 : lo ≤ off) (h1 : off < hi) : (s.clearRegs lo hi).reg off = regPor off := by
  have hnone : ∀ r : List (Nat × Word), tget? (r.filter fun e => e.1 < lo || hi ≤ e.1) off = none := by
    intro r
    induction r with
    | nil => rfl
    | cons e r ih =>
      obtain ⟨k, v⟩ := e
      by_cases hk : k < lo ∨ hi ≤ k
      · have hne : k ≠ off := by omega
        simp [hk, tget?, hne, ih]
      · simp [hk, ih]
  simp only [State.reg, State.clearRegs, readRegs]
  rw [hnone]
  rfl

theorem State.get64_clearRegs_of_mem (s : State) {lo hi off : Nat} (h0 : lo ≤ off) (h1 : off + 4 < hi) (hlow : regPor off = 0) (hhigh : regPor (off + 4) = 0) :
    (s.clearRegs lo hi).get64 off = 0 := by
  rw [State.get64, s.reg_clearRegs_of_mem h0 (by omega), s.reg_clearRegs_of_mem (by omega) h1, hlow, hhigh]
  rfl

/-- CLEAR in a port's NET_CNT_CTL takes the page's sixteen counters back (R85). -/
theorem State.counterClear_of_net (s : State) (p : Port) {val : Word} (h : fieldOf val 0 1 = 1) :
    s.counterClear (NET_CNT_CTL p) val = s.clearRegs (CNT_NET_RX_FRAMES p) (CNT_NET_RX_FRAMES p + 0x80) := by
  have hclear : bitOf val.toNat 0 = true := by simpa [bitOf, fieldOf] using h
  have hin : (decide (0x100000 ≤ NET_CNT_CTL p) && decide (NET_CNT_CTL p < 0x140000)) = true := by
    rw [Bool.and_eq_true, decide_eq_true_iff, decide_eq_true_iff]
    exact ⟨Nat.le_add_right_of_le (by decide), netPage_lt (n := 0) (by decide) p⟩
  have hpage : 0x100000 + (NET_CNT_CTL p - 0x100000) / 0x1000 * 0x1000 = 0x100000 + 0x1000 * p := by
    rw [NET_CNT_CTL, Nat.sub_add_comm (by decide), Nat.add_mul_div_left _ _ (by decide), show (0x100030 - 0x100000) / 0x1000 = 0 by decide, Nat.zero_add, Nat.mul_comm]
  refine (if_pos hin).trans ?_
  rw [hpage, hclear, Bool.true_and, NET_CNT_CTL, Nat.add_right_comm 0x100000, beq_self_eq_true, CNT_NET_RX_FRAMES,
    show 0x100100 + 0x1000 * p.val = 0x100000 + 0x1000 * p + 0x100 from Nat.add_right_comm 0x100000 0x100 _]
  rfl

end Sys2Proof.Machine

open Sys2Proof Sys2Proof.Machine

/-- Settles O23: a pause frame is `rxCounted` and `pauseRx`, a read is answered before its effect, a pop is `popTs`, and a clear is `clearRegs` on the page's counters. -/
theorem pauseTimeAndCounters : Obligations.PauseTimeAndCounters := by
  unfold Obligations.PauseTimeAndCounters
  refine ⟨fun s p stop go hr hl hm => ?_, fun s p stop go hr hl hm => ?_, fun s p classes hr => ?_, fun s req dt hok hm => ?_, fun s req step dt ha hen => ?_,
    fun s req freq dt ha => ?_, fun s dt hr hout hvalid => ?_, fun s dt hr hin hedge => ?_, fun s req p hok hm => ?_, fun s req p hok hm => ?_, fun s req p val ha hv => ?_⟩
  · obtain ⟨hpause, hframes, -, hframe⟩ := s.rxCounted_bump_shows p 64 (off := CNT_NET_PAUSE_RX p) (by simp)
    obtain ⟨hport, hswc, -, hkept⟩ := ((s.rxCounted p 64).bump (CNT_NET_PAUSE_RX p)).modPort_syncPortQ_shows p
      fun x => x.paused (stop.val &&& s.fld (NET_FC_CFG_PFC_EN p)) (go.val &&& s.fld (NET_FC_CFG_PFC_EN p))
    refine .of_eq (by rw [exec_pauseFrameRx_of_running hr hl, State.pauseRx_pfc, if_pos ((s.rxCounted_fc p 64 rfl).trans hm), s.rxCounted_fc p 64 (f := NET_FC_CFG_PFC_EN p) rfl])
      ⟨?_, (hkept _ ((netPage_lt (by decide) p).trans (by decide))).trans hpause, (hkept _ ((netPage_lt (by decide) p).trans (by decide))).trans hframes, hswc.trans hframe.swc⟩
    rw [hport, State.port, hframe.ports]
    rfl
  · obtain ⟨hpause, -, -, hframe⟩ := s.rxCounted_bump_shows p 64 (off := CNT_NET_PAUSE_RX p) (by simp)
    exact .of_eq (by rw [exec_pauseFrameRx_of_running hr hl, State.pauseRx_pfc, if_neg (by rwa [s.rxCounted_fc p 64 rfl])]) ⟨hframe.ports, hpause, hframe⟩
  · obtain ⟨hport, hswc, hcmdq, -⟩ := s.modPort_syncPortQ_shows p fun x => { x with stopped := x.stopped - (x.stopped &&& classes.val) }
    exact .of_eq (by simp [exec_pauseTimeExpiry, hr, State.cond]) ⟨by rw [hport], hswc, hcmdq⟩
  · refine .of_eq (exec_timeRead_of_readOk hok hm) ⟨rfl, tget_tput_same _ _ _ _, rfl, rfl⟩
  · rw [exec_timeStep, State.accessWrite_of_admits ha, State.timeStep_of_no_gates hen]
  · refine .of_eq (by rw [exec_timeAdjust, State.accessWrite_of_admits ha]) ⟨?_, (RegsOnly.refl _ _).setReg _ _ (by decide)⟩
    rw [State.reg_setReg_same]
    exact BitVec.and_allOnes
  · simp [exec_ppsOutPulse, hr, hout, hvalid, State.cond, State.emit]
  · refine .of_eq (by simp only [exec_ppsInEdge, hr, hin, hedge]; rfl) (State.ppsCapture_shows _ ?_)
    omega
  · obtain ⟨hout, hswc⟩ := (s.emit (.read req (NET_TS_LOW p) (s.reg (NET_TS_LOW p)))).popTs_rest p
    exact .of_eq (exec_tsFifoPop_of_readOk hok hm) ⟨State.popTs_tsFifo _ _, State.popTs_ovf _ _, State.latched_latch _ _ _, congrArg List.head? hout, hswc⟩
  · exact .of_eq (exec_tsFifoPop_of_midnight hok hm) ⟨rfl, rfl, State.latched_latch _ _ _⟩
  · obtain ⟨-, hfl, hfh⟩ := netCounter_shows (c := 0x100100) p.isLt (by decide)
    obtain ⟨-, hll, hlh⟩ := netCounter_shows (c := 0x100178) p.isLt (by decide)
    exact .of_eq (by rw [exec_counterClear, State.accessWrite_of_admits ha, State.counterClear_of_net s p hv])
      ⟨s.get64_clearRegs_of_mem le_rfl (Nat.add_lt_add_left (by decide) _) hfl hfh, s.get64_clearRegs_of_mem (netPage_le (n := 0) (by decide) p)
        (by rw [CNT_NET_RX_FRAMES, Nat.add_right_comm]; exact netPage_le (n := 5) (by decide) p) hll hlh, rfl,
        s.reg_clearRegs _ _ _ (.inl (netPage_le (n := 1) (by decide) p))⟩
end

section
/-! SUPPORT. What becomes of a received frame before a queue holds it: reception, the parser's slow path, and the passes of a recirculated frame (R79, R86, R94,
R98, R101). -/

namespace Sys2Proof.Machine

/-! ### The parser -/

/-- A frame whose first EtherType is neither tag's is untagged, whatever OUTER_TPID says (R79). -/
theorem State.parseTags_of_untagged (s : State) (port : Nat) {d : List (BitVec 8)} (hc : beNat d 12 2 ≠ 0x8100) (hs : beNat d 12 2 ≠ 0x88A8) :
    s.parseTags port d = ⟨12, s.fld (NET_VLAN_CFG_PVID port), 0, s.fld (NET_VLAN_CFG_DEF_PCP port), false, false⟩ := by
  have hne : beNat d 12 2 ≠ if s.flag (NET_VLAN_CFG_OUTER_TPID port) then 0x88A8 else 0x8100 := by
    split
    · exact hs
    · exact hc
  rw [State.parseTags, if_pos hne]

/-- An untagged frame that is no IP frame has a parse class if it is PTP over Ethernet, and takes the slow path with reason 4 otherwise (R86, R87, R101). -/
theorem State.parse_of_not_ip (s : State) (port : Nat) {d : List (BitVec 8)} (hc : beNat d 12 2 ≠ 0x8100) (hs : beNat d 12 2 ≠ 0x88A8) (hv4 : beNat d 12 2 ≠ 0x0800)
    (hv6 : beNat d 12 2 ≠ 0x86DD) : ∃ q q', s.parse port d = if beNat d 12 2 = 0x88F7 then .ok q else .slow 4 q' :=
  ⟨_, _, by rw [State.parse, s.parseTags_of_untagged port hc hs, if_neg Bool.false_ne_true, if_neg hv4, if_neg hv6]⟩

theorem State.parse_of_unknown (s : State) (port : Nat) {d : List (BitVec 8)} (h : beNat d 12 2 ∉ [0x8100, 0x88A8, 0x8808, 0x0800, 0x86DD, 0x88F7]) :
    ∃ q, s.parse port d = .slow 4 q := by
  simp only [List.mem_cons, List.not_mem_nil, or_false, not_or] at h
  obtain ⟨hc, hs, -, hv4, hv6, hptp⟩ := h
  obtain ⟨_, q, hq⟩ := s.parse_of_not_ip port hc hs hv4 hv6
  exact ⟨q, hq.trans (if_neg hptp)⟩

theorem State.parse_of_ptp (s : State) (port : Nat) {d : List (BitVec 8)} (h : beNat d 12 2 = 0x88F7) : ∃ q, s.parse port d = .ok q := by
  obtain ⟨q, _, hq⟩ := s.parse_of_not_ip port (d := d) (by simp [h]) (by simp [h]) (by simp [h]) (by simp [h])
  exact ⟨q, hq.trans (if_pos h)⟩

/-! ### The slow path -/

/-- A reason of the slow path with its counter, which lies behind the path's own two; nothing mirrors it (R101, R116, R440). -/
abbrev CountsReason (r c : Nat) : Prop := reasonCounter r = some c ∧ IsCounter c ∧ mirrorOf c = none ∧ CNT_CLS_SLOW_DROP + 8 ≤ c

theorem countsReason_miss : CountsReason 2 CNT_CLS_MISS := by decide

theorem countsReason_ethertype : CountsReason 4 CNT_CLS_ETHERTYPE := by decide

/-- Counting a reason changes its counter alone. -/
theorem State.bump_reason_frame (s : State) {r c : Nat} (hc : CountsReason r c) : RegsOnly [c, c + 4] s (s.bump c) :=
  (RegsOnly.refl _ s).bump c hc.2.2.1 (by simp) (by simp)

theorem State.fld_tokens_bump (s : State) {r c : Nat} (hc : CountsReason r c) : (s.bump c).fld CLS_SLOW_TOKENS_TOKENS = s.fld CLS_SLOW_TOKENS_TOKENS := by
  have ⟨_, _, _, hlo⟩ := hc
  refine (s.bump_reason_frame hc).fld _ ?_
  simp only [CNT_CLS_SLOW_DROP] at hlo
  simp [CLS_SLOW_TOKENS_TOKENS, CLS_SLOW_TOKENS]
  omega

/-- A frame for the slow path is counted under its reason; it takes a token, is counted and queued for P85, or is discarded without one (R101). -/
theorem State.slowPath_eq {s : State} {r c : Nat} (hc : CountsReason r c) (f : Frame) :
    s.slowPath f r = if s.fld CLS_SLOW_TOKENS_TOKENS = 0 then (s.bump c).bump CNT_CLS_SLOW_DROP else
      (((s.bump c).setFld CLS_SLOW_TOKENS_TOKENS (s.fld CLS_SLOW_TOKENS_TOKENS - 1)).bump CNT_CLS_SLOW_SENT).enqueue { f with reason := some r } 85 f.tc := by
  simp only [State.slowPath, hc.1, s.fld_tokens_bump hc]

theorem State.slowPath_of_no_token {s : State} {r c : Nat} (hc : CountsReason r c) (h : s.fld CLS_SLOW_TOKENS_TOKENS = 0) (f : Frame) :
    s.slowPath f r = (s.bump c).bump CNT_CLS_SLOW_DROP := (State.slowPath_eq hc f).trans (if_pos h)

/-- The discard counts its reason and itself, and nothing else. -/
theorem State.slowDrop_shows (s : State) {r c : Nat} (hc : CountsReason r c) :
    ((s.bump c).bump CNT_CLS_SLOW_DROP).get64 c = (s.get64 c + 1) % 2 ^ 64 ∧
    ((s.bump c).bump CNT_CLS_SLOW_DROP).get64 CNT_CLS_SLOW_DROP = (s.get64 CNT_CLS_SLOW_DROP + 1) % 2 ^ 64 ∧
    RegsOnly [c, c + 4, CNT_CLS_SLOW_DROP, CNT_CLS_SLOW_DROP + 4] s ((s.bump c).bump CNT_CLS_SLOW_DROP) := by
  have ⟨_, hcounter, _, hbehind⟩ := hc
  have hdrop : RegsOnly [CNT_CLS_SLOW_DROP, CNT_CLS_SLOW_DROP + 4] (s.bump c) ((s.bump c).bump CNT_CLS_SLOW_DROP) := (RegsOnly.refl _ _).bump _ rfl (by simp) (by simp)
  refine ⟨?_, ?_, ((s.bump_reason_frame hc).mono (by simp)).trans (hdrop.mono (by simp))⟩
  · rw [State.bump, State.get64_bumpBy_apart _ hcounter (.inr hbehind)]
    exact s.get64_bumpBy_of_isCounter hcounter 1
  · rw [State.bump, State.get64_bumpBy_of_isCounter _ (by decide), State.bump, s.get64_bumpBy_apart (by decide) (.inl hbehind)]

/-- With a token the frame takes it, and is counted and queued: the classifier and the command queues are as they were (R101). -/
theorem State.slowPath_of_token_shows {s : State} {r c : Nat} (hc : CountsReason r c) (h : s.fld CLS_SLOW_TOKENS_TOKENS ≠ 0) (f : Frame) :
    (s.slowPath f r).fld CLS_SLOW_TOKENS_TOKENS = s.fld CLS_SLOW_TOKENS_TOKENS - 1 ∧
    (s.slowPath f r).get64 CNT_CLS_SLOW_SENT = (s.get64 CNT_CLS_SLOW_SENT + 1) % 2 ^ 64 ∧ (s.slowPath f r).cls = s.cls ∧ (s.slowPath f r).cmdq = s.cmdq := by
  have ⟨_, _, _, hbehind⟩ := hc
  let u := (s.bump c).setFld CLS_SLOW_TOKENS_TOKENS (s.fld CLS_SLOW_TOKENS_TOKENS - 1)
  have hu : RegsOnly [CLS_SLOW_TOKENS] (s.bump c) u := (RegsOnly.refl _ _).setFld _ _ (by decide)
  have hsentBefore : (s.bump c).get64 CNT_CLS_SLOW_SENT = s.get64 CNT_CLS_SLOW_SENT :=
    s.get64_bumpBy_apart (by decide) (.inl (Nat.le_trans (by decide) hbehind)) 1
  have hreason := s.bump_reason_frame hc
  have hsent := (RegsOnly.refl [CNT_CLS_SLOW_SENT, CNT_CLS_SLOW_SENT + 4] u).bump CNT_CLS_SLOW_SENT rfl (by simp) (by simp)
  have hqueued : (u.bump CNT_CLS_SLOW_SENT).ClsKept (s.slowPath f r) := by
    rw [State.slowPath_eq hc f, if_neg h]
    exact (State.ClsKept.refl _).enqueue
  have hlt : s.fld CLS_SLOW_TOKENS_TOKENS < 2 ^ CLS_SLOW_TOKENS_TOKENS.wd := Nat.mod_lt _ (Nat.two_pow_pos _)
  refine ⟨?_, ?_, ?_, ?_⟩
  · rw [hqueued.fld _ (by decide), hsent.fld _ (by decide), State.fld_setFld_same _ _ _ (by decide)]
    exact Nat.mod_eq_of_lt (by omega)
  · rw [hqueued.get64 _ (by decide), State.bump, State.get64_bumpBy_of_isCounter _ (by decide), hu.get64 (by decide) (by decide), hsentBefore]
  · rw [hqueued.cls, hsent.counts.cls, hu.counts.cls, hreason.counts.cls]
  · rw [hqueued.cmdq, hsent.counts.cmdq, hu.counts.cmdq, hreason.counts.cmdq]

/-! ### Classification -/

/-- A frame with what the parser found (R86). -/
def Frame.parsed (f : Frame) (p : Parsed) : Frame := { f with l3 := p.l3, isIp := p.isIp, ecn := p.ecn, tc := if f.tcSet then f.tc else p.tc }

theorem State.classify_of_slow {s : State} {f : Frame} {r : Nat} {p : Parsed} (h : s.parse f.inPort f.data = .slow r p) (errs : List SlotErr) :
    s.classify f errs = s.slowPath (f.parsed p) r := by
  simp only [State.classify, h, Frame.parsed]

/-- A parsed frame that hits a table takes the action of its entry, and one that hits none the slow path (R94, R101). -/
theorem State.classify_of_ok {s u : State} {f : Frame} {p : Parsed} {errs : List SlotErr} {hit : Option Nat} {ue : Bool} (h : s.parse f.inPort f.data = .ok p)
    (hl : (s.bump CNT_CLS_PARSED).lookup errs f.data (f.parsed p) p = (u, hit, ue)) :
    s.classify f errs = hit.elim (u.slowPath (f.parsed p) (if ue then 9 else 2)) (u.applyAction (f.parsed p) f.data p) := by
  fun_cases State.classify s f errs
  · next h' => cases h'.symm.trans h
  · next h' => cases h'.symm.trans h
  · next h' _ _ _ _ _ hl' =>
    cases h'.symm.trans h
    cases hl'.symm.trans hl
    rfl
  · next h' _ _ _ _ hl' =>
    cases h'.symm.trans h
    cases hl'.symm.trans hl
    rfl

/-- With no profile enabled every lookup misses, and reads no slot (R94). -/
theorem State.lookup_of_no_profiles {s : State} (h : ∀ k : Fin 4, s.flag (CLS_PROF_CTL_EN k) = false) (errs : List SlotErr) (d : List (BitVec 8)) (f : Frame) (p : Parsed) :
    s.lookup errs d f p = (s, none, false) := by
  have hnone : ∀ mask, (List.range 4).filter (fun t => bitOf mask t && s.flag (CLS_PROF_CTL_EN t) && !bitOf s.cls.clearing t) = [] := fun mask => by
    refine List.filter_eq_nil_iff.2 fun t ht => ?_
    simp [h ⟨t, List.mem_range.1 ht⟩]
  simp only [State.lookup, hnone]
  rfl

/-- A third pass that would recirculate the frame again discards it (R98). -/
theorem State.applyAction_of_last_pass {s : State} {act : Nat} (h4 : act / 2 ^ 60 % 8 = 4) (h59 : bitOf act 59 = false) (h39 : bitOf act 39 = false) {f : Frame}
    (hp : 2 ≤ f.pass) (d : List (BitVec 8)) (p : Parsed) : s.applyAction f d p act = s.bump CNT_CLS_RECIRC_LIMIT := by
  unfold State.applyAction
  extract_lets f1 g ctr s1 s2
  have hpass : g.pass = f.pass := by
    have h1 : f1.pass = f.pass := by
      unfold f1
      split <;> rfl
    rw [← h1]
    unfold g
    split <;> rfl
  have hs : s2 = s := by simp [s2, s1, State.cond, h59, h39]
  rw [h4]
  simp [hs, hpass, hp]

/-! ### Reception -/

/-- An untagged frame as the port hands it on: its class is that of the default priority (R79). -/
def State.untaggedFrame (s : State) (p id : Nat) (data : List (BitVec 8)) : Frame :=
  let tc := fieldOf (s.reg (NET_PCP_MAP p)) (3 * s.fld (NET_VLAN_CFG_DEF_PCP p)) 3
  { id := id, inPort := p, icls := tc, bytes := data.length + 4, data := data, tc := tc, rxTs := if s.flag (NET_PTP_CFG_TS_EN p) then some s.devNs else none }

theorem State.goodLength {s : State} {p : Port} {data : List (BitVec 8)} (h0 : 60 ≤ data.length) (h1 : data.length + 4 ≤ s.maxFrame p) :
    ¬ (decide (s.maxFrame p < data.length + 4) || decide (data.length + 4 < 64)) = true := by
  simp only [Bool.or_eq_true, decide_eq_true_iff, not_or]
  exact ⟨Nat.not_lt_of_le h1, Nat.not_lt_of_le (Nat.add_le_add_right h0 4)⟩

section
variable {s : State} {p : Port} {data : List (BitVec 8)} (hl : s.linkUsable p = true)
include hl

/-- A frame longer than MAX_FRM or shorter than 64 octets goes no further (R79). -/
theorem State.rxFrame_of_badLength (hp : s.powered = true) (h : data.length + 4 < 64 ∨ s.maxFrame p < data.length + 4) (id : Nat) (fcsOk : Bool) (errs : List SlotErr) :
    s.rxFrame p id data fcsOk errs = (s.rxCounted p (data.length + 4)).bump (CNT_NET_RX_LEN_ERR p) := by
  have hlen : (decide (s.maxFrame p < data.length + 4) || decide (data.length + 4 < 64)) = true := by simpa [or_comm] using h
  delta State.rxFrame
  dsimp only
  rw [hp, hl, if_pos hlen]
  rfl

/-- One of a good length with a bad FCS goes no further (R79). -/
theorem State.rxFrame_of_badFcs (hp : s.powered = true) (h0 : 60 ≤ data.length) (h1 : data.length + 4 ≤ s.maxFrame p) (id : Nat) (errs : List SlotErr) :
    s.rxFrame p id data false errs = (s.rxCounted p (data.length + 4)).bump (CNT_NET_RX_FCS_ERR p) := by
  delta State.rxFrame
  dsimp only
  rw [hp, hl, if_neg (State.goodLength h0 h1)]
  rfl

/-- A good untagged frame that is no pause frame is discarded under DROP_UNTAGGED, and classified otherwise (R79). -/
theorem State.rxFrame_of_untagged (hr : s.running = true) (h0 : 60 ≤ data.length) (h1 : data.length + 4 ≤ s.maxFrame p) (hc : beNat data 12 2 ≠ 0x8100)
    (hs : beNat data 12 2 ≠ 0x88A8) (hm : beNat data 12 2 ≠ 0x8808) (id : Nat) (errs : List SlotErr) :
    s.rxFrame p id data true errs = if s.flag (NET_VLAN_CFG_DROP_UNTAGGED p) then (s.rxCounted p (data.length + 4)).bump (CNT_NET_VLAN_DROP p)
      else (s.rxCounted p (data.length + 4)).classify (s.untaggedFrame p id data) errs := by
  delta State.rxFrame
  dsimp only
  rw [State.powered_of_running hr, hl, if_neg (State.goodLength h0 h1)]
  simp only [hr, hm, s.parseTags_of_untagged p hc hs]
  rfl

/-- A good untagged frame of an EtherType that the parser does not know is offered to the slow path with reason 4 (R86, R101). -/
theorem State.rxFrame_of_unknown (hr : s.running = true) (h0 : 60 ≤ data.length) (h1 : data.length + 4 ≤ s.maxFrame p)
    (hd : s.flag (NET_VLAN_CFG_DROP_UNTAGGED p) = false) (h : beNat data 12 2 ∉ [0x8100, 0x88A8, 0x8808, 0x0800, 0x86DD, 0x88F7]) (id : Nat) (errs : List SlotErr) :
    ∃ f, s.rxFrame p id data true errs = (s.rxCounted p (data.length + 4)).slowPath f 4 := by
  obtain ⟨q, hq⟩ := (s.rxCounted p (data.length + 4)).parse_of_unknown p h
  simp only [List.mem_cons, not_or] at h
  obtain ⟨hc, hs, hm, -⟩ := h
  have hclass := State.classify_of_slow (f := s.untaggedFrame p id data) hq errs
  exact ⟨_, by rw [s.rxFrame_of_untagged hl hr h0 h1 hc hs hm, hd, if_neg (by decide), hclass]⟩
end

/-- The tokens and the classifier's counters are not among the registers of a port page. -/
theorem State.rxCounted_cls (s : State) (p : Port) (len : Nat) :
    (s.rxCounted p len).fld CLS_SLOW_TOKENS_TOKENS = s.fld CLS_SLOW_TOKENS_TOKENS ∧
    ∀ off, IsCounter off → 0x200000 ≤ off → (s.rxCounted p len).get64 off = s.get64 off := by
  have hbehind : CNT_NET_RX_BYTES p + 8 ≤ 0x200000 := (netPage_lt (by decide) p).le.trans (by decide)
  exact ⟨s.rxCounted_fld p len (by decide) (.inr (hbehind.trans (by decide))), fun off hc ho => s.rxCounted_get64_behind p len hc (hbehind.trans ho)⟩

/-! ### Time and recirculation -/

theorem State.cycleEvents_frame (s : State) (dt code : Nat) {offs : List Nat} {t u : State} (h : CountsOnly offs t u) : CountsOnly offs t (s.cycleEvents dt code u) :=
  (h.each _ _ fun _ _ hv => hv.pcAdd _ _ _).each _ _ fun _ _ hv => hv.slotAdd _ _

/-- Effects that leave the command queues. -/
def State.CmdqKept (s t : State) : Prop := t.cmdq = s.cmdq

theorem State.CmdqKept.setFld {s t : State} (h : s.CmdqKept t) (f : Fld) (v : Nat) : s.CmdqKept (t.setFld f v) := h

theorem State.CmdqKept.monPass {s t : State} (h : s.CmdqKept t) (dt : Nat) : s.CmdqKept (t.monPass dt) :=
  (t.cycleEvents_frame dt 0x083 (t.cycleEvents_frame dt 0x081 (t.cycleEvents_frame dt 1 ((CountsOnly.refl [] t).mon _)))).cmdq.trans h

/-- Time that passes moves the clock, the classifier's tokens and the monitor, and no command queue (R81, R101, R122, R440). -/
theorem State.pass_cmdq (s : State) (dt : Nat) : s.CmdqKept (s.pass dt) := by
  unfold State.pass
  split
  · exact rfl
  · refine .monPass (.setFld (.setFld ?_ _ _) _ _) dt
    exact rfl

/-- The oldest recirculated frame has left its queue (R98). -/
def State.recircLeft (s : State) (rest : List Frame) : State := { s with swc := { s.swc with recirc := rest } }

/-- A frame in its next pass (R98). -/
def Frame.nextPass (f : Frame) : Frame := { f with pass := f.pass + 1 }

/-- The oldest recirculated frame starts its next pass (R98). -/
theorem exec_recircPass_of_running {s : State} {dt : Nat} (hr : (s.pass dt).running = true) {f : Frame} {rest : List Frame} (hq : (s.pass dt).swc.recirc = f :: rest)
    (errs : List SlotErr) : exec (.recircPass dt errs) s = .next (((s.pass dt).recircLeft rest).classify f.nextPass errs) := by
  simp only [exec_recircPass, execRecircPass, hq, hr, if_true]
  rfl

/-- The parser reads nothing of the switch core. -/
theorem State.parse_recircLeft (s : State) (rest : List Frame) (port : Nat) (d : List (BitVec 8)) : (s.recircLeft rest).parse port d = s.parse port d := rfl

/-- A parsed frame that no enabled profile looks up, offered without a token (R94, R101). -/
theorem State.classify_miss_shows {s : State} {f : Frame} {p : Parsed} (h : s.parse f.inPort f.data = .ok p)
    (hprof : ∀ k : Fin 4, s.flag (CLS_PROF_CTL_EN k) = false) (htok : s.fld CLS_SLOW_TOKENS_TOKENS = 0) (errs : List SlotErr) :
    (s.classify f errs).swc = s.swc ∧ (s.classify f errs).get64 CNT_CLS_PARSED = (s.get64 CNT_CLS_PARSED + 1) % 2 ^ 64 ∧
    (s.classify f errs).get64 CNT_CLS_MISS = (s.get64 CNT_CLS_MISS + 1) % 2 ^ 64 := by
  have hcount : RegsOnly [CNT_CLS_PARSED, CNT_CLS_PARSED + 4] s (s.bump CNT_CLS_PARSED) := (RegsOnly.refl _ s).bump _ rfl (by simp) (by simp)
  have hnone : ∀ k : Fin 4, (s.bump CNT_CLS_PARSED).flag (CLS_PROF_CTL_EN k) = false := fun k =>
    (hcount.flag _ (by simp [CLS_PROF_CTL_EN, CLS_PROF_CTL, CNT_CLS_PARSED]; omega)).trans (hprof k)
  have htokens : (s.bump CNT_CLS_PARSED).fld CLS_SLOW_TOKENS_TOKENS = 0 := (hcount.fld _ (by decide)).trans htok
  obtain ⟨hreason, -, hframe⟩ := (s.bump CNT_CLS_PARSED).slowDrop_shows countsReason_miss
  rw [State.classify_of_ok h (State.lookup_of_no_profiles hnone _ _ _ _), Option.elim_none, if_neg (by decide), State.slowPath_of_no_token countsReason_miss htokens]
  refine ⟨?_, ?_, ?_⟩
  · rw [hframe.counts.swc, hcount.counts.swc]
  · rw [hframe.get64 (by decide) (by decide)]
    exact s.get64_bumpBy_of_isCounter (by decide) 1
  · rw [hreason, hcount.get64 (by decide) (by decide)]

end Sys2Proof.Machine

open Sys2Proof Sys2Proof.Machine

/-- Settles O24: a received frame is `rxCounted` and then one counter, the slow path or the classifier; a pass is `classify` on the frame with PASS raised. -/
theorem frameReception : Obligations.FrameReception := by
  unfold Obligations.FrameReception
  refine ⟨fun s p dt id data fcsOk errs hp hl h => ?_, fun s p dt id data errs hp hl h0 h1 => ?_, fun s p dt id data errs hr hl h0 h1 hd hc hs hm => ?_,
    fun s p dt id data errs hr hl h0 h1 hd het htok => ?_, fun s p dt id data errs _ hr hl h0 h1 hd het htok => ?_,
    fun s dt errs f rest hr hq het _ hprof htok => ?_, fun s dt errs f rest p act u ue hr hq hparse hlook h4 h59 h39 hpass => ?_⟩
  · obtain ⟨herr, -, hbytes, hframe⟩ := (s.pass dt).rxCounted_bump_shows p (data.length + 4) (off := CNT_NET_RX_LEN_ERR p) (by simp)
    exact .of_eq (by rw [exec_rxFrame, State.rxFrame_of_badLength hl hp h]) ⟨herr, hbytes, hframe⟩
  · obtain ⟨herr, hframes, -, hframe⟩ := (s.pass dt).rxCounted_bump_shows p (data.length + 4) (off := CNT_NET_RX_FCS_ERR p) (by simp)
    exact .of_eq (by rw [exec_rxFrame, State.rxFrame_of_badFcs hl hp h0 h1]) ⟨herr, hframes, hframe⟩
  · obtain ⟨hdrop, -, -, hframe⟩ := (s.pass dt).rxCounted_bump_shows p (data.length + 4) (off := CNT_NET_VLAN_DROP p) (by simp)
    exact .of_eq (by rw [exec_rxFrame, State.rxFrame_of_untagged hl hr h0 h1 hc hs hm, if_pos hd]) ⟨hdrop, hframe⟩
  · obtain ⟨g, hslow⟩ := State.rxFrame_of_unknown hl hr h0 h1 hd het id errs
    obtain ⟨htokens, hkept⟩ := (s.pass dt).rxCounted_cls p (data.length + 4)
    obtain ⟨hreason, hdropped, hframe⟩ := ((s.pass dt).rxCounted p (data.length + 4)).slowDrop_shows countsReason_ethertype
    refine .of_eq (by rw [exec_rxFrame, hslow, State.slowPath_of_no_token countsReason_ethertype (htokens.trans htok)]) ⟨?_, ?_, ?_⟩
    · rw [hreason, hkept _ (by decide) (by decide)]
    · rw [hdropped, hkept _ (by decide) (by decide)]
    · exact (((s.pass dt).rxCounted_frame p (data.length + 4)).mono (by simp)).trans (hframe.counts.mono (by simp))
  · obtain ⟨g, hslow⟩ := State.rxFrame_of_unknown hl hr h0 h1 hd het id errs
    obtain ⟨htokens, hkept⟩ := (s.pass dt).rxCounted_cls p (data.length + 4)
    have hframe := (s.pass dt).rxCounted_frame p (data.length + 4)
    obtain ⟨htaken, hsent, hcls, hcmdq⟩ := State.slowPath_of_token_shows (s := (s.pass dt).rxCounted p (data.length + 4)) countsReason_ethertype (by rwa [htokens]) g
    exact .of_eq (by rw [exec_rxFrame, hslow]) ⟨by rw [htaken, htokens], by rw [hsent, hkept _ (by decide) (by decide)], by rw [hcls, hframe.cls],
      (hcmdq.trans hframe.cmdq).trans (s.pass_cmdq dt)⟩
  · obtain ⟨q, hparse⟩ := ((s.pass dt).recircLeft rest).parse_of_ptp f.inPort het
    exact .of_eq (exec_recircPass_of_running hr hq errs) (State.classify_miss_shows (f := f.nextPass) hparse hprof htok errs)
  · have hthird : 2 ≤ (f.nextPass.parsed p).pass := Nat.succ_le_succ hpass
    have hhit := State.classify_of_ok (s := (s.pass dt).recircLeft rest) (f := f.nextPass) ((State.parse_recircLeft _ _ _ _).trans hparse) hlook
    rw [exec_recircPass_of_running hr hq, hhit, Option.elim_some, State.applyAction_of_last_pass h4 h59 h39 hthird]
end
